-- ==== Sys2Proof/Word.lean ====
section
/-! DEFINITION. The word types of the register space (R4, R5) and their plainest arithmetic. -/

namespace Sys2Proof

/-- A register: 32 bits (the chapter "Scope, Conventions and Glossary", Registers). -/
abbrev Word := BitVec 32

/-- One byte of a frame, a datagram or a flash block. -/
abbrev Byte := BitVec 8

/-- A 64-bit quantity: a digest, a token, a challenge, a safety code, DEVID. -/
abbrev W64 := BitVec 64

/-- A 256-bit digest or key; read as a number under R465 (byte 0 is bits 255:248). -/
abbrev W256 := BitVec 256

/-- One bit as a number. -/
def bitNat (b : Bool) : Nat := if b then 1 else 0

/-- A saturating increment of a counter whose largest value is `top`. -/
def satInc (top n : Nat) : Nat := if n < top then n + 1 else top

/-- The smaller of a count and a field's largest value. -/
def satTo (top n : Nat) : Nat := if n < top then n else top

/-- The signed 32-bit reading of a natural number taken modulo 2^32. -/
def toS32 (n : Nat) : Int :=
  let m := n % 4294967296
  if m < 2147483648 then (m : Int) else (m : Int) - 4294967296

/-- A 32-bit word from a signed number (two's complement). -/
def ofS32 (i : Int) : Word := BitVec.ofInt 32 i

end Sys2Proof
end

