-- ==== Sys2Proof/Syntax.lean ====
section
/-! DEFINITION. The commands of the lane: one constructor per row of spec/opcode_table.json, with the operand types
that the rows need. An operand type excludes what the spec's encoding excludes (a channel number above 31, the combine
mode 0b11), so few commands can be ill-formed. -/

namespace Sys2Proof

/-! ### Operand types -/

/-- The rails that have a monitor threshold (R623). -/
inductive Rail where
  | vdd | vddio33 | vdda33 | vddlb | vddio18 | vdda18 | vddpll
  deriving DecidableEq, Repr

/-- The clock monitors (R553). -/
inductive Monitor where
  | xmon | rmon | pmon
  | dmon (domain : Fin 12)
  | amon
  deriving DecidableEq, Repr

/-- What the SUP comparator or SRAM found (R556, DATA byte 0 of record 0x0108). -/
inductive LockstepKind where
  | comparator | sram
  deriving DecidableEq, Repr

/-- The two station-image flashes (R459). -/
inductive Chip where
  | norA | norB
  deriving DecidableEq, Repr

/-- Combine mode M of a logic instruction (R145); 0b11 is reserved and has no constructor. -/
inductive Combine where
  | load | and | or
  deriving DecidableEq, Repr

/-- Combine mode of an open and operation of a block-stack entry (R149, R152). -/
inductive BlockOp where
  | and | or
  deriving DecidableEq, Repr

/-- The ECC event that an instruction's memory accesses meet (R131). -/
inductive Ecc where
  | none | corrProgram | corrState | uncProgram | uncState
  deriving DecidableEq, Repr

/-- The ECC event that a Guardian pass meets in its tables or guard images (R186). -/
inductive GrdEcc where
  | none | corrTable | corrImage | uncorrectable
  deriving DecidableEq, Repr

/-- The memory that a memory-BIST chunk tests (R564): LGE program, LGE state, SUP SRAM, Guardian, or another bank. -/
inductive BistMemory where
  | lgeProgram | lgeState | supSram | guardian | other
  deriving DecidableEq, Repr

/-- What VIO's samples of one input show over a frame (R205, R210): its lows, as start and end in ns after the frame start. -/
structure FrameObs where
  input : Fin 64
  lows : List (Nat × Nat)
  deriving DecidableEq, Repr

/-- A new level of an input pin, and the instant at which the pin took it (R206, R220). -/
structure LevelChange where
  level : Bool
  since : Nat
  deriving DecidableEq, Repr

/-- What a PHY poll resolves on one port (R397). -/
inductive LinkState where
  | down | half | up10 | up100 | up1000
  deriving DecidableEq, Repr

/-- One copy of a lane-bus transmission as a channel's receiver reads it (R334 to R336, R346). -/
structure Copy where
  /-- The observed frame start (R334), in ns of the lane's clock. -/
  start : Nat
  /-- No invalid code group or disparity error, and the end of frame stands where LEN places it. -/
  codeOk : Bool
  hdr : Word
  payload : List Word
  crc : Word
  deriving DecidableEq, Repr

/-- A lane-bus reception at a place of the schedule: window `win`, rank `rank` of its list (0 in an exclusive window), and
the copies seen on channels X and Y. `carrierX` and `carrierY` say that a carrier was seen without any start of frame. -/
structure RxFrame where
  win : Fin 512
  rank : Fin 64
  x : Option Copy
  y : Option Copy
  carrierX : Bool
  carrierY : Bool
  deriving DecidableEq, Repr

/-- A CAN frame's header and payload (R449). -/
structure CanFrame where
  ide : Bool
  fdf : Bool
  brs : Bool
  rtr : Bool
  esi : Bool
  dlc : BitVec 4
  ident : BitVec 29
  data : List Byte
  deriving DecidableEq, Repr

/-- The result of one modulator's three-point calibration (R315, R318). -/
structure CalResult where
  chan : Fin 50
  off : Int
  gain : Nat
  deriving DecidableEq, Repr

/-- The source of an FMP datagram or session: IPv4 address, UDP port, Ethernet port (R594). -/
structure Peer where
  ip : Word
  udp : BitVec 16
  port : Fin 2
  deriving DecidableEq, Repr

/-- A map entry of the handover map (R488). -/
structure MapEntry where
  sym : Word
  cmp : Bool
  mir : Bool
  kind : BitVec 2
  old : Nat
  new : Nat
  deriving DecidableEq, Repr

/-- A parameter entry (R489): `timer` is KIND 0b10, otherwise KIND 0b01 (word). -/
structure ParamEntry where
  sym : Word
  addr : Nat
  timer : Bool
  min : Int
  max : Int
  deriving DecidableEq, Repr

/-- A settings-log entry (R490); `ok` is false where its CRC fails in both NORs. -/
structure SettingsEntry where
  seq : Nat
  sym : Word
  value : Int
  preset : Bool
  ok : Bool
  deriving DecidableEq, Repr

/-- A wrapped key of the NODE section as the unwrap leaves it: the connection index or level it serves, and the
key, or none where the RFC 3394 integrity check fails (R403, R595). A connection key is bits 127:0. -/
structure WrappedKey where
  index : Nat
  key : Option W256
  deriving DecidableEq, Repr

/-- The content of the station image beyond block 0, as SUP loads it in LOAD (R470). The spec gives the layout of
block 0, of the NODE header and of the handover descriptor; it does not give the layout of the rest of COMMON, so the
content stands here as data, with what SUP's cryptographic checks over it find (assumption log, entry 2). -/
structure Station where
  /-- CFG registers that the image gives, by register address (R4: CFG). -/
  cfg : List (Nat × Word)
  /-- The logic program, one word per program address (R107, R144). -/
  program : List Word
  /-- Initial values of internal and output bit and word cells, by cell (R106). -/
  init : List (Nat × Word)
  /-- The safe-value table (R103). -/
  safe : List (Nat × Word)
  /-- Timer presets in ms, by cell (R106, R113). -/
  presets : List (Nat × Word)
  /-- Agreement tolerances of word cells (R74). -/
  tolerance : List (Nat × Nat)
  /-- The image's input list (R352): the cells an input frame carries, in order. -/
  inputList : List Nat
  /-- The mirrored cells (R44). -/
  mirrored : List Nat
  /-- Guardian table memory, by 32-bit word index (byte offset / 4) (R168). -/
  grd : List (Nat × Word)
  /-- Handover descriptor: RDMIN, RDMAX, CONFPER, PREDD (R487). -/
  rdmin : Nat
  rdmax : Nat
  confper : Nat
  predd : W256
  map : List MapEntry
  params : List ParamEntry
  /-- NODE section: NODE, DEVID, override values and enables (R467), and the wrapped keys. -/
  nodeOk : Bool
  devid : W64
  ovrVal : BitVec 7
  ovrEn : BitVec 7
  connKeys : List WrappedKey
  levelKeys : List WrappedKey
  /-- Executive firmware: release word (R611), and the schemas it supports (R469). -/
  fwver : Word
  schemas : List Nat
  /-- SIG of block 0 verifies (R465); the EXEC signature verifies (R469). -/
  sigOk : Bool
  execOk : Bool
  /-- The nodes whose NODE section makes them sync nodes by an override of CSN (R369, R453, R467): bit n for node n. -/
  csnNodes : BitVec 8
  /-- The subsystems that the image leaves unused: CRT.CLKEN bits that SUP clears in LOAD (R557). -/
  unused : BitVec 13
  /-- The image names the R50 exception: a holding set of two voting lanes hands over. -/
  twoLaneHandover : Bool
  deriving DecidableEq, Repr

/-! ### Commands -/

/-- The commands of the lane, in the order of spec/opcode_table.json. Operands named `sid` are the number of the
session that issues a command (0 the MAP session, 1 to 65,535 an FMP session, R594). -/
inductive Instr where
  -- power, reset, straps, clocks
  | powerOn (pfailHigh restartHigh : Bool)
  | lossOfPower
  | railBelow (r : Rail)
  | resetNLow
  | resetNRise (s0 s1 s2 : BitVec 14)
  | strapResample (s0 s1 s2 : BitVec 14)
  | amplitudeDetected
  | validationWindow (count : Nat)
  | validationAttemptTimeout
  | validationRetry
  | pllLock (density : Option Nat)
  | alignReached
  | monitorTrip (m : Monitor)
  | referenceSwitch (toRecovered : Bool)
  | watchOscMeasure (khz : Nat)
  | lockstepMismatch (kind : LockstepKind) (d0 : Word)
  | supWatchdogTimeout (d0 : Word)
  | vfuseChange (present : Bool)
  | testEnd (fusesOk mbistOk lbistOk norAOk norBOk : Bool)
  | norBlockRead (chip : Chip) (k : Fin 255) (data : List Byte)
  | loadEnd (st : Station)
  -- reference, calibration, logic cycle
  | refReady
  | refLost
  | startCalibrationEnd (rs : List CalResult)
  | logicCycleBoundary (n : Nat)
  | agreedImageApply
  | lockoutOutvoted (n : Fin 32)
  | fallbackOutvoted (g : Fin 16)
  | provingOutvoted (ch : Fin 32) (k : Fin 4)
  -- logic instructions
  | ld (e : Ecc) (rs n : Bool) (m : Combine) (a : BitVec 20)
  | ldc (e : Ecc) (rs n : Bool)
  | andOpen (e : Ecc) (n : Bool) (op : BlockOp) (a : BitVec 20)
  | andOpenNoOperand (e : Ecc) (op : BlockOp)
  | blockClose (e : Ecc) (n : Bool)
  | st (e : Ecc) (n : Bool) (a : BitVec 20)
  | set (e : Ecc) (a : BitVec 20)
  | rst (e : Ecc) (a : BitVec 20)
  | ton (e : Ecc) (a : BitVec 20)
  | tof (e : Ecc) (a : BitVec 20)
  | ldte (e : Ecc) (rs n : Bool) (m : Combine) (a : BitVec 20)
  | ldtr (e : Ecc) (rs n : Bool) (m : Combine) (a : BitVec 20)
  | edgr (e : Ecc) (a : BitVec 20)
  | edgf (e : Ecc) (a : BitVec 20)
  | ldeq (e : Ecc) (rs : Bool) (m : Combine) (w : BitVec 14) (kl : BitVec 7)
  | ldne (e : Ecc) (rs : Bool) (m : Combine) (w : BitVec 14) (kl : BitVec 7)
  | ldlt (e : Ecc) (rs : Bool) (m : Combine) (w : BitVec 14) (kl : BitVec 7)
  | ldle (e : Ecc) (rs : Bool) (m : Combine) (w : BitVec 14) (kl : BitVec 7)
  | ldgt (e : Ecc) (rs : Bool) (m : Combine) (w : BitVec 14) (kl : BitVec 7)
  | ldge (e : Ecc) (rs : Bool) (m : Combine) (w : BitVec 14) (kl : BitVec 7)
  | wstk (e : Ecc) (w : BitVec 14) (kl : BitVec 7)
  | khi (e : Ecc) (kh : BitVec 25)
  | fence (e : Ecc)
  | endScan (e : Ecc)
  | reservedOpcode (w : Word)
  | regionDrainEnd
  | scanEnd
  -- Guardian
  | gatherEnd
  | guardianPass (k : Nat) (e : GrdEcc)
  | guardianStall
  | tableCrcCheck (bad : List (Nat × Word))
  | regatherCheck
  | fallbackExitCommand (sid : BitVec 16)
  -- set vote, switchover
  | outputAgreement
  | reportLimit
  | outputCommit
  | proveComplete
  | admission
  | basicCycleBoundary (m : Nat) (guardDiff : Nat)
  | peerSilent (k : Fin 2)
  | automaticSwitchover
  | switchoverCommit
  | switchoverRelease
  -- angle and slots
  | zeroCrossing (ch : Fin 2) (t : Nat) (rising : Bool)
  | crossingMissing (ch : Fin 2)
  | slewEnd
  | angleSlotFire (n : Fin 256)
  | timeSlotFire (n : Fin 64)
  -- proving and measurement
  | darkPulseEnd (ch : Fin 32)
  | blankingEnd (ch : Fin 32)
  | inrushEnd (ch : Fin 32)
  | fastSample (ch : Fin 50) (raw : BitVec 17) (t : Nat)
  | fineSample (ch : Fin 50) (raw : BitVec 25) (t : Nat)
  | stabilityReset (ch : Fin 50)
  | rotationStart (si : Fin 2)
  | rotationPhaseEnd (si : Fin 2) (off : Int) (gain : Nat) (diff : Int)
  | rotationPathSwitch (si : Fin 2)
  | rotationCommit (si : Fin 2)
  | calstale (ch : Fin 48)
  -- vital I/O
  | vinFilterChange (n : Fin 64) (c : LevelChange)
  | tpoFrameStart (f : Nat) (obs : List FrameObs)
  | tpoReadbackFault (k : Fin 4)
  | voutLiveExpire (n : Fin 32)
  | voutDriveFault (n : Fin 32)
  | vfbFilterChange (m : Fin 32) (c : LevelChange)
  | monitorBoundElapsed (n : Fin 32)
  | restartFilteredChange (level : Bool) (s0 s1 s2 : BitVec 14)
  | restartQualified
  | restartWindowExpire
  | lampLiveExpire (ch : Fin 32)
  | lampDriveFault (ch : Fin 32)
  | learnEnd
  -- consent, power fail
  | consentLost (k : Fin 2)
  | consentPresent (k : Fin 2)
  | pfailFall
  -- lane bus
  | transmitFrame (w : Fin 512)
  | arbRoundStart (w : Fin 512) (r : Nat) (carrier : Bool)
  | guardianCutoff (fid : BitVec 10)
  | statusFrame (f : RxFrame)
  | inputFrame (f : RxFrame)
  | outputFrame (f : RxFrame)
  | fetchRequest (f : RxFrame)
  | fetchReply (f : RxFrame)
  | mirrorFrame (f : RxFrame)
  | stateTransferFrame (f : RxFrame)
  | coldStartFrame (f : RxFrame)
  | carrierInvalid
  | listenTimeout (carrierBefore : Bool)
  | swarmReadback (clean : Bool)
  | waitExpire (carrierBefore : Bool)
  | clockCorrection
  | timevRestored
  | clusterFormed
  | attemptFailed
  | loneNode
  | integrationCheckPassed
  | demotion
  | passiveReturn
  | syncLost
  | singleChannelLimit (node : Fin 8)
  | recoveredClockAdmitted
  | recoveredClockRevoked (cause : Fin 4)
  | digestVote
  -- field network
  | phyPoll (port : Fin 2) (link : LinkState)
  | ethernetFrame (port : Fin 2) (fcsOk : Bool) (bytes : List Byte)
  | arpRequest (port : Fin 2) (target : Word)
  | icmpEchoRequest (port : Fin 2) (dst : Word)
  | mimanTelegram (port : Fin 2) (srcIp : Word) (bytes : List Byte)
  | portSingle (port : Fin 2)
  -- cabinet bus
  | canFrameReceived (c : Fin 2) (f : CanFrame) (sof : Nat)
  | canFrameStart (c : Fin 2) (sof : Nat)
  | canTxComplete (c : Fin 2)
  | canAckError (c : Fin 2)
  | canError (c : Fin 2) (tec rec : Nat)
  | busoffRecovered (c : Fin 2)
  | referenceMessageDue (c : Fin 2)
  -- recorder
  | recordCreate (sev : Fin 6) (src code : BitVec 16) (data : List Byte)
  | flushPeriod
  | recFlush (ok : Bool)
  | freezeStart
  | freezeCommit
  | legkeyTimeout
  -- self-test, gating, reset, fuses
  | mbistChunk (mem : BistMemory) (ok : Bool)
  | replicaCompare (attributable : Bool)
  | bistperExpire
  | plannedBistStart
  | selftestEnd (pass : Bool) (duration : Nat)
  | transientAgeOut (unit : Fin 5)
  | gateClosed (code : Fin 13)
  | softResetDone (crcEqual : Bool)
  | svBurnStep (readBack : Bool)
  | confirmationEnd
  | writeOperationDone (ok : Bool)
  -- maintenance
  | mapRequest (bytes : List Byte)
  | fmpDatagram (p : Peer) (bytes : List Byte)
  | registerWrite (sid : BitVec 16) (addr : BitVec 24) (value : Word)
  | ctloRead
  | sessionOpen (p : Option Peer) (level : BitVec 4)
  | close (sid : BitVec 16)
  | responseSubmit (sid : BitVec 16) (hi : Word)
  | tokenPresent (sid : BitVec 16) (hi : Word)
  | tokenExpire (sid : BitVec 16)
  | challengeExpire (sid : BitVec 16)
  | lockoutExpire (path : Fin 3)
  | sessionTimeout (sid : BitVec 16)
  | makesafe (sid : BitVec 16)
  | restart (sid : BitVec 16)
  | stop (sid : BitVec 16)
  | hold (sid : BitVec 16)
  | leavehold (sid : BitVec 16)
  | resume (sid : BitVec 16)
  | switchover (sid : BitVec 16)
  | abortsw (sid : BitVec 16)
  | wallTimeSet (sid : BitVec 16) (hi : BitVec 16)
  | capture (sid : BitVec 16)
  | stepRung (sid : BitVec 16)
  | stepRegion (sid : BitVec 16)
  | stepScan (sid : BitVec 16)
  | stepComplete
  | lockoutAcknowledgement (sid : BitVec 16) (out : Fin 32)
  | isolationAcknowledgement (sid : BitVec 16) (grp : Fin 8)
  | learn (sid : BitVec 16) (ch : Fin 32) (cyc : BitVec 8)
  | calibrate (sid : BitVec 16) (ch : BitVec 6)
  | calibrateAbort (sid : BitVec 16) (ch : BitVec 6)
  | softReset (sid : BitVec 16) (blk : BitVec 4)
  | gateCloseWrite (sid : BitVec 16) (value : Word)
  | gateOpenWrite (sid : BitVec 16) (value : Word)
  | bistRequest (sid : BitVec 16) (grp : Fin 3)
  | bistAbort (sid : BitVec 16)
  | keyburn (sid : BitVec 16)
  | post (sid : BitVec 16)
  | cancel (sid : BitVec 16) (e : Fin 32)
  | receiveAcknowledgement (sid : BitVec 16)
  | entryRelease (sid : BitVec 16) (e : Fin 32)
  | busoffRecoveryRequest (sid : BitVec 16) (c : Fin 2)
  | oldest (sid : BitVec 16)
  | newest (sid : BitVec 16)
  | nextRec (sid : BitVec 16)
  | prevRec (sid : BitVec 16)
  | seek (sid : BitVec 16)
  | freeze (sid : BitVec 16)
  | unfreeze (sid : BitVec 16)
  | legHiRead
  | legkeyWrite (sid : BitVec 16) (key : BitVec 16)
  | updOpen (sid : BitVec 16)
  | block (sid : BitVec 16)
  | finish (sid : BitVec 16)
  | abort (sid : BitVec 16)
  | release (sid : BitVec 16)
  | activate (sid : BitVec 16)
  | handover (sid : BitVec 16) (dropf : Bool)
  | online (sid : BitVec 16)
  | force (sid : BitVec 16)
  | unforce (sid : BitVec 16)
  | reload (sid : BitVec 16)
  | blkWrite (sid : BitVec 16) (value : Word)
  | bdataWrite (sid : BitVec 16) (value : Word)
  | pfailRise
  | railAbove (r : Rail)
  deriving DecidableEq, Repr

end Sys2Proof
end

