-- ==== Sys2Proof/Decode.lean ====
section
/-! DEFINITION. The command that a word spells by the bits of spec/opcode_table.json. The table gives no row any bits
(its commands are events and operations, not words), so no word spells a command (assumption log, entry 1). -/

namespace Sys2Proof

/-- No row of the table gives bits: every word is rejected. -/
def decodeTableWord (_nbits _w : Nat) : Option Instr := none

end Sys2Proof
end

