-- ==== Sys2Proof/Config.lean ====
section
/-! DEFINITION. What the model leaves to constants without a body: the cryptographic functions of the standards that the
spec names but does not define (assumption log, entry 7), and the free values (entry 6). Nothing can be proved about
their values, so a statement holds whatever they are. -/

namespace Sys2Proof.Config

/-- SHA-256 (R465). -/
opaque sha256 : List Byte → W256

/-- HMAC-SHA-256 under a 256-bit key (R591, R596, R598). -/
opaque hmac : W256 → List Byte → W256

/-- AES-128-CMAC truncated to 64 bits, the Miman safety code (R402). -/
opaque cmac : BitVec 128 → List Byte → W64

/-- The Factory key K_4 that the executive firmware derives from DUK (R595). -/
opaque keyFactory : W256

/-- The recovery key K_R that the executive firmware derives from DUK (R595). -/
opaque keyRecovery : W256

/-- The challenges that the on-die random source draws, in order (R596). -/
opaque challenge : Nat → W64

/-- Free words: the values that the spec leaves open, drawn in the order of the counter `pins.free`. -/
opaque freeWord : Nat → Word

end Sys2Proof.Config
end

