-- ==== Sys2Proof/Machine/Crc.lean ====
section
/-! DEFINITION. The cyclic redundancy checks of the spec and the byte-order helpers. -/

namespace Sys2Proof.Machine

/-! ### Byte order -/

/-- Bytes of a number, least significant first. -/
def leBytes : Nat → Nat → List Byte
  | 0, _ => []
  | n + 1, v => BitVec.ofNat 8 v :: leBytes n (v / 256)

/-- Bytes of a number, most significant first. -/
def beBytes (n v : Nat) : List Byte := (leBytes n v).reverse

/-- The number whose bytes, least significant first, are given. -/
def leNat : List Byte → Nat
  | [] => 0
  | b :: bs => b.toNat + 256 * leNat bs

/-- The number whose bytes, most significant first, are given. -/
def beNat (bs : List Byte) : Nat := leNat bs.reverse

/-- `n` bytes from offset `o`. -/
def slice (o n : Nat) (bs : List Byte) : List Byte := (bs.drop o).take n

/-- Bits of a byte, most significant first. -/
def msbBits (b : Byte) : List Bool := (List.range 8).map fun i => b.getLsbD (7 - i)

/-- Bits of a byte, least significant first. -/
def lsbBits (b : Byte) : List Bool := (List.range 8).map fun i => b.getLsbD i

/-! ### CRCs -/

/-- One bit of a CRC register that shifts towards the most significant bit. -/
def crcUp {w : Nat} (poly r : BitVec w) (b : Bool) : BitVec w :=
  let r' := r <<< 1
  if xor r.msb b then r' ^^^ poly else r'

/-- One bit of a CRC register that shifts towards the least significant bit. -/
def crcDown {w : Nat} (poly r : BitVec w) (b : Bool) : BitVec w :=
  let r' := r >>> 1
  if xor (r.getLsbD 0) b then r' ^^^ poly else r'

/-- CRC-8 of MAP (R588): polynomial 0x07, initial value 0, most significant bit first. -/
def crc8 (bs : List Byte) : Byte := (bs.flatMap msbBits).foldl (crcUp 0x07#8) 0#8

/-- CRC-16 of the records and the settings log (R642): polynomial 0x1021, initial value 0xFFFF. -/
def crc16 (bs : List Byte) : BitVec 16 := (bs.flatMap msbBits).foldl (crcUp 0x1021#16) 0xFFFF#16

/-- CRC-32C of the image blocks (R463) and the control area (R524): reflected polynomial 0x82F63B78. -/
def crc32c (bs : List Byte) : Word :=
  ~~~((bs.flatMap lsbBits).foldl (crcDown 0x82F63B78#32) 0xFFFFFFFF#32)

/-- CRC-32 of IEEE 802.3, which closes a lane-bus frame (R336): reflected polynomial 0xEDB88320. -/
def crc32 (bs : List Byte) : Word :=
  ~~~((bs.flatMap lsbBits).foldl (crcDown 0xEDB88320#32) 0xFFFFFFFF#32)

/-- CRC-64 of ECMA-182 over a bit sequence in the order in which the bits enter (R121, R186, R561). -/
def crc64Bits (bits : List Bool) : W64 := bits.foldl (crcUp 0x42F0E1EBA9EA3693#64) 0#64

/-- CRC-64 of ECMA-182 over bytes, most significant bit first. -/
def crc64 (bs : List Byte) : W64 := crc64Bits (bs.flatMap msbBits)

/-- The product of two residues modulo the polynomial of CRC-64. -/
def crc64Mul (a b : W64) : W64 :=
  (List.range 64).foldl (fun r i =>
    let r1 := crcUp 0x42F0E1EBA9EA3693#64 r false
    if b.getLsbD (63 - i) then r1 ^^^ a else r1) 0#64

/-- The residue of x to the power given by the top `k` bits below bit `j + k` of `n`, from an accumulated residue. -/
def crc64Pow (n : Nat) : Nat → W64 → W64
  | 0, r => r
  | k + 1, r =>
    let q := crc64Mul r r
    crc64Pow n k (if n.testBit k then crcUp 0x42F0E1EBA9EA3693#64 q false else q)

/-- The CRC-64 of a memory of so many 32-bit words, each stored least significant byte first, from the words that are not
zero: with the initial value 0 the CRC is linear, and a word followed by `m` bytes adds its own CRC times x to the 8 m. -/
def crc64Sparse (size : Nat) (ws : List (Nat × Word)) : W64 :=
  ws.foldl (fun r e => r ^^^ crc64Mul (crc64 (leBytes 4 e.2.toNat)) (crc64Pow (32 * (size - 1 - e.1)) 24 1#64)) 0#64

end Sys2Proof.Machine
end

