-- ==== Sys2Proof/Machine/State.lean ====
section
/-! DEFINITION. The state of the lane as plain data: every register, buffer, counter, mode and pin that the spec gives
it, the queue of waiting commands, and the state right after power-on reset. Each field's docstring gives the name the
spec uses, the width, the rule and its file, and the reset value; INVENTORY.md lists them. -/

namespace Sys2Proof.Machine

/-- A table from numbers to values in canonical form: keys strictly rising, no entry equal to the value that an
unlisted key reads as (given at each use). -/
abbrev Tab (α : Type) := List (Nat × α)

/-! ### Codes -/

/-- GLB.STATE.STATE (R607). -/
inductive LaneState where
  | off | reset | clock | test | load | integrate | prove | run | stop | hold | safe
  deriving DecidableEq, Repr

/-- The role of a lane in RUN (R15). -/
inductive Role where
  | holding | standby | shadow | excluded
  deriving DecidableEq, Repr

/-- The status of a command register; each register codes it in its own bits. -/
inductive CmdStatus where
  | idle | waiting | running | completed | aborted | failed | refused | busy
  deriving DecidableEq, Repr

/-- The units that a withdrawal implicates (R567), coded as DATA byte 0 of record 0x0106, and CRT. -/
inductive FaultUnit where
  | lge | lgeMem | grd | io | lnbRx | crt
  deriving DecidableEq, Repr

/-- The cause of a start (R472). -/
inductive StartCause where
  | powerUp | resetN | restart
  deriving DecidableEq, Repr

/-- A cell of the state image (R93, R102, R113, R115). -/
inductive Cell where
  | bit (v q : Bool)
  | word (v : Word) (q : Bool)
  | timer (preset : Word) (start : W64) (running q : Bool)
  | edge (m q : Bool)
  deriving DecidableEq, Repr

/-- What an unlisted cell of a replica holds: before the first PROVE (SRAM after power-on), or the contents of R106. -/
inductive ImageBase where
  | powerOn | proved
  deriving DecidableEq, Repr

/-- One replica of the state image (R102): the cells that differ from what R106 put there. -/
structure Replica where
  base : ImageBase
  cells : Tab Cell
  deriving DecidableEq, Repr

/-- A store held in the store buffer (R109, R117). -/
structure StoreEntry where
  tag : Nat
  addr : Nat
  content : Cell
  deriving DecidableEq, Repr

/-- A block-stack entry (R152); `saved = none` is an undefined accumulator. -/
structure BlockEntry where
  saved : Option Bool
  op : BlockOp
  deriving DecidableEq, Repr

/-- The rung context: the accumulator (none while undefined, R152), the block stack and a KHI prefix. -/
structure Rung where
  acc : Option Bool
  stack : List BlockEntry
  prefixKH : Option (BitVec 25)
  deriving DecidableEq, Repr

/-- EMODE (R135). -/
inductive EMode where
  | halted | cyclic | stepping | splitCyclic
  deriving DecidableEq, Repr

/-- A step command in HOLD (R125). -/
inductive StepKind where
  | capture | rung | region | scan
  deriving DecidableEq, Repr

/-- A record of the event recorder (R517); the CRC is computed when the record is written to memory or shown. -/
structure Record where
  seq : Nat
  mono : Nat
  wall : Nat
  wepoch : Nat
  sev : Nat
  lid : Nat
  sid : Bool
  standby : Bool
  src : Nat
  code : Nat
  data : List Byte
  deriving DecidableEq, Repr

/-- A guard image (R170): the cells it holds, V and Q; an unlisted cell reads V = 0, Q = 0. -/
abbrev GuardImage := Tab (Bool × Bool)

/-- GMODE (R198). -/
inductive GMode where
  | notLoaded | checking | faultExcluded | fallback
  deriving DecidableEq, Repr

/-- A violation as a Scarab pass reports it (R185, R200). -/
structure Violation where
  kind : Nat
  image : Nat
  litpos : Nat
  output : Nat
  group : Nat
  deriving DecidableEq, Repr

/-- A pattern state of a vital input (R211). -/
inductive PatState where
  | check | valid | fault
  deriving DecidableEq, Repr

/-- A proving state of a proving-required input (R215). -/
inductive ProvState where
  | unproven | lowSeen | proven
  deriving DecidableEq, Repr

/-- One vital input (R206, R211, R215). -/
structure VinState where
  /-- Filtered value. -/
  filtered : Bool
  /-- The filtered value was 1 since the frame start (R210). -/
  highAll : Bool
  pat : PatState
  bad : Nat
  good : Nat
  prov : ProvState
  deriving DecidableEq, Repr

/-- A monitor state (R221, R235). -/
inductive MonState where
  | dropped | picking | picked | dropping | locked
  deriving DecidableEq, Repr

/-- The cause of a lockout, DATA byte 1 of record 0x0604 (R228). -/
inductive LockCause where
  | pickedWhileOff | noPickUp | unexpectedDrop | noDropOut | agreed
  deriving DecidableEq, Repr

/-- What the readback of a driven ball shows (R218, R219, R246): the wave that the lane emits, no wave although one is
emitted, or a wave although none is emitted. -/
inductive BallWave where
  | asDriven | absent | persists
  deriving DecidableEq, Repr

/-- A square wave on a ball (R216, R243). It runs from an instant to another, none while it still runs; instants in ns of the
lane's clock. -/
structure Wave where
  start : Nat
  stop : Option Nat
  /-- The last rising edge of the run before this one. -/
  rise : Option Nat
  ball : BallWave
  deriving DecidableEq, Repr

/-- One dynamic output with its monitor (R216 to R226). -/
structure VoutState where
  /-- The command cell committed at the last T_commit. -/
  committed : Bool
  /-- The effective command of R217. -/
  effective : Bool
  /-- The dynamic wave on the ball, from which the live state of R218 follows. -/
  wave : Wave
  /-- Lockout latch of R223. -/
  lockout : Bool
  mon : MonState
  /-- Time of the command change from which PUT or DOT runs, in ns of the lane's clock. -/
  since : Nat
  /-- Consecutive T_IA with the latch set and the agreed cell 0 (R224). -/
  outvoted : Nat
  deriving DecidableEq, Repr

/-- A pending acknowledgement that a T0 will apply (R225, R259): the number, the logic cycle that applies it (none until
the frame that distributes it is sent), and whether this lane accepted it. -/
structure PendingAck where
  item : Nat
  cycle : Option Nat
  own : Bool
  deriving DecidableEq, Repr

/-- What LMP expects of a channel (R279). -/
inductive Expectation where
  | lit | darkFlash | dark
  deriving DecidableEq, Repr

/-- The proving of a channel as it stood just before a change of its conditions (R275), for the samples whose instant does
not lie after the change. -/
structure LampWas where
  /-- The instant of the change, in ns of the lane's clock. -/
  at_ : Nat
  /-- The change reset the runs and the proven cells: a change of expectation or a suspension (R280, R289). -/
  fresh : Bool
  expect : Expectation
  darkRun : Nat
  litRun : Nat
  oobRun : Nat
  blankTo : Option Nat
  inrushTo : Option Nat
  window : Bool
  suspended : Bool
  pl : Bool
  pd : Bool
  deriving DecidableEq, Repr

/-- One lamp channel: drive (R244, R246, R252, R253) and proving (R279 to R289). -/
structure LampState where
  drive : Bool
  flash : Bool
  /-- The lamp wave on the ball, from which the wave-live bit of R246 follows. -/
  wave : Wave
  /-- A dark-proving pulse runs, with the start of its span in ns. -/
  pulse : Option Nat
  /-- A sample within the pulse exceeded the dark threshold (R286). -/
  pulseHit : Bool
  /-- Last multiple of DPPER that was served (R253). -/
  pulsePeriod : Option Nat
  expect : Expectation
  darkRun : Nat
  litRun : Nat
  oobRun : Nat
  /-- Time of the last out-of-band evidence, in ns (R284). -/
  oobLast : Option Nat
  /-- The last instant of the blanking of R280, and the end of INRUSH (R281), in ns; none before the first. -/
  blankTo : Option Nat
  inrushTo : Option Nat
  /-- The proving as it stood before the latest changes, newest first (R275). -/
  was : List LampWas
  /-- The proving window is open (R282). -/
  window : Bool
  suspended : Bool
  pl : Bool
  pd : Bool
  dwl : Bool
  lwd : Bool
  oob : Bool
  /-- Out of band was set by R286. -/
  oobPulse : Bool
  dpok : Bool
  dpFails : Nat
  /-- Cell 7: this lamp's report set or stepped the latch (R260). -/
  fbActive : Bool
  /-- A dark-when-lit report waits for the next switching firing (R255). -/
  report : Bool
  /-- Consecutive T_IA at which cells 2, 3, 4, 5 differed from the agreed cells (R291). -/
  mis : List Nat
  deriving DecidableEq, Repr

/-- A sequence in progress (R248, R249). -/
structure Sequence where
  target : Option Nat
  tsw : Nat
  deriving DecidableEq, Repr

/-- One aspect group (R242, R247 to R257, R271). -/
structure AspectState where
  /-- Shown aspect; none for a dark head. -/
  shown : Option Nat
  seq : Option Sequence
  /-- Requested aspect of the committed image (R242); none for dark. -/
  request : Option Nat
  /-- Committed command-lit and flash cells of a DIRECT group's lamps, as channel masks. -/
  cmdLit : Word
  cmdFlash : Word
  /-- A commit changed the effective request and its sequence has not ended (R261, cell 12). -/
  changing : Bool
  /-- Fall-back latch aspect f. -/
  latch : Option Nat
  /-- Consecutive T_IA with the latch set and agreed cell 13 at 0 (R257). -/
  outvoted : Nat
  /-- Multiple of FLPER whose lit phase began last, and that whose lit phase ended last (R252). -/
  onPeriod : Option Nat
  offPeriod : Option Nat
  deriving DecidableEq, Repr

/-- A learn in progress (R293). -/
structure LearnRun where
  chan : Nat
  periods : Nat
  /-- Start, in ns of the lane's clock. -/
  startAt : Nat
  deriving DecidableEq, Repr

/-- The state of one window comparator (R313). -/
inductive WinState where
  | inside | low | high
  deriving DecidableEq, Repr

structure WinRun where
  st : WinState
  lowCnt : Nat
  highCnt : Nat
  inCnt : Nat
  deriving DecidableEq, Repr

/-- A sample of a channel: instant in ns of the lane's clock, own angle at its compensated instant (R274), value,
quality (R304, R310). -/
structure Sample where
  t : Nat
  ang : Nat
  v : Int
  q : Bool
  deriving DecidableEq, Repr

/-- One MEA channel or stand-in (R309 to R313, R331). -/
structure MeaState where
  off : Int
  gain : Nat
  fast : Int
  fastQ : Bool
  fine : Int
  fineQ : Bool
  clip : Bool
  inv : Bool
  rngq : Bool
  rateq : Bool
  /-- Serving stand-in, if any (SRV, SIN). -/
  srv : Option (Fin 2)
  /-- Clock value of the last commit point or start calibration, in ns (CALAGE). -/
  calAt : Nat
  /-- CALAGE has passed 600 s. -/
  stale : Bool
  /-- Earliest instants from which the fast and fine spans hold no reset (R301, R303, R305). -/
  fastFrom : Nat
  fineFrom : Nat
  /-- An overload episode is open (R301). -/
  episode : Bool
  /-- The word formed at the previous T0 (R312). -/
  lastWord : Option Int
  winA : WinRun
  winB : WinRun
  /-- The fast and fine samples that word values are formed from, newest first (R311). -/
  fastHist : List Sample
  fineHist : List Sample
  deriving DecidableEq, Repr

/-- Stand-in step (R325). -/
inductive SiPhase where
  | idle | selfCal | parallel | serving | returning | outOfService
  deriving DecidableEq, Repr

/-- A stand-in modulator and its rotation (R314 to R319). -/
structure StandIn where
  phase : SiPhase
  chan : Nat
  /-- The phase's judgement passed and a path switch is due (R314). -/
  switchDue : Bool
  /-- The switch due takes the channel back with its old coefficients (R317, R319). -/
  back : Bool
  /-- Why a switch back is due: DATA byte 1 of 0x0806, none for no record of its own. -/
  backCause : Option Nat
  /-- Own calibration repeated once (R317), or self-calibration repeated (R316). -/
  repeated : Bool
  newOff : Int
  newGain : Nat
  /-- Start of the last rotation, start of its current phase, and last release of the stand-in, in ns of the lane's clock. -/
  startAt : Option Nat
  phaseAt : Nat
  releasedAt : Nat
  /-- The rotation serves a commanded calibration. -/
  commanded : Bool
  /-- The stand-in goes out of service once the switch back that is due has taken place (R316). -/
  leaving : Bool
  deriving DecidableEq, Repr

/-- The zero crossings of one supply reference (R58, R60): compensated instants in ns, newest first, and whether the last
one went positive. -/
structure Crossings where
  ts : List Nat
  pos : Bool
  deriving DecidableEq, Repr

/-- Bus states (R365). -/
inductive BState where
  | config | listen | swarm | lead | follow | integrating | active | passive | wait
  deriving DecidableEq, Repr

/-- A wall-time set waiting for its T0 (R56): the new wall time in ms, the logic cycle that applies it (none until the
frame that distributes it is sent), and the node that accepted it. -/
structure PendingWall where
  value : Nat
  cycle : Option Nat
  node : Nat
  deriving DecidableEq, Repr

/-- What a receiver keeps of one node (R47, R350, R358, R391). -/
structure NodeView where
  /-- The health word last accepted, and the basic cycle it was accepted in. -/
  health : Option (W64 × Nat)
  /-- A frame was accepted in the current, and in the last, basic cycle. -/
  rxNow : Bool
  rxLast : Bool
  /-- A SYNC frame was accepted in the current, and in the last, basic cycle. -/
  syncNow : Bool
  syncLast : Bool
  /-- Accepted frames of the current basic cycle: some single-channel, some on both. -/
  single : Bool
  double : Bool
  /-- Missing channel of the last single-channel frame: true for Y. -/
  missingY : Bool
  scCount : Nat
  scRejected : Bool
  /-- The first single-channel rejection was declared. -/
  scDeclared : Bool
  /-- Boundary violations attributed in the current basic cycle and in the last one. -/
  bndNow : Bool
  bndLast : Bool
  /-- Basic cycle of the last SYNC frame accepted (R386). -/
  syncAt : Option Nat
  /-- Window cycles without a valid frame (R30). -/
  silent : Nat
  /-- Reported by both lanes in the basic cycle given, and not yet seen EXCLUDED (R30). -/
  reportedAt : Option Nat
  /-- It shows INTEGRATE or PROVE after STOP or HOLD, with no restart in between (R30, R479). -/
  resumed : Bool
  /-- Reported in this logic cycle by this lane, and by the other peer (R28, R30). -/
  ownRep : Bool
  othRep : Bool
  /-- Output digest and image words received in this logic cycle (R352), frames accepted, every frame so far in order. -/
  outWords : List Word
  outNext : Nat
  outValid : Bool
  /-- Input image words received in this logic cycle, in the same form. -/
  inWords : List Word
  inNext : Nat
  inValid : Bool
  /-- The sync record's wall time: WALLV and WOFF (R368, R380). -/
  wallv : Bool
  woff : Int
  /-- Basic cycles in a row in which the health word met R190. -/
  healthyFor : Nat
  deriving DecidableEq, Repr

/-- A frame pending for arbitrating windows (R345): its FID, payload and MIRROR flag, and the clock in ns at which it stood
complete in the transmit buffer (R342, R343). -/
structure PendFrame where
  fid : Nat
  payload : List Word
  mirror : Bool
  at_ : Nat
  deriving DecidableEq, Repr

/-- A status-frame entry waiting to be sent (R351): its words. -/
abbrev Entry := List Word

/-- A telegram as capture and agreement hold it (R76, R401). -/
structure Telegram where
  conn : Nat
  ttype : Nat
  seq : Nat
  tsend : Nat
  techo : Nat
  payload : List Byte
  code : W64
  deriving DecidableEq, Repr

/-- A telegram digest (R76). -/
structure Digest where
  conn : Nat
  seq : Nat
  code : W64
  deriving DecidableEq, Repr

/-- An accepted telegram held for a capture: already reported at one capture (R77), deferred from one (R641). -/
structure HeldTelegram where
  tg : Telegram
  reported : Bool
  deferred : Bool
  deriving DecidableEq, Repr

/-- CONN table state of one connection beyond the engine-state words (R409, R426). -/
structure ConnState where
  highest : Option Nat
  copies : Nat
  seqErr : Nat
  stale : Nat
  cmacf : Nat
  /-- Clock value of the last safety-code record, in ns (R418). -/
  cmacRec : Option Nat
  /-- A CONNECT_RSP, a DISCONNECT is due at this cycle's T_commit (R413, R415). -/
  rspDue : Bool
  discDue : Bool
  /-- The sent cells of the previous commit (R415). -/
  lastSent : List Byte
  deriving DecidableEq, Repr

/-- One Ethernet port (R396 to R400, R410, R421, R424). -/
structure PortState where
  link : LinkState
  /-- Clock of the last poll of the PHY, in ns (R397). -/
  polledAt : Option Nat
  rxok : Nat
  drop : Nat
  txok : Nat
  cmacf : Nat
  /-- Clock of the last copy that passed step 9, in ns; single-port reception is declared, with the clock of its last
  record (R410). -/
  acceptedAt : Option Nat
  singleAt : Option Nat
  /-- ICMP replies sent in the current second, and that second (R396). -/
  icmpCount : Nat
  icmpSecond : Nat
  /-- FMP datagrams taken in the current second, and that second (R593). -/
  fmpCount : Nat
  fmpSecond : Nat
  deriving DecidableEq, Repr

/-- A frame that a port or controller has sent, as the outside sees it. -/
inductive Sent where
  /-- A lane-bus frame (R334 to R336). -/
  | lane (fid : Nat) (hdr : Word) (payload : List Word) (crc : Word)
  /-- A Miman telegram to an address: the Ethernet frame without its FCS (R399, R401). -/
  | telegram (port : Nat) (ip : Word) (bytes : List Byte)
  | arpReply (port : Nat) (ip : Word)
  | icmpReply (port : Nat)
  | fmp (p : Peer) (bytes : List Byte)
  | map (bytes : List Byte)
  | can (c : Nat) (f : CanFrame)
  deriving DecidableEq, Repr

/-- CAN error state (R448). -/
inductive CanEState where
  | active | passive | busoff | disabled
  deriving DecidableEq, Repr

/-- The pending frame that a controller offers (R437). -/
inductive CanOffer where
  | reference
  | map (m : Nat)
  | queue (e : Nat)
  deriving DecidableEq, Repr

/-- One CAN controller (R432, R433, R443, R444, R448). -/
structure CanCtl where
  estate : CanEState
  tecN : Nat
  recN : Nat
  lonely : Bool
  /-- Consecutive ACK errors of the controller (R433). -/
  ackRun : Nat
  /-- Bus-off recovery runs, and the clock in ns from which it runs (R432). -/
  recovering : Bool
  recovFrom : Nat
  tdcMeas : Nat
  toff : Word
  /-- The frame on the wire. -/
  onWire : Option CanOffer
  /-- A reference message is pending, and the cluster time in ns at which the last one became due (R443). -/
  refPending : Bool
  refDue : Option Nat
  refSeq : Nat
  /-- Start of frame of the reference message on the wire and of the last one sent, in ns. -/
  refSofNow : Nat
  refSof : Option Nat
  /-- Time slave: previous message's sequence number and stamp in 10 ns units (R444). -/
  slvSeq : Option Nat
  slvStamp : Nat
  deriving DecidableEq, Repr

/-- Transmit-queue entry state (R450). -/
inductive TxState where
  | free | pending | started | completed | aborted | failed
  deriving DecidableEq, Repr

/-- A transmit-queue entry (R438, R450); `order` is the posting order. -/
structure TxEntry where
  st : TxState
  cause : Nat
  att : Nat
  ack : Nat
  ctrl : Nat
  frame : CanFrame
  order : Nat
  deriving DecidableEq, Repr

/-- A receive-queue entry (R441). -/
structure RxEntry where
  ctrl : Nat
  frame : CanFrame
  sof : Nat
  deriving DecidableEq, Repr

/-- The state of one CAN map entry (R435, R436). -/
structure MapState where
  payload : List Byte
  at_ : Option Nat
  timedOut : Bool
  pending : Bool
  lastSent : List Byte
  deriving DecidableEq, Repr

/-- NOR slot record, one copy (R460). -/
structure SlotRec where
  state : Word
  gen : Word
  nblk : Word
  imgd : W256
  deriving DecidableEq, Repr

/-- Slot states (R460). -/
inductive SlotState where
  | erased | writing | complete | shadow | trial | confirmed | retired
  deriving DecidableEq, Repr

/-- One image slot in both NORs: its record copies and its settings log (R460, R461, R490). -/
structure Slot where
  recA : SlotRec
  recB : SlotRec
  log : List SettingsEntry
  /-- SCHEMA of the image whose block 0 the slot's blocks hold (R464, R490). -/
  schema : Nat
  deriving DecidableEq, Repr

/-- Block 0 of an image as parsed under R464. -/
structure Header where
  magic : Word
  hfmt : Nat
  secver : Nat
  modes : Nat
  schema : Nat
  nblk : Nat
  station : Word
  start : Word
  imgd : W256
  sig : List Byte
  pubk : List Byte
  sect : List Byte
  digt : List W256
  /-- Bytes 0x0000 to 0x003F, over which SIG is computed, and the SHA-256 of R465's span. -/
  signed : List Byte
  imgdCalc : W256
  deriving DecidableEq, Repr

/-- The write of a pending image (R482 to R485). -/
structure ImageWrite where
  /-- The pending slot: true for slot 1. -/
  slot : Bool
  /-- Blocks written so far, and block 0 once written. -/
  written : List Nat
  hdr : Option Header
  /-- Block and staged bytes of the running BLOCK operation. -/
  cur : Nat
  buf : Tab Word
  deriving DecidableEq, Repr

/-- The update operation in progress (R483). -/
inductive UpdOp where
  | open | block | finish
  deriving DecidableEq, Repr

/-- An on-line change waiting for its cycle (R504). -/
structure OnlineChange where
  sym : Word
  value : Word
  cycle : Nat
  deriving DecidableEq, Repr

/-- A pending switchover or handover (R49, R497). -/
structure Switch where
  /-- The set that is to drive. -/
  toSet : Bool
  /-- The logic cycle after whose T_commit it commits; none for an automatic one, which commits at the next boundary. -/
  cycle : Option Nat
  program : Bool
  /-- Set at the commit point of a handback (R502), so that its release knows it. -/
  back : Bool
  /-- This lane accepted the command. -/
  own : Bool
  committed : Bool
  deriving DecidableEq, Repr

/-- Session states (R613). -/
inductive SessState where
  | none | challenged | opened
  deriving DecidableEq, Repr

/-- A token presented and not consumed: its 64 bits and the TCNT it was presented under (R598). -/
structure TokenArm where
  value : W64
  tcnt : Nat
  /-- Clock of its presentation in ns; it is void 1 s later (R598). -/
  at_ : Nat
  deriving DecidableEq, Repr

/-- A session and its copies of GLB.SESSCMD to GLB.TOKHI (R594 to R598, R613, R614). -/
structure Session where
  num : Nat
  src : Option Peer
  st : SessState
  /-- GLB.SESSCMD as last written. -/
  scmd : Nat
  reqLevel : Nat
  level : Nat
  chal : W64
  tcnt : Nat
  respLo : Word
  tokLo : Word
  tok : Option TokenArm
  /-- Clock in ns at which the challenge was issued, and of the last request that counts for the timeout (R596, R597). -/
  chalAt : Nat
  lastAt : Nat
  /-- Session key K_S (R596) and the last served FMP SEQ with its cached response (R592). -/
  ks : W256
  seq : Nat
  cached : List Byte
  /-- Recorder cursor: SEQ of the record, its status and window (R525). -/
  cursor : Option Nat
  curStat : Nat
  cseq : Word
  win : List Word
  deriving DecidableEq, Repr

/-- The authorisation lock-out of one path (R596). -/
structure PathLock where
  failures : Nat
  locked : Bool
  /-- Clock in ns at which the lock-out began. -/
  since : Nat
  deriving DecidableEq, Repr

/-- A recorder page (R523): the records written, oldest first. -/
structure Page where
  recs : List Record
  deriving DecidableEq, Repr

/-- A control-area copy (R524); `valid` is false where magic or CRC fail. -/
structure CtlCopy where
  valid : Bool
  flushes : Nat
  nextSeq : Nat
  wepoch : Nat
  deriving DecidableEq, Repr

/-- What a transient counted: its unit and the MONO instant in µs (R568). -/
structure Transient where
  unit : FaultUnit
  at_ : Nat
  deriving DecidableEq, Repr

/-- A self-test in progress (R563, R567, R569). -/
structure SelfTest where
  unit : FaultUnit
  planned : Bool
  /-- GATHMIS: the memory-bank test follows (R567). -/
  thenMem : Bool
  /-- Started from fall-back while the lane votes (R191). -/
  inFallback : Bool
  /-- The memory-bank test that follows a GRD test (R567, R568). -/
  second : Bool
  /-- Clock in ns at which its first pattern is applied (R570). -/
  startAt : Nat
  deriving DecidableEq, Repr

/-! ### Blocks of state -/

/-- Clocks of the model and pins. -/
structure Pins where
  /-- Supply present (1 bit); R474 (14_start_and_configuration.md); reset 0 (no power until POWER_ON; R607 OFF). -/
  powered : Bool
  /-- Rails below their threshold (7 rails); R623 (19_electrical_package.md); reset none. -/
  lowRails : List Rail
  /-- RESET_N ball level (1 bit); R623 (19_electrical_package.md); reset 0 (held low from t_U). -/
  resetN : Bool
  /-- PFAIL_N ball level as filtered (1 bit, 1 high); R625 (19_electrical_package.md); reset DESIGN CHOICE 0 (entry 4; the internal pull-down). -/
  pfailHigh : Bool
  /-- Filtered RESTART level (1 bit, VIO.RSTIN.LVL); R227, R236 (06_vital_io.md); reset 0. -/
  restartLvl : Bool
  /-- RESTART low has lasted the qualifying time (1 bit, VIO.RSTIN.QUAL); R41, R236 (06_vital_io.md); reset 0. -/
  restartQual : Bool
  /-- Clock in ns of the last filtered fall of RESTART (unbounded); R41, R227 (06); reset 0. -/
  restartAt : Nat
  /-- Clock of the lane in ns since power-up (unbounded; MONO is this divided by 1,000, 48 bits in a record); R518 (16_event_recorder.md); reset 0. -/
  now : Nat
  /-- Free-value counter, the MODEL's own field (unbounded); no rule, entry 6; reset DESIGN CHOICE 0 (entry 6). -/
  free : Nat
  /-- Frames and responses sent, newest first (list), the MODEL's own view of the balls; R341, R416, R436, R587 (10, 12, 13, 18); reset none. -/
  sent : List Sent
  deriving DecidableEq, Repr

/-- Lane state machine, straps, vote (GLB and chapter "Lanes, Sets and the Safe State"). -/
structure Lane where
  /-- GLB.STATE.STATE (4 bits); R607 (18_maintenance_registers.md); reset OFF at no power, 0x1 at power-on (R606). -/
  st : LaneState
  /-- GLB.STATE.SFAULT (8 bits); R606 (18_maintenance_registers.md); reset 0. -/
  sfault : Nat
  /-- SAFE latch (1 bit); R34 (01_lanes_and_sets.md); reset 0. -/
  safeLatch : Bool
  /-- GLB.STATE.SCAUSE (8 bits); R606 (18_maintenance_registers.md); reset 0. -/
  scause : Nat
  /-- GLB.STATE.SMASK (8 bits); R606, R34 (18, 01); reset 0. -/
  smask : Nat
  /-- Time of the first SAFE cause in ns (for the 1 µs mask of R34), and whether the lane was in RUN then; R34 (01_lanes_and_sets.md); reset 0. -/
  safeAt : Nat
  safeRun : Bool
  /-- GLB.STATE.ROLE (2 bits); R15, R606 (01, 18); reset HOLDING code 0b00. -/
  role : Role
  /-- GLB.STRAP.PIN (14 bits); R608 (18_maintenance_registers.md); reset DESIGN CHOICE 0 (entry 4; "Strap": no straps are sampled before RESET_N rises). -/
  pin : BitVec 14
  /-- GLB.STRAP.EFF (14 bits); R608 (18_maintenance_registers.md); reset DESIGN CHOICE 0 (entry 4; "Strap, then image"). -/
  eff : BitVec 14
  /-- GLB.STRAP.ACC (1 bit); R608 (18_maintenance_registers.md); reset 0. -/
  strapAcc : Bool
  /-- Disagreeing strap attempts (5 bits); R454 (14_start_and_configuration.md); reset 0. -/
  strapTry : Nat
  /-- Cause of this start (2 bits); R472 (14_start_and_configuration.md); reset 0 (power-up). -/
  startCause : StartCause
  /-- GLB.ATTN bits 6 to 0 (7 bits); R610 (18_maintenance_registers.md); reset 0. -/
  attn : BitVec 7
  /-- GLB.ATTNEN.SEV (3 bits); R610 (18_maintenance_registers.md); reset 4. -/
  attnSev : Nat
  /-- GLB.ATTNEN.EN (7 bits); R610 (18_maintenance_registers.md); reset 0x01. -/
  attnEn : BitVec 7
  /-- GLB.CTLCMD status (3 bits); R612 (18_maintenance_registers.md); reset 0 idle. -/
  ctl : CmdStatus
  /-- The operation that GLB.CTLCMD reports is a switchover (1 bit; R9 has its final status answer a further abort); R9, R604 (00_scope.md, 18); reset 0. -/
  ctlSw : Bool
  /-- Restart window of 60 s armed (1 bit); R40 (01_lanes_and_sets.md); reset 0. -/
  window : Bool
  /-- Clock in ns at which the restart window was armed (unbounded); R40 (01_lanes_and_sets.md); reset 0. -/
  windowAt : Nat
  /-- Accepted hold command waiting for the next T0 (1 bit); R124 (03_logic_engine.md); reset 0. -/
  holdPend : Bool
  /-- Accepted resume command waiting for the next T0 (1 bit); R479 (14_start_and_configuration.md); reset 0. -/
  resumePend : Bool
  /-- Basic cycle from whose T0 the lane enters PROVE (unbounded, none); R475, R478 (14_start_and_configuration.md); reset none. -/
  proveFrom : Option Nat
  /-- The lane joins (R478) instead of making a set start (1 bit); R478 (14_start_and_configuration.md); reset 0. -/
  joining : Bool
  /-- Consecutive counted PROVE cycles (7 bits); R477 (14_start_and_configuration.md); reset 0. -/
  proveCnt : Nat
  /-- PROVE completed, waits for T0 to enter RUN (1 bit); R25, R477 (01, 14); reset 0. -/
  proved : Bool
  /-- First logic cycle of this lane in RUN (1 bit; flags 0x3_F304, 0x3_F380); R98, R477 (03, 14); reset 0. -/
  firstCycle : Bool
  /-- The first cycle is that of a set start (1 bit; flag 0x3_F304); R98 (03_logic_engine.md); reset 0. -/
  firstOfSet : Bool
  /-- This start followed a qualified restart (1 bit; flag 0x3_F380); R42, R98 (01, 03); reset 0. -/
  restarted : Bool
  /-- The lane has been in HOLD since its last vote (1 bit); R127 (03_logic_engine.md); reset 0. -/
  wasHold : Bool
  /-- Consent declared present on XIN0, XIN1 (2 bits); R23 (01_lanes_and_sets.md); reset 0 (an open XIN declares consent lost, R629). -/
  cons0 : Bool
  cons1 : Bool
  /-- Consent withdrawn from the first, second peer (2 bits); R30 (01_lanes_and_sets.md); reset 0. -/
  withdrawn0 : Bool
  withdrawn1 : Bool
  /-- Implicated unit of an exclusion (none while not excluded for a fault); R27, R567 (01, 17); reset none. -/
  implicated : Option FaultUnit
  /-- The exclusion's fault was GATHMIS: LGE memory implicated as well (1 bit); R187, R567 (05, 17); reset 0. -/
  implicatedMem : Bool
  /-- Exclusion classed lasting (1 bit); R33, R568 (01, 17); reset 0. -/
  lasting : Bool
  /-- The withdrawal is a planned exclusion (1 bit); R569 (17_clocks_reset_selftest.md); reset 0. -/
  planned : Bool
  /-- Reintegration requested (1 bit); R31 (01_lanes_and_sets.md); reset 0. -/
  reintReq : Bool
  /-- State transfer applied; the lane computes without voting under R32 (1 bit); R32 (01_lanes_and_sets.md); reset 0. -/
  computing : Bool
  /-- Consecutive equal cycles of R32 (7 bits); R32 (01_lanes_and_sets.md); reset 0. -/
  confirmCnt : Nat
  /-- Consecutive logic cycles in which one peer reported this lane (2 bits); R28 (01_lanes_and_sets.md); reset 0. -/
  reportCnt : Nat
  /-- Reports of this lane received from the first, second peer in this logic cycle (2 bits); R27, R28 (01); reset 0. -/
  rep0 : Bool
  rep1 : Bool
  /-- The output agreement of this cycle decided to commit (1 bit); R26 (01_lanes_and_sets.md); reset 0. -/
  commitOk : Bool
  /-- T0 of the logic cycle whose T_commit is still due (ns of cluster time, none); with C = L it is so past the next T0; R53, R69 (02); reset none. -/
  commitDue : Option Nat
  /-- Outputs of the last commit are being driven (1 bit): a driving role committed; R15, R217 (01, 06); reset 0. -/
  driving : Bool
  /-- Standby comparison: own outputs equalled the holding set's in the last logic cycle (1 bit; OUTCMP); R47 (01); reset 0. -/
  outcmp : Bool
  /-- An agreed holding-set input image was received for the current logic cycle (1 bit; INAGR); R47 (01); reset 0. -/
  inagr : Bool
  /-- Mirror stream applied with no backlog (1 bit; MIRR); R47 (01); reset 0. -/
  mirr : Bool
  /-- Rolling refresh slices applied since RUN or admission (64 bits, one for each; REFR when all are); R47, R44 (01); reset 0. -/
  refr : W64
  /-- Basic cycles in a row in which the own set's standby or shadow partner was healthy (unbounded); R48 (01); reset 0. -/
  otherHealthy : Nat
  /-- Basic cycles in a row in which the own set was healthy as a standby set (unbounded); R48, R49 (01); reset 0. -/
  ownHealthy : Nat
  /-- Consecutive basic cycles with fewer than two voting holding lanes seen (2 bits); R49 (01); reset 0. -/
  holdersMissing : Nat
  /-- Pending switchover or handover (none); R49, R497 (01, 15); reset none. -/
  switch : Option Switch
  /-- SUP halted (1 bit); R555, R556 (17_clocks_reset_selftest.md); reset 0. -/
  supHalted : Bool
  /-- Basic cycles since TIMEV rose in INTEGRATE of a lane loaded from SHADOW, digest vote undecided (1 bit); R493 (15); reset 0. -/
  digestDue : Bool
  /-- The lane was found to hold another image than its set's voting lanes, and recorded it (1 bit); R494 (15); reset 0. -/
  joinRefused : Bool
  deriving DecidableEq, Repr

/-- CRT: clocks, reset and self-test. -/
structure Crt where
  /-- CRT.CLKST.XVAL (1 bit); R574 (17_clocks_reset_selftest.md); reset 0. -/
  xval : Bool
  /-- CRT.CLKST.RVAL (1 bit); R574 (17); reset 0. -/
  rval : Bool
  /-- CRT.CLKST.ROOTSEL (1 bit); R574 (17); reset 0. -/
  rootsel : Bool
  /-- CRT.CLKST.LOCK (1 bit); R574 (17); reset 0. -/
  lock : Bool
  /-- CRT.CLKST.ALIGN (1 bit); R574, R546 (17); reset 0. -/
  align : Bool
  /-- A rise of TIMEV held until ALIGN is 1 (1 bit); R546 (17); reset 0. -/
  timevHeld : Bool
  /-- CRT.CLKST.GATE[12:1] (bits 12 to 1 of 13); R574 (17); reset 0x1FFE. -/
  gate : BitVec 13
  /-- CRT.CLKEN.EN[12:1] (bits 12 to 1 of 13); R575 (17); reset 0x1FFE. -/
  clken : BitVec 13
  /-- Gates closing: t_G has passed and the gate is not closed yet (13 bits); R558 (17); reset 0. -/
  closing : BitVec 13
  /-- CRT.MONST (19 bits); R576 (17); reset 0. -/
  monst : BitVec 19
  /-- CRT.EVT (7 bits); R577 (17); reset 0. -/
  evt : BitVec 7
  /-- CRT.SRST status (3 bits); R578 (17); reset 0 idle. -/
  srst : CmdStatus
  /-- Blocks in soft reset (13 bits), with the one that the command names; R560, R561 (17); reset 0. -/
  inReset : BitVec 13
  srstBlk : Nat
  /-- Blocks that a failed soft reset holds in reset (13 bits); R561 (17); reset 0. -/
  stuck : BitVec 13
  /-- CRT.EPOCH0 and EPOCH1: epoch tags by subsystem code (4 bits each); R579 (17); reset 0. -/
  epoch : Tab Nat
  /-- CRT.BISTCMD status and group (3 and 2 bits); R580 (17); reset 0 idle. -/
  bist : CmdStatus
  bistGrp : Nat
  /-- An accepted planned run waits for its T_commit, whatever the register reports since (1 bit); R9, R569 (00_scope.md, 17); reset 0. -/
  bistWait : Bool
  /-- Planned run requested by SUP: next group of the rotation (2 bits); R569 (17); reset 0. -/
  bistNext : Nat
  /-- Clock in ns from which the next BISTPER interval counts (unbounded); R569 (17); reset 0, the model's own (entry 81). -/
  bistAt : Nat
  /-- CRT.BISTRES (32 bits); R581 (17); reset 0. -/
  bistres : Word
  /-- Transients counted in the last 24 h (CRT.TRCNT, 3 bits per unit); R568, R582 (17); reset none. -/
  trans : List Transient
  /-- Self-test in progress (none); R563, R567 (17); reset none. -/
  test : Option SelfTest
  /-- CRT.FUSE.BURNF (1 bit); R583 (17); reset 0. -/
  burnf : Bool
  /-- VFUSE monitor (1 bit; VFOK follows it from the end of RESET); R583, R622 (17, 19); reset 0. -/
  vfuse : Bool
  /-- Fuse field IKD (256 bits, none while blank); R571 (17); reset fuse, DESIGN CHOICE blank (entry 5). -/
  ikd : Option W256
  /-- Fuse field SV, steps burned (8 bits); R571, R583 (17); reset fuse, DESIGN CHOICE 0 (entry 5). -/
  sv : Nat
  /-- Security-version step burn wanted up to (8 bits, none); R572 (17); reset none. -/
  svTarget : Option Nat
  /-- Fuse field DEVID (64 bits); R571, R584 (17); reset fuse, DESIGN CHOICE 0 (entry 5). -/
  devid : W64
  /-- Fuse field RPR (2,048 bits, as record words); R571, R565 (17); reset fuse, DESIGN CHOICE none (entry 5). -/
  rpr : List Word
  /-- CRT.FCMD status (2 bits); R583 (17); reset 0 idle. -/
  fcmd : CmdStatus
  /-- CRT.WOSC.FREQ (16 bits); R584 (17); reset 0. -/
  wosc : Nat
  /-- Oscillation amplitude detected in this attempt (1 bit); R549 (17); reset 0. -/
  amp : Bool
  /-- Clock in ns at which that amplitude was detected (unbounded); R550 (17); reset 0. -/
  ampAt : Nat
  /-- A validation attempt is running (1 bit); R549, R550 (17); reset 0. -/
  attempt : Bool
  /-- Clock in ns at which the last validation attempt started (unbounded); R550 (17); reset 0. -/
  attemptAt : Nat
  /-- Good validation windows in a row (11 bits), and the count of the last window; R548 (17); reset 0, none. -/
  winGood : Nat
  winLast : Option Nat
  /-- Validation attempts failed since the reference was lost (8 bits, saturating); R573 (17); reset 0. -/
  fails : Nat
  /-- The root clock is stopped by a clock-loss SAFE (1 bit); R555 (17); reset 0. -/
  rootLost : Bool
  deriving DecidableEq, Repr

/-- Sessions and paths (SUP). -/
structure Sup where
  /-- Session copies of GLB.SESSCMD to GLB.TOKHI (list; 0 is MAP); R594, R613, R614 (18_maintenance_registers.md); reset MAP's copy at 0, TCNT 1. -/
  sessions : List Session
  /-- Lock-outs of the paths MAP, port 0, port 1; R596 (18); reset no failure, not locked. -/
  paths : Tab PathLock
  /-- Challenges drawn so far (unbounded): index of the random source, the MODEL's own field; R596 (18), entry 6; reset DESIGN CHOICE 0 (entry 6). -/
  drawn : Nat
  /-- Next FMP session number (16 bits), the MODEL's own; R596 (18), entry 17; reset DESIGN CHOICE 1 (entry 17). -/
  nextSess : Nat
  /-- Level keys K_1 to K_3 unwrapped from the image (256 bits each, by level); R595 (18); reset none (K_R serves). -/
  keys : Tab W256
  deriving DecidableEq, Repr

/-- TAE: time and angle. -/
structure Tae where
  /-- TAE.STAT.TIMEV (1 bit); R82 (02_time_angle_cycle.md); reset 0. -/
  timev : Bool
  /-- Clock in ns of the last rise of TIMEV (unbounded); R493 (15_update_handover_online.md); reset 0. -/
  timevAt : Nat
  /-- TAE.STAT.ANGV (1 bit); R82 (02); reset 0. -/
  angv : Bool
  /-- TAE.STAT.WALLV (1 bit); R82 (02); reset 0. -/
  wallv : Bool
  /-- TAE.STAT.SRCACT (1 bit); R82 (02); reset 0. -/
  srcact : Bool
  /-- TAE.STAT.SLEW (1 bit); R82 (02); reset 0. -/
  slew : Bool
  /-- TAE.STAT.LOSS (8 bits); R82 (02); reset 0. -/
  loss : Nat
  /-- TAE.EVT (6 bits); R83 (02); reset 0. -/
  evt : BitVec 6
  /-- Cluster or provisional time minus the lane's clock, in ns (none while the lane has no time); R51, R52 (02); reset none. -/
  ctOff : Option Int
  /-- The rate correction as TAE applies it (ppb), the clock in ns since which it does, and the fraction of a ns (10^-9 ns) that cluster time had then; R383, R51 (11_lane_bus_start_sync.md, 02); reset 0. -/
  ctRate : Int
  ctFrom : Nat
  ctFrac : Nat
  /-- Offset corrections being spread: clock in ns at which the 100 µs begin, and the ns to retard by (list); R383 (11); reset none. -/
  ctSlew : List (Nat × Int)
  /-- Cluster time at which no time is held reads as this (64 bits: CTLO, CTHI); R84 (02); reset 0. -/
  ctHeld : Nat
  /-- TAE.CTHI latch (32 bits); R84 (02); reset 0. -/
  cthi : Word
  /-- WOFF (48 bits, signed); R86 (02); reset 0. -/
  woff : Int
  /-- TAE.WSETLO (32 bits); R87 (02); reset 0. -/
  wsetlo : Word
  /-- TAE.WSETHI status (3 bits); R87 (02); reset 0 idle. -/
  wset : CmdStatus
  /-- Wall-time sets waiting for their T0 (list); R56 (02); reset none. -/
  wpend : List PendingWall
  /-- TAE.CYCNUM (32 bits); R89 (02); reset 0. -/
  cycnum : Nat
  /-- TAE.PHASE (4 bits); R89 (02); reset 0. -/
  phase : Nat
  /-- Own angle at the instant angAt (32 bits); R58, R85 (02); reset 0. -/
  angle : Nat
  angAt : Nat
  /-- Measured frequency in mHz (32 bits); R85 (02); reset 0. -/
  freq : Nat
  /-- Frequency in mHz at which the own angle runs: nominal until the first lock, then the last valid one (32 bits); R60, R61 (02); reset 0. -/
  runFreq : Nat
  /-- The angle loop runs: LOAD has ended (1 bit); R60 (02); reset 0. -/
  loopOn : Bool
  /-- Crossings of channels 0 and 1 (up to 4 instants each, with the polarity of the last), good crossings in a row, missing crossings, half cycles out of the window; R58 to R61 (02); reset none and 0. -/
  lastX : Tab Crossings
  goodX : Tab Nat
  missX : Nat
  outWin : Nat
  /-- Phase difference at angAt that the angle still has to gain, at 5 % of its frequency (32 bits, signed); R61 (02); reset 0. -/
  slewLeft : Int
  /-- Clock in ns at which each angle slot, each time slot fired last (tabs); R66, R67, R69 (02); reset none. -/
  aFired : Tab Nat
  tFired : Tab Nat
  /-- The last slot firing as its target had it: action, target, "angle invalid" flag (none); R66, R68 (02); reset none. -/
  delivered : Option (Nat × Nat × Bool)
  /-- TAE.SAMANG, TAE.SAMFRQ: set-angle model in force (32 bits each), with the T0 it counts from in ns; R64, R90 (02); reset 0. -/
  samAng : Nat
  samFrq : Nat
  samT0 : Nat
  /-- A model was adopted since the lane last entered PROVE (1 bit); R64 (02); reset 0. -/
  samSet : Bool
  /-- Old value that θ_set holds under d < 0 (32 bits, none); R64 (02); reset none. -/
  samHold : Option Nat
  deriving DecidableEq, Repr

/-- LGE: the logic engine and the state image. -/
structure Lge where
  /-- Replica 0 of the state image (260 KiB); R102 (03_logic_engine.md); reset DESIGN CHOICE every cell 0 with Q = 0 (entry 3). -/
  rep0 : Replica
  /-- Replica 1 of the state image (260 KiB); R102 (03); reset DESIGN CHOICE every cell 0 with Q = 0 (entry 3). -/
  rep1 : Replica
  /-- Store buffer, half 0 (1,536 entries); R102, R109 (03); reset empty. -/
  buf0 : List StoreEntry
  /-- Store buffer, half 1 (1,536 entries); R102, R128 (03); reset empty. -/
  buf1 : List StoreEntry
  /-- Rung context of half 0 (accumulator, 16-deep block stack, prefix); R108, R152 (03, 04); reset undefined, empty. -/
  rung0 : Rung
  /-- Rung context of half 1 in the split; R128 (03); reset undefined, empty. -/
  rung1 : Rung
  /-- LGE.POS.PC, program address of the next instruction (20 bits); R140 (03); reset 0. -/
  pc : Nat
  /-- LGE.STAT.REGION, region executing (9 bits); R135 (03); reset 0. -/
  region : Nat
  /-- LGE.STAT.SCAN (1 bit); R135 (03); reset 0. -/
  scan : Bool
  /-- A region's drain is due: FENCE (false) or END (true) closed it; R118 (03); reset none. -/
  drain : Option Bool
  /-- LGE.STAT.SPLIT (1 bit); R135 (03); reset 0. -/
  split : Bool
  /-- Split entry or exit wanted at the next T_IA (none); R128, R192 (03, 05); reset none. -/
  splitWant : Option Bool
  /-- LGE.CTRL.BRKEN (1 bit); R134 (03); reset 0. -/
  brken : Bool
  /-- LGE.EVT (10 bits); R136 (03); reset 0. -/
  evt : BitVec 10
  /-- LGE.SCANT.SCANLAST, SCANMAX (16 bits each, 10 ns units), with the start of the scan in ns; R138 (03); reset 0. -/
  scanLast : Nat
  scanMax : Nat
  scanAt : Nat
  /-- LGE.STEP status and the step running (4 bits); R139 (03); reset 0 idle. -/
  step : CmdStatus
  stepKind : Option StepKind
  /-- LGE.POS at which the step running began (20 bits); R125 (03); reset 0. -/
  stepPc : Nat
  /-- LGE.BRK.BREG (9 bits); R140 (03); reset 0. -/
  breg : Nat
  /-- LGE.CSEL.ADDR (20 bits); R141 (03); reset 0. -/
  csel : Nat
  /-- LGE.ODIG, output digest of the last scan (64 bits); R142 (03); reset 0. -/
  odig : W64
  /-- Output image of the last scan, and whether the candidate stands complete this cycle; R121 (03); reset none, 0. -/
  oimg : List Bool
  candidate : Bool
  /-- The scan of this cycle was aborted (1 bit); R131, R154 (03, 04); reset 0. -/
  aborted : Bool
  /-- Digests of the cells stored by each half in a split scan; R130 (03); reset none. -/
  stored0 : Tab Cell
  stored1 : Tab Cell
  /-- LGE.ECCCNT.PCORR, SCORR (16 bits each); R143 (03); reset 0. -/
  pcorr : Nat
  scorr : Nat
  /-- A scrub and March test of a memory bank is due (1 bit); R131 (03); reset 0. -/
  marchDue : Bool
  deriving DecidableEq, Repr

/-- GRD: the Guardian. -/
structure Grd where
  /-- GRD.STAT.GMODE (3 bits); R198 (05_guardian.md); reset 0b000. -/
  gmode : GMode
  /-- Candidate guard image (16,384 cells of V and Q, none while not loaded; CANDLD); R170, R178, R198 (05); reset none. -/
  cand : Option GuardImage
  /-- Candidate evaluated: the check passed (1 bit; CHKOK); R198 (05); reset 0. -/
  chkok : Bool
  /-- Committed guard image (16,384 cells); R179 (05); reset every cell V = 0, Q = 0. -/
  comm : GuardImage
  /-- The committed image was formed from a candidate (1 bit; the re-gather check is made); R179, R186 (05); reset 0. -/
  commFrom : Bool
  /-- T_commit at which each guarded output was last found active before, in ns (tab); R181 (05); reset none. -/
  wasActive : Tab Nat
  /-- GRD.STAT.VETO (1 bit); R198 (05); reset 0. -/
  veto : Bool
  /-- The veto input of the SAFE latch is masked (1 bit); R191, R563 (05, 17); reset 0. -/
  masked : Bool
  /-- The stall counter is armed (1 bit); R184 (05); reset 0. -/
  armed : Bool
  /-- GRD.EVT (11 bits); R199 (05); reset 0. -/
  evt : BitVec 11
  /-- GRD.VDET0, GRD.VDET1 (32 bits each); R200 (05); reset 0. -/
  vdet0 : Word
  vdet1 : Word
  /-- GRD.VCNT (16 bits); R201 (05); reset 0. -/
  vcnt : Nat
  /-- GRD.PASSCNT (32 bits); R201 (05); reset 0. -/
  passcnt : Nat
  /-- GRD.TCRCLO, TCRCHI (64 bits); R202 (05); reset 0. -/
  tcrc : W64
  /-- Clock in ns at which the next periodic table CRC computation starts (unbounded); R186 (05); reset 0. -/
  crcAt : Nat
  /-- Clock in ns of the last pass decision, or of the arming of the stall counter (unbounded); R184 (05); reset 0. -/
  decAt : Nat
  /-- GRD.ECCCNT.TCORR, GCORR (16 bits each); R203 (05); reset 0. -/
  tcorr : Nat
  gcorr : Nat
  /-- GRD.FBCMD status (2 bits); R204 (05); reset 0 idle. -/
  fbcmd : CmdStatus
  /-- Row of R194 that takes the lane out of fall-back before the next T_commit (none); R194 (05); reset none. -/
  fbExit : Option Nat
  deriving DecidableEq, Repr

/-- VIO: vital I/O. -/
structure Vio where
  /-- Vital inputs 0 to 63 (filter, pattern and proving state); R206, R211, R215 (06_vital_io.md); reset filtered 0, CHECK, UNPROVEN. -/
  vin : Tab VinState
  /-- VIO.STAT.TPOACT: the frame sequence runs (1 bit); R230, R207 (06); reset 0. -/
  tpoAct : Bool
  /-- Frame number of the running frame (t_F / T_P); R207 (06); reset 0. -/
  frame : Nat
  /-- First frame of the running frame sequence (t_F / T_P); R206, R207 (06); reset 0. -/
  seqFrom : Nat
  /-- VIO.STAT.TPOF (4 bits), and lines with a fault in the current frame; R230, R212 (06); reset 0. -/
  tpof : BitVec 4
  tpofNow : BitVec 4
  /-- Dynamic outputs 0 to 31 with monitors and lockout latches; R217 to R224 (06); reset command 0, DROPPED, latch 0. -/
  vout : Tab VoutState
  /-- VIO.VFBLV, filtered feedback levels (32 bits); R233, R220 (06); reset 0. -/
  vfb : Word
  /-- Clock in ns from which the feedback filters run (unbounded); R220 (06); reset 0. -/
  vfbFrom : Nat
  /-- VIO.EVT (7 bits); R231 (06); reset 0. -/
  evt : BitVec 7
  /-- VIO.LOCKACK status (2 bits); R234 (06); reset 0 idle. -/
  lockack : CmdStatus
  /-- Lockout acknowledgements waiting for their T0; R225 (06); reset none. -/
  acks : List PendingAck
  deriving DecidableEq, Repr

/-- LMP: lamp control and proving. -/
structure Lmp where
  /-- Lamp channels 0 to 31; R244, R246, R266, R297 (07, 08); reset dark, not driven, nothing proven. -/
  lamp : Tab LampState
  /-- Aspect groups 0 to 15; R242, R248, R271 (07_lamp_control.md); reset dark head, no sequence, no latch. -/
  group : Tab AspectState
  /-- LMP.STAT.ISO, isolation latches (8 bits); R264, R258 (07); reset 0. -/
  iso : BitVec 8
  /-- Feed groups whose latch is cleared but whose FEEDOUT stays de-energised until T_commit (8 bits); R259 (07); reset 0. -/
  isoHold : BitVec 8
  /-- LMP.EVT (6 bits); R265 (07); reset 0. -/
  evt : BitVec 6
  /-- LMP.PEVT (7 bits); R294 (08_lamp_proving.md); reset 0. -/
  pevt : BitVec 7
  /-- LMP.ISOACK status (2 bits); R267 (07); reset 0 idle. -/
  isoack : CmdStatus
  /-- Isolation acknowledgements waiting for their T0; R259 (07); reset none. -/
  acks : List PendingAck
  /-- LMP.LRN status (3 bits) and the learn running; R295 (08); reset 0 idle, none. -/
  lrn : CmdStatus
  learn : Option LearnRun
  /-- LMP.LRNDATi: smallest and largest s of point i (12 bits each, with VALID); R298 (08); reset 0. -/
  lrndat : Tab (Int × Int)
  /-- Suspension by the angle in force, with its cause 1 or 2 (none); R289, R292 (08); reset none. -/
  angSusp : Option Nat
  deriving DecidableEq, Repr

/-- MEA: measurement array. -/
structure Mea where
  /-- Channels 0 to 47 and stand-ins 48, 49; R300, R331 (09_measurement.md); reset OFF 0, GAIN 0x40_0000, Q 0. -/
  chan : Tab MeaState
  /-- MEA.REFSTAT.BUFON, RDY, MONOK (1 bit each); R323 (09); reset 0. -/
  bufon : Bool
  rdy : Bool
  monok : Bool
  /-- Clock in ns from which the monitor has been in tolerance (unbounded): the buffer enable t_B, or the last loss; R302, R303 (09); reset 0. -/
  refFrom : Nat
  /-- MEA.REFSTAT.REFLOSS (8 bits); R323 (09); reset 0. -/
  refloss : Nat
  /-- The start calibration has ended (1 bit); R318 (09); reset 0. -/
  calDone : Bool
  /-- The decimators are on the grid of cluster time (1 bit; MEA.STAT.ALIGNED is this while TIMEV = 1); R325, R304, R305 (09); reset 0. -/
  aligned : Bool
  /-- Channels whose decimator is off the grid (list); R305 (09); reset none. -/
  offGrid : List Nat
  /-- MEA.STAT.CALSTALE (1 bit); R325 (09); reset 0. -/
  calstale : Bool
  /-- MEA.EVT (8 bits); R324 (09); reset 0. -/
  evt : BitVec 8
  /-- Stand-ins 0 and 1 (MEA.STAT.SI0PH, SI0CH, SI1PH, SI1CH); R325 (09); reset idle, channel 0. -/
  si0 : StandIn
  si1 : StandIn
  /-- MEA.CALCMD status (3 bits) and channel waiting; R327, R319 (09); reset 0 idle, none. -/
  calcmd : CmdStatus
  calWait : Option Nat
  /-- Channels that a rotation takes next after a parallel-match failure, with the stand-in that failed (list); R316 (09); reset none. -/
  retry : List (Nat × Nat)
  /-- Last channel taken by a rotation (6 bits); R315 (09); reset 47 (so that channel 0 is the next in cyclic order; DESIGN CHOICE, entry 18). -/
  lastRot : Nat
  /-- MEA.SNAPn (16 bits and quality); R328 (09); reset 0. -/
  snap : Tab (Int × Bool)
  deriving DecidableEq, Repr

/-- LNB: lane bus. -/
structure Lnb where
  /-- LNB.SSTAT.BSTATE (4 bits); R391, R365 (11_lane_bus_start_sync.md); reset 0x0 CONFIG. -/
  bstate : BState
  /-- What is kept of nodes 0 to 7; R358, R350, R391 (10, 11); reset nothing received. -/
  node : Tab NodeView
  /-- Basic cycle number m, provisional in LEAD and FOLLOW (48 bits); R53, R337 (02, 10); reset 0. -/
  m : Nat
  /-- LNB.EVT (12 bits); R359 (10_lane_bus.md); reset 0. -/
  evt : BitVec 12
  /-- LNB.SEVT (9 bits); R394 (11); reset 0. -/
  sevt : BitVec 9
  /-- LNB.CNTX, CNTY, CNTC: FAIL and BNDV of X, of Y, GCUT and CMPF (16 bits each); R360 (10); reset 0. -/
  failX : Nat
  bndX : Nat
  failY : Nat
  bndY : Nat
  gcut : Nat
  cmpf : Nat
  /-- LNB.SSTAT.ATT (8 bits); R391 (11); reset 0. -/
  att : Nat
  /-- LNB.SSTAT.LEADER (3 bits); R391 (11); reset 0. -/
  leader : Nat
  /-- LNB.SSTAT.RREF, RREFV, RECADM (3, 1, 1 bits); R391, R388 (11); reset 0. -/
  rref : Option Nat
  recadm : Bool
  /-- Basic cycles in a row with the same rate reference, another node; the reference whose clock was admitted last; R388, R389 (11); reset 0. -/
  recRun : Nat
  recRef : Nat
  /-- LNB.CORR.OFFS, OFFMAX (16 and 8 bits); R393 (11); reset 0. -/
  offs : Int
  offmax : Nat
  /-- LNB.RATE.RHO (32 bits, signed); R393 (11); reset 0. -/
  rho : Int
  /-- LNB.SCNT.DEMCNT, COLLCNT (16 bits each); R395 (11); reset 0. -/
  demcnt : Nat
  collcnt : Nat
  /-- Length in ns of the listen timeout in force; R370 (11); reset 0. -/
  listenLen : Nat
  /-- Start of the listen timeout or of the wait, or t_s of the own cold-start frame, in ns of the lane's clock; R370, R372, R378 (11); reset 0. -/
  listenAt : Nat
  /-- Deviations collected in the current basic cycle (list); R381 (11); reset none. -/
  devs : List Int
  /-- The correction of the current basic cycle was computed, and its value; R382 (11); reset none. -/
  corrNow : Option Int
  /-- Cycles in a row with the precision condition, with |c| > 32 ns, with boundary violations of R386, good ones of R379 and R387, without SYNC; R379, R384 to R387 (11); reset 0. -/
  precise : Nat
  coarse : Nat
  bndRun : Nat
  goodRun : Nat
  noSync : Nat
  /-- Follower: cycles in a row with the leader's SYNC at |c| ≤ 32 ns, and without it; sending SYNC; R375, R378 (11); reset 0. -/
  folGood : Nat
  folMiss : Nat
  folSend : Bool
  /-- Own SYNC frame sent in the current, the last provisional cycle; R376 (11); reset 0. -/
  ownSyncNow : Bool
  ownSyncLast : Bool
  /-- Status-frame entries waiting to be sent (list); R351 (10); reset none. -/
  entries : List Entry
  /-- Drivers kept disabled by a guardian time mismatch (1 bit); R348 (10); reset 0. -/
  guardOff : Bool
  /-- Window whose rest is skipped (ARBLOST), by number, none; R344 (10); reset none. -/
  arbSkip : Option Nat
  /-- Window of the last round computed, its basic cycle, and the start of its next round in ns after the slot start (none before a round has ended); R343, R344 (10); reset none. -/
  arb : Option (Nat × Nat × Nat)
  /-- Window, basic cycle and start of the round in which this node has sent last, 0 in an exclusive window; R341, R343 (10); reset none. -/
  arbTx : Option (Nat × Nat × Nat)
  /-- Frames pending for arbitrating windows, each with the clock in ns at which it was complete (list); R342, R345 (10); reset none. -/
  pendTx : List PendFrame
  /-- Clock in ns at which the own input image, the last input frame received, and the own output image were complete; R342, R343 (10); reset 0. -/
  inReady : Nat
  rxInAt : Nat
  outReady : Nat
  /-- FIDs of uses 0x1, 0x2 and 0x4 sent in this logic cycle (list); R345, R352 (10); reset none. -/
  sentNow : List Nat
  /-- Mirror stream received, the node it came from, the logic cycle it belongs to, digests received as node, cycle mod 2^24, digest (list); R44, R354 (01, 10); reset none. -/
  mirRx : List Word
  mirFrom : Nat
  mirCyc : Nat
  mirDig : List (Nat × Nat × W64)
  /-- Own mirror digest that waits for the status frame after the last mirror window: cycle and digest; R354 (10); reset none. -/
  mirOwn : Option (Nat × W64)
  /-- Values of the mirrored cells at the last mirror stream formed, the refresh slices deferred (list, 6 bits each), the differences left over; R44, R46 (01); reset none. -/
  mirLast : Tab Cell
  mirDefer : List Nat
  mirBacklog : List Word
  /-- State transfer received, digests for this node by sender (list); R31 (01); reset none. -/
  xferRx : List Word
  xferDig : List (Nat × W64)
  /-- Nodes that asked for a state transfer (list); R31 (01); reset none. -/
  xferFor : List Nat
  /-- Telegrams fetched in this logic cycle, and parts of replies: CONN, SEQ, bytes so far (list); R78, R353 (02, 10); reset none. -/
  fetched : List Telegram
  fetchPart : List (Nat × Nat × List Byte)
  /-- Confirmation entries accepted: nodes (list); R501 (15); reset none. -/
  confirmed : List Nat
  deriving DecidableEq, Repr

/-- FLD: field network. -/
structure Fld where
  /-- Ports 0 and 1 (FLD.STAT, FLD.PCNTp); R421, R424 (12_field_safety_layer.md); reset link down, counts 0. -/
  port : Tab PortState
  /-- FLD.EVT (10 bits); R422 (12); reset 0. -/
  evt : BitVec 10
  /-- Connections by index (FLD.CSTc and engine data); R409, R426 (12); reset CLOSED, counts 0. -/
  conn : Tab ConnState
  /-- Connection keys unwrapped into the key memory (128 bits each, by index); R403 (12); reset none. -/
  keys : Tab (BitVec 128)
  /-- Accepted telegrams held for capture, and captured telegrams; R72, R77 (02); reset none. -/
  held : List HeldTelegram
  captured : List HeldTelegram
  /-- Telegrams agreed in this cycle; R76 (02); reset none. -/
  agreed : List Telegram
  /-- PHYRST0_N and PHYRST1_N released (1 bit); R397, R471 (12, 14); reset 0. -/
  phyOut : Bool
  deriving DecidableEq, Repr

/-- CAB: cabinet bus. -/
structure Cab where
  /-- Controllers 0 and 1 (CAB.CSTATc, TOFFc); R448 (13_cabinet_bus.md); reset ESTATE 0b11, counters 0. -/
  ctl : Tab CanCtl
  /-- CAB.EVT (9 bits); R446 (13); reset 0. -/
  evt : BitVec 9
  /-- CAB.TXHDR0, TXHDR1 (32 bits each), TXDATA0 to 15 (32 bits each); R449 (13); reset 0. -/
  txhdr0 : Word
  txhdr1 : Word
  txdata : Tab Word
  /-- CAB.TXPOST REFUSED and ENTRY (1 and 5 bits); R447 (13); reset 0. -/
  postRef : Bool
  postEntry : Nat
  /-- CAB.TXCNCL answer (3 bits); R447 (13); reset 0 idle. -/
  cancelAns : Nat
  /-- Transmit queue, 32 entries (CAB.TXSTe); R438, R450 (13); reset free. -/
  txq : Tab TxEntry
  txOrder : Nat
  /-- Receive queue, 64 entries, oldest first (CAB.RXHDR0 to RXDATA15, RXSTAT.COUNT); R442, R447 (13); reset empty. -/
  rxq : List RxEntry
  /-- CAB.RXSTAT.OVF (16 bits), clock of the last overflow record in ns, drops since; R442, R445 (13); reset 0. -/
  ovf : Nat
  ovfAt : Option Nat
  ovfSince : Nat
  /-- Map entries 0 to 63; R435, R436 (13); reset no payload. -/
  map : Tab MapState
  deriving DecidableEq, Repr

/-- REC: event recorder. -/
structure Rec where
  /-- Buffer of unflushed records, oldest first (8,192 records); R520 (16_event_recorder.md); reset empty. -/
  buf : List Record
  /-- Pages of the recorder memory, oldest first (4 KiB each); R522, R523 (16); kept over resets; reset DESIGN CHOICE none written (entry 5). -/
  pages : List Page
  /-- Control-area copies A and B; R524 (16); kept over resets; reset DESIGN CHOICE invalid (entry 5). -/
  ctlA : CtlCopy
  ctlB : CtlCopy
  /-- REC.STAT.MSIZE (6 bits); R537 (16); reset 0. -/
  msize : Nat
  /-- REC accepts records: the end of CLOCK has passed (1 bit); R520 (16); reset 0. -/
  accepting : Bool
  /-- REC.SEQNEXT (32 bits); R539 (16); reset control area, 0 with none. -/
  seqNext : Nat
  /-- WEPOCH (8 bits); R524, R527 (16); reset control area, 0 with none. -/
  wepoch : Nat
  /-- REC.LOSTCNT (32 bits); R539 (16); reset 0. -/
  lostcnt : Nat
  /-- Drops not yet reported, by cause: count and highest severity; R528 (16); reset none. -/
  drops : Tab (Nat × Nat)
  /-- REC.EVT (6 bits); R538 (16); reset 0. -/
  evt : BitVec 6
  /-- REC.STAT.FLUSH (1 bit): a flush is due or runs; R520, R537 (16); reset 0. -/
  flush : Bool
  /-- REC.STAT.FROZEN (1 bit), the SEQ of the first record held, records held; R529, R537 (16); reset 0. -/
  frozen : Bool
  frzFirst : Nat
  /-- REC.FRZ status (3 bits), the freeze waits for its flush, its session; R541, R529 (16); reset 0 idle. -/
  frz : CmdStatus
  frzWait : Bool
  frzSess : Nat
  /-- Clock in ns at which the freeze started (unbounded); R531 (16); reset 0. -/
  frzAt : Nat
  /-- Legacy cursor: SEQ from which the next record is returned (32 bits); R532 (16); reset 0 (the oldest record held). -/
  legCur : Nat
  /-- The legacy cursor stands beyond the last record held (1 bit); R532 (16); reset 1 (a read then takes the oldest). -/
  legEnd : Bool
  /-- REC.LEG_LO latch (32 bits); R533, R542 (16); reset 0. -/
  legLo : Word
  /-- REC.LEGKEY.STAT (2 bits) and the session of the first key; R534, R542 (16); reset 0 idle. -/
  legStat : Nat
  legSess : Option Nat
  /-- Clock in ns of the first key (unbounded); R534 (16); reset 0. -/
  legAt : Nat
  /-- After the fall of PFAIL_N the control area is updated and no record is accepted (1 bit); R521 (16); reset 0. -/
  closed : Bool
  /-- Records whose writing waits for a valid root clock: severity, SRC, CODE, DATA (list); R554, R555 (17_clocks_reset_selftest.md); reset none. -/
  late : List (Nat × Nat × Nat × List Nat)
  deriving DecidableEq, Repr

/-- UPD: updates, on-line changes, forces; the NOR slots. -/
structure Upd where
  /-- Slots 0 and 1 in NOR A and NOR B (external flash); R459, R460, R490 (14, 15); kept over resets; reset DESIGN CHOICE erased (entry 5). -/
  slot0 : Slot
  slot1 : Slot
  /-- UPD.STAT.RUNSLOT (1 bit, none before slot selection); R511 (15_update_handover_online.md); reset 0. -/
  runSlot : Option Bool
  /-- The loaded slot was in SHADOW, TRIAL at selection (2 bits); R462, R492, R501 (14, 15); reset 0. -/
  fromShadow : Bool
  fromTrial : Bool
  /-- Block 0 last read, and blocks that passed, failed in A, failed in B during LOAD; R468 (14); reset none. -/
  hdr : Option Header
  blocksOk : List Nat
  badA : List Nat
  badB : List Nat
  /-- UPD.CMD status (3 bits), and operation running; R510 (15); reset 0 idle, none. -/
  cmd : CmdStatus
  op : Option UpdOp
  /-- Update lock: holding session (none); R482, R511 (15); reset none. -/
  lock : Option Nat
  /-- Pending image write (none); R483 (15); reset none. -/
  write : Option ImageWrite
  /-- UPD.BLK (8 bits), data pointer of UPD.BDATA (17 bits), staged bytes as words; R513 (15); reset 0. -/
  blk : Nat
  ptr : Nat
  staged : Tab Word
  /-- UPD.EVT (6 bits); R512 (15); reset 0. -/
  evt : BitVec 6
  /-- UPD.STAT.CONF (1 bit), end of the confirmation period in cluster ns (none where CONFREM reads 0xFFFF); R501, R511, R514 (15); reset 0. -/
  conf : Bool
  confEnd : Option Nat
  /-- This lane is of the new holding set in its confirmation period (1 bit); R501 (15); reset 0. -/
  confNew : Bool
  /-- UPD.OLSYM, OLVAL, OLCYC (32 bits each); R515 (15); reset 0. -/
  olsym : Word
  olval : Word
  olcyc : Word
  /-- On-line changes pending (16); R504 (15); reset none. -/
  online : List OnlineChange
  /-- UPD.FADDR (20 bits), FVAL (32 bits); R516 (15); reset 0. -/
  faddr : Nat
  fval : Word
  /-- Forces held: cell and value (32); R506 (15); reset none. -/
  forces : Tab Word
  /-- Cells whose release waits for the next T0 (list); R507 (15); reset none. -/
  unforce : List Nat
  /-- Rewrite unmapped timers and edges at the next T_IA for the last time (1 bit); R498 (15); reset 0. -/
  lastRewrite : Bool
  deriving DecidableEq, Repr

/-- The agreed input image of the current logic cycle, and this lane's capture. -/
structure Inputs where
  /-- This lane's capture: cells as captured at T0 with own quality (tab); R72 (02_time_angle_cycle.md); reset none. -/
  own : Tab Cell
  /-- Agreed cells of the current cycle (tab); R73, R74 (02); reset none. -/
  agreed : Tab Cell
  /-- T0 of the current logic cycle in ns of cluster time (64 bits); R53, R72 (02); reset 0. -/
  t0 : Nat
  deriving DecidableEq, Repr

/-- The state of the lane. -/
structure State where
  pins : Pins
  lane : Lane
  crt : Crt
  sup : Sup
  tae : Tae
  lge : Lge
  grd : Grd
  vio : Vio
  lmp : Lmp
  mea : Mea
  lnb : Lnb
  fld : Fld
  cab : Cab
  rcd : Rec
  upd : Upd
  inp : Inputs
  /-- The station image content loaded in LOAD: every CFG register, the program, the tables (none before LOAD ends); R470 (14_start_and_configuration.md); reset none. -/
  img : Option Station
  /-- Commands that wait, first in, first out. -/
  pending : List Instr
  deriving DecidableEq, Repr

/-! ### Reset values -/

/-- A rung context at the start of a rung (R108, R152). -/
def Rung.empty : Rung := { acc := none, stack := [], prefixKH := none }

def Replica.reset : Replica := { base := .powerOn, cells := [] }

def StandIn.reset : StandIn :=
  { phase := .idle, chan := 0, switchDue := false, back := false, backCause := none, repeated := false, newOff := 0,
    newGain := 0x400000, startAt := none, phaseAt := 0, releasedAt := 0, commanded := false, leaving := false }

/-- A slot record with every bit erased (R460). -/
def SlotRec.erased : SlotRec :=
  { state := 0xFFFFFFFF, gen := 0xFFFFFFFF, nblk := 0xFFFFFFFF, imgd := BitVec.allOnes 256 }

def Slot.erased : Slot := { recA := SlotRec.erased, recB := SlotRec.erased, log := [], schema := 0 }

def CtlCopy.invalid : CtlCopy := { valid := false, flushes := 0, nextSeq := 0, wepoch := 0 }

/-- A session copy before any exchange (R613, R614). -/
def Session.fresh (num : Nat) (src : Option Peer) : Session :=
  { num := num, src := src, st := .none, scmd := 0, reqLevel := 0, level := 0, chal := 0, tcnt := 1, respLo := 0, tokLo := 0,
    tok := none, chalAt := 0, lastAt := 0, ks := 0, seq := 0, cached := [], cursor := none, curStat := 0, cseq := 0, win := [] }

def Pins.reset : Pins :=
  { powered := false, lowRails := [], resetN := false, pfailHigh := false, restartLvl := false, restartQual := false,
    restartAt := 0, now := 0, free := 0, sent := [] }

def Lane.reset : Lane :=
  { st := .off, sfault := 0, safeLatch := false, scause := 0, smask := 0, safeAt := 0, safeRun := false, role := .holding, pin := 0,
    eff := 0, strapAcc := false, strapTry := 0, startCause := .powerUp, attn := 0, attnSev := 4, attnEn := 1,
    ctl := .idle, ctlSw := false, window := false, windowAt := 0, holdPend := false, resumePend := false, proveFrom := none, joining := false,
    proveCnt := 0, proved := false, firstCycle := false, firstOfSet := false, restarted := false, wasHold := false,
    cons0 := false, cons1 := false, withdrawn0 := false, withdrawn1 := false, implicated := none,
    implicatedMem := false, lasting := false, planned := false, reintReq := false, computing := false,
    confirmCnt := 0, reportCnt := 0, rep0 := false, rep1 := false, commitOk := false, commitDue := none,
    driving := false, outcmp := false, inagr := false, mirr := false, refr := 0, otherHealthy := 0, ownHealthy := 0,
    holdersMissing := 0, switch := none, supHalted := false, digestDue := false, joinRefused := false }

def Crt.reset : Crt :=
  { xval := false, rval := false, rootsel := false, lock := false, align := false, timevHeld := false,
    gate := 0x1FFE, clken := 0x1FFE, closing := 0, monst := 0, evt := 0, srst := .idle, inReset := 0, srstBlk := 0, stuck := 0,
    epoch := [], bist := .idle, bistGrp := 0, bistWait := false, bistNext := 0, bistAt := 0, bistres := 0, trans := [], test := none, burnf := false,
    vfuse := false, ikd := none, sv := 0, svTarget := none, devid := 0, rpr := [], fcmd := .idle, wosc := 0,
    amp := false, ampAt := 0, attempt := false, attemptAt := 0, winGood := 0, winLast := none, fails := 0, rootLost := false }

def Sup.reset : Sup :=
  { sessions := [Session.fresh 0 none], paths := [], drawn := 0, nextSess := 1, keys := [] }

def Tae.reset : Tae :=
  { timev := false, timevAt := 0, angv := false, wallv := false, srcact := false, slew := false, loss := 0, evt := 0, ctOff := none,
    ctRate := 0, ctFrom := 0, ctFrac := 0, ctSlew := [], ctHeld := 0, cthi := 0, woff := 0, wsetlo := 0, wset := .idle, wpend := [], cycnum := 0, phase := 0, angle := 0,
    angAt := 0, freq := 0, runFreq := 0, loopOn := false, lastX := [], goodX := [], missX := 0, outWin := 0, slewLeft := 0,
    aFired := [], tFired := [], delivered := none,
    samAng := 0, samFrq := 0, samT0 := 0, samSet := false, samHold := none }

def Lge.reset : Lge :=
  { rep0 := Replica.reset, rep1 := Replica.reset, buf0 := [], buf1 := [], rung0 := Rung.empty, rung1 := Rung.empty,
    pc := 0, region := 0, scan := false, drain := none, split := false, splitWant := none,
    brken := false, evt := 0, scanLast := 0, scanMax := 0, scanAt := 0, step := .idle, stepKind := none, stepPc := 0, breg := 0,
    csel := 0, odig := 0, oimg := [], candidate := false, aborted := false, stored0 := [], stored1 := [], pcorr := 0,
    scorr := 0, marchDue := false }

def Grd.reset : Grd :=
  { gmode := .notLoaded, cand := none, chkok := false, comm := [], commFrom := false, wasActive := [], veto := false,
    masked := false, armed := false, evt := 0, vdet0 := 0, vdet1 := 0, vcnt := 0, passcnt := 0, tcrc := 0, crcAt := 0, decAt := 0, tcorr := 0,
    gcorr := 0, fbcmd := .idle, fbExit := none }

def Vio.reset : Vio :=
  { vin := [], tpoAct := false, frame := 0, seqFrom := 0, tpof := 0, tpofNow := 0, vout := [], vfb := 0, vfbFrom := 0,
    evt := 0, lockack := .idle, acks := [] }

def Lmp.reset : Lmp :=
  { lamp := [], group := [], iso := 0, isoHold := 0, evt := 0, pevt := 0, isoack := .idle, acks := [], lrn := .idle,
    learn := none, lrndat := [], angSusp := none }

def Mea.reset : Mea :=
  { chan := [], bufon := false, rdy := false, monok := false, refFrom := 0, refloss := 0, calDone := false, aligned := false,
    offGrid := [], calstale := false, evt := 0, si0 := StandIn.reset, si1 := StandIn.reset, calcmd := .idle,
    calWait := none, retry := [], lastRot := 47, snap := [] }

def Lnb.reset : Lnb :=
  { bstate := .config, node := [], m := 0, evt := 0, sevt := 0, failX := 0, bndX := 0, failY := 0, bndY := 0, gcut := 0,
    cmpf := 0, att := 0, leader := 0, rref := none, recadm := false, recRun := 0, recRef := 0, offs := 0, offmax := 0, rho := 0, demcnt := 0,
    collcnt := 0, listenLen := 0, listenAt := 0, devs := [], corrNow := none, precise := 0, coarse := 0, bndRun := 0, goodRun := 0,
    noSync := 0, folGood := 0, folMiss := 0, folSend := false, ownSyncNow := false, ownSyncLast := false, entries := [], guardOff := false, arbSkip := none, arb := none, arbTx := none, pendTx := [], inReady := 0, rxInAt := 0, outReady := 0, sentNow := [],
    mirRx := [], mirFrom := 0, mirCyc := 0,
    mirDig := [], mirOwn := none,
    mirLast := [], mirDefer := [], mirBacklog := [], xferRx := [], xferDig := [], xferFor := [], fetched := [], fetchPart := [],
    confirmed := [] }

def Fld.reset : Fld :=
  { port := [], evt := 0, conn := [], keys := [], held := [], captured := [], agreed := [], phyOut := false }

def Cab.reset : Cab :=
  { ctl := [], evt := 0, txhdr0 := 0, txhdr1 := 0, txdata := [], postRef := false, postEntry := 0, cancelAns := 0,
    txq := [], txOrder := 0, rxq := [], ovf := 0, ovfAt := none, ovfSince := 0, map := [] }

def Rec.reset : Rec :=
  { buf := [], pages := [], ctlA := CtlCopy.invalid, ctlB := CtlCopy.invalid, msize := 0, accepting := false,
    seqNext := 0, wepoch := 0, lostcnt := 0, drops := [], evt := 0, flush := false, frozen := false, frzFirst := 0,
    frz := .idle, frzWait := false, frzSess := 0, frzAt := 0, legCur := 0, legEnd := true, legLo := 0, legStat := 0, legSess := none, legAt := 0,
    closed := false, late := [] }

def Upd.reset : Upd :=
  { slot0 := Slot.erased, slot1 := Slot.erased, runSlot := none, fromShadow := false, fromTrial := false, hdr := none,
    blocksOk := [], badA := [], badB := [], cmd := .idle, op := none, lock := none, write := none, blk := 0, ptr := 0,
    staged := [], evt := 0, conf := false, confEnd := none, confNew := false, olsym := 0, olval := 0, olcyc := 0,
    online := [], faddr := 0, fval := 0, forces := [], unforce := [], lastRewrite := false }

def Inputs.reset : Inputs := { own := [], agreed := [], t0 := 0 }

/-- The machine right after reset: no supply yet (OFF), every register at its reset value, the queue empty. -/
def State.reset : State :=
  { pins := Pins.reset, lane := Lane.reset, crt := Crt.reset, sup := Sup.reset, tae := Tae.reset, lge := Lge.reset,
    grd := Grd.reset, vio := Vio.reset, lmp := Lmp.reset, mea := Mea.reset, lnb := Lnb.reset, fld := Fld.reset,
    cab := Cab.reset, rcd := Rec.reset, upd := Upd.reset, inp := Inputs.reset, img := none, pending := [] }

/-! ### Stops -/

/-- Why a step can stop with a fault. No rule of the spec stops the block: every event and command has an effect, if
only to change nothing. The one constructor is for a command that no sender can form. -/
inductive Fault where
  /-- Raised by an arm whose command's operand breaks Instr.wellFormed (a flash block that is not 64 KiB, more record
  data than 8 bytes). Safe: no sender can send such a command. -/
  | illFormed
  deriving DecidableEq, Repr

/-- Why a step can be refused. -/
inductive Refusal where
  /-- Raised by an arm of Dispatch for a command that the model does not give its meaning yet. Safe: nothing runs. -/
  | notModelled (mnemonic : String)
  deriving DecidableEq, Repr

end Sys2Proof.Machine
end

