-- ==== Sys2Proof/Machine/Operands.lean ====
section
/-! DEFINITION. What the commands read: tables in canonical form, bit fields, the CFG registers that the station image
loads, the straps, the identity of the lane, and the times. Nothing here changes the state. -/

namespace Sys2Proof.Machine

/-! ### Tables -/

/-- The entry of a table at `k`; an unlisted key reads as `d`. -/
def tabGet {α : Type} (d : α) (k : Nat) : Tab α → α
  | [] => d
  | (j, v) :: t => if k = j then v else tabGet d k t

/-- A table with `v` at `k`. Writing what an unlisted key reads as removes the entry. -/
def tabSet {α : Type} [DecidableEq α] (d : α) (k : Nat) (v : α) : Tab α → Tab α
  | [] => if v = d then [] else [(k, v)]
  | (j, w) :: t =>
    if k < j then (if v = d then (j, w) :: t else (k, v) :: (j, w) :: t)
    else if k = j then (if v = d then t else (k, v) :: t)
    else (j, w) :: tabSet d k v t

/-- Every key of a table is above `k`. -/
def tabAbove {α : Type} (k : Nat) : Tab α → Bool
  | [] => true
  | (j, _) :: t => decide (k < j) && tabAbove k t

/-- The canonical form of a table over `d`, which gives what an unlisted key reads as: keys strictly rising, no entry
equal to that value. -/
def tabWf {α : Type} [DecidableEq α] (d : Nat → α) : Tab α → Bool
  | [] => true
  | (k, v) :: t => decide (v ≠ d k) && tabAbove k t && tabWf d t

/-- Every listed entry changed by `f`; an entry that becomes what an unlisted key reads as is removed. -/
def tabMap {α : Type} [DecidableEq α] (d : α) (f : Nat → α → α) (t : Tab α) : Tab α :=
  (t.map fun e => (e.1, f e.1 e.2)).filter fun e => decide (e.2 ≠ d)

/-- The entry at `k` changed by `f`. -/
def tabUpd {α : Type} [DecidableEq α] (d : α) (k : Nat) (f : α → α) (t : Tab α) : Tab α :=
  tabSet d k (f (tabGet d k t)) t

/-! ### What an unlisted entry of a table reads as -/

/-- A vital input after reset (R206, R211, R215): filtered 0, CHECK, UNPROVEN. -/
def vin0 : VinState :=
  { filtered := false, highAll := false, pat := .check, bad := 0, good := 0, prov := .unproven }

/-- A ball that has never emitted a wave. -/
def wave0 : Wave := { start := 0, stop := some 0, rise := none, ball := .asDriven }

/-- A dynamic output after reset (R217, R218, R221, R223). The spec gives a monitor no state from the end of LOAD until
PROVE; it stands in DROPPED, which evaluates at a change of the feedback (entry 76, DESIGN CHOICE). -/
def vout0 : VoutState :=
  { committed := false, effective := false, wave := wave0, lockout := false, mon := .dropped, since := 0, outvoted := 0 }

/-- A lamp channel after reset (R244, R246, R279). -/
def lamp0 : LampState :=
  { drive := false, flash := false, wave := wave0, pulse := none, pulseHit := false, pulsePeriod := none, expect := .dark,
    darkRun := 0, litRun := 0, oobRun := 0, oobLast := none, blankTo := none, inrushTo := none, was := [],
    window := false, suspended := false, pl := false, pd := false, dwl := false, lwd := false, oob := false,
    oobPulse := false, dpok := false, dpFails := 0, fbActive := false, report := false, mis := [] }

/-- An aspect group after reset (R251): a dark head, no sequence, no latch. -/
def aspect0 : AspectState :=
  { shown := none, seq := none, request := none, cmdLit := 0, cmdFlash := 0, changing := false, latch := none,
    outvoted := 0, onPeriod := none, offPeriod := none }

/-- A window comparator after reset (R313). -/
def win0 : WinRun := { st := .inside, lowCnt := 0, highCnt := 0, inCnt := 0 }

/-- A measurement channel after reset (R309, R331). -/
def mea0 : MeaState :=
  { off := 0, gain := 0x400000, fast := 0, fastQ := false, fine := 0, fineQ := false, clip := false, inv := false,
    rngq := false, rateq := false, srv := none, calAt := 0, stale := false, fastFrom := 0, fineFrom := 0,
    episode := false, lastWord := none, winA := win0, winB := win0, fastHist := [], fineHist := [] }

/-- What is kept of a node before any frame of it. -/
def node0 : NodeView :=
  { health := none, rxNow := false, rxLast := false, syncNow := false, syncLast := false, single := false,
    double := false, missingY := false, scCount := 0, scRejected := false, scDeclared := false, bndNow := false,
    bndLast := false, syncAt := none, silent := 0, reportedAt := none, resumed := false, ownRep := false, othRep := false,
    outWords := [], outNext := 0, outValid := false, inWords := [], inNext := 0, inValid := false, wallv := false, woff := 0, healthyFor := 0 }

/-- A connection after reset (R409, R426). -/
def conn0 : ConnState :=
  { highest := none, copies := 0, seqErr := 0, stale := 0, cmacf := 0, cmacRec := none, rspDue := false,
    discDue := false, lastSent := [] }

/-- An Ethernet port after reset (R421, R424). -/
def port0 : PortState :=
  { link := .down, polledAt := none, rxok := 0, drop := 0, txok := 0, cmacf := 0, acceptedAt := none, singleAt := none, icmpCount := 0,
    icmpSecond := 0, fmpCount := 0, fmpSecond := 0 }

/-- A CAN controller after reset (R448). -/
def can0 : CanCtl :=
  { estate := .disabled, tecN := 0, recN := 0, lonely := false, ackRun := 0, recovering := false, recovFrom := 0, tdcMeas := 0,
    toff := 0,
    onWire := none, refPending := false, refDue := none, refSeq := 0, refSofNow := 0, refSof := none, slvSeq := none, slvStamp := 0 }

/-- A CAN frame of no content. -/
def canFrame0 : CanFrame :=
  { ide := false, fdf := false, brs := false, rtr := false, esi := false, dlc := 0, ident := 0, data := [] }

/-- A free transmit-queue entry (R450). -/
def tx0 : TxEntry := { st := .free, cause := 0, att := 0, ack := 0, ctrl := 0, frame := canFrame0, order := 0 }

/-- A CAN map entry after reset (R435, R436). -/
def map0 : MapState := { payload := [], at_ := none, timedOut := false, pending := false, lastSent := [] }

/-- A path without failures (R596). -/
def path0 : PathLock := { failures := 0, locked := false, since := 0 }

/-! ### Bit fields -/

/-- Bits `lo` and up, `n` of them, of a number. -/
def bits (v lo n : Nat) : Nat := (v >>> lo) % 2 ^ n

/-- Bit `k` of a number. -/
def bit (v k : Nat) : Bool := v.testBit k

/-- A bit vector with bit `k` set to `b`. -/
def putBit {w : Nat} (v : BitVec w) (k : Nat) (b : Bool) : BitVec w :=
  if b then v ||| (1#w <<< k) else v &&& ~~~(1#w <<< k)

/-! ### CFG registers (R4) -/

/-- A CFG register of the loaded image: `d` where the image does not give it, and before LOAD ends. -/
def State.cfg (s : State) (addr d : Nat) : Nat :=
  match s.img with
  | none => d
  | some st => (tabGet (BitVec.ofNat 32 d) addr st.cfg).toNat

/-- One field of a CFG register. -/
def State.cfgField (s : State) (addr d lo n : Nat) : Nat := bits (s.cfg addr d) lo n

/-! ### Straps and identity -/

/-- LID (R13, R453): straps are absolute, so the strapped value serves. -/
def State.lid (s : State) : Nat := bits s.lane.pin.toNat 0 2

/-- SID (R13). -/
def State.sid (s : State) : Bool := s.lane.pin.getLsbD 2

/-- Effective CSN, NVW, PFEN, CMPT, LBT and SUPF (R455, R608). -/
def State.csn (s : State) : Bool := s.lane.eff.getLsbD 3
def State.nvw (s : State) : Bool := s.lane.eff.getLsbD 4
def State.pfen (s : State) : Bool := s.lane.eff.getLsbD 11
def State.cmpt (s : State) : Bool := s.lane.eff.getLsbD 12
def State.lbt (s : State) : Bool := s.lane.eff.getLsbD 13
def State.supf (s : State) : Nat := bits s.lane.eff.toNat 9 2

/-- XSEL and MODE, absolute (R453). -/
def State.xsel (s : State) : Nat := bits s.lane.pin.toNat 5 2
def State.mode (s : State) : Nat := bits s.lane.pin.toNat 7 2

/-- A listener (R14): LID 0b11. -/
def State.listener (s : State) : Bool := s.lid = 3

/-- The node number (R13): SID × 3 + LID, and 6 or 7 for a listener. -/
def State.node (s : State) : Nat := if s.lid = 3 then 6 + bitNat s.sid else 3 * bitNat s.sid + s.lid

/-- The first node of the own set. -/
def State.setBase (s : State) : Nat := 3 * bitNat s.sid

/-- The first and the second peer (R21): the node numbers of lanes (LID + 1) mod 3 and (LID + 2) mod 3 of the set. -/
def State.peer (s : State) (k : Nat) : Nat := s.setBase + (s.lid + 1 + k) % 3

/-- Which peer a node is: 0, 1, or none. -/
def State.peerIndex (s : State) (n : Nat) : Option Nat :=
  if n = s.peer 0 then some 0 else if n = s.peer 1 then some 1 else none

/-- A voting lane is a lane in RUN whose role is not EXCLUDED (R15). -/
def State.voting (s : State) : Bool := s.lane.st = .run && s.lane.role ≠ .excluded

/-- The lane drives its elements: role HOLDING in RUN (R15) from a commit, an admission or a switchover on (R32, R49),
MODE Normal or Commissioning (R456), no SAFE latch. -/
def State.drives (s : State) : Bool :=
  s.lane.st = .run && s.lane.role = .holding && s.lane.driving && !s.lane.safeLatch && decide (s.mode < 2)

/-! ### The schedule and the times -/

/-- Basic-cycle length in ns (R88, R356): BCLEN in steps of 250 µs, 0 standing for 64. -/
def State.basicNs (s : State) : Nat :=
  let b := s.cfgField 0x090000 0x00802004 0 6
  (if b = 0 then 64 else b) * 250000

/-- Cluster cycle in basic cycles (R356). -/
def State.ccl (s : State) : Nat := s.cfgField 0x090000 0x00802004 13 7

/-- L and C of TAE.CYCCFG (R88). -/
def State.cycL (s : State) : Nat := s.cfgField 0x030030 0x40A 0 9
def State.cycC (s : State) : Nat := s.cfgField 0x030030 0x40A 9 2

/-- Length of a logic cycle in ns. -/
def State.logicNs (s : State) : Nat := s.cycL * s.basicNs

/-- MONO in µs (R518). -/
def State.mono (s : State) : Nat := s.pins.now / 1000

/-- The transients counted: those of the last 24 h of MONO (R568). -/
def State.liveTrans (s : State) : List Transient := s.crt.trans.filter fun x => decide (s.mono < x.at_ + 86400000000)

/-- What the rate correction and the spread offset corrections have added to cluster time at clock `t`, in ns (R383): ρ
since it was last set, and each offset correction over its first 100 µs. One division for the sum, so that time never
decreases (R51). -/
def Tae.drift (x : Tae) (t : Int) : Int :=
  ((x.ctFrac : Int) + x.ctRate * (t - x.ctFrom) -
    (x.ctSlew.map fun e => e.2 * 10000 * max 0 (min 100000 (t - (e.1 : Int)))).foldl (· + ·) 0) / 1000000000

/-- Cluster or provisional time in ns at an instant of the lane's clock (R51, R383). -/
def State.ctAt (s : State) (t : Int) : Nat :=
  match s.tae.ctOff with
  | none => s.tae.ctHeld
  | some o => (t + o + s.tae.drift t).toNat

/-- Cluster or provisional time in ns now; what CTLO holds while the lane has none. -/
def State.ct (s : State) : Nat := s.ctAt s.pins.now

/-- Wall time in ms (R55): zero while WALLV is 0. -/
def State.wall (s : State) : Nat :=
  if s.tae.wallv then (((s.ct / 1000000 : Nat) : Int) + s.tae.woff).toNat % 2 ^ 48 else 0

/-- The clock value at which cluster time reaches `t`, approached from `c` in `n` steps: the rate of cluster time is within
a few parts in 10,000 of the clock's, so the distance falls by that factor in each. -/
def State.ctSolve (s : State) (t : Nat) : Nat → Int → Int
  | 0, c => if s.ctAt c < t then c + 1 else if t ≤ s.ctAt (c - 1) then c - 1 else c
  | n + 1, c => s.ctSolve t n (c + ((t : Int) - s.ctAt c))

/-- The clock value at a cluster-time instant, and never before the present clock. -/
def State.clockAt (s : State) (t : Nat) : Nat :=
  match s.tae.ctOff with
  | none => s.pins.now
  | some _ => max s.pins.now (s.ctSolve t 5 s.pins.now).toNat

/-- The time scale of what VIO and LMP schedule (the introduction of "Vital Inputs, Dynamic Outputs and Contactor Feedback"):
cluster time, and the lane's own clock while it holds none. -/
def State.d11At (s : State) (t : Int) : Nat := if s.tae.ctOff = none then t.toNat else s.ctAt t
def State.d11 (s : State) : Nat := s.d11At s.pins.now
def State.d11Clock (s : State) (t : Nat) : Nat := if s.tae.ctOff = none then t else s.clockAt t

/-! ### Gates -/

/-- The gate of the block with a subsystem code is open and no soft reset holds the block (R6, R558, R561). -/
def State.blockLive (s : State) (code : Nat) : Bool :=
  code = 0 || code = 13 || (s.crt.gate.getLsbD code && !s.crt.inReset.getLsbD code && !s.crt.closing.getLsbD code)

/-! ### Sessions -/

/-- The session with a number. -/
def State.session (s : State) (n : Nat) : Option Session := s.sup.sessions.find? fun x => x.num = n

/-- The path of a session: 0 MAP, 1 port 0, 2 port 1 (R596). -/
def Session.path (x : Session) : Nat :=
  match x.src with
  | none => 0
  | some p => 1 + p.port.val

/-- The path of the session with a number; 0 where there is none. -/
def State.pathOf (s : State) (n : Nat) : Nat :=
  match s.session n with
  | none => 0
  | some x => x.path

end Sys2Proof.Machine
end

