-- ==== Sys2Proof/Machine/Flags.lean ====
section
/-! DEFINITION. Flags: event registers, GLB.ATTN, and the lane state and role with the attention they raise (R610). -/

namespace Sys2Proof.Machine

/-- GLB.ATTN bit `k` set (R610). -/
def State.attn (s : State) (k : Nat) : State := { s with lane.attn := putBit s.lane.attn k true }

/-- ATTN.EVT (bit 5) where a bit of SUMM.EVTANY rises: the block's event registers were all zero before (R609, R610). -/
def State.attnEvt (s : State) (quiet : Bool) : State := if quiet then s.attn 5 else s

/-- A CMD register reached its final status: ATTN.CMDEND (R610). -/
def State.cmdEnd (s : State) : State := s.attn 3

/-- The lane state changes: ATTN.STCHG, and outside RUN the role reads as 0 and the phase as 0 (R89, R606, R610). -/
def State.setSt (s : State) (x : LaneState) : State :=
  if s.lane.st = x then s
  else if x = .run then ({ s with lane.st := x } : State).attn 1
  else ({ s with lane.st := x, lane.role := .holding, tae.phase := 0 } : State).attn 1

/-- The role changes: ATTN.STCHG (R610). -/
def State.setRole (s : State) (r : Role) : State :=
  if s.lane.role = r then s else ({ s with lane.role := r } : State).attn 1

/-! ### Event registers -/

/-- CRT.EVT (R577): 0 RSW, 1 MTRIP, 2 WOSCF, 3 ABSENT, 4 SRSTEND, 5 STEND, 6 SVBURN. -/
def State.evtCrt (s : State) (k : Nat) : State :=
  ({ s with crt.evt := putBit s.crt.evt k true } : State).attnEvt (s.crt.evt = 0)

/-- TAE.EVT (R83): 0 ANGLOST, 1 ANGLOCK, 2 TIMELOST, 3 WSTEP, 4 OVRUN, 5 SRCSW. -/
def State.evtTae (s : State) (k : Nat) : State :=
  ({ s with tae.evt := putBit s.tae.evt k true } : State).attnEvt (s.tae.evt = 0)

/-- LGE.EVT (R136): 0 PECC, 1 SECC, 2 PUNC, 3 SUNC, 4 STKF, 5 SBOVF, 6 ROWR, 7 SPLITMIS, 8 REPLMIS, 9 BRKHIT. -/
def State.evtLge (s : State) (k : Nat) : State :=
  ({ s with lge.evt := putBit s.lge.evt k true } : State).attnEvt (s.lge.evt = 0)

/-- GRD.EVT (R199): 0 VTERM, 1 VEXCL, 2 VBBM, 3 VLIVE, 4 VSTALL, 5 TCOR, 6 TUNC, 7 GATHMIS, 8 TCRCMIS, 9 FBIN, 10 FBOUT. -/
def State.evtGrd (s : State) (k : Nat) : State :=
  ({ s with grd.evt := putBit s.grd.evt k true } : State).attnEvt (s.grd.evt = 0)

/-- VIO.EVT (R231): 0 PATF, 1 TPOF, 2 DRVF, 3 FBMIS, 4 LOCKOV, 5 ACK, 6 RSTQ. -/
def State.evtVio (s : State) (k : Nat) : State :=
  ({ s with vio.evt := putBit s.vio.evt k true } : State).attnEvt (s.vio.evt = 0)

/-- LMP.EVT (R265): 0 DRVF, 1 FBTAKE, 2 FBOV, 3 ISO, 4 ISOACK, 5 FBCLR. EVTANY counts EVT and PEVT. -/
def State.evtLmp (s : State) (k : Nat) : State :=
  ({ s with lmp.evt := putBit s.lmp.evt k true } : State).attnEvt (s.lmp.evt = 0 && s.lmp.pevt = 0)

/-- LMP.PEVT (R294). -/
def State.pevtLmp (s : State) (k : Nat) : State :=
  ({ s with lmp.pevt := putBit s.lmp.pevt k true } : State).attnEvt (s.lmp.evt = 0 && s.lmp.pevt = 0)

/-- MEA.EVT (R324). -/
def State.evtMea (s : State) (k : Nat) : State :=
  ({ s with mea.evt := putBit s.mea.evt k true } : State).attnEvt (s.mea.evt = 0)

/-- LNB.EVT (R359). EVTANY counts EVT and SEVT. -/
def State.evtLnb (s : State) (k : Nat) : State :=
  ({ s with lnb.evt := putBit s.lnb.evt k true } : State).attnEvt (s.lnb.evt = 0 && s.lnb.sevt = 0)

/-- LNB.SEVT (R394). -/
def State.sevtLnb (s : State) (k : Nat) : State :=
  ({ s with lnb.sevt := putBit s.lnb.sevt k true } : State).attnEvt (s.lnb.evt = 0 && s.lnb.sevt = 0)

/-- FLD.EVT (R422). -/
def State.evtFld (s : State) (k : Nat) : State :=
  ({ s with fld.evt := putBit s.fld.evt k true } : State).attnEvt (s.fld.evt = 0)

/-- CAB.EVT (R446). -/
def State.evtCab (s : State) (k : Nat) : State :=
  ({ s with cab.evt := putBit s.cab.evt k true } : State).attnEvt (s.cab.evt = 0)

/-- REC.EVT (R538): 0 MEMF, 1 LOST, 2 FRZEND, 3 TSTEP, 4 CLEAR, 5 PFLUSH. -/
def State.evtRec (s : State) (k : Nat) : State :=
  ({ s with rcd.evt := putBit s.rcd.evt k true } : State).attnEvt (s.rcd.evt = 0)

/-- UPD.EVT (R512). -/
def State.evtUpd (s : State) (k : Nat) : State :=
  ({ s with upd.evt := putBit s.upd.evt k true } : State).attnEvt (s.upd.evt = 0)

end Sys2Proof.Machine
end

