-- ==== Sys2Proof/Machine/Image.lean ====
section
/-! DEFINITION. The state image (the chapter "The Logic Engine: State Image and Execution Model"): kinds and classes of
cells, the contents of the two replicas, reads under quality, and the one operation by which each writer writes. -/

namespace Sys2Proof.Machine

/-! ### Kinds and classes (R93, R95 to R100) -/

/-- The kinds of cells (R93). -/
inductive CellKind where
  | bit | word | timer | edge
  deriving DecidableEq, Repr

/-- The classes of cells (R100); reserved cells belong to none. -/
inductive CellClass where
  | input | ownLane | output | parameter | internal | reserved
  deriving DecidableEq, Repr

/-- The kind of the cell at an address (R93); none for an address outside every range. -/
def cellKind (a : Nat) : Option CellKind :=
  if a < 0x40000 then some .bit
  else if a < 0x44000 then some .word
  else if 0x50000 ≤ a ∧ a < 0x52000 then some .timer
  else if 0x60000 ≤ a ∧ a < 0x62000 then some .edge
  else none

/-- A CFG register in the content of an image; `d` where the image does not give it. -/
def stCfg (st : Station) (addr d : Nat) : Nat := (tabGet (BitVec.ofNat 32 d) addr st.cfg).toNat

/-- The enabled connections of an image (R404, R425): those whose word 2 has EN set. -/
def connList (st : Station) : List Nat :=
  st.cfg.filterMap fun e =>
    if 0x0A1000 ≤ e.1 ∧ e.1 < 0x0A9000 ∧ (e.1 - 0x0A1000) % 32 = 8 ∧ e.2.toNat.testBit 31
    then some ((e.1 - 0x0A1000) / 32) else none

/-- Word k of a connection's entry (R425); in word 2 the defaults are TXPER 1, SEQWIN 16, RXCOP 12. -/
def connWord (st : Station) (c k : Nat) : Nat :=
  stCfg st (0x0A1000 + 32 * c + 4 * k) (if k = 2 then 0x0001100C else if k = 7 then 1000 else 0)

/-- First received cell, number of received cells, first sent cell, number of sent cells (R405). -/
def connRx (st : Station) (c : Nat) : Nat × Nat :=
  (0x30000 + bits (connWord st c 4) 16 16, 8 * bits (connWord st c 3) 16 11)
def connTx (st : Station) (c : Nat) : Nat × Nat :=
  (0x30000 + bits (connWord st c 4) 0 16, 8 * bits (connWord st c 3) 0 11)

/-- The first engine-state word of a connection (R406). -/
def connEs (st : Station) (c : Nat) : Nat := 0x40000 + bits (connWord st c 5) 0 14

/-- The enabled CAN map entries (R434, R451). -/
def mapList (st : Station) : List Nat :=
  st.cfg.filterMap fun e =>
    if 0x0B0400 ≤ e.1 ∧ e.1 < 0x0B0800 ∧ (e.1 - 0x0B0400) % 16 = 0 ∧ e.2.toNat.testBit 31
    then some ((e.1 - 0x0B0400) / 16) else none

/-- Word k of a CAN map entry. -/
def mapWord (st : Station) (m k : Nat) : Nat := stCfg st (0x0B0400 + 16 * m + 4 * k) 0

/-- Payload bytes that a DLC denotes, in a classic or an FD frame (R434, R449). -/
def dlcLen (fdf : Bool) (d : Nat) : Nat :=
  if d ≤ 8 then d
  else if fdf then
    match d with
    | 9 => 12 | 10 => 16 | 11 => 20 | 12 => 24 | 13 => 32 | 14 => 48 | _ => 64
  else 8

/-- First cell and number of cells of a CAN map entry (R434). -/
def mapCells (st : Station) (m : Nat) : Nat × Nat :=
  let w := mapWord st m 1
  (0x3F400 + bits w 0 10, 8 * dlcLen (bit w 30) (bits w 16 4))

/-- A transmit entry (DIR = 1). -/
def mapTx (st : Station) (m : Nat) : Bool := bit (mapWord st m 0) 30

/-- The address lies in a range of cells. -/
def inRange (a : Nat) (r : Nat × Nat) : Bool := decide (r.1 ≤ a) && decide (a < r.1 + r.2)

/-- The class of the cell at an address (R95 to R100, R405, R434). -/
def cellClass (st : Station) (a : Nat) : CellClass :=
  if a < 0x30000 then .internal
  else if a < 0x3F000 then
    if (connList st).any fun c => inRange a (connRx st c) then .input
    else if (connList st).any fun c => inRange a (connTx st c) then .output
    else .internal
  else if a < 0x3F040 then .input
  else if a < 0x3F080 then .ownLane
  else if a < 0x3F0A0 then .output
  else if a < 0x3F0E0 then .input
  else if a < 0x3F100 then .reserved
  else if a < 0x3F200 then if (a - 0x3F100) % 8 < 2 then .output else .input
  else if a < 0x3F300 then
    if (a - 0x3F200) % 16 < 8 then .output else if (a - 0x3F200) % 16 < 15 then .input else .reserved
  else if a < 0x3F30A then .input
  else if a < 0x3F380 then .reserved
  else if a < 0x3F383 then .ownLane
  else if a < 0x3F400 then .reserved
  else if a < 0x3F800 then
    if (mapList st).any fun m => !mapTx st m && inRange a (mapCells st m) then .input
    else if (mapList st).any fun m => mapTx st m && inRange a (mapCells st m) then .output
    else .internal
  else if a < 0x40000 then .reserved
  else if a < 0x43F00 then
    if st.params.any fun p => decide (p.addr = a) && !p.timer then .parameter
    else if (connList st).any fun c => inRange a (connEs st c, 5) then .input
    else .internal
  else if a < 0x43F2D then .input
  else if 0x43F30 ≤ a ∧ a < 0x43F36 then .input
  else if a < 0x50000 then .reserved
  else if a < 0x52000 then .internal
  else if 0x60000 ≤ a ∧ a < 0x62000 then .internal
  else .reserved

/-- A program may store to the cell: class output or internal (R100, R101). -/
def storable (st : Station) (a : Nat) : Bool := cellClass st a = .output || cellClass st a = .internal

/-- Insertion by the first component. -/
def insertRange (r : Nat × Nat) : List (Nat × Nat) → List (Nat × Nat)
  | [] => [r]
  | x :: xs => if r.1 ≤ x.1 then r :: x :: xs else x :: insertRange r xs

/-- Addresses of a range. -/
def rangeAddrs (r : Nat × Nat) : List Nat := (List.range r.2).map fun i => r.1 + i

/-- All output-class cells in ascending address (R121). Every one is a bit cell (R100). -/
def outputCells (st : Station) : List Nat :=
  (((connList st).map (connTx st)).foldr insertRange []).flatMap rangeAddrs ++
  rangeAddrs (0x3F080, 32) ++
  (List.range 32).flatMap (fun n => [0x3F100 + 8 * n, 0x3F101 + 8 * n]) ++
  (List.range 16).flatMap (fun g => rangeAddrs (0x3F200 + 16 * g, 8)) ++
  ((((mapList st).filter (mapTx st)).map (mapCells st)).foldr insertRange []).flatMap rangeAddrs

/-! ### Cells in use -/

/-- Fields of an instruction word (R144, R145). -/
def insKhi (w : Word) : Bool := w.getLsbD 31
def insOp (w : Word) : Nat := bits w.toNat 24 7
def insRs (w : Word) : Bool := w.getLsbD 23
def insN (w : Word) : Bool := w.getLsbD 22
def insM (w : Word) : Nat := bits w.toNat 20 2
def insA (w : Word) : Nat := bits w.toNat 0 20
def insKm (w : Word) : Nat := bits w.toNat 21 2
def insW (w : Word) : Nat := 0x40000 + bits w.toNat 7 14

/-- The cell that an instruction word names, where its opcode has one (R145 to R149). -/
def insCell (w : Word) : Option Nat :=
  if insKhi w then none
  else if [0x08, 0x0C, 0x10, 0x11, 0x12, 0x18, 0x19, 0x1A, 0x1B, 0x1C, 0x1D].contains (insOp w) then some (insA w)
  else if [0x20, 0x21, 0x22, 0x23, 0x24, 0x25, 0x28].contains (insOp w) then some (insW w)
  else none

/-- The cells that the image names: by its program, its lists and initial values, its connections, and as outputs. -/
def namedCells (st : Station) : List Nat :=
  st.program.filterMap insCell ++ st.inputList ++ st.mirrored ++ st.params.map ParamEntry.addr ++ st.init.map Prod.fst ++
  st.presets.map Prod.fst ++ (connList st).flatMap (fun c => rangeAddrs (connRx st c) ++ rangeAddrs (connEs st c, 5)) ++
  outputCells st

/-- An address put into an ascending list without repeats. -/
def insertAddr (a : Nat) : List Nat → List Nat
  | [] => [a]
  | x :: xs => if a < x then a :: x :: xs else if a = x then x :: xs else x :: insertAddr a xs

/-! ### Contents of the replicas (R102, R106) -/

/-- An image of no content. -/
def station0 : Station :=
  { cfg := [], program := [], init := [], safe := [], presets := [], tolerance := [], inputList := [], mirrored := [],
    grd := [], rdmin := 0, rdmax := 0, confper := 0, predd := 0, map := [], params := [], nodeOk := true, devid := 0,
    ovrVal := 0, ovrEn := 0, connKeys := [], levelKeys := [], fwver := 0, schemas := [], sigOk := false,
    execOk := false, csnNodes := 0, unused := 0, twoLaneHandover := false }

/-- The image content in force; of no content before LOAD ends. -/
def State.station (s : State) : Station := s.img.getD station0

/-- A cell of content zero and Q = 0. -/
def zeroCell (a : Nat) : Cell :=
  match cellKind a with
  | some .word => .word 0 false
  | some .timer => .timer 0 0 false false
  | some .edge => .edge false false
  | _ => .bit false false

/-- Lamp channel n (R269): its configuration word, and whether it is enabled. -/
def chWord (st : Station) (n : Nat) : Nat := stCfg st (0x070100 + 4 * n) 0
def chEn (st : Station) (n : Nat) : Bool := bit (chWord st n) 31

/-- A cell of a lamp channel that is not enabled: it reads V = 0 and Q = 0 (R240). -/
def lampOff (st : Station) (a : Nat) : Bool :=
  decide (0x3F100 ≤ a) && decide (a < 0x3F200) && !chEn st ((a - 0x3F100) / 8)

/-- What R106 puts into a cell when the lane enters PROVE. -/
def provedCell (st : Station) (a : Nat) : Cell :=
  match cellKind a with
  | some .bit =>
    match cellClass st a with
    | .internal | .output => if lampOff st a then .bit false false else .bit ((tabGet 0#32 a st.init).getLsbD 0) true
    | _ => .bit false false
  | some .word =>
    match cellClass st a with
    | .internal | .output | .parameter => .word (tabGet 0#32 a st.init) true
    | _ => .word 0 false
  | some .timer => .timer (tabGet 0#32 a st.presets) 0 false true
  | some .edge => .edge false false
  | none => .bit false false

/-- What an unlisted cell of a replica holds. -/
def baseCell (st : Station) (b : ImageBase) (a : Nat) : Cell :=
  match b with
  | .powerOn => zeroCell a
  | .proved => provedCell st a

/-- The cell at an address of a replica. -/
def Replica.get (st : Station) (r : Replica) (a : Nat) : Cell := tabGet (baseCell st r.base a) a r.cells

/-- A replica with a cell written. -/
def Replica.put (st : Station) (r : Replica) (a : Nat) (c : Cell) : Replica :=
  { r with cells := tabSet (baseCell st r.base a) a c r.cells }

/-- The canonical form of a replica. -/
def Replica.wf (st : Station) (r : Replica) : Bool := tabWf (baseCell st r.base) r.cells

/-- The cell at an address of replica 0, from which LGE reads (R102). -/
def State.cell (s : State) (a : Nat) : Cell := s.lge.rep0.get s.station a

/-- A cell written to both replicas (R102): every writer of R111. -/
def State.putCell (s : State) (a : Nat) (c : Cell) : State :=
  { s with lge.rep0 := s.lge.rep0.put s.station a c, lge.rep1 := s.lge.rep1.put s.station a c }

/-- Cells written in order. -/
def State.putCells (s : State) : List (Nat × Cell) → State
  | [] => s
  | (a, c) :: t => (s.putCell a c).putCells t

/-- Received cells from payload bytes (R405), or every one at Q = 0. -/
def rxCells (st : Station) (c : Nat) (bytes : Option (List Byte)) : List (Nat × Cell) :=
  (List.range (connRx st c).2).map fun i =>
    ((connRx st c).1 + i, match bytes with
      | some b => .bit ((b.getD (i / 8) 0).getLsbD (i % 8)) true
      | none => .bit false false)

/-- Connections that leave RUN are CLOSED (R413): every received cell has Q = 0 (R104). -/
def State.connsClose (s : State) : List Nat → State
  | [] => s
  | c :: cs => (s.putCells (rxCells s.station c none ++ [(connEs s.station c, .word 0 true)])).connsClose cs

/-! ### Reads under quality (R103) -/

/-- The safe value of a word cell, and of a bit cell. -/
def safeWord (st : Station) (a : Nat) : Word := tabGet 0#32 a st.safe
def safeBit (st : Station) (a : Nat) : Bool := (safeWord st a).getLsbD 0

/-- A bit cell reads as V, and with Q = 0 as its safe value. -/
def readBit (st : Station) (a : Nat) : Cell → Bool
  | .bit v q => if q then v else safeBit st a
  | _ => false

/-- A word cell reads as its value, and with Q = 0 as its safe word value. -/
def readWord (st : Station) (a : Nat) : Cell → Word
  | .word v q => if q then v else safeWord st a
  | _ => 0

/-- A timer cell reads as running only with Q = 1. -/
def readRunning : Cell → Bool
  | .timer _ _ r q => r && q
  | _ => false

/-- The elapsed test of R158. -/
def readElapsed (t0 : W64) : Cell → Bool
  | .timer p start r q =>
    r && q && decide (start.toNat ≤ t0.toNat) && decide (p.toNat * 1000000 ≤ t0.toNat - start.toNat)
  | _ => false

/-- The quality of a cell. -/
def Cell.q : Cell → Bool
  | .bit _ q => q
  | .word _ q => q
  | .timer _ _ _ q => q
  | .edge _ q => q

/-- The same content with another quality. -/
def Cell.withQ (c : Cell) (q : Bool) : Cell :=
  match c with
  | .bit v _ => .bit v q
  | .word v _ => .word v q
  | .timer p t r _ => .timer p t r q
  | .edge m _ => .edge m q

/-- T0(n) as the T0 word cells hold it (R72, R99, R112): bits 31:0 and 63:32. -/
def t0Cells (st : Station) (get : Nat → Cell) : W64 :=
  (readWord st 0x43F2B (get 0x43F2B)) ++ (readWord st 0x43F2A (get 0x43F2A))

/-- The read value of a bit cell of the image. -/
def State.bitRead (s : State) (a : Nat) : Bool := readBit s.station a (s.cell a)

/-- The read value of a word cell of the image. -/
def State.wordRead (s : State) (a : Nat) : Word := readWord s.station a (s.cell a)

/-- The output image of a replica (R121): the read values of the output cells, in ascending address. -/
def outputImage (st : Station) (r : Replica) : List Bool :=
  (outputCells st).map fun a => readBit st a (r.get st a)

/-- Bits packed least significant bit first into bytes. -/
def packBits : Nat → List Bool → List Byte
  | 0, _ => []
  | n + 1, l =>
    BitVec.ofNat 8 (((l.take 8).zipIdx.map fun e => bitNat e.1 * 2 ^ e.2).foldl (· + ·) 0) :: packBits n (l.drop 8)

/-- The output digest (R121): CRC-64 over the packed output image. -/
def outputDigest (l : List Bool) : W64 := crc64 (packBits ((l.length + 7) / 8) l)

/-- The value of one bit in an output image, by the cell's address. -/
def imageBit (st : Station) (l : List Bool) (a : Nat) : Bool :=
  (l.getD ((outputCells st).findIdx fun x => x = a) false)

/-- The lane enters PROVE: the state image is initialised (R106). -/
def State.imageInit (s : State) : State :=
  { s with lge.rep0 := { base := .proved, cells := [] }, lge.rep1 := { base := .proved, cells := [] }, lge.buf0 := [],
           lge.buf1 := [], lge.pc := 0, lge.region := 0, lge.rung0 := Rung.empty, lge.rung1 := Rung.empty }

end Sys2Proof.Machine
end

