-- ==== Sys2Proof/Machine/Ops.lean ====
section
/-! DEFINITION. The operations that many commands share: time, records and the flush, the wall-time step, entry into SAFE,
withdrawal from the vote. -/

namespace Sys2Proof.Machine

/-! ### Time -/

/-- The clock moves on to `t` ns, and never back. -/
def State.advance (s : State) (t : Nat) : State := { s with pins.now := max s.pins.now t }

/-- The clock moves on to an instant of cluster time. -/
def State.advanceCt (s : State) (t : Nat) : State := s.advance (s.clockAt t)

/-- The lane sends a frame or a response. -/
def State.send (s : State) (x : Sent) : State := { s with pins.sent := x :: s.pins.sent }

/-- A free word: one that the spec leaves open (assumption log, entry 6). -/
def State.freeWord (s : State) : Word := Config.freeWord s.pins.free

/-- The next free word will be another one. -/
def State.freeUsed (s : State) : State := { s with pins.free := s.pins.free + 1 }

/-! ### Records (R517, R518) -/

/-- DATA bytes 0 to 7: the bytes that the writer gives, and zeros. -/
def recData (l : List Nat) : List Byte := ((l.map (BitVec.ofNat 8)) ++ List.replicate 8 0#8).take 8

/-- Numbers as bytes of DATA, least significant first (R517). -/
def le (n v : Nat) : List Nat := (leBytes n v).map BitVec.toNat

/-- Bytes 0 to 29 of a record (R517). -/
def Record.body (r : Record) : List Byte :=
  leBytes 4 r.seq ++ leBytes 6 r.mono ++ leBytes 6 r.wall ++ leBytes 1 r.wepoch ++
  leBytes 1 (16 * r.sev + 4 * r.lid + 2 * bitNat r.sid + bitNat r.standby) ++
  leBytes 2 r.src ++ leBytes 2 r.code ++ r.data

/-- The 32 bytes of a record (R517, R642). -/
def Record.bytes (r : Record) : List Byte := r.body ++ leBytes 2 (crc16 r.body).toNat

/-- Where the newest record of the lowest severity stands: the list without it (R520, R530). -/
def dropNewestLowest (l : List Record) : List Record :=
  let low := (l.map Record.sev).foldl min 7
  let i := (l.reverse.findIdx fun r => r.sev = low)
  (l.reverse.eraseIdx i).reverse

/-- The record that dropNewestLowest drops. -/
def newestLowestSev (l : List Record) : Nat := (l.map Record.sev).foldl min 7

/-- A drop under R520, R523 or R530 (R528): counted by cause, with the highest severity dropped. -/
def State.recDrop (s : State) (cause sev : Nat) : State :=
  ({ s with
     rcd.lostcnt := satInc 4294967295 s.rcd.lostcnt,
     rcd.drops := tabUpd (0, 0) cause (fun d => (d.1 + 1, max d.2 sev)) s.rcd.drops } : State).evtRec 1

/-- Records that a freeze holds (R529). -/
def State.heldRecs (s : State) : List Record := s.rcd.buf.filter fun r => decide (s.rcd.frzFirst ≤ r.seq)

/-- A record enters the buffer (R520, R530). -/
def State.recPut (s : State) (r : Record) : State :=
  let l := s.rcd.buf ++ [r]
  if s.rcd.frozen && decide (4096 ≤ s.heldRecs.length) then
    let h := s.heldRecs ++ [r]
    ({ s with rcd.buf := (s.rcd.buf.filter fun x => decide (x.seq < s.rcd.frzFirst)) ++ dropNewestLowest h } : State).recDrop
      0 (newestLowestSev h)
  else if 8192 ≤ s.rcd.buf.length then
    ({ s with rcd.buf := dropNewestLowest l } : State).recDrop 2 (newestLowestSev l)
  else { s with rcd.buf := l }

/-- A record is created (R517 to R520): fields filled, ATTN.RECD (R610), and the flush triggers of R520. -/
def State.recMake (s : State) (sev src code : Nat) (data : List Nat) : State :=
  let r : Record :=
    { seq := s.rcd.seqNext, mono := s.mono, wall := s.wall, wepoch := s.rcd.wepoch, sev := sev, lid := s.lid,
      sid := s.sid, standby := decide (s.lane.role = .standby) || decide (s.lane.role = .shadow), src := src,
      code := code, data := recData data }
  let s1 := ({ s with rcd.seqNext := (s.rcd.seqNext + 1) % 4294967296 } : State).recPut r
  let s2 := if s.lane.attnSev ≤ sev then s1.attn 2 else s1
  if (decide (4 ≤ sev) || decide (4096 ≤ s2.rcd.buf.length)) && !s2.rcd.frozen then { s2 with rcd.flush := true } else s2

/-- REC accepts a record: from the end of CLOCK, with REC live, and not after a power-fail flush (R520, R521, R558). -/
def State.recOpen (s : State) : Bool := s.rcd.accepting && !s.rcd.closed && s.blockLive 12

/-- A unit writes a record. Below MINSEV none is created (R518). While the root clock is lost the record waits for a
valid root (R554, R555). -/
def State.record (s : State) (sev src code : Nat) (data : List Nat) : State :=
  if sev < s.cfgField 0x0C0000 1 0 4 then s
  else if s.crt.rootLost then { s with rcd.late := s.rcd.late ++ [(sev, src, code, data)] }
  else if s.recOpen then s.recMake sev src code data
  else s

/-- The waiting records are created once a valid root is present (R554, R555). -/
def State.recordLate (s : State) : State :=
  (s.rcd.late).foldl (fun t r => t.record r.1 r.2.1 r.2.2.1 r.2.2.2) { s with rcd.late := [] }

/-! ### The flush (R520, R523, R524) -/

/-- Pages of a recorder memory of so many MiB (R522): 4 KiB pages from 0x04_0000 to the end. -/
def pagesOf (mib : Nat) : Nat := mib * 256 - 64

/-- Memory after a record: into the current page, a page never written, or the oldest page that the mode lets it
reuse; none where no page qualifies (R523). -/
def pagePut (mib : Nat) (pages : List Page) (r : Record) : Option (List Page) :=
  match pages.getLast? with
  | none => if 0 < pagesOf mib then some [{ recs := [r] }] else none
  | some p =>
    if p.recs.length < 128 then some (pages.dropLast ++ [{ recs := p.recs ++ [r] }])
    else if pages.length < pagesOf mib then some (pages ++ [{ recs := [r] }])
    else if mib = 32 then some (pages.drop 1 ++ [{ recs := [r] }])
    else
      match pages.findIdx? fun q => q.recs.all fun x => decide (x.sev ≤ r.sev) with
      | none => none
      | some i => some (pages.eraseIdx i ++ [{ recs := [r] }])

/-- The records of the buffer go to memory in SEQ order; one that no page can take is dropped (R523). -/
def State.flushRecs (s : State) : List Record → State
  | [] => s
  | r :: rs =>
    match pagePut s.rcd.msize s.rcd.pages r with
    | some ps => ({ s with rcd.pages := ps } : State).flushRecs rs
    | none => (s.recDrop 1 r.sev).flushRecs rs

/-- LOST records for the drops since the last ones, by ascending cause (R528). -/
def State.lostRecords (s : State) : State :=
  s.rcd.drops.foldl (fun t d => t.record 3 0x0C00 0x0C02 (le 4 d.2.1 ++ [d.2.2, d.1])) { s with rcd.drops := [] }

/-- A flush that succeeds: the buffer is copied, then both control-area copies are written (R520, R524). -/
def State.flushWrite (s : State) : State :=
  let n := (if s.rcd.ctlA.valid then s.rcd.ctlA.flushes else 0) + 1
  let s1 := ({ s with rcd.buf := [], rcd.flush := false } : State).flushRecs s.rcd.buf
  let c : CtlCopy := { valid := true, flushes := n, nextSeq := s1.rcd.seqNext, wepoch := s1.rcd.wepoch }
  { s1 with rcd.ctlA := c, rcd.ctlB := c }

/-- A flush (R520). Without a usable memory the records stay in the buffer (R522). A write or read-back failure is a
recorder memory fault (R519). LOST records follow once a flush drops nothing (R528). -/
def State.flushNow (s : State) (ok : Bool) : State :=
  if s.rcd.msize = 0 then { s with rcd.flush := false }
  else if !ok then (({ s with rcd.flush := false } : State).evtRec 0).record 4 0x0C00 0x0C06 [3]
  else
    let s1 := s.flushWrite
    if s1.rcd.drops = [] then s1
    else if tabGet (0, 0) 1 s1.rcd.drops = tabGet (0, 0) 1 s.rcd.drops then s1.lostRecords else s1

/-- A freeze ends (R531): the held records are flushed, then the LOST records, then the freeze-ended record. From its commit
point, 10 s after its start, on it ends COMPLETED whatever ends it (R8, R10). -/
def State.freezeEnd (s : State) (abort : Bool) : State :=
  if s.rcd.frozen then
    let n := s.heldRecs.length
    let aborted := abort && decide (s.pins.now < s.rcd.frzAt + 10000000000)
    let st : CmdStatus := if aborted then .aborted else .completed
    let s1 := ({ s with rcd.frozen := false, rcd.frz := st, rcd.frzWait := false } : State).flushNow true
    let s2 := if s1.rcd.drops = [] then s1 else s1.lostRecords
    let s3 := (s2.record 1 0x0C00 0x0C05 ((if aborted then 3 else 2) :: le 2 n)).flushNow true
    (s3.evtRec 2).cmdEnd
  else if s.rcd.frzWait then
    ({ s with rcd.frzWait := false, rcd.frz := .aborted } : State).cmdEnd
  else s

/-! ### Wall time (R56, R527) -/

/-- A wall-time step: WOFF and WALLV change, WEPOCH rises, and REC writes a TIME-STEP record (R527). -/
def State.wallStep (s : State) (woff : Int) (wallv : Bool) (cause : Nat) : State :=
  let old := s.wall
  let s1 : State :=
    { s with tae.woff := woff, tae.wallv := wallv, rcd.wepoch := (s.rcd.wepoch + 1) % 256 }
  (((s1.evtTae 3).evtRec 3).record 2 0x0C00 0x0C01 (le 6 old ++ [cause]))

/-! ### Forces (R507) -/

/-- A force is set (0) or released (1): record 0x0D08 and the event. -/
def State.forceRecord (s : State) (a what : Nat) : State := (s.evtUpd 5).record 3 0x0D00 0x0D08 (le 3 a ++ [what])

/-- Every force is released when the lane leaves the role HOLDING or leaves RUN (R507). -/
def State.forcesRelease (s : State) : State :=
  (s.upd.forces.map Prod.fst).foldl (fun t a => t.forceRecord a 1) { s with upd.forces := [], upd.unforce := [] }

/-! ### Waves on the balls (R216 to R219, R243, R246) -/

/-- The last rising edge of a run at or before `now`: edges stand at every multiple of the period, the last one `phase` ago. -/
def Wave.edge (now phase period : Nat) (w : Wave) : Option Nat :=
  let e := now - phase
  match w.stop with
  | none => if w.start ≤ e then some e else none
  | some x =>
    let l := if e < x then e else e - ((e - x) / period + 1) * period
    if w.start ≤ l ∧ l < x then some l else none

/-- The last rising edge emitted at or before `now`. -/
def Wave.lastRise (now phase period : Nat) (w : Wave) : Option Nat :=
  match w.edge now phase period with
  | some e => some e
  | none => w.rise

/-- The readback is live: less than `expiry` has passed since the last rising edge read back (R218, R246). -/
def Wave.live (now phase period expiry : Nat) (w : Wave) : Bool :=
  match w.ball with
  | .persists => true
  | .absent => false
  | .asDriven => match w.lastRise now phase period with | some e => decide (now < e + expiry) | none => false

/-- The wave starts, runs until an instant, or stops (R217, R243). -/
def Wave.begin (now phase period : Nat) (w : Wave) : Wave :=
  if w.stop = none then w
  else { start := now, stop := none, rise := w.lastRise now phase period, ball := .asDriven }
def Wave.burst (now phase period stop : Nat) (w : Wave) : Wave :=
  if w.stop = none then w
  else { start := now, stop := some stop, rise := w.lastRise now phase period, ball := .asDriven }
def Wave.halt (now : Nat) (w : Wave) : Wave :=
  if (match w.stop with | none => true | some x => decide (now < x)) then { w with stop := some now } else w

/-- The first edge due of a run (R219, R246). -/
def Wave.firstEdge (now phase period : Nat) (w : Wave) : Nat :=
  w.start + (((now : Int) - phase - w.start) % period).toNat

/-- The drives become static: every wave stops (R15, R35). -/
def State.wavesCut (s : State) : State :=
  { s with vio.vout := tabMap vout0 (fun _ v => { v with wave := v.wave.halt s.pins.now }) s.vio.vout,
           lmp.lamp := tabMap lamp0 (fun _ l => { l with wave := l.wave.halt s.pins.now }) s.lmp.lamp }

/-! ### Expectation and learning (R280, R281, R284, R285, R293) -/

/-- The conditions of a channel as they stand, kept for samples not yet classified (R275). -/
def LampState.keep (now : Nat) (fresh : Bool) (l : LampState) : LampState :=
  { l with was := { at_ := now, fresh := fresh, expect := l.expect, darkRun := l.darkRun, litRun := l.litRun,
                    oobRun := l.oobRun, blankTo := l.blankTo, inrushTo := l.inrushTo, window := l.window,
                    suspended := l.suspended, pl := l.pl, pd := l.pd } :: l.was.take 3 }

/-- Samples up to an instant are blind (R280). -/
def LampState.blankUntil (t : Nat) (l : LampState) : LampState := { l with blankTo := some (max (l.blankTo.getD 0) t) }

/-- The expectation changes: runs at zero, proven dark 0, proven lit kept over the phases of flashing alone, 120 µs blind, and
INRUSH where it changes to lit (R280, R281, R284, R285). -/
def LampState.expecting (now inrush : Nat) (e : Expectation) (l : LampState) : LampState :=
  if l.expect = e then l
  else
    let k := (l.keep now true).blankUntil (now + 120000)
    { k with expect := e, darkRun := 0, litRun := 0, oobRun := 0,
             pl := l.pl && decide (l.expect ≠ .dark) && decide (e ≠ .dark), pd := false,
             inrushTo := if e = .lit then some (now + inrush) else l.inrushTo }

/-- A learn ends: 2 COMPLETED, 3 FAILED. -/
def State.learnDone (s : State) (failed : Bool) : State :=
  match s.lmp.learn with
  | none => s
  | some r =>
    ((({ s with lmp.learn := none, lmp.lrn := if failed then .failed else .completed } : State).pevtLmp 6).record
      1 0x0700 0x0716 [r.chan, if failed then 3 else 2]).cmdEnd

/-- A learn on the channel fails. -/
def State.learnFail (s : State) (n : Nat) : State :=
  match s.lmp.learn with
  | some r => if r.chan = n then s.learnDone true else s
  | none => s

/-! ### SAFE (R34 to R37) -/

/-- The learn in progress, where its channel was expected lit, fails with the change to dark (R293). -/
def State.learnDark (s : State) : State :=
  match s.lmp.learn with
  | some r => if (tabGet lamp0 r.chan s.lmp.lamp).expect = .dark then s else s.learnDone true
  | none => s

/-- Outside PROVE and RUN every lamp channel is off, every head is dark and no sequence is held (R251); every expectation is
dark (R279, R280). -/
def State.lampsDark (s0 : State) : State :=
  let s := s0.learnDark
  { s with
    lmp.lamp := tabMap lamp0 (fun _ l =>
      ({ l with drive := false, flash := false, pulse := none, wave := l.wave.halt s.pins.now } : LampState).expecting
        s.pins.now 0 .dark) s.lmp.lamp,
    lmp.group := tabMap aspect0 (fun _ g =>
      { g with shown := none, seq := none, request := none, cmdLit := 0, cmdFlash := 0, changing := false }) s.lmp.group }

/-- STARTED entries of the CAN transmit queue that `f` picks end FAILED, with a cause of R450 (R440, R446). -/
def State.canFail (s : State) (cause : Nat) (f : TxEntry → Bool) : State :=
  let hit (e : TxEntry) : Bool := decide (e.st = .started) && f e
  let s1 : State :=
    { s with cab.txq := tabMap tx0 (fun _ e => if hit e then { e with st := .failed, cause := cause } else e) s.cab.txq }
  if s.cab.txq.any fun e => hit e.2 then s1.evtCab 2 else s1

/-- On entry to SAFE every STARTED entry of the CAN transmit queue ends FAILED, with cause SAFE (R440). -/
def State.canSafe (s : State) : State := s.canFail 3 fun _ => true

/-- LGE halts (R37, R122): the scan ends where it stands and nothing from it commits. -/
def State.lgeHalt (s : State) : State :=
  { s with lge.scan := false, lge.drain := none, lge.buf0 := [], lge.buf1 := [], lge.rung0 := Rung.empty,
           lge.rung1 := Rung.empty, lge.candidate := false, lge.region := 0, lge.pc := 0,
           lge.step := if s.lge.stepKind.isSome then .completed else s.lge.step, lge.stepKind := none }

/-- An entry that starts a switchover to the other set waits for the next status frame (R351). -/
def State.entryWaits (s : State) : Bool := s.lnb.entries.any fun e => decide (e = [BitVec.ofNat 32 (0x06000000 + bitNat (!s.sid))])

/-- Such an entry is withdrawn, and the command that it carries ends FAILED. -/
def State.entryDrop (s : State) : State :=
  if s.entryWaits then
    let s1 : State := { s with lnb.entries := s.lnb.entries.filter fun e => decide (bits (e.headD 0).toNat 24 8 ≠ 6) }
    if s1.lane.ctlSw && decide (s1.lane.ctl = .running) then ({ s1 with lane.ctl := .failed } : State).cmdEnd
    else if s1.upd.op.isNone && decide (s1.upd.cmd = .running) then ({ s1 with upd.cmd := .failed } : State).cmdEnd
    else s1
  else s

/-- A lane command that waited for a T0, or a switchover that this lane accepted, and that is overtaken by another change of
state ends FAILED. -/
def State.ctlOvertaken (s0 : State) : State :=
  let s := s0.entryDrop
  if s.lane.holdPend || s.lane.resumePend then
    ({ s with lane.holdPend := false, lane.resumePend := false, lane.ctl := .failed } : State).cmdEnd
  else
    match s.lane.switch with
    | some x =>
      if !x.own then s
      else if x.program then ({ s with upd.cmd := .failed, lane.switch := none } : State).cmdEnd
      else ({ s with lane.ctl := .failed, lane.switch := none } : State).cmdEnd
    | none => s

/-- What the lane drops when it leaves the vote and RUN: reports, counts, the pending joins and agreements; its connections are
CLOSED (R413). -/
def State.leaveVote (s0 : State) : State :=
  let s := (if s0.lane.st = .run then s0.connsClose (connList s0.station) else s0).wavesCut
  { s with lane.commitOk := false, lane.proveCnt := 0, lane.proved := false, lane.proveFrom := none,
           lane.joining := false, lane.computing := false, lane.reintReq := false, lane.confirmCnt := 0,
           lane.reportCnt := 0, lane.rep0 := false, lane.rep1 := false, lane.firstCycle := false,
           lane.driving := false, lane.switch := none }

/-- The mask of causes in the record of this SAFE entry follows causes within 1 µs (R34). -/
def patchMask (mask : Nat) : List Record → List Record
  | [] => []
  | r :: rs =>
    if r.code = 0x0110 then { r with data := recData [(r.data.getD 0 0).toNat, mask] } :: rs
    else r :: patchMask mask rs

def patchPages (mask : Nat) : List Page → List Page
  | [] => []
  | p :: ps =>
    if p.recs.any fun r => decide (r.code = 0x0110) then { recs := (patchMask mask p.recs.reverse).reverse } :: ps
    else p :: patchPages mask ps

/-- The mask goes into the record of the SAFE entry where it stands: waiting for the root clock, in the buffer, or flushed. -/
def State.maskPatch (s : State) (m : Nat) : State :=
  if s.rcd.late.any fun r => decide (r.2.2.1 = 0x0110) then
    { s with rcd.late := s.rcd.late.map fun r => if r.2.2.1 = 0x0110 then (r.1, r.2.1, r.2.2.1, [r.2.2.2.headD 0, m]) else r }
  else if s.rcd.buf.any fun r => decide (r.code = 0x0110) then { s with rcd.buf := (patchMask m s.rcd.buf.reverse).reverse }
  else { s with rcd.pages := (patchPages m s.rcd.pages.reverse).reverse }

/-- Entry into SAFE (R34 to R37). A further cause within 1 µs enters the mask; a later one changes nothing. While the root clock
is lost the flush of a freeze waits, as the record does (R36, R555). -/
def State.enterSafe (s : State) (cause : Nat) : State :=
  if s.lane.safeLatch then
    if s.pins.now ≤ s.lane.safeAt + 1000 then
      let m := s.lane.smask ||| (1 <<< (cause - 1))
      ({ s with lane.smask := m } : State).maskPatch m
    else s
  else
    let s1 : State :=
      { s with lane.safeLatch := true, lane.scause := cause, lane.smask := 1 <<< (cause - 1), lane.safeAt := s.pins.now,
               lane.safeRun := decide (s.lane.st = .run) }
    let s2 := ((((s1.ctlOvertaken).leaveVote.lgeHalt).lampsDark).canSafe.forcesRelease).setSt .safe
    let s3 := s2.record 6 0x0100 0x0110 [cause, 1 <<< (cause - 1)]
    if s3.crt.rootLost then s3 else s3.freezeEnd true

/-! ### Withdrawal (R27, R194) -/

/-- A lane leaves fall-back by row `row` of R194: FBOUT, and a record. -/
def State.fallbackRecord (s : State) (row : Nat) : State := (s.evtGrd 10).record 4 0x0500 0x0511 [row]

/-- A lane that withdraws from fall-back holds a lasting GRD fault, and its split ends (R194). -/
def State.fallbackLasting (s : State) : State :=
  if s.grd.gmode = .fallback then
    { s with lane.lasting := true, grd.gmode := .faultExcluded, grd.fbExit := none, lge.splitWant := some false }
  else s

/-- A voting lane withdraws itself: role EXCLUDED, drives static and consent withheld at once, no commit (R24, R26,
R27). The unit is the one that the withdrawal implicates (R567); CRT is lasting at once, with no test. A lane that is
EXCLUDED already, and of which no test runs, has the unit tested and starts its reintegration afresh (entry 20). -/
def State.withdraw (s : State) (u : FaultUnit) : State :=
  if s.lane.st = .run then
    if s.lane.role = .excluded then
      if s.crt.test = none then
        { s with lane.implicated := some u, lane.lasting := s.lane.lasting || decide (u = .crt), lane.computing := false,
                 lane.reintReq := false, lane.confirmCnt := 0 }
      else { s with lane.confirmCnt := 0 }
    else
      ({ s.wavesCut with
          lane.commitOk := false, lane.driving := false, lane.implicated := some u,
          lane.lasting := decide (u = .crt), lane.planned := false, lane.computing := false,
          lane.reintReq := false, lane.confirmCnt := 0, lane.reportCnt := 0 } : State).fallbackLasting.forcesRelease.setRole .excluded
  else s

/-- A planned exclusion (R33, R569). -/
def State.withdrawPlanned (s : State) : State :=
  ({ s.wavesCut with
            lane.commitOk := false, lane.driving := false, lane.implicated := none, lane.lasting := false,
            lane.planned := true, lane.computing := false, lane.reintReq := false,
            lane.confirmCnt := 0 } : State).fallbackLasting.forcesRelease.setRole .excluded

end Sys2Proof.Machine
end

