-- ==== Sys2Proof/Machine/Session.lean ====
section
/-! DEFINITION. Sessions, levels and single-use tokens, as every authorised command meets them (R4, R594 to R599). -/

namespace Sys2Proof.Machine

/-- The leftmost 64 bits of a digest. -/
def left64 (h : W256) : W64 := h.extractLsb' 192 64

/-- The key of a level (R595): K_4 from DUK; K_1 to K_3 from the image once it carries keys, and K_R before. -/
def State.levelKey (s : State) (level : Nat) : Option W256 :=
  if level = 4 then some Config.keyFactory
  else if s.sup.keys = [] then some Config.keyRecovery
  else (s.sup.keys.find? fun e => e.1 = level).map Prod.snd

/-- A session's copy of its registers changed. -/
def State.updSession (s : State) (n : Nat) (f : Session → Session) : State :=
  { s with sup.sessions := s.sup.sessions.map fun x => if x.num = n then f x else x }

/-- The 64 bits of the one token that serves a write (R598). -/
def tokenFor (key : W256) (chal : W64) (tcnt addr value : Nat) : W64 :=
  left64 (Config.hmac key (beBytes 8 chal.toNat ++ beBytes 4 tcnt ++ beBytes 4 addr ++ beBytes 4 value))

/-- The session's armed token serves a write of `value` at `addr`, within 1 s of its presentation (R598). -/
def State.tokenOk (s : State) (x : Session) (addr value : Nat) : Bool :=
  match x.tok, s.levelKey x.level with
  | some t, some k => decide (t.value = tokenFor k x.chal t.tcnt addr value) && decide (s.pins.now ≤ t.at_ + 1000000000)
  | _, _ => false

/-- The session is open and holds at least a level (R4, R7, R599). -/
def Session.holds (x : Session) (level : Nat) : Bool := decide (x.st = .opened) && decide (level ≤ x.level)

/-- SUP serves requests: in LOAD and every later state, and not halted (R555, R556, R585). -/
def State.supServes (s : State) : Bool :=
  !s.lane.supHalted &&
  (match s.lane.st with
   | .off | .reset | .clock | .test => false
   | _ => true)

/-- The session's token is consumed by its next write request (R598), which counts as activity (R590, R597). -/
def State.useToken (s : State) (n : Nat) : State := s.updSession n fun x => { x with tok := none, lastAt := s.pins.now }

/-- The subsystem code that an address belongs to (R601): 0 GLB, 13 UPD. -/
def blockOf (addr : Nat) : Nat := if addr < 0x100000 then addr / 0x10000 else if addr < 0x700000 then 4 else if addr < 0x800000 then 5 else 0

/-- The block answers ABSENT: its gate is closing or it is in soft reset (R558, R561, R562). -/
def State.absent (s : State) (addr : Nat) : Bool :=
  let b := blockOf addr
  s.crt.closing.getLsbD b || s.crt.inReset.getLsbD b

/-- The gate of the block is closed (R6). -/
def State.gated (s : State) (addr : Nat) : Bool :=
  let b := blockOf addr
  decide (1 ≤ b) && decide (b ≤ 12) && !s.crt.gate.getLsbD b

/-- A write to a CMD register (R4, R598): accepted inside an open session of sufficient level with a valid token, to a
block that is neither closed nor ABSENT; dropped otherwise. The token is consumed in either case. -/
def State.command (s : State) (sid addr value level : Nat) (f : State → State) : State :=
  match s.session sid with
  | none => s
  | some x =>
    if s.supServes then
      let s1 := s.useToken sid
      if x.holds level then
        if s.tokenOk x addr value then
          if s.absent addr then s1.evtCrt 3
          else if s.gated addr then s1
          else f s1
        else s1
      else s1
    else s

/-- A write to an RW or W1C register (R599): accepted inside an open session of sufficient level. It consumes the token
(R598). -/
def State.plainWrite (s : State) (sid addr level : Nat) (f : State → State) : State :=
  match s.session sid with
  | none => s
  | some x =>
    if s.supServes then
      let s1 := s.useToken sid
      if x.holds level then
        if s.absent addr then s1.evtCrt 3
        else if s.gated addr then s1
        else f s1
      else s1
    else s

/-- A lane command is accepted (R604, R605): record 0x0213. -/
def State.cmdRecord (s : State) (op sid : Nat) : State := s.record 2 0x0200 0x0213 [op, s.pathOf sid]

end Sys2Proof.Machine
end

