-- ==== Sys2Proof/WellFormed.lean ====
section
/-! DEFINITION. Which commands a sender can form. The operand types exclude almost everything that the spec's encodings
exclude; what is left is the length of a flash block (R463), of a record's DATA (R517) and of a CAN payload (R449). -/

namespace Sys2Proof

/-- Payload bytes of a CAN frame by its DLC (R449): 8 at most in a classic frame, and the CAN FD steps above. -/
def CanFrame.len (f : CanFrame) : Nat :=
  let d := f.dlc.toNat
  if f.rtr then 0
  else if d ≤ 8 then d
  else if f.fdf then
    match d with
    | 9 => 12 | 10 => 16 | 11 => 20 | 12 => 24 | 13 => 32 | 14 => 48 | _ => 64
  else 8

/-- A CAN frame whose payload has the length that its DLC gives. -/
def CanFrame.wellFormed (f : CanFrame) : Bool := decide (f.data.length = f.len)

/-- A command that a sender can form. -/
def Instr.wellFormed : Instr → Bool
  | .norBlockRead _ _ data => decide (data.length = 65536)
  | .recordCreate _ _ _ data => decide (data.length = 8)
  | .canFrameReceived _ f _ => f.wellFormed
  | _ => true

end Sys2Proof
end

