-- ==== Sys2Proof/Machine/Cabinet.lean ====
section
/-! DEFINITION. The cabinet bus (the chapter of that name): the two CAN FD controllers, the mapped cells, the transmit and
the receive queue, and the time reference messages. -/

namespace Sys2Proof.Machine

/-! ### Configuration (R448, R451, R452) -/

/-- CCFGc; AUTOREC 1 and REFPER 10 where the image does not give it. -/
def canCfg (st : Station) (c : Nat) : Nat := stCfg st (0x0B0020 + 64 * c) 0x2000000A
def canEn (st : Station) (c : Nat) : Bool := bit (canCfg st c) 31
def canFden (st : Station) (c : Nat) : Bool := bit (canCfg st c) 30
def canAutorec (st : Station) (c : Nat) : Bool := bit (canCfg st c) 29
def canTdcen (st : Station) (c : Nat) : Bool := bit (canCfg st c) 28
def canTmen (st : Station) (c : Nat) : Bool := bit (canCfg st c) 27
def canTslv (st : Station) (c : Nat) : Bool := bit (canCfg st c) 26
def canNoack (st : Station) (c : Nat) : Nat := bits (canCfg st c) 16 8
def canRefper (st : Station) (c : Nat) : Nat := bits (canCfg st c) 0 8

/-- Identifier bits that count: 29, or bits 10:0 with IDE = 0. -/
def canId (ide : Bool) (v : Nat) : Nat := if ide then v % 536870912 else v % 2048

/-- REFc: IDE and identifier. -/
def canRef (st : Station) (c : Nat) : Bool × Nat :=
  let w := stCfg st (0x0B0030 + 64 * c) 0
  (bit w 31, canId (bit w 31) w)

/-- A map entry: controller, IDE, FDF, identifier, DLC, receive timeout in ns, send period, sending lanes. -/
def mapCtrl (st : Station) (m : Nat) : Nat := bitNat (bit (mapWord st m 0) 29)
def mapIde (st : Station) (m : Nat) : Bool := bit (mapWord st m 1) 31
def mapFdf (st : Station) (m : Nat) : Bool := bit (mapWord st m 1) 30
def mapBrs (st : Station) (m : Nat) : Bool := bit (mapWord st m 1) 29
def mapId (st : Station) (m : Nat) : Nat := canId (mapIde st m) (mapWord st m 0)
def mapDlc (st : Station) (m : Nat) : Nat := bits (mapWord st m 1) 16 4
def mapTmo (st : Station) (m : Nat) : Nat := bits (mapWord st m 2) 16 16 * 1000000
def mapPer (st : Station) (m : Nat) : Nat := bits (mapWord st m 2) 0 8
def mapSender (st : Station) (m lid : Nat) : Bool := bit (mapWord st m 1) (26 + lid)

def State.can (s : State) (c : Nat) : CanCtl := tabGet can0 c s.cab.ctl
def State.updCan (s : State) (c : Nat) (f : CanCtl → CanCtl) : State :=
  { s with cab.ctl := tabUpd can0 c f s.cab.ctl }
def State.txEntry (s : State) (e : Nat) : TxEntry := tabGet tx0 e s.cab.txq
def State.updTx (s : State) (e : Nat) (f : TxEntry → TxEntry) : State := { s with cab.txq := tabUpd tx0 e f s.cab.txq }
def State.mapSt (s : State) (m : Nat) : MapState := tabGet map0 m s.cab.map
def State.updMap (s : State) (m : Nat) (f : MapState → MapState) : State := { s with cab.map := tabUpd map0 m f s.cab.map }

/-- The controller takes part in its bus (R431, R432). -/
def State.canWorks (s : State) (c : Nat) : Bool :=
  s.img.isSome && s.blockLive 11 && canEn s.station c &&
  (decide ((s.can c).estate = .active) || decide ((s.can c).estate = .passive))

/-- An instant of the lane's clock as cluster time; free while the lane holds no time (entries 6, 27). -/
def State.stampOf (s : State) (t : Nat) : Nat :=
  match s.tae.ctOff with
  | some _ => s.ctAt t
  | none => s.freeWord.toNat

/-! ### Mapped cells at T0 and T_commit (R435, R436) -/

/-- Payload bytes as bits, bit 0 first. -/
def byteBits (l : List Byte) : List Bool := l.flatMap fun b => (List.range 8).map fun j => b.getLsbD j

/-- The receive entry at `t0` in ns of the lane's clock: its payload stands (R435). -/
def State.mapFresh (s : State) (t0 m : Nat) : Bool :=
  match (s.mapSt m).at_ with
  | some a => decide (t0 - a ≤ mapTmo s.station m)
  | none => false

/-- The cells of one receive entry as captured at a T0. -/
def State.mapCapture (s : State) (t0 m : Nat) : List (Nat × Cell) :=
  let r := mapCells s.station m
  let q := s.mapFresh t0 m
  let v := byteBits (s.mapSt m).payload
  (List.range r.2).map fun i => (r.1 + i, Cell.bit (q && v.getD i false) q)

/-- The change of one receive entry to Q = 0 is flagged and recorded (R435, R445). -/
def State.mapTimeout (s : State) (t0 m : Nat) : State :=
  let q := s.mapFresh t0 m
  let x := s.mapSt m
  if !q && !x.timedOut && x.at_.isSome then
    ((s.updMap m fun y => { y with timedOut := true }).evtCab 7).record 3 0x0B00 0x0B06 [m]
  else if q then s.updMap m fun y => { y with timedOut := false }
  else s

/-- The receive entries of an image. -/
def rxMaps (st : Station) : List Nat := (mapList st).filter fun m => !mapTx st m

/-- CAN_MAP_TIMEOUT over all receive entries. -/
def State.mapTimeouts (s : State) (t0 : Nat) : State :=
  (rxMaps s.station).foldl (fun t m => t.mapTimeout t0 m) s

/-- The committed cells of a transmit entry as bytes. -/
def mapPayload (st : Station) (img : List Bool) (m : Nat) : List Byte :=
  let r := mapCells st m
  packBits (r.2 / 8) ((List.range r.2).map fun i => imageBit st img (r.1 + i))

/-- One transmit entry at T_commit(n) (R436): due, and offered by a sending lane. `sends` says that the lane's role is
HOLDING and that it commits. -/
def State.mapCommit (s : State) (n : Nat) (sends : Bool) (img : List Bool) (m : Nat) : State :=
  let st := s.station
  let x := s.mapSt m
  let p := mapPayload st img m
  let due := decide (n % max 1 (mapPer st m) = 0) || decide (p ≠ x.lastSent)
  let s1 := s.updMap m fun y => { y with lastSent := p, pending := y.pending || (due && sends && mapSender st m s.lid) }
  if due && sends && mapSender st m s.lid && x.pending then s1.evtCab 8 else s1

/-- CAN_MAP_DUE over the transmit entries (R436). In SAFE nothing becomes due (R440). -/
def State.mapsCommit (s : State) (n : Nat) (sends : Bool) (img : List Bool) : State :=
  if s.blockLive 11 then ((mapList s.station).filter (mapTx s.station)).foldl (fun t m => t.mapCommit n sends img m) s
  else s

/-! ### Offers (R437) -/

/-- The place of a frame in arbitration: dominant bits first. The lower number wins. -/
def arbKey (ide rtr : Bool) (ident : Nat) : Nat :=
  if ide then (ident / 262144 % 2048) * 4194304 + 3145728 + (ident % 262144) * 2 + bitNat rtr
  else (ident % 2048) * 4194304 + bitNat rtr * 2097152

/-- The frame of an offer. -/
def State.offerFrame (s : State) (c : Nat) : CanOffer → CanFrame
  | .reference =>
    let r := canRef s.station c
    let stamp : Nat := match (s.can c).refSof with | some t => t / 10 | none => 72057594037927935
    { canFrame0 with ide := r.1, dlc := 8, ident := BitVec.ofNat 29 r.2,
                     data := leBytes 1 (s.can c).refSeq ++ leBytes 7 stamp }
  | .map m =>
    { canFrame0 with ide := mapIde s.station m, fdf := mapFdf s.station m, brs := mapBrs s.station m,
                     dlc := BitVec.ofNat 4 (mapDlc s.station m), ident := BitVec.ofNat 29 (mapId s.station m),
                     data := (s.mapSt m).lastSent }
  | .queue e => (s.txEntry e).frame

/-- The arbitration place of an offer, and its place among equals. -/
def State.offerKey (s : State) (c : Nat) (o : CanOffer) : Nat × Nat :=
  let f := s.offerFrame c o
  (arbKey f.ide f.rtr f.ident.toNat,
   match o with
   | .reference => 0
   | .map m => 1 + m
   | .queue e => 65 + (s.txEntry e).order)

/-- What a controller has to offer (R437); nothing in SAFE (R37, R440). -/
def State.offers (s : State) (c : Nat) : List CanOffer :=
  if s.lane.st = .safe then []
  else
    (if (s.can c).refPending then [CanOffer.reference] else []) ++
    (((mapList s.station).filter fun m =>
        mapTx s.station m && decide (mapCtrl s.station m = c) && (s.mapSt m).pending).map CanOffer.map) ++
    (((List.range 32).filter fun e =>
        decide ((s.txEntry e).ctrl = c) &&
        (decide ((s.txEntry e).st = .pending) || decide ((s.txEntry e).st = .started))).map CanOffer.queue)

/-- The offer that goes first. -/
def State.bestOffer (s : State) (c : Nat) : Option CanOffer :=
  (s.offers c).foldl (fun b o =>
    match b with
    | none => some o
    | some x =>
      let k := s.offerKey c x
      let l := s.offerKey c o
      if l.1 < k.1 ∨ (l.1 = k.1 ∧ l.2 < k.2) then some o else some x) none

/-! ### Transmission (R433, R439, R443) -/

/-- CAN_FRAME_START (R439): the first bit of the start of frame of the next offer, which is its commit point. `sof` is
an instant of the lane's clock in ns. -/
def execCanFrameStart (c : Fin 2) (sof : Nat) (s : State) : Host.Outcome State Fault Refusal :=
  let s0 := s.advance sof
  let c := c.val
  .next (match if s0.canWorks c && decide ((s0.can c).onWire = none) then s0.bestOffer c else none with
    | none => s
    | some o =>
      let f := s0.offerFrame c o
      let s1 := (s0.updCan c fun x => { x with onWire := some o }).send (.can c f)
      let s2 :=
        match o with
        | .reference => s1.updCan c fun x => { x with refPending := false, refSofNow := s1.stampOf s1.pins.now }
        | .map m => s1.updMap m fun x => { x with pending := false }
        | .queue e => s1.updTx e fun x => { x with st := .started, att := satInc 255 x.att }
      if f.fdf && f.brs && canTdcen s.station c then
        (s2.updCan c fun x => { x with tdcMeas := s2.freeWord.toNat % 256 }).freeUsed
      else s2)

/-- LONELY clears at the first frame received or acknowledged (R433). -/
def State.lonelyEnd (s : State) (c : Nat) : State :=
  let s1 := s.updCan c fun x => { x with ackRun := 0, lonely := false }
  if (s.can c).lonely then s1.record 2 0x0B00 0x0B04 [c] else s1

/-- The error state that the counters give while the controller is not in bus-off (R429). -/
def canEstate (tec rec : Nat) : CanEState := if tec < 128 ∧ rec < 128 then .active else .passive

/-- CAN_TX_COMPLETE (R433, R439). -/
def execCanTxComplete (c : Fin 2) (s : State) : Host.Outcome State Fault Refusal :=
  let c := c.val
  .next (match if s.canWorks c then (s.can c).onWire else none with
    | none => s
    | some o =>
      let s1 := (s.updCan c fun x =>
        { x with onWire := none, tecN := x.tecN - 1, estate := canEstate (x.tecN - 1) x.recN }).lonelyEnd c
      match o with
      | .reference => s1.updCan c fun x => { x with refSeq := (x.refSeq + 1) % 256, refSof := some x.refSofNow }
      | .map _ => s1
      | .queue e =>
        if (s1.txEntry e).st = .started then (s1.updTx e fun x => { x with st := .completed }).evtCab 2 else s1)

/-- The offer on the wire failed: it retries, or it has been replaced or ended since (R433, R440). -/
def State.offerBack (s : State) (c : Nat) : State :=
  let s1 := s.updCan c fun x => { x with onWire := none }
  match (s.can c).onWire with
  | some .reference => s1.updCan c fun x => { x with refPending := decide (s.lane.st ≠ .safe) || x.refPending }
  | some (.map m) => s1.updMap m fun x => { x with pending := decide (s.lane.st ≠ .safe) || x.pending }
  | _ => s1

/-- Error-passive is entered (R445, R446). -/
def State.canPassive (s : State) (c : Nat) (was : CanEState) : State :=
  if was = .active ∧ (s.can c).estate = .passive then (s.evtCab 5).record 3 0x0B00 0x0B02 [c, min 255 (s.can c).recN] else s

/-- CAN_ACK_ERROR (R433). -/
def execCanAckError (c : Fin 2) (s : State) : Host.Outcome State Fault Refusal :=
  let c := c.val
  let x := s.can c
  .next (match if s.canWorks c then x.onWire else none with
    | none => s
    | some o =>
      let tec := if x.estate = .active then x.tecN + 8 else x.tecN
      let s1 := ((s.offerBack c).updCan c fun y =>
        { y with tecN := tec, estate := canEstate tec y.recN, ackRun := satInc 16 y.ackRun }).canPassive c x.estate
      let s2 :=
        if 16 ≤ (s1.can c).ackRun ∧ x.lonely = false then
          ((s1.updCan c fun y => { y with lonely := true }).evtCab 3).record 3 0x0B00 0x0B03 [c]
        else s1
      match o with
      | .queue e =>
        let lim := canNoack s.station c
        let s3 := s2.updTx e fun y => { y with ack := satInc 255 y.ack }
        if lim ≠ 0 ∧ lim ≤ (s3.txEntry e).ack ∧ (s3.txEntry e).st = .started then
          (s3.updTx e fun y => { y with st := .failed, cause := 1 }).evtCab 2
        else s3
      | _ => s2)

/-- CAN_ERROR (R432, R440): a bus error leaves the counters at the values given. -/
def execCanError (c : Fin 2) (tec rec : Nat) (s : State) : Host.Outcome State Fault Refusal :=
  let c := c.val
  let x := s.can c
  .next (if s.canWorks c then
      let s1 :=
        match x.onWire with
        | some (.queue e) => (s.offerBack c).updTx e fun y => { y with ack := 0 }
        | _ => s.offerBack c
      if 256 ≤ tec then
        let s2 := (s1.updCan c fun y =>
          { y with tecN := 255, recN := min 255 rec, estate := .busoff, ackRun := 0,
                   recovering := canAutorec s.station c, recovFrom := s.pins.now })
        ((s2.canFail 2 fun e => decide (e.ctrl = c)).evtCab 4).record 4 0x0B00 0x0B01 [c, min 255 tec]
      else
        (s1.updCan c fun y =>
          { y with tecN := tec, recN := min 255 rec, estate := canEstate tec rec, ackRun := 0 }).canPassive c x.estate
    else s)

/-- A nominal bit in ns (R430). -/
def canBitNs (st : Station) (c : Nat) : Nat :=
  let nb := stCfg st (0x0B0024 + 64 * c) 0
  (1 + (bits nb 16 8 + 1) + (bits nb 8 7 + 1)) * (bits nb 24 5 + 1) * 25

/-- BUSOFF_RECOVERED (R432): 128 occurrences of 11 recessive bits, which last 1,408 nominal bits at least. -/
def execBusoffRecovered (c : Fin 2) (s : State) : Host.Outcome State Fault Refusal :=
  let c := c.val
  .next (if s.img.isSome && s.blockLive 11 && decide ((s.can c).estate = .busoff) && (s.can c).recovering then
      (s.advance ((s.can c).recovFrom + 1408 * canBitNs s.station c)).updCan c fun x =>
        { x with estate := .active, tecN := 0, recN := 0, recovering := false }
    else s)

/-- A write of 1 to CSTATc.RECOV (R432): it requests recovery in bus-off. -/
def State.canRecover (s : State) (c : Nat) : State :=
  if (s.can c).estate = .busoff ∧ (s.can c).recovering = false then
    s.updCan c fun x => { x with recovering := true, recovFrom := s.pins.now }
  else s

/-- BUSOFF_RECOVERY_REQUEST (R432): a write of 1 to CSTATc.RECOV. -/
def execBusoffRecoveryRequest (sid : BitVec 16) (c : Fin 2) (s : State) : Host.Outcome State Fault Refusal :=
  .next (s.plainWrite sid.toNat (0x0B002C + 64 * c.val) 2 fun t => t.canRecover c.val)

/-- REFERENCE_MESSAGE_DUE (R443): at the next cluster-time multiple of REFPER × 10 ms, once at each. -/
def execReferenceMessageDue (c : Fin 2) (s : State) : Host.Outcome State Fault Refusal :=
  let c := c.val
  let per := canRefper s.station c * 10000000
  .next (if s.img.isSome && s.blockLive 11 && canEn s.station c && canTmen s.station c && s.tae.timev &&
      decide (s.lane.st ≠ .safe) then
      let m := (s.ct + per - 1) / per * per
      let due := if (s.can c).refDue = some m then m + per else m
      (s.advanceCt due).updCan c fun x => { x with refPending := true, refDue := some due }
    else s)

/-! ### Reception (R435, R441, R442, R444) -/

/-- An enabled filter takes the frame (R441, R452). -/
def filterTakes (st : Station) (c : Nat) (f : CanFrame) : Bool :=
  (List.range 16).any fun k =>
    let w := stCfg st (0x0B0800 + 8 * k) 0
    let mask := canId f.ide (stCfg st (0x0B0804 + 8 * k) 0)
    bit w 31 && decide (bitNat (bit w 30) = c) && (bit w 29 == f.ide) &&
    decide ((canId f.ide f.ident.toNat) &&& mask = (canId f.ide w) &&& mask)

/-- A frame enters the receive queue, or is dropped with 64 entries held (R441, R442). -/
def State.rxQueue (s : State) (c : Nat) (f : CanFrame) (stamp : Nat) : State :=
  if s.cab.rxq.length < 64 then
    ({ s with cab.rxq := s.cab.rxq ++ [{ ctrl := c, frame := f, sof := stamp }] } : State).evtCab 0
  else
    let n := s.cab.ovfSince + 1
    let s1 := ({ s with cab.ovf := satInc 65535 s.cab.ovf, cab.ovfSince := n } : State).evtCab 1
    let due := match s.cab.ovfAt with | some t => decide (t + 1000000000 ≤ s.pins.now) | none => true
    if due then
      ({ s1 with cab.ovfAt := some s.pins.now, cab.ovfSince := 0 } : State).record 3 0x0B00 0x0B05 [c, min 255 n]
    else s1

/-- A reference message at a time slave (R444). -/
def State.slaveStamp (s : State) (c : Nat) (f : CanFrame) (stamp : Nat) : State :=
  let r := canRef s.station c
  if canTslv s.station c && !f.rtr && !f.fdf && (f.ide == r.1) && decide (canId f.ide f.ident.toNat = r.2) &&
      decide (f.data.length = 8) then
    let sq := leNat (f.data.take 1)
    let carried := leNat (f.data.drop 1)
    let x := s.can c
    let toff :=
      match x.slvSeq with
      | some p => if sq = (p + 1) % 256 then BitVec.ofInt 32 ((carried : Int) - x.slvStamp) else x.toff
      | none => x.toff
    s.updCan c fun y => { y with slvSeq := some sq, slvStamp := stamp / 10, toff := toff }
  else s

/-- The receive error counter after a frame received well, under the standard: down by 1, and from above 127 to a value
between 119 and 127, which the standard leaves open (entry 6). -/
def recAfter (free : Word) (n : Nat) : Nat := if n ≤ 127 then n - 1 else 119 + free.toNat % 9

/-- CAN_FRAME_RECEIVED (R435, R441). `sof` is the instant of the start of frame on the lane's clock in ns. A frame
outside the supported subset is not received (R429). -/
def execCanFrameReceived (c : Fin 2) (f : CanFrame) (sof : Nat) (s : State) : Host.Outcome State Fault Refusal :=
  let c := c.val
  let st := s.station
  if f.wellFormed then
    .next (if s.canWorks c && !(f.fdf && f.rtr) && !(f.brs && !f.fdf) && (canFden st c || !f.fdf) then
        let s0 := s.advance sof
        let stamp := s0.stampOf sof / 25 * 25
        let rc := recAfter s0.freeWord (s0.can c).recN
        let s1 := ((s0.freeUsed.updCan c fun x =>
          { x with recN := rc, estate := canEstate x.tecN rc }).lonelyEnd c).slaveStamp c f stamp
        let same := (rxMaps st).filter fun m =>
          decide (mapCtrl st m = c) && (mapIde st m == f.ide) && (mapFdf st m == f.fdf) && !f.rtr &&
          decide (mapId st m = canId f.ide f.ident.toNat)
        match same with
        | m :: _ =>
          if 8 * f.data.length = (mapCells st m).2 then
            s1.updMap m fun x => { x with payload := f.data, at_ := some s1.pins.now }
          else s1.evtCab 6
        | [] => if filterTakes st c f then s1.rxQueue c f stamp else s1
      else s)
  else .fault .illFormed

/-- RECEIVE_ACKNOWLEDGEMENT (R442): the head entry is released. -/
def execReceiveAcknowledgement (sid : BitVec 16) (s : State) : Host.Outcome State Fault Refusal :=
  .next (s.plainWrite sid.toNat 0x0B0010 2 fun t => { t with cab.rxq := t.cab.rxq.drop 1 })

/-! ### Transmit queue (R438, R439) -/

/-- The header that TXHDR0 and TXHDR1 hold (R449), with the payload of the TXDATA registers. -/
def State.stagedFrame (s : State) : CanFrame :=
  let h := s.cab.txhdr0
  let f : CanFrame :=
    { ide := h.getLsbD 30, fdf := h.getLsbD 29, brs := h.getLsbD 28, rtr := h.getLsbD 27, esi := false,
      dlc := h.extractLsb' 16 4, ident := s.cab.txhdr1.extractLsb' 0 29, data := [] }
  { f with data := ((List.range 16).flatMap fun i => leBytes 4 (tabGet 0#32 i s.cab.txdata).toNat).take f.len }

/-- The header keeps within the supported subset (R429): no remote frame in FD format, no bit-rate switch outside it. -/
def canAllowed (f : CanFrame) : Bool := !(f.fdf && f.rtr) && !(f.brs && !f.fdf)

/-- The lowest free entry. -/
def State.freeEntry (s : State) : Option Nat := (List.range 32).find? fun e => decide ((s.txEntry e).st = .free)

/-- A write of 1 to TXPOST (R438). -/
def State.txPost (s : State) : State :=
  match s.freeEntry with
  | none => { s with cab.postRef := true }
  | some e =>
    if canAllowed s.stagedFrame then
      let x : TxEntry :=
        { st := .pending, cause := 0, att := 0, ack := 0, ctrl := bitNat (s.cab.txhdr0.getLsbD 31), frame := s.stagedFrame,
          order := s.cab.txOrder }
      { (s.updTx e fun _ => x) with cab.postRef := false, cab.postEntry := e, cab.txOrder := s.cab.txOrder + 1 }
    else { s with cab.postRef := true }

/-- POST (R438). -/
def execPost (sid : BitVec 16) (s : State) : Host.Outcome State Fault Refusal :=
  .next (s.plainWrite sid.toNat 0x0B0004 2 State.txPost)

/-- A cancel of entry `e`, answered in TXCNCL (R439). -/
def State.txCancel (s : State) (e : Nat) : State :=
  match (s.txEntry e).st with
  | .pending => ({ (s.updTx e fun x => { x with st := .aborted }) with cab.cancelAns := 1 } : State).evtCab 2
  | .started | .completed => { s with cab.cancelAns := 2 }
  | .aborted => { s with cab.cancelAns := 1 }
  | .failed => { s with cab.cancelAns := 3 }
  | .free => { s with cab.cancelAns := 4 }

/-- CANCEL (R439). -/
def execCancel (sid : BitVec 16) (e : Fin 32) (s : State) : Host.Outcome State Fault Refusal :=
  .next (s.plainWrite sid.toNat 0x0B0008 2 fun t => t.txCancel e.val)

/-- A write of 1 to TXSTe.REL (R438, R450). -/
def State.txRelease (s : State) (e : Nat) : State :=
  match (s.txEntry e).st with
  | .completed | .aborted | .failed => s.updTx e fun _ => tx0
  | _ => s

/-- ENTRY_RELEASE (R438). -/
def execEntryRelease (sid : BitVec 16) (e : Fin 32) (s : State) : Host.Outcome State Fault Refusal :=
  .next (s.plainWrite sid.toNat (0x0B0200 + 4 * e.val) 2 fun t => t.txRelease e.val)

end Sys2Proof.Machine
end

