-- ==== Sys2Proof/Machine/Angle.lean ====
section
/-! DEFINITION. Supply angle and set angle (the chapter "Cluster Time, Supply Angle and the Logic Cycle"): the value of
either at an instant, and the D11 edge at which one next reaches an angle. -/

namespace Sys2Proof.Machine

/-- Units of angle in a supply cycle (R58). -/
def turn : Nat := 4294967296

/-- Units of angle that pass in `dt` ns at `f` mHz, rounded down (R64). -/
def angleUnits (f : Nat) (dt : Int) : Int := (f : Int) * dt * (turn : Int) / 1000000000000

/-- The first ns after the origin at which at least `u` units have passed at `f` mHz. -/
def unitsNs (f : Nat) (u : Int) : Int :=
  if f = 0 then 0 else (u * 1000000000000 + (f : Int) * (turn : Int) - 1) / ((f : Int) * (turn : Int))

/-- An angle as a number of units below a turn. -/
def wrapAngle (i : Int) : Nat := (i % (turn : Int)).toNat

/-- The signed 32-bit difference of two angles (R64, R74). -/
def angleDiff (a b : Nat) : Int := toS32 (wrapAngle ((a : Int) - b))

/-- An instant rounded up to a D11 edge (10 ns). -/
def edgeUp (t : Nat) : Nat := (t + 9) / 10 * 10

/-! ### Own angle (R58 to R63) -/

/-- TAE.CFG with the strapped SUPNOM as its default (R59, R81). -/
def State.taeCfg (s : State) : Nat := s.cfg 0x030000 (26 * 16 + s.supf)
def State.supNom (s : State) : Nat := bits s.taeCfg 0 2
def State.srcSel (s : State) : Nat := bits s.taeCfg 2 2

/-- On a DC supply the angle is synthetic (R63). -/
def State.dcAngle (s : State) : Bool := decide (s.supNom = 3)

/-- The nominal frequency of SUPNOM in mHz (R59); 100 Hz for the synthetic angle. -/
def nominalMhz (n : Nat) : Nat := match n with | 0 => 50000 | 1 => 60000 | 2 => 16700 | _ => 100000

/-- The frequency window in mHz (R59): nominal ± 15 %, clipped to 14 Hz to 66 Hz. -/
def freqLow (n : Nat) : Nat := max 14000 (nominalMhz n * 85 / 100)
def freqHigh (n : Nat) : Nat := min 66000 (nominalMhz n * 115 / 100)

/-- What the own angle has gained since `angAt`, in 1/10^14 units (R60, R61): it runs at `runFreq`, and 5 % faster or slower
until the phase difference is gained. -/
def Tae.angleGain (x : Tae) (dt : Int) : Int :=
  let u : Int := (x.runFreq : Int) * dt * (turn : Int)
  let g : Int := max 0 (min ((x.slewLeft.natAbs : Int) * 100000000000000) (5 * u))
  100 * u + (if 0 ≤ x.slewLeft then g else -g)

/-- The own angle at an instant of the lane's clock (R58, R60, R61, R63). Before the loop starts it reads 0. So does the
synthetic angle of a DC supply while the lane has no cluster time (DESIGN CHOICE, entry 67). -/
def State.ownAngleAt (s : State) (t : Int) : Nat :=
  if !s.tae.loopOn then 0
  else if s.dcAngle then (if s.tae.ctOff.isSome then s.ctAt t % 10000000 * turn / 10000000 else 0)
  else wrapAngle ((s.tae.angle : Int) + s.tae.angleGain (t - s.tae.angAt) / 100000000000000)

/-- The own angle now. -/
def State.ownAngle (s : State) : Nat := s.ownAngleAt s.pins.now

/-- ANGV as it stands (R63: on DC it equals TIMEV). -/
def State.angv (s : State) : Bool := if s.dcAngle then s.tae.timev else s.tae.angv

/-- The supply frequency in mHz that the word cell reads (R63: 0 on DC). -/
def State.freqCell (s : State) : Nat := if s.dcAngle then 0 else s.tae.freq

/-- The supply period in ns (R284), at the frequency at which the own angle runs: of the synthetic angle on DC. -/
def State.supplyNs (s : State) : Nat :=
  if s.dcAngle then 10000000 else 1000000000000 / (if s.tae.runFreq = 0 then nominalMhz s.supNom else s.tae.runFreq)

/-- The own angle is based anew now, so that its rate can change without a step (R61). -/
def State.angleRebase (s : State) : State := { s with tae.angle := s.ownAngle, tae.angAt := s.pins.now }

/-- The first ns after `angAt` at which the own angle has gained `u` units (R61). -/
def Tae.gainNs (x : Tae) (u : Int) : Int :=
  let ceil (a : Int) (r : Nat) : Int := if r = 0 then 0 else (a * 100000000000000 + (r : Int) - 1) / (r : Int)
  let f := x.runFreq * turn
  let slewing := ceil u (f * if 0 ≤ x.slewLeft then 105 else 95)
  if slewing * (5 * f) ≤ (x.slewLeft.natAbs : Int) * 100000000000000 then slewing else ceil (u - x.slewLeft) (f * 100)

/-- The clock value of the first D11 edge, not before `from_`, at which the own angle reaches or passes `a` (R66). -/
def State.ownReach (s : State) (a from_ : Nat) : Nat :=
  let prev : Int := (edgeUp from_ : Int) - 10
  let d := wrapAngle ((a : Int) - s.ownAngleAt prev - 1) + 1
  if s.dcAngle then
    let c := s.ctAt prev
    edgeUp (max from_ (s.clockAt (c - c % 10000000 + (((c % 10000000 * turn / 10000000 + d) * 10000000 + turn - 1) / turn))))
  else
    let u := s.tae.angleGain (prev - s.tae.angAt) / 100000000000000 + d
    max (edgeUp from_) (edgeUp ((s.tae.angAt : Int) + s.tae.gainNs u).toNat)

/-! ### The set angle (R64) -/

/-- Units of the model in force that have passed since its T0 at cluster time `t`. During a hold under d < 0 they stand
at the value that the old model had reached at T_commit. -/
def State.setUnits (s : State) (t : Int) : Int :=
  let u := angleUnits s.tae.samFrq (t - s.tae.samT0)
  match s.tae.samHold with
  | none => u
  | some old =>
    let cb : Nat := s.cycC * s.basicNs
    let uc := angleUnits s.tae.samFrq cb
    max u (uc - angleDiff (wrapAngle ((s.tae.samAng : Int) + uc)) old)

/-- θ_set at cluster time `t`. -/
def State.setAngleAt (s : State) (t : Int) : Nat := wrapAngle ((s.tae.samAng : Int) + s.setUnits t)

/-- Cluster time of the first D11 edge at or after `t` at which θ_set reaches or passes `a` (R66). -/
def State.setReachFrom (s : State) (a : Nat) (t : Int) : Int :=
  let e := (t + 9) / 10 * 10
  let u0 := s.setUnits (e - 10)
  let d := wrapAngle ((a : Int) - (s.tae.samAng : Int) - u0 - 1) + 1
  let r := (s.tae.samT0 : Int) + unitsNs s.tae.samFrq (u0 + d)
  max e ((r + 9) / 10 * 10)

/-- The clock value of the first D11 edge, not before `from_`, at which θ_set reaches or passes `a`. -/
def State.setReach (s : State) (a from_ : Nat) : Nat := s.clockAt (s.setReachFrom a (s.ctAt from_ : Int)).toNat

/-! ### Angle slots (R65, R91) -/

/-- Slot n: enabled, reference, action, target, angle. -/
def State.aslotCtl (s : State) (n : Nat) : Nat := s.cfg (0x031004 + 8 * n) 0
def State.aslotEn (s : State) (n : Nat) : Bool := bit (s.aslotCtl n) 31
def State.aslotRef (s : State) (n : Nat) : Bool := bit (s.aslotCtl n) 30
def State.aslotAct (s : State) (n : Nat) : Nat := bits (s.aslotCtl n) 8 8
def State.aslotTgt (s : State) (n : Nat) : Nat := bits (s.aslotCtl n) 0 8
def State.aslotAng (s : State) (n : Nat) : Nat := s.cfg (0x031000 + 8 * n) 0

/-- The enabled angle slots of an action and target, ascending. -/
def State.aslotsOf (s : State) (act tgt : Nat) : List Nat :=
  (List.range 256).filter fun n =>
    s.aslotEn n && decide (s.aslotAct n = act) && decide (s.aslotTgt n = tgt)

end Sys2Proof.Machine
end

