-- ==== Sys2Proof/Machine/Logic.lean ====
section
/-! DEFINITION. The logic instructions (the chapter "Logic Instruction Set") and the ends of regions and scans. An
instruction works on the rung context of half 0, and in the dual-logic half-split on that of half 1 as well (R128). Rungs
run in program order: by R112 the order in which the rung units complete changes no result. -/

namespace Sys2Proof.Machine

/-! ### One instruction on one half -/

/-- What an instruction does on one half. -/
structure HalfOut where
  rung : Rung
  store : Option (Nat × Cell)
  deriving DecidableEq, Repr

/-- What an instruction on a half can meet: a result, a stack fault (R154), or an encoding that R150 excludes. -/
inductive HalfRes where
  | ok (o : HalfOut)
  | stackFault
  | malformed
  deriving DecidableEq, Repr

/-- What one half sees: the image content, its read port, and T0(n) from the T0 word cells. -/
structure HalfView where
  st : Station
  get : Nat → Cell

/-- T0(n) as a half sees it. -/
def HalfView.t0 (v : HalfView) : W64 := t0Cells v.st v.get

/-- The rung context at an instruction: a rung start begins with nothing, and needs an empty block stack before it
(R108, R154). A KHI prefix directly before belongs to the rung (R147). -/
def rungAt (rs : Bool) (r : Rung) : Option Rung :=
  if rs then (if r.stack = [] then some { Rung.empty with prefixKH := r.prefixKH } else none) else some r

/-- A result that leaves the block stack and stores nothing; the prefix is used up. -/
def accOut (r : Rung) (acc : Bool) : HalfRes :=
  .ok { rung := { r with acc := some acc, prefixKH := none }, store := none }

/-- A result that keeps the accumulator and may store. -/
def storeOut (r : Rung) (w : Option (Nat × Cell)) : HalfRes :=
  .ok { rung := { r with prefixKH := none }, store := w }

/-- The operand combined with the accumulator by M (R145, R149); AND and OR read acc (R152). -/
def combine (m : Combine) (r : Rung) (x : Bool) : HalfRes :=
  match m, r.acc with
  | .load, _ => accOut r x
  | .and, some a => accOut r (a && x)
  | .or, some a => accOut r (a || x)
  | _, none => .stackFault

/-- LD, AND, OR and their N forms (R149, R155). -/
def semLd (rs n : Bool) (m : Combine) (a : Nat) (v : HalfView) (r : Rung) : HalfRes :=
  if cellKind a = some .bit then
    match rungAt rs r with
    | none => .stackFault
    | some r' => combine m r' (xor (readBit v.st a (v.get a)) n)
  else .malformed

/-- LDC (R149): 1 when N = 0, 0 when N = 1. -/
def semLdc (rs n : Bool) (r : Rung) : HalfRes :=
  match rungAt rs r with
  | none => .stackFault
  | some r' => accOut r' (!n)

/-- An open with operand (R149, R152). -/
def semAndOpen (n : Bool) (op : BlockOp) (a : Nat) (v : HalfView) (r : Rung) : HalfRes :=
  if cellKind a = some .bit then
    match r.acc with
    | none => .stackFault
    | some x =>
      if 16 ≤ r.stack.length then .stackFault
      else
        .ok { rung := { acc := some (xor (readBit v.st a (v.get a)) n),
                        stack := { saved := some x, op := op } :: r.stack, prefixKH := none }, store := none }
  else .malformed

/-- An open without operand (R149, R152): the accumulator becomes undefined. -/
def semOpen (op : BlockOp) (r : Rung) : HalfRes :=
  match r.acc with
  | none => .stackFault
  | some x =>
    if 16 ≤ r.stack.length then .stackFault
    else .ok { rung := { acc := none, stack := { saved := some x, op := op } :: r.stack, prefixKH := none }, store := none }

/-- A close (R152): the popped value combined with the accumulator, inverted by N. -/
def semClose (n : Bool) (r : Rung) : HalfRes :=
  match r.acc, r.stack with
  | some x, { saved := some sv, op := op } :: t =>
    let w := xor x n
    .ok { rung := { acc := some (match op with | .and => sv && w | .or => sv || w), stack := t, prefixKH := none },
          store := none }
  | _, _ => .stackFault

/-- ST and STN (R156): always a store of acc or its inverse, with Q = 1 (R105). -/
def semSt (n : Bool) (a : Nat) (r : Rung) : HalfRes :=
  if cellKind a = some .bit then
    match r.acc with
    | none => .stackFault
    | some x => storeOut r (some (a, .bit (xor x n) true))
  else .malformed

/-- SET and RST (R156, R110): a store of `b` only when acc is 1. -/
def semSetRst (b : Bool) (a : Nat) (r : Rung) : HalfRes :=
  if cellKind a = some .bit then
    match r.acc with
    | none => .stackFault
    | some x => storeOut r (if x then some (a, .bit b true) else none)
  else .malformed

/-- TON (R159). The store leaves P unchanged and writes Q = 1. -/
def semTon (a : Nat) (v : HalfView) (r : Rung) : HalfRes :=
  if cellKind a = some .timer then
    match r.acc, v.get a with
    | some x, .timer p start run q =>
      let c : Cell := .timer p start run q
      let running := readRunning c
      if x then
        if running then .ok { rung := { r with acc := some (readElapsed v.t0 c), prefixKH := none }, store := none }
        else .ok { rung := { r with acc := some false, prefixKH := none }, store := some (a, .timer p v.t0 true true) }
      else if running || !q then
        .ok { rung := { r with acc := some false, prefixKH := none }, store := some (a, .timer p start false true) }
      else .ok { rung := { r with acc := some false, prefixKH := none }, store := none }
    | _, _ => .stackFault
  else .malformed

/-- TOF (R160). The store that stops an elapsed timer keeps S (entry 72). -/
def semTof (a : Nat) (v : HalfView) (r : Rung) : HalfRes :=
  if cellKind a = some .timer then
    match r.acc, v.get a with
    | some x, .timer p start run q =>
      let c : Cell := .timer p start run q
      if x then .ok { rung := { r with acc := some true, prefixKH := none }, store := some (a, .timer p v.t0 true true) }
      else if readRunning c then
        if readElapsed v.t0 c then
          .ok { rung := { r with acc := some false, prefixKH := none }, store := some (a, .timer p start false true) }
        else .ok { rung := { r with acc := some true, prefixKH := none }, store := none }
      else .ok { rung := { r with acc := some false, prefixKH := none }, store := none }
    | _, _ => .stackFault
  else .malformed

/-- A timer test (R161) combined with the accumulator; N inverts the test. -/
def semTimerTest (test : HalfView → Cell → Bool) (rs n : Bool) (m : Combine) (a : Nat) (v : HalfView) (r : Rung) : HalfRes :=
  if cellKind a = some .timer then
    match rungAt rs r with
    | none => .stackFault
    | some r' => combine m r' (xor (test v (v.get a)) n)
  else .malformed

/-- EDGR and EDGF (R162): the edge reported, and the memory always stored with Q = 1. -/
def semEdge (rising : Bool) (a : Nat) (v : HalfView) (r : Rung) : HalfRes :=
  if cellKind a = some .edge then
    match r.acc, v.get a with
    | some x, .edge mem q =>
      .ok { rung := { r with acc := some (if rising then x && !mem && q else !x && mem && q), prefixKH := none },
            store := some (a, .edge x true) }
    | _, _ => .stackFault
  else .malformed

/-- The constant K of a Format K instruction (R146). -/
def constK (r : Rung) (kl : BitVec 7) : Word :=
  match r.prefixKH with
  | some kh => kh ++ kl
  | none => kl.signExtend 32

/-- The address of a Format K operand names a word cell that exists (R93, R99, R150). -/
def wordOk (w : Nat) : Bool := decide (w < 0x3F2D) || (decide (0x3F30 ≤ w) && decide (w < 0x3F36))

/-- A compare (R163): signed 32-bit numbers, combined with the accumulator by M. -/
def semCmp (test : Int → Int → Bool) (rs : Bool) (m : Combine) (w : Nat) (kl : BitVec 7) (v : HalfView) (r : Rung) : HalfRes :=
  if wordOk w then
    match rungAt rs r with
    | none => .stackFault
    | some r' =>
      combine m r' (test (readWord v.st (0x40000 + w) (v.get (0x40000 + w))).toInt (constK r' kl).toInt)
  else .malformed

/-- WSTK (R164): K stored with Q = 1 when acc is 1. -/
def semWstk (w : Nat) (kl : BitVec 7) (r : Rung) : HalfRes :=
  if wordOk w then
    match r.acc with
    | none => .stackFault
    | some x => storeOut r (if x then some (0x40000 + w, .word (constK r kl) true) else none)
  else .malformed

/-- KHI (R146, R147): the prefix of the next instruction; acc passes unchanged. -/
def semKhi (kh : BitVec 25) (r : Rung) : HalfRes := .ok { rung := { r with prefixKH := some kh }, store := none }

/-! ### Words of the program (R144, R149) -/

def insFence (w : Word) : Bool := !insKhi w && insOp w = 1
def insEnd (w : Word) : Bool := !insKhi w && insOp w = 2

/-- The instruction at a program address. -/
def State.insAt (s : State) (pc : Nat) : Option Word := s.station.program[pc]?

/-- The program address is the start of a region. -/
def State.atRegion (s : State) (pc : Nat) : Bool :=
  decide (pc = 0) || (match s.insAt (pc - 1) with | some w => insFence w | none => false)

/-- The program address is the start of a rung, or of a FENCE or END that ends the region. A KHI before a rung start belongs to
the rung. -/
def State.atRung (s : State) (pc : Nat) : Bool :=
  match s.insAt pc with
  | some w =>
    if insKhi w then (match s.insAt (pc + 1) with | some x => insRs x | none => false)
    else insFence w || insEnd w ||
      (insRs w && (match (if pc = 0 then none else s.insAt (pc - 1)) with | some x => !insKhi x | none => true))
  | none => true

/-- FENCE instructions that stand in a row at the program address. -/
def State.fencesAt (s : State) (pc : Nat) : Nat := ((s.station.program.drop pc).takeWhile insFence).length

/-- The next rung to execute in HOLD and the region that holds it (R135, R140): a FENCE that stands before it is passed, and
after the last rung of the program it is the first one again. -/
def State.nextRung (s : State) : Nat × Nat :=
  let f := s.fencesAt s.lge.pc
  match s.insAt (s.lge.pc + f) with
  | some w => if insEnd w then (s.fencesAt 0, s.fencesAt 0) else (s.lge.pc + f, s.lge.region + f + bitNat (s.lge.drain = some false))
  | none => (s.lge.pc, s.lge.region)

/-- STEP_SCAN stands at the start of the breakpoint region. -/
def State.atBreak (s : State) : Bool :=
  s.lge.brken && decide (s.lge.region = s.lge.breg) && s.atRegion s.lge.pc && decide (s.lge.stepPc < s.lge.pc)

/-- The step that runs has done what it was to do. -/
def State.stepEnded (s : State) : Bool :=
  s.lge.candidate ||
  (match s.lge.stepKind with
   | some .rung => s.atRung s.lge.pc && decide (s.lge.stepPc < s.lge.pc)
   | some .region => s.atRegion s.lge.pc && decide (s.lge.stepPc < s.lge.pc)
   | some .scan => s.atBreak
   | _ => false)

/-- M of a Format A or K instruction; none is 0b11, reserved (R145). -/
def combineOf (m : Nat) : Option Combine := if m = 0 then some .load else if m = 1 then some .and else if m = 2 then some .or else none

/-- The operation of an open; none is a combine mode that R149 excludes for it. -/
def openOf (m : Nat) : Option BlockOp := if m = 1 then some .and else if m = 2 then some .or else none

/-- A Format A instruction with a combine mode: `f`, where the operand is of the kind that the opcode names (R150). -/
def decodeA (w : Word) (k : CellKind) (f : Combine → Instr) : Option Instr :=
  if cellKind (insA w) = some k then (combineOf (insM w)).map f else none

/-- A Format A instruction that stores or names a timer or edge cell: `i`, where M is not the reserved mode, or is `0b00` where
the opcode asks for it, and the operand is of its kind (R150). -/
def decodeSt (w : Word) (k : CellKind) (load : Bool) (i : Instr) : Option Instr :=
  if cellKind (insA w) = some k ∧ insM w ≠ 3 ∧ (load = true → insM w = 0) then some i else none

/-- A compare (R150): `f`, where the word cell exists. -/
def decodeK (w : Word) (f : Combine → Instr) : Option Instr := if wordOk (bits w.toNat 7 14) then (combineOf (insKm w)).map f else none

/-- The instruction that a word of the program encodes (R144, R145, R149), with no ECC event; none is one that R150 calls a
program-memory error: a reserved opcode, a combine mode reserved or excluded, or an operand of another kind. -/
def insDecode (w : Word) : Option Instr :=
  if insKhi w then some (.khi .none (w.extractLsb' 0 25))
  else
    let a := w.extractLsb' 0 20
    let n := insN w
    let rs := insRs w
    let cell := w.extractLsb' 7 14
    let kl := w.extractLsb' 0 7
    match insOp w with
    | 0x01 => some (.fence .none)
    | 0x02 => some (.endScan .none)
    | 0x08 => decodeA w .bit fun m => .ld .none rs n m a
    | 0x09 => if insM w = 0 then some (.ldc .none rs n) else none
    | 0x0C => if cellKind (insA w) = some .bit then (openOf (insM w)).map fun op => .andOpen .none n op a else none
    | 0x0D => (openOf (insM w)).map fun op => .andOpenNoOperand .none op
    | 0x0E => if insM w = 0 then some (.blockClose .none n) else none
    | 0x10 => decodeSt w .bit false (.st .none n a)
    | 0x11 => decodeSt w .bit false (.set .none a)
    | 0x12 => decodeSt w .bit false (.rst .none a)
    | 0x18 => decodeSt w .timer true (.ton .none a)
    | 0x19 => decodeSt w .timer true (.tof .none a)
    | 0x1A => decodeA w .timer fun m => .ldte .none rs n m a
    | 0x1B => decodeA w .timer fun m => .ldtr .none rs n m a
    | 0x1C => decodeSt w .edge true (.edgr .none a)
    | 0x1D => decodeSt w .edge true (.edgf .none a)
    | 0x20 => decodeK w fun m => .ldeq .none rs m cell kl
    | 0x21 => decodeK w fun m => .ldne .none rs m cell kl
    | 0x22 => decodeK w fun m => .ldlt .none rs m cell kl
    | 0x23 => decodeK w fun m => .ldle .none rs m cell kl
    | 0x24 => decodeK w fun m => .ldgt .none rs m cell kl
    | 0x25 => decodeK w fun m => .ldge .none rs m cell kl
    | 0x28 => if insKm w = 0 ∧ wordOk (bits w.toNat 7 14) = true then some (.wstk .none cell kl) else none
    | _ => none

/-! ### The scan -/

/-- LGE executes instructions: a scan runs, or in HOLD a step that has more to do (R125), no drain is due and the block is live. -/
def State.lgeRuns (s : State) : Bool :=
  (s.lge.scan || (decide (s.lane.st = .hold) && s.lge.stepKind.isSome && !s.stepEnded)) && decide (s.lge.drain = none) &&
  s.blockLive 4

/-- A scan is aborted (R131, R154): nothing of the region reaches the image, and the lane withdraws itself with LGE
implicated. -/
def State.scanAbort (s : State) : State :=
  ({ s with lge.scan := false, lge.drain := none, lge.buf0 := [], lge.buf1 := [], lge.rung0 := Rung.empty,
            lge.rung1 := Rung.empty, lge.candidate := false, lge.aborted := true, lge.region := 0, lge.pc := 0,
            lge.step := if s.lge.stepKind.isSome then .completed else s.lge.step, lge.stepKind := none } : State).withdraw .lge

/-- Entries that a store takes (R107, R119): two for a timer, one otherwise. -/
def storeWeight : Cell → Nat
  | .timer _ _ _ _ => 2
  | _ => 1

/-- Entries held in a half of the store buffer. -/
def bufCount (b : List StoreEntry) : Nat := (b.map fun e => storeWeight e.content).foldl (· + ·) 0

/-- A store is held in the buffer of a half, tagged with its program address (R109, R117). -/
def State.hold0 (s : State) (a : Nat) (c : Cell) : State :=
  { s with lge.buf0 := s.lge.buf0 ++ [{ tag := s.lge.pc, addr := a, content := c }] }
def State.hold1 (s : State) (a : Nat) (c : Cell) : State :=
  { s with lge.buf1 := s.lge.buf1 ++ [{ tag := s.lge.pc, addr := a, content := c }] }

/-- The stores of an instruction: one to a forbidden cell is dropped and sets ROWR (R101). A reserved hardware bit cell, which
R101 does not name, is treated as forbidden, and reads as its safe value (entry 70). The cells of a lamp channel that is not enabled
keep V = 0 and Q = 0, whatever is stored (R240). -/
def State.takeStore (s : State) (half1 : Bool) (w : Option (Nat × Cell)) : State :=
  match w with
  | none => s
  | some (a, c) =>
    if !storable s.station a then s.evtLge 6
    else if lampOff s.station a then s
    else if half1 then s.hold1 a c else s.hold0 a c

/-- The result of an instruction on both halves. Outside the split every entry stands in half 0, so that half's limit is the one
that counts (R119, entry 71). -/
def State.instrDone (s : State) (o0 : HalfOut) (o1 : Option HalfOut) : State :=
  let s1 := ({ s with lge.rung0 := o0.rung } : State).takeStore false o0.store
  let s2 :=
    match o1 with
    | none => s1
    | some o => ({ s1 with lge.rung1 := o.rung } : State).takeStore true o.store
  let s3 : State := { s2 with lge.pc := s2.lge.pc + 1 }
  if 1536 < bufCount s3.lge.buf0 || 1536 < bufCount s3.lge.buf1 then (s3.evtLge 5).scanAbort else s3

/-- An instruction on the state: half 0, and half 1 in the split. -/
def State.runInstr (s : State) (sem : HalfView → Rung → HalfRes) : State :=
  let v0 : HalfView := { st := s.station, get := s.lge.rep0.get s.station }
  let v1 : HalfView := { st := s.station, get := s.lge.rep1.get s.station }
  match sem v0 s.lge.rung0 with
  | .stackFault => (s.evtLge 4).scanAbort
  | .malformed => (s.evtLge 2).scanAbort
  | .ok o0 =>
    if s.lge.split then
      match sem v1 s.lge.rung1 with
      | .stackFault => (s.evtLge 4).scanAbort
      | .malformed => (s.evtLge 2).scanAbort
      | .ok o1 => s.instrDone o0 (some o1)
    else s.instrDone o0 none

/-- The ECC events of R131 before an instruction takes effect: corrected errors are counted and a March test is due;
an uncorrectable error aborts the scan. -/
def State.eccThen (s : State) (e : Ecc) (f : State → State) : State :=
  match e with
  | .none => f s
  | .corrProgram => f (({ s with lge.pcorr := satInc 65535 s.lge.pcorr, lge.marchDue := true } : State).evtLge 0)
  | .corrState => f (({ s with lge.scorr := satInc 65535 s.lge.scorr, lge.marchDue := true } : State).evtLge 1)
  | .uncProgram => (s.evtLge 2).scanAbort
  | .uncState => (s.evtLge 3).scanAbort

/-- An instruction executes where LGE runs. -/
def State.logic (s : State) (e : Ecc) (f : State → State) : State := if s.lgeRuns then s.eccThen e f else s

/-- A region closes (R118, R165): FENCE and END need an empty block stack, and a drain is due. -/
def State.closeRegion (s : State) (last : Bool) : State :=
  if s.lge.rung0.stack = [] ∧ (s.lge.split = false ∨ s.lge.rung1.stack = []) then
    { s with lge.drain := some last, lge.pc := s.lge.pc + 1, lge.rung0 := Rung.empty, lge.rung1 := Rung.empty }
  else (s.evtLge 4).scanAbort

/-! ### The meanings of the instructions -/

def execLd (e : Ecc) (rs n : Bool) (m : Combine) (a : BitVec 20) (s : State) : Host.Outcome State Fault Refusal :=
  .next (s.logic e fun t => t.runInstr (semLd rs n m a.toNat))

def execLdc (e : Ecc) (rs n : Bool) (s : State) : Host.Outcome State Fault Refusal :=
  .next (s.logic e fun t => t.runInstr fun _ => semLdc rs n)

def execAndOpen (e : Ecc) (n : Bool) (op : BlockOp) (a : BitVec 20) (s : State) : Host.Outcome State Fault Refusal :=
  .next (s.logic e fun t => t.runInstr (semAndOpen n op a.toNat))

def execAndOpenNoOperand (e : Ecc) (op : BlockOp) (s : State) : Host.Outcome State Fault Refusal :=
  .next (s.logic e fun t => t.runInstr fun _ => semOpen op)

def execBlockClose (e : Ecc) (n : Bool) (s : State) : Host.Outcome State Fault Refusal :=
  .next (s.logic e fun t => t.runInstr fun _ => semClose n)

def execSt (e : Ecc) (n : Bool) (a : BitVec 20) (s : State) : Host.Outcome State Fault Refusal :=
  .next (s.logic e fun t => t.runInstr fun _ => semSt n a.toNat)

def execSet (e : Ecc) (a : BitVec 20) (s : State) : Host.Outcome State Fault Refusal :=
  .next (s.logic e fun t => t.runInstr fun _ => semSetRst true a.toNat)

def execRst (e : Ecc) (a : BitVec 20) (s : State) : Host.Outcome State Fault Refusal :=
  .next (s.logic e fun t => t.runInstr fun _ => semSetRst false a.toNat)

def execTon (e : Ecc) (a : BitVec 20) (s : State) : Host.Outcome State Fault Refusal :=
  .next (s.logic e fun t => t.runInstr (semTon a.toNat))

def execTof (e : Ecc) (a : BitVec 20) (s : State) : Host.Outcome State Fault Refusal :=
  .next (s.logic e fun t => t.runInstr (semTof a.toNat))

def execLdte (e : Ecc) (rs n : Bool) (m : Combine) (a : BitVec 20) (s : State) : Host.Outcome State Fault Refusal :=
  .next (s.logic e fun t => t.runInstr (semTimerTest (fun v c => readElapsed v.t0 c) rs n m a.toNat))

def execLdtr (e : Ecc) (rs n : Bool) (m : Combine) (a : BitVec 20) (s : State) : Host.Outcome State Fault Refusal :=
  .next (s.logic e fun t => t.runInstr (semTimerTest (fun _ c => readRunning c) rs n m a.toNat))

def execEdgr (e : Ecc) (a : BitVec 20) (s : State) : Host.Outcome State Fault Refusal :=
  .next (s.logic e fun t => t.runInstr (semEdge true a.toNat))

def execEdgf (e : Ecc) (a : BitVec 20) (s : State) : Host.Outcome State Fault Refusal :=
  .next (s.logic e fun t => t.runInstr (semEdge false a.toNat))

def execLdeq (e : Ecc) (rs : Bool) (m : Combine) (w : BitVec 14) (kl : BitVec 7) (s : State) : Host.Outcome State Fault Refusal :=
  .next (s.logic e fun t => t.runInstr (semCmp (fun x k => decide (x = k)) rs m w.toNat kl))

def execLdne (e : Ecc) (rs : Bool) (m : Combine) (w : BitVec 14) (kl : BitVec 7) (s : State) : Host.Outcome State Fault Refusal :=
  .next (s.logic e fun t => t.runInstr (semCmp (fun x k => decide (x ≠ k)) rs m w.toNat kl))

def execLdlt (e : Ecc) (rs : Bool) (m : Combine) (w : BitVec 14) (kl : BitVec 7) (s : State) : Host.Outcome State Fault Refusal :=
  .next (s.logic e fun t => t.runInstr (semCmp (fun x k => decide (x < k)) rs m w.toNat kl))

def execLdle (e : Ecc) (rs : Bool) (m : Combine) (w : BitVec 14) (kl : BitVec 7) (s : State) : Host.Outcome State Fault Refusal :=
  .next (s.logic e fun t => t.runInstr (semCmp (fun x k => decide (x ≤ k)) rs m w.toNat kl))

def execLdgt (e : Ecc) (rs : Bool) (m : Combine) (w : BitVec 14) (kl : BitVec 7) (s : State) : Host.Outcome State Fault Refusal :=
  .next (s.logic e fun t => t.runInstr (semCmp (fun x k => decide (k < x)) rs m w.toNat kl))

def execLdge (e : Ecc) (rs : Bool) (m : Combine) (w : BitVec 14) (kl : BitVec 7) (s : State) : Host.Outcome State Fault Refusal :=
  .next (s.logic e fun t => t.runInstr (semCmp (fun x k => decide (k ≤ x)) rs m w.toNat kl))

def execWstk (e : Ecc) (w : BitVec 14) (kl : BitVec 7) (s : State) : Host.Outcome State Fault Refusal :=
  .next (s.logic e fun t => t.runInstr fun _ => semWstk w.toNat kl)

def execKhi (e : Ecc) (kh : BitVec 25) (s : State) : Host.Outcome State Fault Refusal :=
  .next (s.logic e fun t => t.runInstr fun _ => semKhi kh)

/-- FENCE (R165). -/
def execFence (e : Ecc) (s : State) : Host.Outcome State Fault Refusal :=
  .next (s.logic e fun t => t.closeRegion false)

/-- END (R165). -/
def execEndScan (e : Ecc) (s : State) : Host.Outcome State Fault Refusal :=
  .next (s.logic e fun t => t.closeRegion true)

/-- A reserved or malformed instruction is an uncorrectable program-memory error (R150): PUNC, scan aborted. A word that encodes an
instruction is none, and is not executed by this command. -/
def execReservedOpcode (w : Word) (s : State) : Host.Outcome State Fault Refusal :=
  .next (if s.lgeRuns && (insDecode w).isNone then (s.evtLge 2).scanAbort else s)

/-! ### Drains -/

/-- The entry is the one with the highest tag for its cell (R109, R118). -/
def drainWins (b : List StoreEntry) (e : StoreEntry) : Bool :=
  b.all fun x => decide (x.addr ≠ e.addr) || decide (x.tag ≤ e.tag)

/-- A replica after the drain of a half: each cell takes the content of the store with the highest tag. -/
def drainInto (st : Station) (r : Replica) (b : List StoreEntry) : Replica :=
  b.foldl (fun r e => if drainWins b e then r.put st e.addr e.content else r) r

/-- The cells stored by a half, for the digest of R130. -/
def drainLog (t : Tab Cell) (b : List StoreEntry) : Tab Cell :=
  b.foldl (fun t e => if drainWins b e then tabSet (.bit false false) e.addr e.content t else t) t

/-- The store buffer drains: half 0 into both replicas, or each half into its own replica in the split (R118, R128). -/
def State.drainBuf (s : State) : State :=
  if s.lge.split then
    { s with lge.rep0 := drainInto s.station s.lge.rep0 s.lge.buf0, lge.rep1 := drainInto s.station s.lge.rep1 s.lge.buf1,
             lge.stored0 := drainLog s.lge.stored0 s.lge.buf0, lge.stored1 := drainLog s.lge.stored1 s.lge.buf1,
             lge.buf0 := [], lge.buf1 := [] }
  else
    { s with lge.rep0 := drainInto s.station s.lge.rep0 s.lge.buf0, lge.rep1 := drainInto s.station s.lge.rep1 s.lge.buf0,
             lge.buf0 := [], lge.buf1 := [] }

/-- A drain ends (R118): after a FENCE the next region may issue; after END the scan's end is due. -/
def execRegionDrainEnd (s : State) : Host.Outcome State Fault Refusal :=
  match s.lge.drain with
  | none => .next s
  | some false => .next { s.drainBuf with lge.drain := none, lge.region := s.lge.region + 1 }
  | some true => .next s.drainBuf

/-- Duration of the scan in 10 ns units (R138). -/
def State.scanTook (s : State) : Nat := satTo 65535 ((s.pins.now - s.lge.scanAt) / 10)

/-- A lane in fall-back withdraws itself by a row of R194. -/
def State.fallbackWithdraw (s : State) (row : Nat) (u : FaultUnit) : State :=
  ((s.fallbackRecord row).withdraw u).fallbackLasting

/-- The scan ends (R121, R130): the candidate image stands; in the split the halves are compared, and a difference sets
SPLITMIS and withdraws the lane. A scan stepped in HOLD, or aborted, counts for neither time of R138 (entry 73). -/
def State.scanFinish (s : State) : State :=
  let s1 := s.drainBuf
  let img := outputImage s1.station s1.lge.rep0
  let s2 : State :=
    { s1 with lge.scan := false, lge.drain := none, lge.region := 0, lge.pc := 0, lge.oimg := img,
              lge.odig := outputDigest img, lge.candidate := true,
              lge.scanLast := if s.lge.scan then s.scanTook else s.lge.scanLast,
              lge.scanMax := if s.lge.scan then max s.lge.scanMax s.scanTook else s.lge.scanMax,
              grd.chkok := false, lnb.outReady := s.pins.now,
              tae.phase := if s.lane.st = .run then 8 else s.tae.phase }
  if s.lge.split then
    if img = outputImage s1.station s1.lge.rep1 ∧ s1.lge.stored0 = s1.lge.stored1 then s2
    else
      let s3 := ({ s2 with lge.candidate := false } : State).evtLge 7
      if s3.grd.gmode = .fallback then s3.fallbackWithdraw 3 .lge else s3.withdraw .lge
  else s2

/-- SCAN_END: the drain at END completes (R121). -/
def execScanEnd (s : State) : Host.Outcome State Fault Refusal :=
  .next (if s.lge.drain = some true then s.scanFinish else s)

end Sys2Proof.Machine
end

