-- ==== Sys2Proof/Machine/Guardian.lean ====
section
/-! DEFINITION. The Guardian (the chapter of that name): tables, guard images, the pass, vetoes, Guardian faults, and the
entry to and exit from dual-logic fall-back. -/

namespace Sys2Proof.Machine

/-! ### Tables (R168 to R176, R188) -/

/-- A 32-bit word of the table memory, by byte offset. -/
def grdWord (st : Station) (off : Nat) : Nat := (tabGet 0#32 (off / 4) st.grd).toNat

/-- A 16-bit entry of the table memory, by byte offset. -/
def grdHalf (st : Station) (off : Nat) : Nat := bits (grdWord st off) (8 * (off % 4)) 16

/-- Counts of the header (R188): guarded outputs, groups, literal rows, membership entries. -/
def grdNout (st : Station) : Nat := bits (grdWord st 4) 0 14
def grdNgrp (st : Station) : Nat := bits (grdWord st 4) 14 13
def grdNrow (st : Station) : Nat := bits (grdWord st 8) 0 14
def grdNmemb (st : Station) : Nat := bits (grdWord st 8) 16 15

/-- TCRC of the header (R188). -/
def grdTcrc (st : Station) : W64 := BitVec.ofNat 64 (grdWord st 0x20 + grdWord st 0x24 * 4294967296)

/-- FBPERM of GRD.CFG, loaded from the header (R188, R195). -/
def grdFbperm (st : Station) : Bool := bit (grdWord st 0x10) 0

/-- Offsets 0x1000 to 0xFFFFF of the table memory as bytes, and the CRC-64 over them of the words that it delivers, where those
of `bad` stand in place of what it holds (R186). -/
def grdBytes (st : Station) : List Byte := (List.range 261120).flatMap fun i => leBytes 4 (grdWord st (0x1000 + 4 * i))
def grdCrc (st : Station) (bad : List (Nat × Word)) : W64 :=
  let t : Tab Word := bad.foldl (fun t e => tabSet 0#32 e.1 e.2 t) st.grd
  crc64Sparse 261120 ((t.filter fun e => decide (0x400 ≤ e.1) && decide (e.1 < 0x40000)).map fun e => (e.1 - 0x400, e.2))

/-- GRD.ALLOW, loaded from the header's ALLOW; a zero field stands for its default (R188, R197). -/
def grdAllow (st : Station) : Nat :=
  let v := bits (grdWord st 0xC) 0 16
  let l := bits (grdWord st 0xC) 16 16
  (if l = 0 then 600 else l) * 65536 + (if v = 0 then 200 else v)

/-- The release allowances in ns (R197). -/
def grdVoutAllow (st : Station) : Nat := bits (grdAllow st) 0 16 * 1000
def grdLampAllow (st : Station) : Nat := bits (grdAllow st) 16 16 * 100000

/-- Gather entry e (R170): enabled, and the first cell of its block. -/
def gatherEn (st : Station) (e : Nat) : Bool := bit (grdWord st (0x1000 + 4 * e)) 31
def gatherBase (st : Station) (e : Nat) : Nat := 32 * bits (grdWord st (0x1000 + 4 * e)) 0 15

/-- The two words of a guarded-output descriptor (R173). -/
def outWord0 (st : Station) (o : Nat) : Nat := grdWord st (0x2000 + 8 * o)
def outWord1 (st : Station) (o : Nat) : Nat := grdWord st (0x2004 + 8 * o)
def outEn (st : Station) (o : Nat) : Bool := bit (outWord0 st o) 31
def outDidx (st : Station) (o : Nat) : Nat := bits (outWord0 st o) 23 7
def outSrc (st : Station) (o : Nat) : Nat := bits (outWord0 st o) 20 3
def outCell (st : Station) (o : Nat) : Nat := bits (outWord0 st o) 0 20
def outGix (st : Station) (o : Nat) : Nat := bits (outWord1 st o) 16 14
def outRows (st : Station) (o : Nat) : Nat := bits (outWord1 st o) 14 2 + 1
def outRow (st : Station) (o : Nat) : Nat := bits (outWord1 st o) 0 14

/-- The enabled guarded outputs, ascending. -/
def guardedOutputs (st : Station) : List Nat := (List.range (grdNout st)).filter (outEn st)

/-- An exclusion-group descriptor (R176). -/
def grpWord (st : Station) (g : Nat) : Nat := grdWord st (0x12000 + 4 * g)
def grpEn (st : Station) (g : Nat) : Bool := bit (grpWord st g) 31
def grpBbm (st : Station) (g : Nat) : Bool := bit (grpWord st g) 24
def grpNmem (st : Station) (g : Nat) : Nat := bits (grpWord st g) 15 9
def grpMemb (st : Station) (g : Nat) : Nat := bits (grpWord st g) 0 15

/-- The members of a group: guarded-output indices. -/
def grpMembers (st : Station) (g : Nat) : List Nat :=
  (List.range (grpNmem st g)).map fun i => bits (grdHalf st (0x16000 + 2 * (grpMemb st g + i))) 0 13

/-- The enabled groups, ascending. -/
def exclusionGroups (st : Station) : List Nat := (List.range (grdNgrp st)).filter (grpEn st)

/-! ### Guard images (R170, R171) -/

/-- A guard-image cell: V and Q. The 32 cells of entry 511 always read V = 0, Q = 1. -/
def guardGet (g : GuardImage) (i : Nat) : Bool × Bool := if 0x3FE0 ≤ i then (false, true) else tabGet (false, false) i g

/-- V and Q of a bit cell as the gather copies them. -/
def cellVQ : Cell → Bool × Bool
  | .bit v q => (v, q)
  | _ => (false, false)

/-- A guard image gathered from a replica: entry e fills cells 32e to 32e + 31 (R170). -/
def gatherImage (st : Station) (r : Replica) : GuardImage :=
  ((List.range 511).filter (gatherEn st)).flatMap fun e =>
    ((List.range 32).map fun i => (32 * e + i, cellVQ (r.get st (gatherBase st e + i)))).filter
      fun x => decide (x.2 ≠ (false, false))

/-- The value of a literal (R171). -/
def literal (g : GuardImage) (l : Nat) : Bool :=
  let c := guardGet g (bits l 0 14)
  if c.2 then xor c.1 (bit l 15) else bit l 14

/-- The literals of a guarded output's term, in position order (R172). -/
def termLiterals (st : Station) (o : Nat) : List Nat :=
  (List.range (16 * outRows st o)).map fun p => grdHalf st (0x24000 + 32 * (outRow st o) + 2 * p)

/-- The lowest position whose literal reads 0; none where the term is true. -/
def termFails (st : Station) (g : GuardImage) (o : Nat) : Option Nat :=
  (termLiterals st o).findIdx? fun l => !literal g l

/-- A guarded output is active in an image: V = 1 with Q = 1 (R174). -/
def guardActive (st : Station) (g : GuardImage) (o : Nat) : Bool := guardGet g (outGix st o) = (true, true)

/-! ### Live states (R175, R181) -/

/-- LIT of aspect k of group g (R272). -/
def State.aspectLit (s : State) (g k : Nat) : Nat := s.cfg (0x070400 + 16 * (8 * g + k)) 0

/-- A lamp channel, an aspect group, an output of the state. -/
def State.lamp (s : State) (n : Nat) : LampState := tabGet lamp0 n s.lmp.lamp
def State.group (s : State) (g : Nat) : AspectState := tabGet aspect0 g s.lmp.group
def State.vout (s : State) (n : Nat) : VoutState := tabGet vout0 n s.vio.vout
def State.vin (s : State) (n : Nat) : VinState := tabGet vin0 n s.vio.vin

/-- The live state of an output: less than 120 µs since the last rising edge read back, of a wave that rises at every multiple of
100 µs (R216, R218). -/
def State.voutPhase (s : State) : Nat := s.d11 % 100000
def State.voutLive (s : State) (n : Nat) : Bool := (s.vout n).wave.live s.pins.now s.voutPhase 100000 120000

/-- The wave-live bit of a lamp channel: less than 25 µs, of a wave that rises at every multiple of 20 µs (R243, R246). -/
def State.lampPhase (s : State) : Nat := s.d11 % 20000
def State.lampLive (s : State) (n : Nat) : Bool := (s.lamp n).wave.live s.pins.now s.lampPhase 20000 25000

/-- The group shows aspect k, or sequences towards it. -/
def AspectState.towards (a : AspectState) (k : Nat) : Bool :=
  decide (a.shown = some k) || (match a.seq with | some q => decide (q.target = some k) | none => false)

/-- The live state of a guarded output (R175). -/
def State.liveState (s : State) (o : Nat) : Bool :=
  let st := s.station
  let d := outDidx st o
  match outSrc st o with
  | 1 => s.voutLive (d % 32)
  | 2 => if s.drives then (s.lamp (d % 32)).drive else s.lampLive (d % 32)
  | 3 =>
    let g := d / 8
    let k := d % 8
    let lit := s.aspectLit g k
    if s.drives then
      (s.group g).towards k && (List.range 32).any fun n => bit lit n && (s.lamp n).drive
    else (List.range 32).any fun n => bit lit n && s.lampLive n
  | _ => false

/-- The release allowance of a guarded output, in ns (R181). -/
def releaseAllow (st : Station) (o : Nat) : Nat := if outSrc st o = 1 then grdVoutAllow st else grdLampAllow st

/-- A live state that the committed image does not hold is tolerated for the release allowance after the T_commit at
which the output became inactive (R181). -/
def State.liveTolerated (s : State) (o : Nat) : Bool :=
  match s.grd.wasActive.find? fun e => e.1 = o with
  | none => false
  | some e => decide (s.pins.now < e.2 + releaseAllow s.station o)

/-! ### The pass (R177 to R185) -/

/-- Kind-1 and kind-2 violations of one image (R180): code `img` as DATA byte 2 of R185. -/
def imageViolations (st : Station) (img : Nat) (g : GuardImage) : List Violation :=
  ((guardedOutputs st).filterMap fun o =>
    if guardActive st g o then
      match termFails st g o with
      | none => none
      | some p => some { kind := 1, image := img, litpos := p, output := o, group := 0 }
    else none) ++
  ((exclusionGroups st).filterMap fun x =>
    let act := (grpMembers st x).filter (guardActive st g)
    if 2 ≤ act.length then some { kind := 2, image := img, litpos := 0, output := act.foldl min 8191, group := x }
    else none)

/-- Kind-3 violations: break before make, of the candidate against the committed image (R176). -/
def bbmViolations (st : Station) (cand comm : GuardImage) : List Violation :=
  (exclusionGroups st).filterMap fun x =>
    let ms := grpMembers st x
    if grpBbm st x &&
      ms.any fun m => guardActive st cand m && !guardActive st comm m &&
        ms.any fun k => decide (k ≠ m) && guardActive st comm k
    then some { kind := 3, image := 0, litpos := 0, output := (ms.filter (guardActive st cand)).foldl min 8191, group := x }
    else none

/-- Kind-4 violations: live without committed activity (R181). -/
def State.liveViolations (s : State) : List Violation :=
  (guardedOutputs s.station).filterMap fun o =>
    if s.liveState o && !guardActive s.station s.grd.comm o && !s.liveTolerated o then
      some { kind := 4, image := 2, litpos := 0, output := o, group := 0 }
    else none

/-- Everything that a pass finds (R180). -/
def State.passViolations (s : State) : List Violation :=
  let st := s.station
  s.liveViolations ++ imageViolations st 1 s.grd.comm ++
  (match s.grd.cand with
   | none => []
   | some c => imageViolations st 0 c ++ bbmViolations st c s.grd.comm)

/-- The order in which a pass chooses the violation that it reports (R185): live, committed, candidate; then the kind;
then the output, or for kinds 2 and 3 the group. -/
def violationLe (a b : Violation) : Bool :=
  if a.image ≠ b.image then decide (b.image < a.image)
  else if a.kind ≠ b.kind then decide (a.kind < b.kind)
  else if a.kind = 2 ∨ a.kind = 3 then decide (a.group ≤ b.group) else decide (a.output ≤ b.output)

/-- The violation that is reported. -/
def chooseViolation : List Violation → Option Violation
  | [] => none
  | v :: vs =>
    match chooseViolation vs with
    | none => some v
    | some w => if violationLe v w then some v else some w

/-- The mask of the kinds found: bit KIND − 1 (R185). -/
def kindMask (vs : List Violation) : Nat := (vs.map fun v => 2 ^ (v.kind - 1)).foldl (· ||| ·) 0

/-- A veto (R183, R185, R200, R201): counted; the first since the start fills VDET; outside SAFE it is recorded, and it
latches SAFE with cause 0x01 unless SUP masks the veto input. -/
def State.vetoNow (s : State) (v : Violation) (kinds : Nat) : State :=
  let s1 := (List.range 5).foldl (fun t k => if kinds.testBit k then t.evtGrd k else t) s
  let s2 : State := { s1 with grd.vcnt := satInc 65535 s1.grd.vcnt }
  let s3 : State :=
    if s2.grd.veto then s2
    else
      { s2 with
        grd.veto := true,
        grd.vdet0 := BitVec.ofNat 32 (v.kind * 2 ^ 29 + kinds * 2 ^ 24 + v.image * 2 ^ 22 + v.litpos * 2 ^ 16 + v.output),
        grd.vdet1 := BitVec.ofNat 32 ((s2.tae.cycnum % 65536) * 65536 + v.group) }
  if s3.grd.masked then s3
  else if s3.lane.safeLatch then s3.enterSafe 1
  else
    (s3.record 5 0x0500 0x0501 ([v.kind, kinds, v.image, v.litpos] ++ le 2 v.output ++ le 2 v.group)).enterSafe 1

/-! ### Guardian faults and fall-back (R186, R187, R190 to R194) -/

/-- What is kept of a node. -/
def State.nodeView (s : State) (n : Nat) : NodeView := tabGet node0 n s.lnb.node

/-- A peer is fully healthy: its health word met R190 in every basic cycle of the previous 10 s. -/
def State.peerHealthy (s : State) (k : Nat) : Bool :=
  decide (10000000000 ≤ (s.nodeView (s.peer k)).healthyFor * s.basicNs)

/-- SPLITOK of LGE.CTRL as SUP left it (R129, R134). -/
def State.splitOk (s : State) : Bool := bit (s.cfg 0x040000 2) 0

/-- The conditions of R191 that do not hold, in its order. -/
def State.fallbackUnmet (s : State) : Nat :=
  bitNat !(grdFbperm s.station && s.splitOk) + 2 * bitNat !(s.peerHealthy 0 && s.peerHealthy 1) + 4 * bitNat !s.voting

/-- The self-test of R567 or R191 on GRD. -/
def grdTest (now : Nat) (thenMem inFallback : Bool) : SelfTest :=
  { unit := .grd, planned := false, thenMem := thenMem, inFallback := inFallback, second := false, startAt := now }

/-- Entry into fall-back (R191). -/
def State.fallbackEnter (s : State) (gath : Bool) : State :=
  let s1 : State :=
    { s with grd.masked := true, grd.armed := false, grd.gmode := .fallback, lge.splitWant := some true,
             crt.test := some (grdTest s.pins.now gath true) }
  (s1.evtGrd 9).record 4 0x0500 0x0510 []

/-- The candidate stands and its check has not ended (R187). -/
def State.checking (s : State) : Bool := s.lge.candidate && !s.grd.chkok && !s.lge.split

/-- A Guardian fault (R187): the lane withdraws itself with GRD implicated, or enters fall-back. -/
def State.guardianFault (s : State) (gath : Bool) : State :=
  if s.grd.gmode = .fallback then s
  else if !s.checking && decide (s.fallbackUnmet = 0) then s.fallbackEnter gath
  else
    let s1 := if s.fallbackUnmet = 0 then s else s.record 3 0x0500 0x0512 [s.fallbackUnmet]
    ({ s1 with grd.gmode := .faultExcluded, lane.implicatedMem := gath } : State).withdraw .grd

/-- The event and the record of a fault of R186. -/
def State.guardianEvent (s : State) (k : Nat) : State := (s.evtGrd k).record 4 0x0500 0x0502 [k]

/-- GRD works: its clock running, not in reset and not under test. -/
def State.grdLive (s : State) : Bool :=
  s.blockLive 5 && !s.crt.rootLost && (match s.crt.test with | some t => decide (t.unit ≠ .grd) | none => true)

/-- The Scarab pipeline runs: tables loaded, and not held in reset as fall-back does (R191). -/
def State.grdRuns (s : State) : Bool :=
  (decide (s.grd.gmode = .checking) || decide (s.grd.gmode = .faultExcluded)) && s.grdLive

/-- The ECC event of a pass (R186). -/
def State.grdEcc (s : State) (e : GrdEcc) : State :=
  match e with
  | .none => s
  | .corrTable => (({ s with grd.tcorr := satInc 65535 s.grd.tcorr } : State).guardianEvent 5)
  | .corrImage => (({ s with grd.gcorr := satInc 65535 s.grd.gcorr } : State).guardianEvent 5)
  | .uncorrectable => (s.guardianEvent 6).guardianFault false

/-- A pass over the frozen images (R177, R180): a veto, latched at the D2 edge that ends cycle 132, 1,064 ns after the pass
starts (R183), or the candidate's check has passed, reported there too (R178). -/
def State.pass (s : State) : State :=
  let d := s.pins.now + 1064
  let s1 : State := { s with grd.passcnt := (s.grd.passcnt + 1) % 4294967296, grd.decAt := d }
  match chooseViolation s.passViolations with
  | some v => (s1.advance d).vetoNow v (kindMask s.passViolations)
  | none => if s.grd.cand.isSome ∧ s.grd.chkok = false then { s1 with grd.chkok := true, lnb.outReady := d } else s1

/-- GATHER_END (R178): the gather entries are in the candidate guard image, read from replica 1. -/
def execGatherEnd (s : State) : Host.Outcome State Fault Refusal :=
  .next (if s.lge.candidate && s.grdRuns && !s.lge.split &&
      (decide (s.lane.st = .prove) || decide (s.lane.st = .run) || decide (s.lane.st = .hold))
    then { s with grd.cand := some (gatherImage s.station s.lge.rep1), grd.chkok := false } else s)

/-- GUARDIAN_PASS (R177): pass k starts at cluster time k µs. -/
def execGuardianPass (k : Nat) (e : GrdEcc) (s : State) : Host.Outcome State Fault Refusal :=
  let s1 := s.advanceCt (1000 * k)
  .next (if s1.grdRuns then
      let s2 := s1.grdEcc e
      if s2.grdRuns then s2.pass else s2
    else s1)

/-- GUARDIAN_STALL (R184): a veto of kind 5 once 128 watch-oscillator periods, 4 µs nominal (entry 10), have passed without a
pass decision, where the counter is armed and neither a run on GRD nor the soft reset after it disarms it. -/
def execGuardianStall (s : State) : Host.Outcome State Fault Refusal :=
  .next (if s.grd.armed && !s.crt.inReset.getLsbD 5 && (match s.crt.test with | some t => decide (t.unit ≠ .grd) | none => true)
    then (s.advance (s.grd.decAt + 4000)).vetoNow { kind := 5, image := 3, litpos := 0, output := 0, group := 0 } 16 else s)

/-- TABLE_CRC_CHECK (R186, R202): a periodic computation, 100 ms after the start of the one before, over what the table memory
delivers. The result is shown, and a mismatch is a Guardian fault. -/
def execTableCrcCheck (bad : List (Nat × Word)) (s : State) : Host.Outcome State Fault Refusal :=
  .next (if decide (s.grd.gmode ≠ .notLoaded) && s.grdLive then
      let s1 := s.advance s.grd.crcAt
      let s2 : State := { s1 with grd.tcrc := grdCrc s.station bad, grd.crcAt := s.grd.crcAt + 100000000 }
      if grdCrc s.station bad = grdTcrc s.station then s2 else (s2.guardianEvent 8).guardianFault false
    else s)

/-- Between T_commit and the next T0 (R186). -/
def State.afterCommit (s : State) : Bool := decide (s.cycC * s.basicNs ≤ s.ct % max 1 s.logicNs)

/-- REGATHER_CHECK (R186): the committed blocks of replica 1 against the committed guard image. -/
def execRegatherCheck (s : State) : Host.Outcome State Fault Refusal :=
  .next (if s.grdRuns && s.grd.commFrom && s.afterCommit then
      if gatherImage s.station s.lge.rep1 = s.grd.comm then s else (s.guardianEvent 7).guardianFault true
    else s)

/-- The write of GRD.FBCMD (R204): accepted in fall-back only; the lane then withdraws itself before the next T_commit
(R194). -/
def State.fallbackExit (s : State) (op : Nat) : State :=
  if op = 1 then
    if s.grd.gmode = .fallback then
      (({ s with grd.fbcmd := .completed } : State).cmdEnd).fallbackWithdraw 4 .grd
    else { s with grd.fbcmd := .refused }
  else { s with grd.fbcmd := .refused }

/-- FALLBACK_EXIT_COMMAND: the command of R204 from a session at Maintainer level or above. -/
def execFallbackExitCommand (sid : BitVec 16) (s : State) : Host.Outcome State Fault Refusal :=
  .next (s.command sid.toNat 0x050034 1 2 fun t => t.fallbackExit 1)

end Sys2Proof.Machine
end

