-- ==== Sys2Proof/Machine/Lamp.lean ====
section
/-! DEFINITION. Lamp control and lamp proving (the chapters "Signal Lamp Control" and "Lamp Proving with Firefly
Bands"). -/

namespace Sys2Proof.Machine

/-! ### Configuration (R263 to R272, R296 to R299) -/

/-- DPPER in ns and DPW × 20 µs in ns. -/
def dpPer (st : Station) : Nat := bits (stCfg st 0x070000 (1000 * 65536 + 5)) 16 16 * 1000000
def dpWidth (st : Station) : Nat := bits (stCfg st 0x070000 (1000 * 65536 + 5)) 0 5 * 20000

/-- Feed group g. -/
def gfWord (st : Station) (g : Nat) : Nat := stCfg st (0x070020 + 4 * g) 0
def gfEn (st : Station) (g : Nat) : Bool := bit (gfWord st g) 31
def gfFeed (st : Station) (g : Nat) : Bool := bit (gfWord st g) 30
def gfOut (st : Station) (g : Nat) : Nat := bits (gfWord st g) 0 5

/-- Lamp channel n. -/
def chType (st : Station) (n : Nat) : Nat := bits (chWord st n) 29 2
def chDpen (st : Station) (n : Nat) : Bool := bit (chWord st n) 28
def chGrp (st : Station) (n : Nat) : Nat := bits (chWord st n) 4 3
def chAg (st : Station) (n : Nat) : Nat := bits (chWord st n) 0 4

/-- Aspect group g. -/
def agWord (st : Station) (g : Nat) : Nat := stCfg st (0x070200 + 8 * g) 0
def agEn (st : Station) (g : Nat) : Bool := bit (agWord st g) 31
def agDirect (st : Station) (g : Nat) : Bool := bit (agWord st g) 30
def agNasp (st : Station) (g : Nat) : Nat := bits (agWord st g) 16 4
def agDark (st : Station) (g : Nat) : Nat := bits (agWord st g) 0 8 * 1000000
def agFlper (st : Station) (g : Nat) : Nat := bits (stCfg st (0x070204 + 8 * g) (1000 * 65536 + 500)) 16 16
def agFlon (st : Station) (g : Nat) : Nat := bits (stCfg st (0x070204 + 8 * g) (1000 * 65536 + 500)) 0 16

/-- Aspect k of group g: LIT, FLASH, FBEN, FB. A dark head has an empty LIT (R248). -/
def aspLit (st : Station) (g k : Nat) : Nat := stCfg st (0x070400 + 16 * (8 * g + k)) 0
def aspFlash (st : Station) (g k : Nat) : Nat := stCfg st (0x070404 + 16 * (8 * g + k)) 0
def aspFben (st : Station) (g k : Nat) : Bool := bit (stCfg st (0x070408 + 16 * (8 * g + k)) 0) 31
def aspFb (st : Station) (g k : Nat) : Nat := bits (stCfg st (0x070408 + 16 * (8 * g + k)) 0) 0 3
def litOf (st : Station) (g : Nat) (a : Option Nat) : Nat := match a with | none => 0 | some k => aspLit st g k
def flashOf (st : Station) (g : Nat) (a : Option Nat) : Nat := match a with | none => 0 | some k => aspFlash st g k

/-- The lamps of an aspect group and of a feed group (R239). -/
def agLamps (st : Station) (g : Nat) : List Nat :=
  (List.range 32).filter fun n => chEn st n && decide (chAg st n = g)
def gfLamps (st : Station) (g : Nat) : List Nat :=
  (List.range 32).filter fun n => chEn st n && decide (chGrp st n = g)

/-- Proving configuration of channel n (R296); DWO 8 and DW 8 by default. -/
def prWord (st : Station) (n : Nat) : Nat := stCfg st (0x070300 + 4 * n) (8 * 16777216 + 8 * 2048)
def prWinen (st : Station) (n : Nat) : Bool := bit (prWord st n) 31
def prDwo (st : Station) (n : Nat) : Nat := bits (prWord st n) 24 5
def prInrush (st : Station) (n : Nat) : Nat := bits (prWord st n) 16 8 * 1000000
def prDw (st : Station) (n : Nat) : Nat := bits (prWord st n) 11 5
def prDark (st : Station) (n : Nat) : Int := bits (prWord st n) 0 11

/-- A signed 12-bit field. -/
def sext12 (v : Nat) : Int := if v < 2048 then (v : Int) else (v : Int) - 4096

/-- Template point i of channel n (R276, R299). -/
def tplLo (st : Station) (n i : Nat) : Int := sext12 (bits (stCfg st (0x074000 + 1024 * n + 4 * i) 0) 0 12)
def tplHi (st : Station) (n i : Nat) : Int := sext12 (bits (stCfg st (0x074000 + 1024 * n + 4 * i) 0) 12 12)

/-- A point is discriminating (R276). -/
def pointDisc (st : Station) (n i : Nat) : Bool :=
  decide (prDark st n < tplLo st n i) || decide (tplHi st n i < -prDark st n)

/-- The enabled angle slots of an action and target in an image: their angles. -/
def slotAngles (st : Station) (act tgt : Nat) : List Nat :=
  ((List.range 256).filter fun n =>
    let c := stCfg st (0x031004 + 8 * n) 0
    bit c 31 && decide (bits c 8 8 = act) && decide (bits c 0 8 = tgt)).map fun n => stCfg st (0x031000 + 8 * n) 0

/-- The proving window of a channel is open over the whole of a point (R282): the last of its slots before the point is
an opening one, and none closes it inside. -/
def pointInWindow (st : Station) (n i : Nat) : Bool :=
  let back (x a : Nat) : Nat := wrapAngle ((x : Int) - a)
  let near (l : List Nat) : Nat := (l.map (back (i * 16777216))).foldl min turn
  decide (near (slotAngles st 0x11 n) < near (slotAngles st 0x12 n)) &&
  (slotAngles st 0x12 n).all fun a => decide (a < i * 16777216 ∨ (i + 1) * 16777216 ≤ a)

/-- The points that count as blind in R277. -/
def pointBlind (st : Station) (n i : Nat) : Bool :=
  !pointDisc st n i || (prWinen st n && !pointInWindow st n i)

/-- The longest run of `true`, with the run that stands at the end. -/
def longestRun : List Bool → Nat → Nat → Nat
  | [], _, best => best
  | true :: t, run, best => longestRun t (run + 1) (max best (run + 1))
  | false :: t, _, best => longestRun t 0 best

/-- B: the longest cyclic run of consecutive blind points (R277). -/
def blindRun (st : Station) (n : Nat) : Nat :=
  let l := (List.range 256).map (pointBlind st n)
  min 256 (longestRun (l ++ l) 0 0)

/-! ### Entries changed -/

def State.updLamp (s : State) (n : Nat) (f : LampState → LampState) : State :=
  { s with lmp.lamp := tabUpd lamp0 n f s.lmp.lamp }
def State.updGroup (s : State) (g : Nat) (f : AspectState → AspectState) : State :=
  { s with lmp.group := tabUpd aspect0 g f s.lmp.group }

/-- LMP acts in PROVE and RUN (R251). -/
def State.lmpActs (s : State) : Bool :=
  (decide (s.lane.st = .prove) || decide (s.lane.st = .run)) && s.blockLive 7

/-- Lamp proving runs from the end of LOAD (R279). -/
def State.provingRuns (s : State) : Bool := s.tae.loopOn && s.blockLive 7

/-- A lit phase of flashing is in progress (R252): the last one that began has not ended. -/
def AspectState.lit (a : AspectState) : Bool :=
  match a.onPeriod, a.offPeriod with
  | some x, some y => decide (y < x)
  | some _, none => true
  | none, _ => false

/-- A channel emits the lamp wave, were its drives not held (R244, R252). -/
def State.emits (s : State) (n : Nat) : Bool :=
  (s.lamp n).drive && (!(s.lamp n).flash || (s.group (chAg s.station n)).lit)

/-- The wave of a channel follows its drive (R243, R244). A dark-proving pulse runs on to its own end while the drives are not held
static (R253). -/
def State.lampWave (s : State) (n : Nat) : State :=
  if s.drives && s.emits n then s.updLamp n fun l => { l with wave := l.wave.begin s.pins.now s.lampPhase 20000 }
  else if s.drives && (s.lamp n).wave.stop.isSome then s
  else s.updLamp n fun l => { l with wave := l.wave.halt s.pins.now }

/-! ### Expectation (R279 to R281, R285) -/

/-- The expectation that the channel's own state gives. -/
def State.expectOf (s : State) (n : Nat) : Expectation :=
  if (s.lamp n).drive then (if s.emits n then .lit else .darkFlash) else .dark

/-- The expectation changes (R280, R281, R284, R285). -/
def State.expectSet (s : State) (n : Nat) (e : Expectation) : State :=
  if (s.lamp n).expect = e then s
  else
    let s1 := s.updLamp n fun l => l.expecting s.pins.now (prInrush s.station n) e
    if e = .lit then s1 else s1.learnFail n

/-- A channel after a change of its drive: expectation and wave. -/
def State.lampRefresh (s : State) (n : Nat) : State :=
  if chEn s.station n then (s.expectSet n (s.expectOf n)).lampWave n else s

def State.lampsRefresh (s : State) : List Nat → State
  | [] => s
  | n :: ns => (s.lampRefresh n).lampsRefresh ns

/-- LAMP_LIVE_EXPIRE (R246): no further rising edge is read back, and 25 µs after the last one the wave is not live. -/
def execLampLiveExpire (ch : Fin 32) (s : State) : Host.Outcome State Fault Refusal :=
  let w := (s.lamp ch.val).wave
  .next (match w.ball, w.stop with
    | .asDriven, some _ =>
      match w.lastRise s.pins.now s.lampPhase 20000 with
      | some e => s.advance (e + 25000)
      | none => s
    | .asDriven, none => s.updLamp ch.val fun l => { l with wave := { l.wave with ball := .absent } }
    | .persists, _ => s.updLamp ch.val fun l => { l with wave := { l.wave with ball := .asDriven } }
    | .absent, _ => s)

/-- LAMP_DRIVE_FAULT (R246): no wave read back within 40 µs after the first edge due, or one read back more than 40 µs after the wave
stopped. -/
def execLampDriveFault (ch : Fin 32) (s : State) : Host.Outcome State Fault Refusal :=
  let w := (s.lamp ch.val).wave
  .next (if s.img.isSome && s.blockLive 7 then
      let due := decide (w.stop = none)
      let at_ := match w.stop with
        | none => w.firstEdge s.pins.now s.lampPhase 20000 + 40000
        | some x => x + 40001
      let s1 := (s.advance at_).updLamp ch.val fun l => { l with wave := { l.wave with ball := if due then .absent else .persists } }
      ((s1.evtLmp 0).record 4 0x0700 0x0704 [ch.val, bitNat !due]).withdraw .io
    else s)

/-! ### Aspects (R242, R247 to R250, R255 to R257) -/

/-- The effective request (R242). -/
def AspectState.effective (a : AspectState) : Option Nat :=
  match a.request, a.latch with
  | some r, some f => some (min r f)
  | r, _ => r

/-- An aspect is lower than another, or dark (R249). -/
def aspectBelow (c b : Option Nat) : Bool :=
  match c, b with
  | none, some _ => true
  | some x, some y => decide (x < y)
  | _, none => false

/-- Step 1 of R248 on the lamps now on: those outside LIT(b) are switched off, the others take b's flashing. -/
def State.lampsOffFor (s : State) (g : Nat) (b : Option Nat) : List Nat → State
  | [] => s
  | n :: ns =>
    (s.updLamp n fun l =>
      if l.drive && bit (litOf s.station g b) n then { l with flash := bit (flashOf s.station g b) n }
      else { l with drive := false, flash := false }).lampsOffFor g b ns

/-- Step 3 of R248: the lamps of LIT(b) are switched on. -/
def State.lampsOnFor (s : State) (g : Nat) (b : Option Nat) : List Nat → State
  | [] => s
  | n :: ns =>
    (if bit (litOf s.station g b) n then
      s.updLamp n fun l => { l with drive := true, flash := bit (flashOf s.station g b) n }
     else s).lampsOnFor g b ns

/-- A sequence towards b starts at this firing (R248); with DARKINT = 0 it ends there too. -/
def State.aspectStart (s : State) (g : Nat) (b : Option Nat) : State :=
  let ls := agLamps s.station g
  let s1 := (s.updGroup g fun a => { a with shown := b, seq := some { target := b, tsw := s.pins.now } }).lampsOffFor g b ls
  if agDark s.station g = 0 then (s1.lampsOnFor g b ls).updGroup g fun a => { a with seq := none } else s1

/-- A group in ASPECT mode at a switching firing (R248, R249). DARKINT is counted on the lane's own clock (entry 79). -/
def State.aspectFire (s : State) (g : Nat) : State :=
  let a := s.group g
  let ls := agLamps s.station g
  match a.seq with
  | none => if a.effective = a.shown then s else s.aspectStart g a.effective
  | some q =>
    if q.tsw + agDark s.station g ≤ s.pins.now then
      let s1 := (s.lampsOnFor g q.target ls).updGroup g fun a => { a with seq := none }
      if a.effective = a.shown then s1 else s1.aspectStart g a.effective
    else if aspectBelow a.effective q.target then
      (s.updGroup g fun x =>
        { x with shown := a.effective, seq := some { target := a.effective, tsw := s.pins.now } }).lampsOffFor g a.effective ls
    else s

/-- The aspect whose lamps the chain of R255 looks at: the target of a sequence, or the aspect shown. -/
def AspectState.judged (a : AspectState) : Option Nat :=
  match a.seq with
  | some q => q.target
  | none => a.shown

/-- The lamps of a list lose their report, and those that failed keep cell 7 (R260). -/
def State.reportsTaken (s : State) (failed : List Nat) : List Nat → State
  | [] => s
  | n :: ns =>
    (s.updLamp n fun l => { l with report := false, fbActive := l.fbActive || failed.contains n }).reportsTaken failed ns

/-- The fall-back chain at a switching firing (R255). -/
def State.fallbackFire (s : State) (g : Nat) : State :=
  let ls := agLamps s.station g
  match (s.group g).judged with
  | none => s.reportsTaken [] ls
  | some k =>
    let failed := ls.filter fun n =>
      (s.lamp n).report && bit (aspLit s.station g k) n && !s.lmp.iso.getLsbD (chGrp s.station n)
    if failed = [] ∨ aspFben s.station g k = false then s.reportsTaken [] ls
    else
      let f := aspFb s.station g k
      (((s.reportsTaken failed ls).updGroup g fun a => { a with latch := some f }).evtLmp 1).record 4 0x0700 0x0701 [g, f]

/-- A DIRECT group at a switching firing (R250). -/
def State.directFire (s : State) (g : Nat) : List Nat → State
  | [] => s
  | n :: ns =>
    let a := s.group g
    (s.updLamp n fun l =>
      { l with drive := a.cmdLit.getLsbD n, flash := a.cmdLit.getLsbD n && a.cmdFlash.getLsbD n }).directFire g ns

/-- A firing of a group's switching slot (R247). -/
def State.switchFire (s : State) (g : Nat) : State :=
  if s.lmpActs && agEn s.station g then
    let ls := agLamps s.station g
    if agDirect s.station g then (s.directFire g ls).lampsRefresh ls
    else
      let s1 := ((s.fallbackFire g).aspectFire g).lampsRefresh ls
      let a := s1.group g
      if a.seq = none ∧ a.shown = a.effective then s1.updGroup g fun x => { x with changing := false } else s1
  else s

/-- The latch of a group is cleared: cell 7 of its lamps reads 0 (R256, R260). -/
def State.latchClear (s : State) (g : Nat) : List Nat → State
  | [] => s.updGroup g fun a => { a with latch := none }
  | n :: ns => (s.updLamp n fun l => { l with fbActive := false }).latchClear g ns

/-- The requested aspect (R242): the lowest k whose cell reads 1. -/
def requestOf (st : Station) (g : Nat) (read : Nat → Bool) : Option Nat :=
  (List.range (agNasp st g)).find? fun k => read (0x3F200 + 16 * g + k)

/-- A mask of the lamps of a group whose cell k reads 1. -/
def lampMask (st : Station) (g k : Nat) (read : Nat → Bool) : Word :=
  (agLamps st g).foldl (fun m n => putBit m n (read (0x3F100 + 8 * n + k))) 0#32

/-- T_commit for a group (R247, R256): the pending request, and the end of a fall-back latch. -/
def State.lampCommit (s : State) (read : Nat → Bool) (g : Nat) : State :=
  let st := s.station
  if !agEn st g then s
  else if agDirect st g then
    s.updGroup g fun a => { a with cmdLit := lampMask st g 0 read, cmdFlash := lampMask st g 1 read }
  else
    let old := (s.group g).effective
    let r := requestOf st g read
    let s1 := s.updGroup g fun a => { a with request := r }
    let s2 :=
      match (s.group g).latch with
      | none => s1
      | some f =>
        if r = none ∨ r.getD 0 ≤ f then
          ((s1.latchClear g (agLamps st g)).evtLmp 5).record 2 0x0700 0x0702 [g, r.getD 255]
        else s1
    let a := s2.group g
    if a.effective = old then s2
    else s2.updGroup g fun x => { x with changing := decide (a.seq ≠ none) || decide (a.effective ≠ a.shown) }

def State.lampsCommit (s : State) (read : Nat → Bool) : List Nat → State
  | [] => s
  | g :: gs => (s.lampCommit read g).lampsCommit read gs

/-- The latch is set from the agreed cell (R257): FB of the current effective request. -/
def State.latchAgreed (s : State) (g : Nat) : State :=
  match (s.group g).effective with
  | none => s
  | some k =>
    if aspFben s.station g k then
      let f := aspFb s.station g k
      ((s.updGroup g fun a => { a with latch := some f }).evtLmp 1).record 4 0x0700 0x0701 [g, 128 + f]
    else s

/-- Agreed cell 13 of a group at T_IA (R257). A voting lane sets a clear latch and counts an outvoted one; a lane that
does not vote follows the cell where it has Q = 1. -/
def State.fallbackAgreed (s : State) (g : Nat) : State :=
  let st := s.station
  if !agEn st g || agDirect st g then s
  else
    let addr := 0x3F200 + 16 * g + 13
    let v := s.bitRead addr
    let q := (s.cell addr).q
    match (s.group g).latch, v with
    | none, true =>
      let s1 := s.updGroup g fun a => { a with outvoted := 0 }
      if s.voting || q then s1.latchAgreed g else s1
    | some _, false =>
      if s.voting then s.updGroup g fun a => { a with outvoted := a.outvoted + 1 }
      else if q then ((s.latchClear g (agLamps st g)).updGroup g fun a => { a with outvoted := 0 }).evtLmp 5
      else s.updGroup g fun a => { a with outvoted := 0 }
    | _, _ => s.updGroup g fun a => { a with outvoted := 0 }

def State.fallbacksAgreed (s : State) : List Nat → State
  | [] => s
  | g :: gs => (s.fallbackAgreed g).fallbacksAgreed gs

/-- FALLBACK_OUTVOTED (R257). -/
def execFallbackOutvoted (g : Fin 16) (s : State) : Host.Outcome State Fault Refusal :=
  .next (if 3 ≤ (s.group g.val).outvoted then
      (((s.updGroup g.val fun a => { a with outvoted := 0 }).evtLmp 2).record 4 0x0700 0x0703 [g.val]).withdraw .io
    else s)

/-! ### Flashing and dark-proving pulses (R252, R253) -/

/-- A flash-on firing: the lit phase of the last multiple of FLPER begins. The phases derive from cluster time and the set angle
alone, so they run in every lane state (R252). -/
def State.flashOn (s : State) (g : Nat) : State :=
  let m := s.ct / (agFlper s.station g * 1000000)
  if s.blockLive 7 && agEn s.station g && decide ((s.group g).onPeriod ≠ some m) then
    (s.updGroup g fun a => { a with onPeriod := some m }).lampsRefresh (agLamps s.station g)
  else s

/-- A flash-off firing: the lit phase of the last multiple M with M + FLON not after it ends. -/
def State.flashOff (s : State) (g : Nat) : State :=
  let m := (s.ct - agFlon s.station g * 1000000) / (agFlper s.station g * 1000000)
  if s.blockLive 7 && agEn s.station g && decide (agFlon s.station g * 1000000 ≤ s.ct) && decide ((s.group g).offPeriod ≠ some m) then
    (s.updGroup g fun a => { a with offPeriod := some m }).lampsRefresh (agLamps s.station g)
  else s

/-- The first firing of a slot of an action at or after a cluster time, by the model in force extended both ways. -/
def State.flashFiring (s : State) (act g : Nat) (t : Nat) : Option Int :=
  match (s.aslotsOf act g).map fun n => s.setReachFrom (s.aslotAng n) t with
  | [] => none
  | x :: xs => some (xs.foldl min x)

/-- The flash phases of a lane that first adopts a model at this T_commit (R252): of the last multiples of FLPER, those
whose lit phase has begun, and those whose lit phase has ended. -/
def State.flashAdopt (s : State) (g : Nat) : State :=
  let st := s.station
  let per := agFlper st g * 1000000
  let ta : Int := s.ct
  let ms := ((List.range 3).map fun i => s.ct / per - i).eraseDups
  let passed (act off : Nat) (m : Nat) : Bool :=
    match s.flashFiring act g (m * per + off) with | some t => decide (t ≤ ta) | none => false
  let on := ms.find? (passed 0x13 0)
  let off := ms.find? (passed 0x14 (agFlon st g * 1000000))
  if agEn st g then
    (s.updGroup g fun a =>
      { a with onPeriod := on, offPeriod := off }).lampsRefresh (agLamps st g)
  else s

def State.flashesAdopt (s : State) : List Nat → State
  | [] => s
  | g :: gs => (s.flashAdopt g).flashesAdopt gs

/-- A dark-proving slot fires (R253): one pulse for each multiple of DPPER, where the conditions hold at its first firing. A lane
whose drives are held at that firing emits none; it blanks and judges as the others do (R280, R286). -/
def State.darkPulse (s : State) (n : Nat) : State :=
  let st := s.station
  let m := s.ct / dpPer st
  if s.lmpActs && chEn st n && chDpen st n && decide ((s.lamp n).pulsePeriod ≠ some m) then
    let s1 := s.updLamp n fun l => { l with pulsePeriod := some m }
    if !(s.lamp n).drive && decide ((s.group (chAg st n)).seq = none) && !s.lmp.iso.getLsbD (chGrp st n) then
      let e := s.pins.now + dpWidth st
      s1.updLamp n fun l =>
        let k := (l.keep s.pins.now false).blankUntil (e + 120000)
        { k with pulse := some s.pins.now, pulseHit := false,
                 wave := if s.drives then l.wave.burst s.pins.now s.lampPhase 20000 e else l.wave }
    else s1
  else s

/-- A dark lamp whose evidence is complete is proven dark (R284). -/
def State.proveDark (s : State) (n : Nat) : State :=
  s.updLamp n fun l =>
    if l.expect = .dark ∧ prDw s.station n ≤ l.darkRun ∧ (chDpen s.station n = false ∨ l.dpok = true) then
      { l with pd := true, lwd := false }
    else l

/-- DARK_PULSE_END (R286): the pulse is judged once the last sample whose compensated instant lies in it is classified. -/
def execDarkPulseEnd (ch : Fin 32) (s : State) : Host.Outcome State Fault Refusal :=
  let n := ch.val
  match (s.lamp n).pulse with
  | none => .next s
  | some t =>
    let e := t + dpWidth s.station
    let s1 := (s.advance (e + 47500)).updLamp n fun l => { l with pulse := none }
    let l := s1.lamp n
    .next (
      if l.suspended then s1
      else if l.pulseHit then
        (s1.updLamp n fun l =>
          { l with dpok := true, dpFails := 0, oob := l.oob && !l.oobPulse, oobPulse := false }).proveDark n
      else if l.dpFails = 1 then
        (((s1.updLamp n fun l =>
          { l with dpok := false, dpFails := 2, oobPulse := l.oobPulse || !l.oob, oob := true, pd := false }).pevtLmp
            3).pevtLmp 2).record 3 0x0700 0x0713 [n, 1]
      else (s1.updLamp n fun l => { l with dpok := false, dpFails := l.dpFails + 1 }).pevtLmp 3)

/-- An instant lies in the blanking of a channel, or before the end of its INRUSH (R280, R281). -/
def blankAt (blankTo : Option Nat) (t : Nat) : Bool := match blankTo with | some e => decide (t ≤ e) | none => false
def inrushAt (inrushTo : Option Nat) (t : Nat) : Bool := match inrushTo with | some e => decide (t < e) | none => false

/-- BLANKING_END (R280): 120 µs after the change of expectation or the end of the pulse. -/
def execBlankingEnd (ch : Fin 32) (s : State) : Host.Outcome State Fault Refusal :=
  .next (match (s.lamp ch.val).blankTo with
    | some e => s.advance (e + 1)
    | none => s)

/-- INRUSH_END (R281): INRUSH ms after the change of expectation to lit. -/
def execInrushEnd (ch : Fin 32) (s : State) : Host.Outcome State Fault Refusal :=
  .next (match (s.lamp ch.val).inrushTo with
    | some e => s.advance e
    | none => s)

/-- A proving window opens or closes (R282). -/
def State.windowSet (s : State) (n : Nat) (o : Bool) : State :=
  s.updLamp n fun l => { l.keep s.pins.now false with window := o }

/-! ### Suspension (R289) -/

/-- A suspension of a channel starts. -/
def State.suspStart (s : State) (n : Nat) : State :=
  (s.updLamp n fun l =>
    { l.keep s.pins.now true with
        suspended := true, pl := false, pd := false, darkRun := 0, litRun := 0, oobRun := 0 }).learnFail n

/-- The channel of the measurement array that serves a lamp. -/
def State.meaOf (s : State) (n : Nat) : MeaState := tabGet mea0 n s.mea.chan

/-- The conditions of R289 hold for a channel. -/
def State.suspDue (s : State) (n : Nat) : Bool :=
  !(s.meaOf n).fastQ || (s.lmp.angSusp.isSome && decide (0 < blindRun s.station n))

/-- The channel's suspension follows the quality of its samples. -/
def State.suspCheck (s : State) (n : Nat) : State :=
  if s.suspDue n then
    if (s.lamp n).suspended then s
    else if (s.meaOf n).fastQ then s.suspStart n
    else ((s.suspStart n).pevtLmp 4).record 3 0x0700 0x0714 [n, 0]
  else s.updLamp n fun l => { l with suspended := false }

def State.suspChecks (s : State) : List Nat → State
  | [] => s
  | n :: ns => (if chEn s.station n then s.suspCheck n else s).suspChecks ns

def State.suspStarts (s : State) : List Nat → State
  | [] => s
  | n :: ns => (s.suspStart n).suspStarts ns

/-- Suspension by the angle follows ANGV and SLEW: one record for all channels that it newly suspends (R292). -/
def State.angleSusp (s : State) : State :=
  if !s.provingRuns then s
  else if s.angv && !s.tae.slew then ({ s with lmp.angSusp := none } : State).suspChecks (List.range 32)
  else
    let cause := s.lmp.angSusp.getD (if s.angv then 2 else 1)
    let hit := (List.range 32).filter fun n =>
      chEn s.station n && decide (0 < blindRun s.station n) && !(s.lamp n).suspended
    let s1 : State := { s with lmp.angSusp := some cause }
    if hit = [] then s1 else ((s1.suspStarts hit).pevtLmp 4).record 3 0x0700 0x0714 [255, cause]

/-! ### Evidence (R273 to R276, R283, R284) -/

/-- The point of a sample (R274). -/
def State.pointAt (s : State) (t : Nat) : Nat := s.ownAngleAt ((t : Int) - 37500) / 16777216

/-- Out-of-band evidence (R283, R284): of every sample while the expectation is lit, outside blanking and INRUSH, at blind points
and outside the proving window too. -/
def State.oobEvidence (s : State) (n pt : Nat) (v : Int) (t : Nat) : State :=
  let l := s.lamp n
  if l.expect = .lit ∧ inrushAt l.inrushTo t = false then
    if tplLo s.station n pt ≤ v ∧ v ≤ tplHi s.station n pt then s.updLamp n fun l => { l with oobRun := 0 }
    else
      let s1 := s.updLamp n fun l => { l with oobRun := l.oobRun + 1, oobLast := some t }
      if l.oobRun + 1 = prDwo s.station n then
        ((s1.updLamp n fun l => { l with oob := true }).pevtLmp 2).record 3 0x0700 0x0713 [n, 0]
      else s1
  else s

/-- Two whole supply periods without out-of-band evidence (R284). -/
def State.oobClear (s : State) (n t : Nat) : State :=
  let l := s.lamp n
  if l.expect = .lit ∧ l.oobPulse = false ∧ (match l.oobLast with | some x => decide (x + 2 * s.supplyNs ≤ t) | none => true) = true then
    s.updLamp n fun l => { l with oob := false }
  else s

/-- A DARK sample (R283, R284). -/
def State.darkSample (s : State) (n pt : Nat) : State :=
  let s1 := s.updLamp n fun l => { l with darkRun := l.darkRun + 1, litRun := 0 }
  let l := s1.lamp n
  if l.expect = .lit then
    if l.darkRun = prDw s.station n then
      ((s1.updLamp n fun l => { l with pl := false, dwl := true, report := true }).pevtLmp 0).record 4 0x0700 0x0711 [n, pt]
    else s1
  else s1.proveDark n

/-- A LIT sample (R283, R284). -/
def State.litSample (s : State) (n pt : Nat) : State :=
  let s1 := s.updLamp n fun l => { l with litRun := l.litRun + 1, darkRun := 0 }
  let l := s1.lamp n
  if l.litRun < prDw s.station n then s1
  else if l.expect = .lit then s1.updLamp n fun l => { l with pl := true, dwl := false }
  else if l.litRun = prDw s.station n then
    ((s1.updLamp n fun l => { l with pd := false, lwd := true }).pevtLmp 1).record 5 0x0700 0x0712 [n, pt]
  else s1

/-- A sample of a discriminating point (R283). -/
def State.classify (s : State) (n pt : Nat) (v : Int) : State :=
  let d := prDark s.station n
  if -d ≤ v ∧ v ≤ d then s.darkSample n pt
  else if (0 < v) = (d < tplLo s.station n pt) then s.litSample n pt
  else s.updLamp n fun l => { l with darkRun := 0, litRun := 0 }

/-- A learn takes a sample between its start and its end (R293, R298): smallest and largest s of the point. -/
def State.learnSample (s : State) (n pt : Nat) (v : Int) (t : Nat) : State :=
  match s.lmp.learn with
  | some r =>
    if r.chan = n ∧ r.startAt ≤ t ∧ t ≤ r.startAt + r.periods * s.supplyNs ∧ (s.lamp n).expect = .lit ∧
        inrushAt (s.lamp n).inrushTo t = false then
      { s with lmp.lrndat := tabUpd (1, 0) pt (fun e => if e.2 < e.1 then (v, v) else (min e.1 v, max e.2 v)) s.lmp.lrndat }
    else s
  | none => s

/-- A sample within a pulse (R286). -/
def State.pulseSample (s : State) (n : Nat) (v : Int) (t : Nat) : State :=
  match (s.lamp n).pulse with
  | some p =>
    let d := prDark s.station n
    if p + 37500 ≤ t ∧ t ≤ p + dpWidth s.station + 37500 ∧ ¬(-d ≤ v ∧ v ≤ d) then
      s.updLamp n fun l => { l with pulseHit := true }
    else s
  | none => s

/-- A sample judged against the conditions as they stand (R283 to R286). -/
def State.sampleJudge (s : State) (n : Nat) (v : Int) (t : Nat) : State :=
  let pt := s.pointAt t
  if (s.lamp n).suspended then s
  else
    let s2 := (s.pulseSample n v t).oobClear n t
    if blankAt (s2.lamp n).blankTo t then s2
    else
      let s3 := (s2.learnSample n pt v t).oobEvidence n pt v t
      if prWinen s.station n && !(s3.lamp n).window then s3
      else if pointDisc s.station n pt then s3.classify n pt v
      else s3

/-- The channel with its conditions as they stood before a change (R275). -/
def LampState.before (w : LampWas) (l : LampState) : LampState :=
  { l with expect := w.expect, darkRun := w.darkRun, litRun := w.litRun, oobRun := w.oobRun, blankTo := w.blankTo,
           inrushTo := w.inrushTo, window := w.window, suspended := w.suspended, pl := w.pl, pd := w.pd }

/-- The change taken again after a sample that preceded it: the conditions are those after it; the runs and the proven cells follow
the sample where the change did not reset them; what the sample declared stands. -/
def LampState.after (fresh : Bool) (w : LampWas) (now : LampState) (l : LampState) : LampState :=
  { l with expect := now.expect, blankTo := now.blankTo, inrushTo := now.inrushTo, window := now.window,
           suspended := now.suspended, was := now.was,
           darkRun := if fresh then now.darkRun else l.darkRun, litRun := if fresh then now.litRun else l.litRun,
           oobRun := if fresh then now.oobRun else l.oobRun, pl := if fresh && (now.suspended || decide (w.expect = .dark) || decide (now.expect = .dark)) then now.pl else l.pl,
           pd := if fresh then now.pd else l.pd }

/-- A corrected fast-path sample of a lamp channel (R273 to R275): judged against the conditions in force at its instant, so before
the earliest change kept that does not precede it. -/
def State.lampSample (s : State) (n : Nat) (y : Int) (t : Nat) : State :=
  if s.provingRuns && chEn s.station n then
    let s1 := s.suspCheck n
    let l := s1.lamp n
    let late := l.was.filter fun w => decide (t ≤ w.at_)
    match (s1.meaOf n).fastQ, late.getLast? with
    | false, _ => s1
    | true, none => s1.sampleJudge n (y / 16) t
    | true, some w =>
      let s2 := (s1.updLamp n (LampState.before w)).sampleJudge n (y / 16) t
      s2.updLamp n (LampState.after (late.any LampWas.fresh) w l)
  else s

/-! ### Capture and outvoting (R260, R261, R290, R291) -/

/-- Cells 2 to 7 of a lamp channel as captured: offset, V, Q. -/
def State.lampCells (s : State) (n : Nat) : List (Nat × Bool × Bool) :=
  let l := s.lamp n
  if chEn s.station n then
    let q := !s.suspDue n && !l.suspended
    [(2, l.pl, q), (3, l.pd, q), (4, l.dwl, q), (5, l.lwd, q), (6, l.oob, q),
     (7, l.fbActive && (s.group (chAg s.station n)).latch.isSome, true)]
  else (List.range 6).map fun k => (k + 2, false, false)

/-- Cells 8 to 14 of an aspect group as captured (R261). -/
def State.groupCells (s : State) (g : Nat) : List (Nat × Bool) :=
  let st := s.station
  let a := s.group g
  let ls := agLamps st g
  if agEn st g && !agDirect st g then
    let sh := a.shown.getD 0
    let proven := match a.shown with
      | none => false
      | some k => decide (a.seq = none) &&
          ls.all fun n => if bit (aspLit st g k) n then (s.lamp n).pl else (s.lamp n).pd
    [(8, bit sh 0), (9, bit sh 1), (10, bit sh 2), (11, proven), (12, decide (a.seq ≠ none) || a.changing),
     (13, a.latch.isSome), (14, decide (a.seq = none) && ls.all fun n => !(s.lamp n).pl)]
  else
    [(8, false), (9, false), (10, false), (11, false), (12, false), (13, false),
     (14, agEn st g && ls.all fun n => !(s.lamp n).pl)]

/-- The counts of R291 for a channel at T_IA: own captured cells against the agreed ones formed at that T_IA. -/
def State.provingCount (s : State) (n : Nat) : State :=
  s.updLamp n fun l =>
    { l with mis := (List.range 4).map fun k =>
        let addr := 0x3F102 + 8 * n + k
        match tabGet (.bit false false) addr s.inp.own, tabGet (.bit false false) addr s.inp.agreed with
        | .bit v true, .bit w true => if v = w then 0 else (l.mis.getD k 0) + 1
        | _, _ => 0 }

/-- Every enabled channel; at a T_IA at which the lane does not vote the counts start again. -/
def State.provingCounts (s : State) : List Nat → State
  | [] => s
  | n :: ns =>
    (if !chEn s.station n then s
     else if s.voting then s.provingCount n
     else s.updLamp n fun l => { l with mis := [] }).provingCounts ns

/-- PROVING_OUTVOTED (R291): cell k + 2 of a channel differed at 8 consecutive T_IA. -/
def execProvingOutvoted (ch : Fin 32) (k : Fin 4) (s : State) : Host.Outcome State Fault Refusal :=
  .next (if decide (8 ≤ (s.lamp ch.val).mis.getD k.val 0) && s.voting then
      (((s.updLamp ch.val fun l => { l with mis := l.mis.set k.val 0 }).pevtLmp 5).record 4 0x0700 0x0715
        [ch.val, k.val + 2]).withdraw .io
    else s)

/-! ### Isolation (R258, R259) -/

/-- The isolation latch of a feed group at T_IA (R258). -/
def State.isolateAgreed (s : State) (g : Nat) : State :=
  let st := s.station
  if gfEn st g && gfFeed st g && !s.lmp.iso.getLsbD g then
    match (gfLamps st g).find? fun n => decide (s.cell (0x3F105 + 8 * n) = .bit true true) with
    | some n => (({ s with lmp.iso := putBit s.lmp.iso g true } : State).evtLmp 3).record 5 0x0700 0x0705 [g, n]
    | none => s
  else s

def State.isolatesAgreed (s : State) : List Nat → State
  | [] => s
  | g :: gs => (s.isolateAgreed g).isolatesAgreed gs

/-- The feed of an output is cut (R258, R259): its feed group is isolated, or its latch was cleared in this cycle. -/
def State.feedCut (s : State) (o : Nat) : Bool :=
  (List.range 8).any fun g =>
    gfEn s.station g && gfFeed s.station g && decide (gfOut s.station g = o) &&
    (s.lmp.iso.getLsbD g || s.lmp.isoHold.getLsbD g)

/-- The write of LMP.ISOACK (R259, R267): refused while the lane's own acknowledgement waits; one heard from another lane is no
other pending one (entry 80). -/
def State.isoAck (s : State) (g : Nat) : State :=
  if !s.lmp.iso.getLsbD g || (s.lmp.acks.any fun a => a.own) then { s with lmp.isoack := .refused }
  else
    { s with lmp.isoack := .waiting, lmp.acks := s.lmp.acks ++ [{ item := g, cycle := none, own := true }],
             lnb.entries := s.lnb.entries ++ [[BitVec.ofNat 32 (0x04000000 + g)]] }

/-- ISOLATION_ACKNOWLEDGEMENT: the command of R259 from a session at Maintainer level or above. -/
def execIsolationAcknowledgement (sid : BitVec 16) (grp : Fin 8) (s : State) : Host.Outcome State Fault Refusal :=
  .next (s.command sid.toNat 0x070014 grp.val 2 fun t => t.isoAck grp.val)

/-- An isolation acknowledgement takes effect at a T0 (R259). FEEDOUT stays de-energised until the T_commit. -/
def State.isoAckApply (s : State) (a : PendingAck) : State :=
  let s1 : State :=
    { s with lmp.isoHold := putBit s.lmp.isoHold a.item (s.lmp.iso.getLsbD a.item || s.lmp.isoHold.getLsbD a.item),
             lmp.iso := putBit s.lmp.iso a.item false }
  let s2 := (s1.evtLmp 4).record 2 0x0700 0x0706 [a.item]
  if a.own then ({ s2 with lmp.isoack := .completed } : State).cmdEnd else s2

/-! ### Learn command (R293, R295) -/

/-- The write of LMP.LRN. -/
def State.learnWrite (s : State) (ch cyc : Nat) : State :=
  if (decide (s.mode = 1) || decide (s.mode = 2)) && chEn s.station ch && decide (s.lmp.learn = none) && decide (16 ≤ cyc)
  then { s with lmp.lrn := .running, lmp.learn := some { chan := ch, periods := cyc, startAt := s.pins.now },
                lmp.lrndat := [] }
  else { s with lmp.lrn := .refused }

/-- LEARN: the command of R293 from a session at Signalling Engineer level or above. -/
def execLearn (sid : BitVec 16) (ch : Fin 32) (cyc : BitVec 8) (s : State) : Host.Outcome State Fault Refusal :=
  .next (s.command sid.toNat 0x07001C (256 * cyc.toNat + ch.val) 3 fun t => t.learnWrite ch.val cyc.toNat)

/-- LEARN_END (R293): the CYC supply periods have passed. -/
def execLearnEnd (s : State) : Host.Outcome State Fault Refusal :=
  .next (match s.lmp.learn with
    | some r => (s.advance (r.startAt + r.periods * s.supplyNs)).learnDone false
    | none => s)

end Sys2Proof.Machine
end

