-- ==== Sys2Proof/Machine/Measure.lean ====
section
/-! DEFINITION. The measurement array (the chapter of that name). -/

namespace Sys2Proof.Machine

/-! ### Configuration (R322, R329, R330) -/

def meaCfg (st : Station) : Nat := stCfg st 0x080000 (2147483648 + 5 * 65536 + 50)
def meaRoten (st : Station) : Bool := bit (meaCfg st) 31
def meaTol (st : Station) : Nat := bits (meaCfg st) 16 8
def meaRotper (st : Station) : Nat := bits (meaCfg st) 0 16 * 100000000

/-- Channel n; the stand-ins 48 and 49 are always sampled. -/
def meaChWord (st : Station) (n : Nat) : Nat := stCfg st (0x081000 + 64 * n) 0
def meaEn (st : Station) (n : Nat) : Bool := if n < 48 then bit (meaChWord st n) 31 else true
def meaWmode (st : Station) (n : Nat) : Nat := bits (meaChWord st n) 29 2
def meaScale (st : Station) (n : Nat) : Int := toS32 (stCfg st (0x081004 + 64 * n) 0)

/-- Window A (0) or B (1) of channel n. -/
def winCtl (st : Station) (n w : Nat) : Nat := stCfg st (0x081018 + 64 * n + 8 * w) 0
def winLim (st : Station) (n w : Nat) : Nat := stCfg st (0x081014 + 64 * n + 8 * w) 0

/-- A signed 16-bit field. -/
def sext16 (v : Nat) : Int := if v < 32768 then (v : Int) else (v : Int) - 65536
def winLo (st : Station) (n w : Nat) : Int := sext16 (bits (winLim st n w) 0 16)
def winHi (st : Station) (n w : Nat) : Int := sext16 (bits (winLim st n w) 16 16)

def State.updMea (s : State) (n : Nat) (f : MeaState → MeaState) : State :=
  { s with mea.chan := tabUpd mea0 n f s.mea.chan }

/-! ### Correction (R309) -/

/-- A value held between two limits. -/
def clampInt (lo hi i : Int) : Int := if i < lo then lo else if hi < i then hi else i

def fastCorrect (off : Int) (gain : Nat) (x : Int) : Int := (256 * x - off) * (gain : Int) / 1073741824
def fineCorrect (off : Int) (gain : Nat) (x : Int) : Int := (x - off) * (gain : Int) / 4194304

/-- OFF and GAIN of the modulator that serves a channel (R309, R314). -/
def State.coefOf (s : State) (n : Nat) : Int × Nat :=
  match (s.meaOf n).srv with
  | some k => ((s.meaOf (48 + k.val)).off, (s.meaOf (48 + k.val)).gain)
  | none => ((s.meaOf n).off, (s.meaOf n).gain)

/-! ### Window comparators (R313) -/

/-- One valid sample of a window: the counts and, when one reaches the dwell, the transition. -/
def winStep (lo hi hyst : Int) (dwell : Nat) (v : Int) (w : WinRun) : WinRun :=
  if v < lo ∧ w.st ≠ .low then
    if dwell ≤ w.lowCnt + 1 then { st := .low, lowCnt := 0, highCnt := 0, inCnt := 0 }
    else { w with lowCnt := w.lowCnt + 1, highCnt := 0, inCnt := 0 }
  else if hi < v ∧ w.st ≠ .high then
    if dwell ≤ w.highCnt + 1 then { st := .high, lowCnt := 0, highCnt := 0, inCnt := 0 }
    else { w with lowCnt := 0, highCnt := w.highCnt + 1, inCnt := 0 }
  else if lo + hyst ≤ v ∧ v ≤ hi - hyst ∧ w.st ≠ .inside then
    if dwell ≤ w.inCnt + 1 then { st := .inside, lowCnt := 0, highCnt := 0, inCnt := 0 }
    else { w with lowCnt := 0, highCnt := 0, inCnt := w.inCnt + 1 }
  else { w with lowCnt := 0, highCnt := 0, inCnt := 0 }

/-- A window compares a sample of its path; one of invalid quality sets the counts to zero. -/
def State.winSample (s : State) (n w : Nat) (v : Int) (q : Bool) : State :=
  let st := s.station
  let old := if w = 0 then (s.meaOf n).winA else (s.meaOf n).winB
  let new :=
    if q then winStep (winLo st n w) (winHi st n w) (bits (winCtl st n w) 0 16) (bits (winCtl st n w) 16 6 + 1) v old
    else { old with lowCnt := 0, highCnt := 0, inCnt := 0 }
  let s1 := s.updMea n fun c => if w = 0 then { c with winA := new } else { c with winB := new }
  if new.st = old.st ∨ new.st = .inside then s1
  else (s1.evtMea 3).record 2 0x0800 0x0804 [n, 2 * w + bitNat (decide (new.st = .high))]

/-- Both windows, where enabled on this path (`fine` false for the fast path). -/
def State.winSamples (s : State) (n : Nat) (fine : Bool) (v : Int) (q : Bool) : State :=
  let on (w : Nat) : Bool := decide (n < 48) && bit (winCtl s.station n w) 31 && (bit (winCtl s.station n w) 30 == fine)
  let s1 := if on 0 then s.winSample n 0 v q else s
  if on 1 then s1.winSample n 1 v q else s1

/-! ### Samples (R301, R304, R310) -/

/-- What makes every sample of a channel invalid (R310). -/
def State.meaValid (s : State) (n : Nat) : Bool :=
  s.mea.rdy && s.mea.calDone && !(s.meaOf n).inv

/-- A corrected output and whether it saturated: an input beyond full scale saturates whatever the coefficients (R301, R309). -/
def saturate (lo hi raw x : Int) : Int × Bool :=
  let y := if hi < raw then hi else if raw < lo then lo else clampInt lo hi x
  (y, decide (y ≠ x) || decide (raw ≠ clampInt lo hi raw))

/-- An instant of the lane's clock is a multiple of a period of cluster time: the first nanosecond at or after it (R304). -/
def State.onGrid (s : State) (per t : Nat) : Bool := decide (s.ctAt t / per ≠ s.ctAt ((t : Int) - 1) / per)

/-- A sample of an aligned decimator off its grid shows that a fault has disturbed it (R305). -/
def State.gridNote (s : State) (n per t : Nat) : State :=
  if s.mea.aligned && s.tae.timev && !s.onGrid per t && !s.mea.offGrid.contains n
  then { s with mea.offGrid := s.mea.offGrid ++ [n] } else s

/-- FAST_SAMPLE (R304): at instant t of the lane's clock; the sample feeds the windows and lamp proving. The raw output reaches
beyond full scale, to 110 % of it (R301). -/
def execFastSample (ch : Fin 50) (raw : BitVec 17) (t : Nat) (s : State) : Host.Outcome State Fault Refusal :=
  let n := ch.val
  let s0 := s.advance t
  .next (if s0.img.isSome && meaEn s0.station n && s0.blockLive 8 then
      let c := s0.coefOf n
      let y := saturate (-32768) 32767 raw.toInt (fastCorrect c.1 c.2 raw.toInt)
      let q := s0.meaValid n && decide ((s0.meaOf n).fastFrom ≤ t)
      let smp : Sample := { t := t, ang := s0.ownAngleAt ((t : Int) - 37500), v := y.1, q := q }
      let s1 := (s0.gridNote n 25000 t).updMea n fun m =>
        { m with fast := y.1, fastQ := q, clip := y.2, episode := m.episode && !q,
                 fastHist := smp :: m.fastHist.takeWhile fun z => decide (t ≤ z.t + 160000000) }
      let s2 := s1.winSamples n false y.1 q
      if n < 32 then s2.lampSample n y.1 t else s2
    else s0)

/-- FINE_SAMPLE (R304). -/
def execFineSample (ch : Fin 50) (raw : BitVec 25) (t : Nat) (s : State) : Host.Outcome State Fault Refusal :=
  let n := ch.val
  let s0 := s.advance t
  .next (if s0.img.isSome && meaEn s0.station n && s0.blockLive 8 then
      let c := s0.coefOf n
      let y := (saturate (-8388608) 8388607 raw.toInt (fineCorrect c.1 c.2 raw.toInt)).1
      let q := s0.meaValid n && decide ((s0.meaOf n).fineFrom ≤ t)
      let s1 := (s0.gridNote n 1000000 t).updMea n fun m =>
        { m with fine := y, fineQ := q,
                 fineHist := { t := t, ang := 0, v := y, q := q } :: m.fineHist.takeWhile fun z => decide (t ≤ z.t + 65000000) }
      s1.winSamples n true (y / 256) q
    else s0)

/-- Filter spans that include now make a sample invalid (R301, R303, R305): 75 µs and 14.425 ms. -/
def State.spanReset (s : State) (n : Nat) : State :=
  s.updMea n fun m => { m with fastFrom := s.pins.now + 75000, fineFrom := s.pins.now + 14425000 }

def State.spanResets (s : State) : List Nat → State
  | [] => s
  | n :: ns => (s.spanReset n).spanResets ns

/-- STABILITY_RESET (R301): one record for each overload episode. -/
def execStabilityReset (ch : Fin 50) (s : State) : Host.Outcome State Fault Refusal :=
  let n := ch.val
  .next (if s.img.isSome && meaEn s.station n && s.blockLive 8 then
      let s1 := (s.spanReset n).evtMea 2
      if (s.meaOf n).episode then s1
      else (s1.updMea n fun m => { m with episode := true }).record 3 0x0800 0x0803 [n]
    else s)

/-- The decimators are aligned to the grid when TIMEV rises (R305). -/
def State.meaAlign (s : State) : State :=
  ({ s with mea.aligned := true, mea.offGrid := [] } : State).spanResets (List.range 50)

/-- The common trigger (R305, ACTION 0x01): decimators off the grid are realigned. After a soft reset of MEA the whole array is off
it, which one record with no channel reports (entry 77). -/
def State.meaTriggers (s : State) : List Nat → State
  | [] => s
  | n :: ns => (((s.spanReset n).evtMea 1).record 3 0x0800 0x0802 [n]).meaTriggers ns
def State.meaTrigger (s : State) : State :=
  if !s.tae.timev || !s.blockLive 8 then s
  else if s.mea.aligned then ({ s with mea.offGrid := [] } : State).meaTriggers s.mea.offGrid
  else (s.meaAlign.evtMea 1).record 3 0x0800 0x0802 [255]

/-- The snapshot (R306, ACTION 0x02). -/
def State.meaSnap (s : State) : State :=
  if s.blockLive 8 then
    { s with mea.snap := ((List.range 48).map fun n => (n, ((s.meaOf n).fast, (s.meaOf n).fastQ))).filter
               fun e => decide (e.2 ≠ (0, false)) }
  else s

/-! ### Word values (R311, R312) -/

/-- Samples, newest first, split where the angle wraps: the newest cycle and the rest. -/
def takeCycle : List Sample → List Sample × List Sample
  | [] => ([], [])
  | x :: t =>
    match t with
    | [] => ([x], [])
    | y :: _ => if x.ang < y.ang then ([x], t) else ((x :: (takeCycle t).1), (takeCycle t).2)

/-- The samples of the last whole cycle before T0 (R311); none where no whole cycle has been sampled. -/
def State.lastCycle (s : State) (n t0 : Nat) : List Sample :=
  let l := (s.meaOf n).fastHist.filter fun x => decide (x.t < t0)
  let c := takeCycle l
  match c.1 with
  | [] => []
  | x :: _ =>
    if s.ownAngleAt ((x.t : Int) - 12500) < x.ang ∧ c.2 ≠ [] then c.1
    else if c.2 = [] then []
    else
      let d := takeCycle c.2
      if d.2 = [] then [] else d.1

/-- The integer square root, built from the top of `k` bits. -/
def isqrtBits (n : Nat) : Nat → Nat → Nat
  | 0, r => r
  | k + 1, r => isqrtBits n k (if (r + 2 ^ k) * (r + 2 ^ k) ≤ n then r + 2 ^ k else r)
def isqrt (n : Nat) : Nat := isqrtBits n 64 0

/-- A quotient rounded to the nearest integer, halves up. -/
def roundDiv (a b : Int) : Int := (2 * a + b) / (2 * b)

/-- round(v × SCALE / FS) of a RMS value (R311). -/
def rmsWord (l : List Sample) (scale : Int) : Int :=
  let sum := (l.map fun x => (x.v * x.v).toNat).foldl (· + ·) 0
  let r := (isqrt (4 * sum * scale.natAbs * scale.natAbs / (l.length * 1073741824)) + 1) / 2
  if scale < 0 then -(r : Int) else r

/-- The word of a channel at T0: none where no sample contributes or the value does not fit 32 bits; the quality. -/
def State.wordValue (s : State) (n t0 : Nat) : Option Int × Bool :=
  let sc := meaScale s.station n
  let l := match meaWmode s.station n with
    | 1 => (s.meaOf n).fineHist.filter fun x =>
        decide (x.t ≤ t0) && decide (t0 < x.t + (bits (meaChWord s.station n) 0 6 + 1) * 1000000)
    | _ => s.lastCycle n t0
  let v : Int :=
    match meaWmode s.station n with
    | 1 => roundDiv ((l.map Sample.v).foldl (· + ·) 0 * sc) ((l.length : Int) * 8388608)
    | 2 => roundDiv (((l.map fun x => x.v.natAbs).foldl max 0 : Nat) * sc) 32768
    | _ => rmsWord l sc
  if l = [] then (none, false)
  else (if -2147483648 ≤ v ∧ v ≤ 2147483647 then some v else none, l.all Sample.q)

/-- The word cell of a channel (R99, R300). -/
def wordCell (n : Nat) : Nat := if n < 32 then 0x43F00 + n else if n < 40 then 0x43F20 + (n - 32) else 0x43F30 + (n - 42)

/-- MEA forms the word of a channel and the lane captures it (R311, R312). A value that the spec does not state is free. -/
def State.wordForm (s : State) (n t0 : Nat) : State :=
  let st := s.station
  let r := s.wordValue n t0
  let s0 := if r.1.isNone then s.freeUsed else s
  let w : Word := match r.1 with | some v => BitVec.ofInt 32 v | none => s.freeWord
  let c := meaChWord st n
  let rng := bit c 28 && (decide (w.toInt < toS32 (stCfg st (0x081008 + 64 * n) 0)) ||
    decide (toS32 (stCfg st (0x08100C + 64 * n) 0) < w.toInt))
  let rate := bit c 27 && match (s.meaOf n).lastWord with
    | some p => decide (stCfg st (0x081010 + 64 * n) 0 < (w.toInt - p).natAbs)
    | none => false
  let s1 := s0.updMea n fun m =>
    { m with lastWord := r.1.map fun _ => w.toInt, rngq := rng, rateq := rate }
  { s1 with inp.own := tabSet (.word 0 false) (wordCell n) (.word w (r.2 && !rng && !rate)) s1.inp.own }

/-- The channels that have a word, and every enabled one formed in order. -/
def wordChans : List Nat := (List.range 48).filter fun n => n < 40 || 42 ≤ n
def State.wordForms (s : State) (t0 : Nat) : List Nat → State
  | [] => s
  | n :: ns => (if meaEn s.station n then s.wordForm n t0 else s).wordForms t0 ns

/-! ### Reference and start calibration (R302, R303, R317, R318) -/

/-- OFF within ± 0.5 % of FS and GAIN within 0.98 to 1.02 (R315). -/
def calPass (off : Int) (gain : Nat) : Bool :=
  decide (-41943 ≤ off) && decide (off ≤ 41943) && decide (4110418 ≤ gain) && decide (gain ≤ 4278190)

/-- A channel is declared invalid (R317): invalid quality until the next start; a voting lane has its I/O group tested
(R567). -/
def State.chanInvalid (s : State) (n : Nat) : State :=
  let s1 := ((s.updMea n fun m => { m with inv := true, fastQ := false, fineQ := false }).evtMea 6).record
    4 0x0800 0x0808 [n]
  (if decide (n < 32) && chEn s.station n && s.provingRuns then s1.suspCheck n else s1).withdraw .io

/-- REF_READY (R302, R303): RDY rises once 704,000 watch-oscillator periods, 22 ms nominal (entry 10), have passed with the monitor in
tolerance, from the buffer enable or from the last loss. -/
def execRefReady (s : State) : Host.Outcome State Fault Refusal :=
  .next (if s.mea.bufon && !s.mea.rdy && s.blockLive 8 then
      ({ s.advance (s.mea.refFrom + 22000000) with mea.rdy := true, mea.monok := true } : State).spanResets (List.range 50)
    else s)

/-- The results of the start calibration are taken in order. -/
def State.calTake (s : State) : List CalResult → State
  | [] => s
  | r :: rs =>
    (if calPass r.off r.gain then s.updMea r.chan.val fun m => { m with off := r.off, gain := r.gain }
     else s.chanInvalid r.chan.val).calTake rs

/-- START_CALIBRATION_END (R318). -/
def execStartCalibrationEnd (rs : List CalResult) (s : State) : Host.Outcome State Fault Refusal :=
  .next (if s.mea.rdy && !s.mea.calDone && s.blockLive 8 then
      let s1 := s.calTake rs
      { s1 with mea.calDone := true,
                mea.chan := (List.range 50).foldl (fun t n =>
                  tabUpd mea0 n (fun m => { m with calAt := s.pins.now, stale := false }) t) s1.mea.chan }
    else s)

/-! ### Rotation (R314 to R319) -/

/-- A stand-in. -/
def State.si (s : State) (k : Nat) : StandIn := if k = 0 then s.mea.si0 else s.mea.si1
def State.setSi (s : State) (k : Nat) (x : StandIn) : State :=
  if k = 0 then { s with mea.si0 := x } else { s with mea.si1 := x }

/-- A rotation runs on a stand-in. -/
def StandIn.busy (x : StandIn) : Bool :=
  match x.phase with
  | .idle | .outOfService => false
  | _ => true

/-- A stand-in is out of service, or leaves it once its channel is back (R316). -/
def StandIn.gone (x : StandIn) : Bool := decide (x.phase = .outOfService) || x.leaving

/-- A commanded calibration reports its final status (R319, R327). -/
def State.calReport (s : State) (x : StandIn) (st : CmdStatus) : State :=
  if x.commanded then ({ s with mea.calcmd := st } : State).cmdEnd else s

/-- A stand-in is released, or is out of service (R316). -/
def State.siFree (s : State) (k : Nat) (p : SiPhase) : State :=
  let x := s.si k
  s.setSi k { StandIn.reset with phase := p, chan := x.chan, startAt := x.startAt, releasedAt := s.pins.now }
def State.siRelease (s : State) (k : Nat) : State := s.siFree k .idle

/-- A rotation ends FAILED or ABORTED (R316, R317, R319): the channel is on its own modulator with its old
coefficients. Cause: DATA byte 1 of 0x0806. -/
def State.rotationFail (s : State) (k cause : Nat) : State :=
  let x := s.si k
  let s1 := (s.updMea x.chan fun m => { m with srv := none }).siRelease k
  let s2 := if cause = 4 then s1 else s1.evtMea 4
  (s2.record 3 0x0800 0x0806 [x.chan, cause]).calReport x (if cause = 4 then .aborted else .failed)

/-- A stand-in is taken out of service (R316). -/
def State.siGone (s : State) (k : Nat) : State :=
  ((s.siFree k .outOfService).evtMea 5).record 4 0x0800 0x0807 [255, k]

/-- A stand-in is to go out of service. One that serves a channel first gives it back by a path switch; its rotation, of which the
spec says nothing more, ends FAILED with the cause of the parallel match that condemned it (entry 78). -/
def State.siOut (s : State) (k : Nat) : State :=
  let x := s.si k
  match x.phase with
  | .serving | .returning =>
    s.setSi k { x with switchDue := true, back := true, backCause := some (x.backCause.getD 1), leaving := true }
  | .selfCal | .parallel => (s.rotationFail k 1).siGone k
  | _ => s.siGone k

/-- A multiple of a period at or after an instant. -/
def upTo (per c : Nat) : Nat := (c + per - 1) / per * per

/-- The next instant at which a path switch may take place (R314): a fast-sample instant, in PROVE and RUN strictly after T_commit
and at least 100 µs before the next T0. -/
def State.switchAt (s : State) : Nat :=
  let c := upTo 25000 s.d11
  if s.lane.st = .prove ∨ s.lane.st = .run then
    let t0 := c / s.logicNs * s.logicNs
    let com := s.cycC % max 1 s.cycL * s.basicNs
    let x := if c ≤ t0 + com then upTo 25000 (t0 + com + 1) else c
    if x + 100000 ≤ t0 + s.logicNs then x else upTo 25000 (t0 + s.logicNs + com + 1)
  else c
def State.switchNow (s : State) : State := s.advance (s.d11Clock s.switchAt)

/-- The next enabled channel in ascending order, cyclically, that the other stand-in does not serve (R315). -/
def State.nextChan (s : State) (k : Nat) : Option Nat :=
  ((List.range 48).map fun i => (s.mea.lastRot + 1 + i) % 48).find? fun n =>
    meaEn s.station n && !((s.si (1 - k)).busy && decide ((s.si (1 - k)).chan = n))

/-- The channel that a rotation takes, whether it is commanded, and whether it is the second attempt of this stand-in (R315, R316):
one left by a failed parallel match of the other stand-in, or of this one where the other is out of service; the commanded one that
waits; or the next. -/
def State.rotationChan (s : State) (k : Nat) : Option (Nat × Bool × Bool) :=
  match s.mea.retry.find? fun e => decide (e.2 ≠ k) || (s.si (1 - k)).gone with
  | some (n, j) => some (n, decide (s.mea.calWait = some n), decide (j = k))
  | none =>
    match s.mea.calWait with
    | some m => some (m, true, false)
    | none => (s.nextChan k).map fun m => (m, false, false)

/-- ROTATION_START (R315): at the first fine-sample instant at or after the previous start plus ROTPER and the previous release. -/
def execRotationStart (si : Fin 2) (s : State) : Host.Outcome State Fault Refusal :=
  let k := si.val
  let x := s.si k
  .next (if meaRoten s.station && s.mea.rdy && s.mea.calDone && decide (x.phase = .idle) && s.img.isSome && s.blockLive 8 then
      match s.rotationChan k with
      | none => s
      | some (n, cmd, again) =>
        let due := match x.startAt with | some t => max (t + meaRotper s.station) x.releasedAt | none => s.pins.now
        let s1 := s.advance (s.d11Clock (upTo 1000000 (s.d11At (max due s.pins.now))))
        let s2 := s1.setSi k { StandIn.reset with phase := .selfCal, chan := n, startAt := some s1.pins.now, phaseAt := s1.pins.now,
                                                  releasedAt := x.releasedAt, commanded := cmd, repeated := again }
        { s2 with mea.lastRot := n, mea.calWait := if cmd then none else s2.mea.calWait,
                  mea.calcmd := if cmd then .running else s2.mea.calcmd }
    else s)

/-- A match passes (R315): at most MATCHTOL in 0.01 % of FS. -/
def matchPass (tol : Nat) (diff : Int) : Bool := decide (diff.natAbs * 10000 ≤ tol * 8388608)

/-- The end of a parallel match that fails (R316). -/
def State.parallelFail (s : State) (k : Nat) : State :=
  let x := s.si k
  if x.repeated || s.mea.retry.any fun e => decide (e.1 = x.chan) && decide (e.2 ≠ k) then
    (({ s with mea.retry := s.mea.retry.filter fun e => decide (e.1 ≠ x.chan) } : State).rotationFail k 1).chanInvalid x.chan
  else if (s.si (1 - k)).gone then s.setSi k { x with phase := .selfCal, phaseAt := s.pins.now, repeated := true }
  else ({ s with mea.retry := s.mea.retry ++ [(x.chan, k)] } : State).rotationFail k 1

/-- The end of a parallel match that passes (R315, R316). -/
def State.parallelPass (s : State) (k : Nat) : State :=
  let n := (s.si k).chan
  let s1 := s.setSi k { s.si k with switchDue := true }
  let s2 : State := { s1 with mea.retry := s.mea.retry.filter fun e => decide (e.1 ≠ n) }
  if s.mea.retry.any fun e => decide (e.1 = n) && decide (e.2 ≠ k) then s2.siOut (1 - k) else s2

/-- The channel's own calibration or its return match fails (R317): step 5 is repeated once, then a switch back is due. -/
def State.returnFail (s : State) (k : Nat) : State :=
  let x := s.si k
  if x.repeated then s.setSi k { x with switchDue := true, back := true, backCause := some 2 }
  else s.setSi k { x with phase := .serving, phaseAt := s.pins.now, repeated := true }

/-- The length of a phase in ns (R315): three points of 31 fine samples, or 15 of settling and 16 of the match. -/
def SiPhase.ns (p : SiPhase) : Nat :=
  match p with
  | .selfCal | .serving => 93000000
  | .parallel | .returning => 31000000
  | .idle | .outOfService => 0

/-- ROTATION_PHASE_END (R315 to R317): the phase that ends is judged. -/
def execRotationPhaseEnd (si : Fin 2) (off : Int) (gain : Nat) (diff : Int) (s0 : State) : Host.Outcome State Fault Refusal :=
  let k := si.val
  let x0 := s0.si k
  .next (if x0.switchDue || !s0.blockLive 8 || !x0.busy then s0
    else
      let s := s0.advance (s0.d11Clock (s0.d11At x0.phaseAt + x0.phase.ns))
      let x : StandIn := { x0 with phaseAt := s.pins.now }
      match x.phase with
      | .selfCal =>
        if calPass off gain then
          (s.updMea (48 + k) fun m => { m with off := off, gain := gain }).setSi k { x with phase := .parallel }
        else (s.rotationFail k 0).siOut k
      | .parallel => if matchPass (meaTol s.station) diff then s.parallelPass k else s.parallelFail k
      | .serving =>
        if calPass off gain then s.setSi k { x with phase := .returning, newOff := off, newGain := gain }
        else s.returnFail k
      | .returning => if matchPass (meaTol s.station) diff then s.setSi k { x with switchDue := true } else s.returnFail k
      | _ => s)

/-- A channel is back on its own modulator with its old coefficients (R316, R317, R319). -/
def State.rotationBack (s : State) (k cause : Nat) : State :=
  let x := s.si k
  let s1 := s.rotationFail k cause
  let s2 := if x.leaving then s1.siGone k else s1
  if x.backCause = some 2 then s2.chanInvalid x.chan else s2

/-- ROTATION_PATH_SWITCH (R314, R315, R317, R319): to the stand-in, or back with the old coefficients. -/
def execRotationPathSwitch (si : Fin 2) (s : State) : Host.Outcome State Fault Refusal :=
  let k := si.val
  let x := s.si k
  .next (if x.switchDue && s.blockLive 8 then
      let s1 := s.switchNow
      if x.back then s1.rotationBack k (x.backCause.getD 2)
      else if x.phase = .parallel then
        (s1.updMea x.chan fun m => { m with srv := some si }).setSi k
          { x with phase := .serving, phaseAt := s1.pins.now, switchDue := false, repeated := false }
      else s
    else s)

/-- Some enabled channel has CALAGE over 600 s (R320). -/
def State.anyStale (s : State) : Bool := (List.range 48).any fun n => meaEn s.station n && (s.meaOf n).stale

/-- ROTATION_COMMIT (R315 step 7): the new coefficients, the own modulator, CALAGE := 0. -/
def execRotationCommit (si : Fin 2) (s : State) : Host.Outcome State Fault Refusal :=
  let k := si.val
  let x := s.si k
  .next (if x.switchDue && !x.back && decide (x.phase = .returning) && s.blockLive 8 then
      let s0 := s.switchNow
      let s1 := (s0.updMea x.chan fun m =>
        { m with off := x.newOff, gain := x.newGain, srv := none, calAt := s0.pins.now, stale := false }).siRelease k
      let s2 : State := { s1 with mea.calstale := s1.anyStale }
      (s2.record 0 0x0800 0x0805 [x.chan, k]).calReport x .completed
    else s)

/-- CALSTALE (R320, R321). -/
def execCalstale (ch : Fin 48) (s : State) : Host.Outcome State Fault Refusal :=
  let n := ch.val
  .next (if s.img.isSome && meaEn s.station n && s.mea.calDone && !(s.meaOf n).stale && s.blockLive 8 then
      let s1 := (s.advance ((s.meaOf n).calAt + 601000000000)).updMea n fun m => { m with stale := true }
      if s.mea.calstale then s1
      else (({ s1 with mea.calstale := true } : State).evtMea 7).record 3 0x0800 0x0809 [n]
    else s)

/-- Rotations in progress fail as RDY falls, and their channels return at once (R319). A second failure of R317 that stands is
not undone. -/
def State.rotationsLost (s : State) : List Nat → State
  | [] => s
  | k :: ks => (if (s.si k).busy then s.rotationBack k 3 else s).rotationsLost ks

/-- REF_LOST (R303, R319): RDY falls, and the count of R302 starts afresh. Before RDY has risen only the count starts afresh; the
event, the record and REFLOSS belong to a fall of RDY. -/
def execRefLost (s : State) : Host.Outcome State Fault Refusal :=
  .next (if s.mea.bufon && s.blockLive 8 then
      let s0 : State := { s with mea.monok := false, mea.refFrom := s.pins.now }
      if s.mea.rdy then
        let s1 : State := { s0 with mea.rdy := false, mea.refloss := satInc 255 s.mea.refloss, mea.retry := [] }
        ((s1.evtMea 0).record 4 0x0800 0x0801 [255]).rotationsLost [0, 1]
      else s0
    else s)

/-- The write of MEA.CALCMD with OP 0b01 (R319, R327). -/
def State.calStart (s : State) (n : Nat) : State :=
  let running (k : Nat) : Bool := (s.si k).busy && decide ((s.si k).chan = n)
  if decide (48 ≤ n) || !meaEn s.station n || running 0 || running 1 || s.mea.calWait.isSome then
    { s with mea.calcmd := .refused }
  else { s with mea.calcmd := .waiting, mea.calWait := some n }

/-- The write of MEA.CALCMD with OP 0b10 (R8, R319). -/
def State.calAbortOn (s : State) (k : Nat) : State :=
  let x := s.si k
  match x.phase with
  | .selfCal | .parallel => s.rotationFail k 4
  | .serving | .returning => if x.back then s else s.setSi k { x with switchDue := true, back := true, backCause := some 4 }
  | _ => s
def State.calAbort (s : State) (n : Nat) : State :=
  let mine (k : Nat) : Bool := (s.si k).busy && (s.si k).commanded && decide ((s.si k).chan = n)
  if s.mea.calWait = some n then ({ s with mea.calWait := none, mea.calcmd := .aborted } : State).cmdEnd
  else if mine 0 then s.calAbortOn 0
  else if mine 1 then s.calAbortOn 1
  else s

/-- CALIBRATE and CALIBRATE_ABORT: the commands of R319 from a session at Maintainer level or above. -/
def execCalibrate (sid : BitVec 16) (ch : BitVec 6) (s : State) : Host.Outcome State Fault Refusal :=
  .next (s.command sid.toNat 0x080028 (64 + ch.toNat) 2 fun t => t.calStart ch.toNat)
def execCalibrateAbort (sid : BitVec 16) (ch : BitVec 6) (s : State) : Host.Outcome State Fault Refusal :=
  .next (s.command sid.toNat 0x080028 (128 + ch.toNat) 2 fun t => t.calAbort ch.toNat)

end Sys2Proof.Machine
end

