-- ==== Sys2Proof/Machine/Vio.lean ====
section
/-! DEFINITION. Vital inputs, dynamic outputs and contactor feedback (the chapter of that name). -/

namespace Sys2Proof.Machine

/-! ### Configuration (R229, R237, R238) -/

/-- T_P in ns. -/
def State.tpp (s : State) : Nat := s.cfgField 0x060000 0x280C05 0 6 * 1000000

/-- Input n: enabled, proving-required. -/
def State.vinEn (s : State) (n : Nat) : Bool := bit (s.cfg (0x060100 + 4 * n) 30) 31
def State.vinPr (s : State) (n : Nat) : Bool := bit (s.cfg (0x060100 + 4 * n) 30) 30

/-- Output n: enabled, monitor enabled, polarity, feedback input. -/
def State.voutEn (s : State) (n : Nat) : Bool := bit (s.cfg (0x060200 + 4 * n) 0) 31
def State.monEn (s : State) (n : Nat) : Bool := bit (s.cfg (0x060200 + 4 * n) 0) 30
def State.monPol (s : State) (n : Nat) : Bool := bit (s.cfg (0x060200 + 4 * n) 0) 29
def State.monSel (s : State) (n : Nat) : Nat := bits (s.cfg (0x060200 + 4 * n) 0) 24 5

/-- An entry changed. -/
def State.updVin (s : State) (n : Nat) (f : VinState → VinState) : State :=
  { s with vio.vin := tabUpd vin0 n f s.vio.vin }
def State.updVout (s : State) (n : Nat) (f : VoutState → VoutState) : State :=
  { s with vio.vout := tabUpd vout0 n f s.vio.vout }

/-! ### Inputs (R205 to R215) -/

/-- CHECK is left for VALID at once while the filtered value is 0 (R211), and UNPROVEN for LOW_SEEN in VALID with the
filtered value 0 (R215). -/
def vinSettle (pr : Bool) (v : VinState) : VinState :=
  let v1 := if v.pat = .check && !v.filtered then { v with pat := .valid, bad := 0, good := 0 } else v
  if pr && v1.prov = .unproven && v1.pat = .valid && !v1.filtered then { v1 with prov := .lowSeen } else v1

/-- Entry into FAULT (R211, R212, R215). -/
def vinFault (v : VinState) : VinState :=
  { v with pat := .fault, bad := 0, good := 0, prov := if v.prov = .proven then .unproven else v.prov }

/-- A good judged frame ends (R211, R215). -/
def vinGood (pr : Bool) (v : VinState) : VinState :=
  let v1 :=
    match v.pat with
    | .check => { v with pat := .valid, bad := 0, good := 0 }
    | .valid => { v with bad := 0 }
    | .fault => if 7 ≤ v.good then { v with pat := .valid, bad := 0, good := 0 } else { v with good := v.good + 1 }
  if pr && v1.prov = .lowSeen && v1.filtered then { v1 with prov := .proven } else v1

/-- The unit u of a frame, and TPW and TPDLY, in ns (R207, R208, R229). -/
def State.tpu (s : State) : Nat := s.tpp / 20
def State.tpw (s : State) : Nat := s.cfgField 0x060000 0x280C05 8 8 * 1000
def State.tpdly (s : State) : Nat := s.cfgField 0x060000 0x280C05 16 7 * 1000

/-- The lane's own sub-pulse of slot j: its start in ns after the frame start (R207 step 3). -/
def State.ownPulse (s : State) (j : Nat) : Nat := (4 + j) * s.tpu + (1 + 2 * s.node) * s.tpu / 16

/-- The lows of an input over a frame; none where the frame lists none. -/
def lowsOf (obs : List FrameObs) (n : Nat) : List (Nat × Nat) :=
  match obs.find? fun o => o.input.val = n with
  | some o => o.lows
  | none => []

/-- The own dark of input n is seen: a low of at least TPW / 2 within the span of the own sub-pulse (R210). -/
def State.ownDark (s : State) (n : Nat) (lows : List (Nat × Nat)) : Bool :=
  let a := s.ownPulse (n % 16)
  lows.any fun l => decide (max l.1 a + s.tpw / 2 ≤ min l.2 (a + s.tpw + s.tpdly))

/-- A foreign dark: a low of at least TPW / 2 that starts in the unit of another slot and ends before that unit's end plus TPDLY
(R210). -/
def State.foreignDark (s : State) (n : Nat) (lows : List (Nat × Nat)) : Bool :=
  lows.any fun l => (List.range 16).any fun i =>
    decide (i ≠ n % 16) && decide ((4 + i) * s.tpu ≤ l.1) && decide (l.1 < (5 + i) * s.tpu) &&
    decide (l.1 + s.tpw / 2 ≤ l.2) && decide (l.2 < (5 + i) * s.tpu + s.tpdly)

/-- The cause of an entry into FAULT (R228): 0 own dark missing, 1 foreign dark, 2 both. -/
def frameCause (own foreign : Bool) : Nat := if own then 1 else if foreign then 2 else 0

/-- The frame that ends is judged for one input (R210, R211). -/
def State.frameJudge (s : State) (lows : List (Nat × Nat)) (n : Nat) : State :=
  let v := s.vin n
  let own := s.ownDark n lows
  let foreign := s.foreignDark n lows
  if s.vinEn n && v.highAll then
    if own && !foreign then s.updVin n (vinGood (s.vinPr n))
    else if v.pat = .valid && decide (2 ≤ v.bad) then
      ((s.updVin n vinFault).evtVio 0).record 3 0x0600 0x0601 [n, frameCause own foreign]
    else
      s.updVin n fun v =>
        match v.pat with
        | .valid => { v with bad := v.bad + 1 }
        | .fault => { v with good := 0 }
        | .check => v
  else s

/-- Every input of the frame that ends is judged, in ascending order. -/
def State.frameJudgeAll (s : State) (obs : List FrameObs) : List Nat → State
  | [] => s
  | n :: ns => (s.frameJudge (lowsOf obs n) n).frameJudgeAll obs ns

/-- A new frame begins: an input is judged in it while its filtered value stays 1 (R210). -/
def State.frameOpen (s : State) : State :=
  { s with vio.vin := tabMap vin0 (fun n v => vinSettle (s.vinPr n) { v with highAll := v.filtered }) s.vio.vin }

/-- The frame sequence starts (R206, R211): every filter at 0, every enabled input in CHECK, which R211 leaves at once. -/
def State.frameStartAll (s : State) : List Nat → State
  | [] => s
  | n :: ns =>
    (if s.vinEn n then
      s.updVin n fun v =>
        vinSettle (s.vinPr n) { v with filtered := false, highAll := false, pat := .check, bad := 0, good := 0 }
     else s).frameStartAll ns

/-- When TIMEV falls the frame stops, the filters keep no value and every enabled input goes to CHECK (R213). -/
def State.frameStop (s : State) : State :=
  { s with
    vio.tpoAct := false,
    vio.vin := tabMap vin0 (fun _ v =>
      { v with filtered := false, highAll := false, pat := .check, bad := 0, good := 0 }) s.vio.vin }

/-- FT of an input, in samples of 1 µs (R206, R237). -/
def State.vinFt (s : State) (n : Nat) : Nat := bits (s.cfg (0x060100 + 4 * n) 30) 0 9 * 100

/-- Samples of an input outside its masked slot before a cluster time, and the cluster time of the one with a number: samples
stand at the multiples of 1 µs, and each frame masks the unit of the input's own slot (R206, R207). -/
def unmaskedBefore (tpp j c : Nat) : Nat :=
  let u := tpp / 20000
  let k := (c + 999) / 1000
  let o := k % (20 * u)
  k / (20 * u) * (19 * u) + (o - min (o - (4 + j) * u) u)
def unmaskedAt (tpp j i : Nat) : Nat :=
  let u := tpp / 20000
  let r := i % (19 * u)
  (i / (19 * u) * (20 * u) + (if r < (4 + j) * u then r else r + u)) * 1000

/-- The cluster time of the FT-th unmasked sample of an input in a level that it has held since an instant of the lane's clock. No
sample counts from before the frame sequence (R206). -/
def State.filterAt (s : State) (n since : Nat) : Nat :=
  let c := max (s.ctAt since) (s.vio.seqFrom * s.tpp)
  unmaskedAt s.tpp (n % 16) (unmaskedBefore s.tpp (n % 16) c + s.vinFt n - 1)

/-- VIN_FILTER_CHANGE (R206): a ball has held a level, in every sample outside its masked slot, since an instant; the filtered
value changes at the FT-th such sample. The filter runs with the frame sequence. -/
def execVinFilterChange (n : Fin 64) (c : LevelChange) (s : State) : Host.Outcome State Fault Refusal :=
  .next (if s.vio.tpoAct && s.vinEn n.val && s.blockLive 6 && decide ((s.vin n.val).filtered ≠ c.level) then
      (s.advanceCt (s.filterAt n.val c.since)).updVin n.val fun v =>
        vinSettle (s.vinPr n.val) { v with filtered := c.level, highAll := v.highAll && c.level }
    else s)

/-- The frame that starts next: the one after the running frame, or the first at or after now (R207). -/
def State.nextFrame (s : State) : Nat :=
  if s.vio.tpoAct then s.vio.frame + 1 else (s.ct + s.tpp - 1) / s.tpp

/-- TPO_FRAME_START (R207): frame f, the next one, starts at its multiple of T_P; the one before is judged first, by what it
showed of each input. -/
def execTpoFrameStart (f : Nat) (obs : List FrameObs) (s : State) : Host.Outcome State Fault Refusal :=
  .next (if s.tae.timev && s.img.isSome && !s.listener && s.blockLive 6 && decide (f = s.nextFrame) then
      let s1 := s.advanceCt (f * s.tpp)
      if s1.vio.tpoAct then
        let s2 := (s1.frameJudgeAll obs (List.range 64)).frameOpen
        { s2 with vio.frame := f, vio.tpof := s2.vio.tpof &&& s2.vio.tpofNow, vio.tpofNow := 0 }
      else
        let s2 := s1.frameStartAll (List.range 64)
        { s2 with vio.tpoAct := true, vio.frame := f, vio.seqFrom := f, vio.tpofNow := 0 }
    else s)

/-- The 16 inputs of a line go into FAULT, whatever their pattern state (R212). -/
def State.lineFault (s : State) (k : Nat) : List Nat → State
  | [] => s
  | j :: js => (if s.vinEn (16 * k + j) then s.updVin (16 * k + j) vinFault else s).lineFault k js

/-- TPO_READBACK_FAULT (R212). -/
def execTpoReadbackFault (k : Fin 4) (s : State) : Host.Outcome State Fault Refusal :=
  .next (if s.img.isSome && s.blockLive 6 then
      let s1 : State :=
        { s with vio.tpof := putBit s.vio.tpof k.val true, vio.tpofNow := putBit s.vio.tpofNow k.val true }
      ((s1.evtVio 1).record 4 0x0600 0x0602 [k.val]).lineFault k.val (List.range 16)
    else s)

/-- What the lane reports of an input at capture, V and Q (R205, R211, R214, R215). -/
def State.vinReport (s : State) (n : Nat) : Bool × Bool :=
  let v := s.vin n
  if s.vinEn n then
    let val := (match v.pat with | .valid => v.filtered | _ => false) && (!s.vinPr n || decide (v.prov = .proven))
    (val, decide (v.pat ≠ .fault))
  else (false, false)

/-! ### Outputs and their waves (R216 to R219) -/

/-- An output's wave should run: effective command 1 and the drives not held static (R217). -/
def State.waveDue (s : State) (n : Nat) : Bool := (s.vout n).effective && s.drives

/-- The wave of an output follows its command and the drives (R217): it rises at every multiple of 100 µs of cluster time. -/
def State.voutWave (s : State) (n : Nat) : State :=
  if s.waveDue n then s.updVout n fun v => { v with wave := v.wave.begin s.pins.now s.voutPhase 100000 }
  else s.updVout n fun v => { v with wave := v.wave.halt s.pins.now }
def State.voutWaves (s : State) : List Nat → State
  | [] => s
  | n :: ns => (s.voutWave n).voutWaves ns

/-- VOUT_LIVE_EXPIRE (R218): no further rising edge is read back, and 120 µs after the last one the output is not live. -/
def execVoutLiveExpire (n : Fin 32) (s : State) : Host.Outcome State Fault Refusal :=
  let w := (s.vout n.val).wave
  .next (match w.ball, w.stop with
    | .asDriven, some _ =>
      match w.lastRise s.pins.now s.voutPhase 100000 with
      | some e => s.advance (e + 120000)
      | none => s
    | .asDriven, none => s.updVout n.val fun v => { v with wave := { v.wave with ball := .absent } }
    | .persists, _ => s.updVout n.val fun v => { v with wave := { v.wave with ball := .asDriven } }
    | .absent, _ => s)

/-- VOUT_DRIVE_FAULT (R219): no wave read back within 120 µs after the first edge due, or one read back more than 120 µs after the
output was to stop. -/
def execVoutDriveFault (n : Fin 32) (s : State) : Host.Outcome State Fault Refusal :=
  let w := (s.vout n.val).wave
  .next (if s.img.isSome && s.blockLive 6 then
      let due := decide (w.stop = none)
      let at_ := match w.stop with
        | none => w.firstEdge s.pins.now s.voutPhase 100000 + 120000
        | some x => x + 120001
      let s1 := (s.advance at_).updVout n.val fun v =>
        { v with wave := { v.wave with ball := if due then .absent else .persists } }
      ((s1.evtVio 2).record 4 0x0600 0x0603 [n.val, bitNat !due]).withdraw .io
    else s)

/-! ### Feedback monitors and lockout (R220 to R226) -/

/-- The feedback input of an output shows picked (R220). -/
def State.picked (s : State) (n : Nat) : Bool := xor (s.vio.vfb.getLsbD (s.monSel n)) (s.monPol n)

/-- A monitor enters LOCKED (R223): latch, FBMIS, record 0x0604. -/
def State.lockMonitor (s : State) (n : Nat) (cause : LockCause) : State :=
  let c := match cause with
    | .pickedWhileOff => 0 | .noPickUp => 1 | .unexpectedDrop => 2 | .noDropOut => 3 | .agreed => 4
  let s1 := s.updVout n fun v => { v with mon := .locked, lockout := true }
  (s1.evtVio 3).record 4 0x0600 0x0604 [n, c]

/-- The bound that runs in a monitor's state, in ns: PUT or DOT (R221, R238). -/
def State.monBound (s : State) (n : Nat) : Option (Nat × LockCause) :=
  let c := s.cfg (0x060200 + 4 * n) 0
  match (s.vout n).mon with
  | .picking => some (bits c 0 9 * 1000000, .noPickUp)
  | .dropping => some (bits c 9 9 * 1000000, .noDropOut)
  | _ => none

/-- The monitors evaluate on the 10 µs ticks of D11 (R222): the first one at or after a cluster time, and that at which the bound
of an output elapses. -/
def monTick (c : Nat) : Nat := (c + 9999) / 10000 * 10000
def State.monDue (s : State) (n : Nat) : Option (Nat × LockCause) :=
  (s.monBound n).map fun b => (monTick (s.d11At (s.vout n).since + b.1), b.2)

/-- A bound that elapsed before the tick of now locks the output first (R222). -/
def State.monElapse (s : State) (n : Nat) (before : Nat → Nat → Bool) : State :=
  match s.monDue n with
  | some (t, c) => if before t (monTick s.d11) then s.lockMonitor n c else s
  | none => s

/-- What the feedback shows moves the monitor (R221). -/
def State.monShows (s : State) (n : Nat) : State :=
  match (s.vout n).mon, s.picked n with
  | .dropped, true => s.lockMonitor n .pickedWhileOff
  | .picking, true => s.updVout n fun v => { v with mon := .picked }
  | .picked, false => s.lockMonitor n .unexpectedDrop
  | .dropping, false => s.updVout n fun v => { v with mon := .dropped }
  | _, _ => s

/-- The monitor evaluates the feedback: after a bound of an earlier tick, before one of the same tick (R221, R222). -/
def State.monFeedback (s : State) (n : Nat) : State :=
  if s.monEn n then (s.monElapse n fun t k => decide (t < k)).monShows n else s

/-- The monitor follows a changed effective command: after a bound that elapses on the same tick (R221, R222). -/
def State.monCommand (s0 : State) (n : Nat) : State :=
  if s0.monEn n then
    let s := s0.monElapse n fun t k => decide (t ≤ k)
    let v := s.vout n
    match v.mon, v.effective with
    | .dropped, true | .dropping, true =>
      (s.updVout n fun v => { v with mon := .picking, since := s.pins.now }).monShows n
    | .picking, false | .picked, false =>
      (s.updVout n fun v => { v with mon := .dropping, since := s.pins.now }).monShows n
    | _, _ => s
  else s0

/-- Monitors of a list of outputs evaluate their feedback, where it stands on input m. -/
def State.monFeedbacks (s : State) (m : Nat) : List Nat → State
  | [] => s
  | n :: ns => (if s.monSel n = m then s.monFeedback n else s).monFeedbacks m ns

/-- VFB_FILTER_CHANGE (R220): an input has held a level since an instant; its filtered level changes with the 2,000th sample, and
the monitors evaluate it on the next tick (R222). The filter runs from the end of LOAD without stop. -/
def execVfbFilterChange (m : Fin 32) (c : LevelChange) (s : State) : Host.Outcome State Fault Refusal :=
  .next (if s.img.isSome && s.blockLive 6 && decide (s.vio.vfb.getLsbD m.val ≠ c.level) then
      let s1 := s.advance (s.d11Clock ((s.d11At (max c.since s.vio.vfbFrom) + 999) / 1000 * 1000 + 1999000))
      let s2 : State := { s1 with vio.vfb := putBit s1.vio.vfb m.val c.level }
      (s2.advance (s2.d11Clock (monTick s2.d11))).monFeedbacks m.val (List.range 32)
    else s)

/-- MONITOR_BOUND_ELAPSED (R221): PUT elapses in PICKING, or DOT in DROPPING, at its tick. -/
def execMonitorBoundElapsed (n : Fin 32) (s : State) : Host.Outcome State Fault Refusal :=
  .next (if s.monEn n.val then
      match s.monDue n.val with
      | some (t, c) => (s.advance (s.d11Clock t)).lockMonitor n.val c
      | none => s
    else s)

/-- On entry to PROVE every enabled monitor enters DROPPING, timed from then (R226), and no command stands. -/
def State.monProve (s : State) : List Nat → State
  | [] => s
  | n :: ns =>
    let s1 := s.updVout n fun v => { v with committed := false, effective := false }
    (if s1.monEn n then
      (s1.updVout n fun v => { v with mon := .dropping, since := s.pins.now }).monShows n
     else s1).monProve ns

/-- At T_IA a lane sets its latch for every output whose agreed lockout cell reads 1, and puts a monitor that is not LOCKED into
LOCKED (R223); it counts an own latch against an agreed 0 (R224). -/
def State.lockoutAgreed (s : State) : List Nat → State
  | [] => s
  | n :: ns =>
    let v := s.vout n
    (if s.bitRead (0x3F0C0 + n) then
      let s1 := s.updVout n fun v => { v with outvoted := 0 }
      if v.lockout && decide (v.mon = .locked) then s1 else s1.lockMonitor n .agreed
     else s.updVout n fun v => { v with outvoted := if v.lockout then v.outvoted + 1 else 0 }).lockoutAgreed ns

/-- LOCKOUT_OUTVOTED (R224). -/
def execLockoutOutvoted (n : Fin 32) (s : State) : Host.Outcome State Fault Refusal :=
  .next (if 3 ≤ (s.vout n.val).outvoted then
      (((s.updVout n.val fun v => { v with outvoted := 0 }).evtVio 4).record 4 0x0600 0x0606 [n.val]).withdraw .io
    else s)

/-- An own acknowledgement is pending (R225). -/
def ackPending (l : List PendingAck) : Bool := l.any fun a => a.own

/-- The write of VIO.LOCKACK (R225, R234): refused with the latch clear, with the feedback picked or with another
acknowledgement pending; otherwise it waits for the next lane-bus frame, as a status entry of type 0x03 (R351). -/
def State.lockAck (s : State) (n : Nat) : State :=
  if !(s.vout n).lockout || (s.monEn n && s.picked n) || ackPending s.vio.acks then { s with vio.lockack := .refused }
  else
    { s with vio.lockack := .waiting, vio.acks := s.vio.acks ++ [{ item := n, cycle := none, own := true }],
             lnb.entries := s.lnb.entries ++ [[BitVec.ofNat 32 (0x03000000 + n)]] }

/-- LOCKOUT_ACKNOWLEDGEMENT: the command of R225 from a session at Maintainer level or above. -/
def execLockoutAcknowledgement (sid : BitVec 16) (out : Fin 32) (s : State) : Host.Outcome State Fault Refusal :=
  .next (s.command sid.toNat 0x060034 out.val 2 fun t => t.lockAck out.val)

/-- A lockout acknowledgement takes effect at a T0 (R225): the latch clears and the monitor enters DROPPED. -/
def State.lockAckApply (s : State) (a : PendingAck) : State :=
  let s1 := s.updVout a.item fun v =>
    { v with lockout := false, outvoted := 0, mon := .dropped }
  let s2 := ((s1.evtVio 5).record 2 0x0600 0x0605 [a.item]).monFeedback a.item
  if a.own then ({ s2 with vio.lockack := .completed } : State).cmdEnd else s2

end Sys2Proof.Machine
end

