-- ==== Sys2Proof/Machine/Time.lean ====
section
/-! DEFINITION. The commands of the chapter "Cluster Time, Supply Angle and the Logic Cycle" apart from the logic cycle:
the angle loop, the slots, the wall time, and the rise and fall of TIMEV. -/

namespace Sys2Proof.Machine

/-! ### The angle loop (R58 to R62) -/

/-- The reference channel in use: 0 or 1. -/
def State.refChan (s : State) : Nat := bitNat s.tae.srcact

/-- The loop takes crossings: it runs, on an AC supply, and TAE is live. -/
def State.angleLoops (s : State) : Bool := s.tae.loopOn && !s.dcAngle && s.blockLive 3

/-- The phase at a crossing (R58). -/
def crossPhase (positive : Bool) : Nat := if positive then 0 else 2147483648

/-- Frequency in mHz of a number of half periods that last `dt` ns. -/
def halvesFreq (halves dt : Nat) : Nat := if dt = 0 then 0 else halves * 500000000000 / dt

/-- The frequency lies in the window of R59. -/
def State.inFreqWindow (s : State) (f : Nat) : Bool := decide (freqLow s.supNom ≤ f) && decide (f ≤ freqHigh s.supNom)

/-- The crossing between the last two fast-path samples of a reference channel (R58): the instant interpolated between them and
set back by the 37.5 µs group delay of the path, and whether it is positive-going. Both samples are valid (R60), stand one
sample period apart, and the half wave before the crossing has reached MINAMP (R59, R81). -/
def State.crossingOf (s : State) (ch : Nat) : Option (Nat × Bool) :=
  match (s.meaOf (40 + ch)).fastHist with
  | x :: y :: l =>
    let up := decide (y.v < 0) && decide (0 ≤ x.v)
    let down := decide (0 < y.v) && decide (x.v ≤ 0)
    let half := (y :: l).takeWhile fun z => if up then decide (z.v < 0) else decide (0 < z.v)
    let amp := half.foldl (fun m z => max m z.v.natAbs) 0
    if (up || down) && x.q && y.q && decide (x.t ≤ y.t + 25001) && decide (bits s.taeCfg 4 8 * 128 ≤ amp) then
      some ((y.t + (x.t - y.t) * y.v.natAbs / (x.v - y.v).natAbs) - 37500, up)
    else none
  | _ => none

/-- A crossing meets the conditions of R60: within 0.1° of the crossing predicted from those before it, its period within 2 %
of the period before, the frequency inside the window, and its direction the opposite of the last one's. -/
def State.goodCrossing (s : State) (t : Nat) (pos : Bool) (c : Crossings) : Bool :=
  match c.ts with
  | t1 :: t2 :: t3 :: _ =>
    let per : Int := (t1 : Int) - t3
    let dev := ((t : Int) - (t2 + per)).natAbs
    decide (dev * 3600 ≤ per.natAbs) && decide ((((t : Int) - t2) - per).natAbs * 50 ≤ per.natAbs) &&
    s.inFreqWindow (halvesFreq 2 (t - t2)) && (pos != c.pos)
  | _ => false

/-- The crossings of a channel with one more, the last four kept. -/
def Crossings.add (c : Crossings) (t : Nat) (pos : Bool) : Crossings := { ts := (t :: c.ts).take 4, pos := pos }

/-- Half a supply period in ns at the frequency at which the own angle runs. -/
def State.halfNs (s : State) : Nat := s.supplyNs / 2

/-- A crossing stands within 5 % of a period of a predicted one (R61): a whole number of half periods after the last one. -/
def State.crossingExpected (s : State) (t t1 : Nat) : Bool :=
  let h := s.halfNs
  let r := (t - t1) % h
  decide (t1 + h / 2 ≤ t) && decide (min r (h - r) * 10 ≤ h)

/-- The angle is lost (R61, R62): it runs on at the last valid frequency, and the loop may fall back to channel 1. R62
has the switch recorded without giving the record a code, so its code and severity are free (entry 26). -/
def State.angleLoss (s : State) : State :=
  let s1 := s.angleRebase
  let s2 : State :=
    { s1 with tae.angv := false, tae.slew := false, tae.slewLeft := 0, tae.loss := satInc 255 s1.tae.loss, tae.missX := 0,
              tae.outWin := 0, tae.goodX := tabSet 0 s1.refChan 0 s1.tae.goodX }
  let s3 := (s2.evtTae 0).angleSusp
  if s3.srcSel = 2 ∧ s3.tae.srcact = false ∧ 8 ≤ tabGet 0 1 s3.tae.goodX then
    let w := s3.freeWord.toNat
    (({ s3.freeUsed with tae.srcact := true } : State).evtTae 5).record (bits w 16 3 % 6) 0x0300 (bits w 0 16) [1]
  else s3

/-- The phase that the own angle lacks now, where a crossing stood at clock `t` (R58, R61): the angle is based anew and gains
it at 5 % of its frequency, so it never steps. -/
def State.anglePull (s : State) (t f : Nat) (positive : Bool) : State :=
  let goal := wrapAngle ((crossPhase positive : Int) + angleUnits f ((s.pins.now : Int) - t))
  { s.angleRebase with tae.slewLeft := angleDiff goal s.ownAngle, tae.runFreq := f, tae.freq := f, tae.missX := 0 }

/-- Lock (R60, R61): the measured frequency, and the phase difference to be slewed. -/
def State.angleLock (s : State) (t f : Nat) (positive : Bool) : State :=
  let s1 := s.anglePull t f positive
  (({ s1 with tae.slew := decide (s1.tae.slewLeft ≠ 0), tae.angv := true, tae.outWin := 0 } : State).evtTae 1).angleSusp

/-- A crossing while the angle is valid: the angle follows it; the frequency is that of the last period. Outside the window it
is measured and does not drive the angle; eight half cycles of it lose the angle (R61). -/
def State.angleTrack (s : State) (t f : Nat) (positive : Bool) : State :=
  if s.inFreqWindow f then { s.anglePull t f positive with tae.outWin := 0 }
  else if 8 ≤ s.tae.outWin + 1 then ({ s with tae.freq := f } : State).angleLoss
  else { s with tae.freq := f, tae.missX := 0, tae.outWin := s.tae.outWin + 1 }

/-- A crossing is taken into the loop (R60, R61). One of the channel in use that stands where none is predicted does not count
while the angle is valid. -/
def State.crossingTake (s : State) (ch t : Nat) (positive : Bool) : State :=
  let c := tabGet { ts := [], pos := false } ch s.tae.lastX
  let n := if s.goodCrossing t positive c then tabGet 0 ch s.tae.goodX + 1 else 0
  let f := match c.ts with
    | t1 :: t2 :: _ => if (t2 + 3 * s.halfNs < t) then halvesFreq 1 (t - t1) else halvesFreq 2 (t - t2)
    | _ => s.tae.freq
  let s1 : State :=
    { s with tae.lastX := tabSet { ts := [], pos := false } ch (c.add t positive) s.tae.lastX, tae.goodX := tabSet 0 ch n s.tae.goodX }
  if ch ≠ s.refChan then s1
  else if s.tae.angv then (if s.crossingExpected t (c.ts.headD 0) then s1.angleTrack t f positive else s)
  else if 8 ≤ n then s1.angleLock t f positive
  else s1

/-- ZERO_CROSSING (R58 to R61): the crossing at t that the last two fast-path samples of the channel stand on both sides of; it
counts and has not been taken. -/
def execZeroCrossing (ch : Fin 2) (t : Nat) (rising : Bool) (s : State) : Host.Outcome State Fault Refusal :=
  .next (if s.angleLoops && decide (s.crossingOf ch.val = some (t, rising)) &&
      decide ((tabGet { ts := [], pos := false } ch.val s.tae.lastX).ts.headD 0 < t)
    then s.crossingTake ch.val t rising else s)

/-- The clock at which the next crossing of a channel is missing (R61): 5 % of a period past its predicted instant. -/
def State.missingAt (s : State) (t1 k : Nat) : Nat := t1 + (k + 1) * s.halfNs + s.supplyNs / 20

/-- CROSSING_MISSING (R61): the predicted crossing of a channel did not occur. -/
def execCrossingMissing (ch : Fin 2) (s : State) : Host.Outcome State Fault Refusal :=
  .next (match (tabGet { ts := [], pos := false } ch.val s.tae.lastX).ts with
    | [] => s
    | t1 :: _ =>
      if s.angleLoops then
        let ref := decide (ch.val = s.refChan) && s.tae.angv
        let s1 : State := s.advance (s.missingAt t1 (if ref then s.tae.missX else 0))
        let s2 : State := { s1 with tae.goodX := tabSet 0 ch.val 0 s1.tae.goodX }
        if !ref then s2
        else if 3 < s.tae.missX + 1 then s2.angleLoss
        else { s2 with tae.missX := s2.tae.missX + 1 }
      else s)

/-- The clock value at which the slew in progress ends (R61): the difference is gained at 5 % of the frequency. -/
def State.slewDone (s : State) : Nat :=
  s.tae.angAt + (s.tae.slewLeft.natAbs * 100000000000000 + 5 * s.tae.runFreq * turn - 1) / (5 * s.tae.runFreq * turn)

/-- SLEW_END (R61). -/
def execSlewEnd (s : State) : Host.Outcome State Fault Refusal :=
  .next (if s.angleLoops && s.tae.slew && decide (0 < s.tae.runFreq) then
      ({ (s.advance s.slewDone).angleRebase with tae.slew := false, tae.slewLeft := 0 } : State).angleSusp
    else s)

/-! ### Slots (R65 to R69) -/

/-- The lane has cluster time, valid or being corrected (R365). -/
def State.hasCt (s : State) : Bool :=
  s.tae.ctOff.isSome &&
  (match s.lnb.bstate with
   | .integrating | .active | .passive => true
   | _ => false)

/-- The action of a slot takes effect (R68), with the "angle invalid" flag of the firing (R66): no target makes a further use
of the flag, and SUP gives the SUP event no further effect. -/
def State.slotAct (s0 : State) (act tgt : Nat) (inv : Bool) : State :=
  let s : State := { s0 with tae.delivered := some (act, tgt, inv) }
  match act with
  | 0x01 => s.meaTrigger
  | 0x02 => s.meaSnap
  | 0x10 => s.switchFire tgt
  | 0x11 => if s.blockLive 7 then s.windowSet tgt true else s
  | 0x12 => if s.blockLive 7 then s.windowSet tgt false else s
  | 0x13 => s.flashOn tgt
  | 0x14 => s.flashOff tgt
  | 0x15 => s.darkPulse tgt
  | _ => s

/-- Time slot n (R92): control and the base period in ns. -/
def State.tslotCtl (s : State) (n : Nat) : Nat := s.cfg (0x031804 + 8 * n) 0
def State.tslotBase (s : State) (n : Nat) : Nat :=
  match bits (s.tslotCtl n) 28 2 with
  | 0 => s.logicNs
  | 1 => s.basicNs
  | _ => s.ccl * s.basicNs
def State.tslotOffset (s : State) (n : Nat) : Nat := bits (s.cfg (0x031800 + 8 * n) 0) 0 30 * 10

/-- A slot fires at the present edge: its firing is noted, and its action takes effect. -/
def State.tslotFire (s : State) (n : Nat) : State :=
  let c := s.tslotCtl n
  ({ s with tae.tFired := tabSet 0 n s.pins.now s.tae.tFired } : State).slotAct (bits c 8 8) (bits c 0 8) false
def State.aslotFire (s : State) (n : Nat) : State :=
  ({ s with tae.aFired := tabSet 0 n s.pins.now s.tae.aFired } : State).slotAct (s.aslotAct n) (s.aslotTgt n)
    (!s.aslotRef n && !s.angv)

/-- A slot fired at this D11 edge already. -/
def firedNow (now n : Nat) (t : Tab Nat) : Bool := let f := tabGet 0 n t; decide (f ≠ 0) && decide (now < f + 10)

/-- A slot may fire: it is enabled and TAE live, and its reference exists (R64, R66, R67): cluster time; the set angle; the own
angle from the end of LOAD on. -/
def State.tslotOn (s : State) (n : Nat) : Bool := bit (s.tslotCtl n) 31 && s.hasCt && s.blockLive 3
def State.aslotOn (s : State) (n : Nat) : Bool :=
  s.aslotEn n && s.blockLive 3 && (if s.aslotRef n then s.tae.samSet && s.hasCt else s.tae.loopOn && (!s.dcAngle || s.tae.ctOff.isSome))

/-- An enabled slot is due at the present edge, and has not fired there; `set0` is θ_set at the edge before. -/
def State.tslotDue (s : State) (n : Nat) : Bool :=
  s.tslotOn n && !firedNow s.pins.now n s.tae.tFired &&
  decide ((s.ct + s.tslotBase n - s.tslotOffset n) % s.tslotBase n < 10)
def State.aslotDue (s : State) (set0 n : Nat) : Bool :=
  s.aslotOn n && !firedNow s.pins.now n s.tae.aFired &&
  (let a : Int := s.aslotAng n
   let now := if s.aslotRef n then s.setAngleAt s.ct else s.ownAngle
   let prev := if s.aslotRef n then set0 else s.ownAngleAt ((s.pins.now : Int) - 10)
   decide (wrapAngle (a - prev - 1) < wrapAngle ((now : Int) - prev)))

/-- The slots due at the present edge fire in the order of R69: time-triggered before angle-triggered, ascending, each seeing
the effects of those before it. -/
def State.tslotsFire (s : State) (also : Nat → Bool) : List Nat → State
  | [] => s
  | n :: ns => (if s.tslotDue n || also n then s.tslotFire n else s).tslotsFire also ns
def State.aslotsFire (s : State) (set0 : Nat) (also : Nat → Bool) : List Nat → State
  | [] => s
  | n :: ns => (if s.aslotDue set0 n || also n then s.aslotFire n else s).aslotsFire set0 also ns
def State.edgeFire (s : State) (set0 : Nat) (alsoT alsoA : Nat → Bool) : State :=
  (s.tslotsFire alsoT (List.range 64)).aslotsFire set0 alsoA (List.range 256)

/-- The present edge is a T_commit whose commit has not taken place: the slots due there fire in it, after the set-angle model
is adopted (R69). -/
def State.commitEdge (s : State) : Bool :=
  match s.lane.commitDue with
  | some t0 => decide (t0 + s.cycC * s.basicNs ≤ s.ct) && decide (s.ct < t0 + s.cycC * s.basicNs + 10)
  | none => false

/-- The instant from which a slot's next firing is sought: the present edge, or the edge after its last one. -/
def State.slotFrom (s : State) (n : Nat) (t : Tab Nat) : Nat := max s.pins.now (let f := tabGet 0 n t; if f = 0 then 0 else f + 1)

/-- The clock moves on to the edge at which a slot fires; there every slot that is due fires in its order. -/
def State.slotsAt (s : State) (at_ : Nat) (alsoT alsoA : Nat → Bool) : State :=
  let s1 := s.advance at_
  if s1.commitEdge then s1 else s1.edgeFire (s1.setAngleAt ((s1.ct : Int) - 10)) alsoT alsoA

/-- ANGLE_SLOT_FIRE (R66): an own-angle slot fires from the end of LOAD on, a set-angle slot once a model is adopted. A firing
that has taken effect at the present edge, with the other slots of the edge, does not take effect again (R69). -/
def execAngleSlotFire (n : Fin 256) (s : State) : Host.Outcome State Fault Refusal :=
  let k := n.val
  .next (if s.aslotOn k && !firedNow s.pins.now k s.tae.aFired then
      let f := s.slotFrom k s.tae.aFired
      s.slotsAt (if s.aslotRef k then s.setReach (s.aslotAng k) f else s.ownReach (s.aslotAng k) f) (fun _ => false) fun j => decide (j = k)
    else s)

/-- The first cluster time not before `ct` that stands `off` ns after the start of a period of `base` ns. -/
def nextAt (ct base off : Nat) : Nat := ct + (off + base - ct % base) % base

/-- TIME_SLOT_FIRE (R67). -/
def execTimeSlotFire (n : Fin 64) (s : State) : Host.Outcome State Fault Refusal :=
  let k := n.val
  .next (if s.tslotOn k && !firedNow s.pins.now k s.tae.tFired then
      s.slotsAt (s.clockAt (nextAt (s.ctAt (s.slotFrom k s.tae.tFired)) (s.tslotBase k) (s.tslotOffset k))) (fun j => decide (j = k)) fun _ => false
    else s)

/-- CTLO_READ (R84): the read latches CTHI. -/
def execCtloRead (s : State) : Host.Outcome State Fault Refusal :=
  .next (if s.blockLive 3 then { s with tae.cthi := BitVec.ofNat 32 (s.ct / 4294967296) } else s)

/-! ### Wall time (R55, R56, R87) -/

/-- An own wall-time set is pending. -/
def State.wallOwn (s : State) : Bool := s.tae.wpend.any fun p => decide (p.node = s.node)

/-- The write of TAE.WSETHI. -/
def State.wallSet (s : State) (hi : Nat) : State :=
  if !s.tae.timev || s.wallOwn then { s with tae.wset := .refused }
  else
    let v := hi * 4294967296 + s.tae.wsetlo.toNat
    { s with tae.wset := .waiting, tae.wpend := s.tae.wpend ++ [{ value := v, cycle := none, node := s.node }],
             lnb.entries := s.lnb.entries ++ [[0x02000000, s.tae.wsetlo, BitVec.ofNat 32 hi]] }

/-- WALL_TIME_SET: the command of R56 from a session at Maintainer level or above. -/
def execWallTimeSet (sid : BitVec 16) (hi : BitVec 16) (s : State) : Host.Outcome State Fault Refusal :=
  .next (s.command sid.toNat 0x03002C hi.toNat 2 fun t => t.wallSet hi.toNat)

/-- The set that applies among those due: the one that the lowest-numbered node accepted. -/
def lowestWall : List PendingWall → Option PendingWall
  | [] => none
  | p :: ps =>
    match lowestWall ps with
    | none => some p
    | some q => if p.node ≤ q.node then some p else some q

/-- A signed 48-bit number. -/
def sext48 (i : Int) : Int := let m := i % 281474976710656; if m < 140737488355328 then m else m - 281474976710656

/-- At T0(n) the wall-time sets of that boundary apply (R56): no step where the value is the wall time already. -/
def State.wallApply (s : State) (n t0 : Nat) : State :=
  let due := s.tae.wpend.filter fun p => match p.cycle with | some c => decide (c ≤ n) | none => false
  match lowestWall due with
  | none => s
  | some p =>
    let s1 : State := { s with tae.wpend := s.tae.wpend.filter fun p => !due.contains p }
    let w := sext48 ((p.value : Int) - ((t0 / 1000000 : Nat) : Int))
    let s2 := if s.tae.wallv && decide (w = s.tae.woff) then s1 else s1.wallStep w true 0
    if due.any fun q => decide (q.node = s.node) then
      ({ s2 with tae.wset := if p.node = s.node then .completed else .failed } : State).cmdEnd
    else s2

/-! ### TIMEV (R52, R54, R213, R305, R384, R546) -/

/-- TIMEV rises: the decimators are aligned; on DC the angle becomes valid with it. Until ALIGN is 1 the rise waits. -/
def State.timevRise (s : State) : State :=
  if s.tae.timev then s
  else if !s.crt.align then { s with crt.timevHeld := true }
  else
    let s1 : State := { s with tae.timev := true, tae.timevAt := s.pins.now, crt.timevHeld := false }
    let s2 := if s1.blockLive 8 && s1.img.isSome then s1.meaAlign else s1
    if s2.dcAngle then s2.angleSusp else s2

/-- TIMEV falls: TIMELOST, the test-pulse frame stops, a voting lane withdraws itself with a unit implicated, and a wall-time
set that has no boundary left stays pending until one comes. -/
def State.timevFall (s : State) (u : FaultUnit) : State :=
  let s0 : State := { s with crt.timevHeld := false }
  if s.tae.timev then
    let s1 : State := { s0 with tae.timev := false }
    let s2 := (s1.evtTae 2).frameStop
    let s3 := if s2.dcAngle then s2.angleSusp else s2
    if s3.voting then s3.withdraw u else s3
  else s0

end Sys2Proof.Machine
end

