-- ==== Sys2Proof/Machine/Slots.lean ====
section
/-! DEFINITION. The image slots and their records (R459 to R461), the running image's header, and the security version as
confirmation raises it (R501, R572). -/

namespace Sys2Proof.Machine

/-- The state that a STATE word names (R460): any other value reads as RETIRED. -/
def slotStateOf (w : Word) : SlotState :=
  if w = 0xFFFFFFFF then .erased
  else if w = 0xFFFFFFF0 then .writing
  else if w = 0xFFFFFF00 then .complete
  else if w = 0xFFFFF000 then .shadow
  else if w = 0xFFFF0000 then .trial
  else if w = 0xFFF00000 then .confirmed
  else .retired

/-- The STATE word of a state. -/
def slotWord : SlotState → Word
  | .erased => 0xFFFFFFFF
  | .writing => 0xFFFFFFF0
  | .complete => 0xFFFFFF00
  | .shadow => 0xFFFFF000
  | .trial => 0xFFFF0000
  | .confirmed => 0xFFF00000
  | .retired => 0x00000000

/-- PSTATE and RSTATE (R511). -/
def slotCode : SlotState → Nat
  | .erased => 0 | .writing => 1 | .complete => 2 | .shadow => 3 | .trial => 4 | .confirmed => 5 | .retired => 6

/-- The record as the lane takes it: the bitwise AND of the two copies (R461), and the copy of NOR A alone with NVW = 1 (R458). -/
def Slot.both (nvw : Bool) (x : Slot) : SlotRec :=
  if nvw then x.recA
  else { state := x.recA.state &&& x.recB.state, gen := x.recA.gen &&& x.recB.gen, nblk := x.recA.nblk &&& x.recB.nblk,
         imgd := x.recA.imgd &&& x.recB.imgd }

def Slot.state (nvw : Bool) (x : Slot) : SlotState := slotStateOf (x.both nvw).state

/-- A record programmed over another: programming only clears bits. -/
def SlotRec.program (old new : SlotRec) : SlotRec :=
  { state := old.state &&& new.state, gen := old.gen &&& new.gen, nblk := old.nblk &&& new.nblk,
    imgd := old.imgd &&& new.imgd }

/-- Both copies programmed, NOR A first (R461); NOR A only with NVW = 1. -/
def Slot.program (nvw : Bool) (x : Slot) (r : SlotRec) : Slot :=
  { x with recA := x.recA.program r, recB := if nvw then x.recB else x.recB.program r }

/-- A record that programs STATE alone. -/
def stateRec (st : SlotState) : SlotRec :=
  { state := slotWord st, gen := 0xFFFFFFFF, nblk := 0xFFFFFFFF, imgd := BitVec.allOnes 256 }

/-- A slot by its number: true for slot 1. -/
def State.slot (s : State) (k : Bool) : Slot := if k then s.upd.slot1 else s.upd.slot0
def State.setSlot (s : State) (k : Bool) (x : Slot) : State :=
  if k then { s with upd.slot1 := x } else { s with upd.slot0 := x }
def State.programSlot (s : State) (k : Bool) (st : SlotState) : State := s.setSlot k ((s.slot k).program s.nvw (stateRec st))
/-- A slot's record and its state. -/
def State.slotRec (s : State) (k : Bool) : SlotRec := (s.slot k).both s.nvw
def State.slotState (s : State) (k : Bool) : SlotState := (s.slot k).state s.nvw

/-- The running slot; slot 0 before selection, as UPD.STAT.RUNSLOT reads. -/
def State.runSlotNo (s : State) : Bool := s.upd.runSlot.getD false
def State.runSlotState (s : State) : SlotState := s.slotState s.runSlotNo

/-- The slot that the running one is not: the pending slot. -/
def State.pendSlotState (s : State) : SlotState := s.slotState (!s.runSlotNo)

/-! ### The running image (R464) -/

def State.secver (s : State) : Nat := match s.upd.hdr with | some h => h.secver | none => 0
def State.imgd (s : State) : W256 := match s.upd.hdr with | some h => h.imgd | none => 0
def State.imgdLow (s : State) : Nat := s.imgd.toNat % 4294967296
def State.startWord (s : State) : Nat := match s.upd.hdr with | some h => h.start.toNat | none => 0
def State.prvcyc (s : State) : Nat := let v := bits s.startWord 0 8; if v = 0 then 8 else v
def State.confirmCycles (s : State) : Nat := let v := bits s.startWord 8 8; if v = 0 then 8 else v
def State.preferredSet (s : State) : Bool := bit s.startWord 16

/-! ### Confirmation (R501, R503, R572) -/

/-- The security version is to be burned up to SECVER; SV_BURN_STEP burns the steps. -/
def State.burnWanted (s : State) : State :=
  if s.crt.sv < s.secver then { s with crt.svTarget := some s.secver } else s

/-- A confirmation entry of this lane waits for its next status frame (R351, TYPE 0x0A). -/
def State.confirmEntry (s : State) : State :=
  { s with lnb.entries := s.lnb.entries ++ [[BitVec.ofNat 32 (0x0A000000 + max s.crt.sv s.secver)]] }

/-- The image is confirmed: slot CONFIRMED, burn, record 0x0D06, CONFD. -/
def State.imageConfirm (s : State) : State :=
  ((({ s.programSlot s.runSlotNo .confirmed with upd.fromTrial := false } : State).burnWanted).evtUpd 3).record
    2 0x0D00 0x0D06 [max s.crt.sv s.secver]

/-- The confirmation period ends in this lane. -/
def State.confEnds (s : State) : State := { s with upd.conf := false, upd.confNew := false, upd.confEnd := none }

/-- A confirmation entry of another lane is accepted (R501). A lane of the former holding set ends its period after two
lanes of the new holding set; a lane that restarted on its TRIAL slot confirms after two other lanes of its own set. -/
def State.confirmHeard (s : State) (node : Nat) : State :=
  let s1 : State := { s with lnb.confirmed := if s.lnb.confirmed.contains node then s.lnb.confirmed else s.lnb.confirmed ++ [node] }
  let own := s1.lnb.confirmed.filter fun n => (s1.peerIndex n).isSome
  let others := s1.lnb.confirmed.filter fun n => decide (n < 6) && (s1.peerIndex n).isNone && decide (n ≠ s1.node)
  if s1.upd.conf && !s1.upd.confNew && decide (2 ≤ others.length) then s1.confEnds
  else if s1.upd.fromTrial && !s1.upd.confNew && decide (s1.runSlotState = .trial) && decide (2 ≤ own.length) then
    s1.imageConfirm.confirmEntry
  else s1

end Sys2Proof.Machine
end

