-- ==== Sys2Proof/Machine/Agree.lean ====
section
/-! DEFINITION. What travels as an input image, and input agreement (R72 to R78, R352, R641): packing, unpacking, the agreed
cells and the agreed telegrams. -/

namespace Sys2Proof.Machine

/-! ### Health of the other nodes (R47) -/

/-- The health word of a node that is at most two basic cycles old. -/
def State.fresh (s : State) (n : Nat) : Option Nat :=
  match (s.nodeView n).health with
  | some (h, m) => if s.lnb.m ≤ m + 1 then some h.toNat else none
  | none => none

/-- STATE, ROLE and the low IMGD of a health word. -/
def hState (h : Nat) : Nat := bits h 0 4
def hRole (h : Nat) : Nat := bits h 4 2
def hTimev (h : Nat) : Bool := bit h 6
def hSecver (h : Nat) : Nat := bits h 24 8
def hImgd (h : Nat) : Nat := bits h 32 32
/-- A health word shows a voting lane. -/
def hVoting (h : Nat) : Bool := decide (hState h = 7) && decide (hRole h ≠ 3)

/-- A node shows itself voting. -/
def State.showsVoting (s : State) (n : Nat) : Bool := match s.fresh n with | some h => hVoting h | none => false

/-- The nodes of the own and of the other set. -/
def State.setNodes (s : State) : List Nat := (List.range 3).map fun i => s.setBase + i
def State.otherNodes (s : State) : List Nat := (List.range 3).map fun i => 3 - s.setBase + i

/-- The voting lanes of the own set as this lane sees them, itself included, in lane order (R47). -/
def State.votingNodes (s : State) : List Nat :=
  s.setNodes.filter fun n => if n = s.node then s.voting else s.showsVoting n

/-- Some lane of the other set holds. -/
def State.otherHolds (s : State) : Bool :=
  s.otherNodes.any fun n => match s.fresh n with | some h => decide (hState h = 7) && decide (hRole h = 0) | none => false

/-- The own set holds, or would hold: its role, and for a lane without one, that the other set does not. -/
def State.ownSetHolds (s : State) : Bool :=
  if s.lane.st = .run then
    match s.lane.role with
    | .holding => true
    | .standby | .shadow => false
    | .excluded => !s.otherHolds
  else !s.otherHolds

/-- A proving lane (R476): in PROVE for a set start. -/
def State.proving (s : State) : Bool := decide (s.lane.st = .prove) && !s.lane.joining

/-- The lane contributes to input agreement (R73, R476). -/
def State.contributes (s : State) : Bool := (s.voting || s.proving) && s.ownSetHolds

/-! ### Packing (R352) -/

/-- Bits packed least significant bit first into words; `n` words. -/
def packWords : Nat → List Bool → List Word
  | 0, _ => []
  | n + 1, l =>
    BitVec.ofNat 32 (((l.take 32).zipIdx.map fun e => bitNat e.1 * 2 ^ e.2).foldl (· + ·) 0) :: packWords n (l.drop 32)
def packAll (l : List Bool) : List Word := packWords ((l.length + 31) / 32) l

/-- Bit i of a list of words. -/
def wordsBit (ws : List Word) (i : Nat) : Bool := (ws.getD (i / 32) 0).getLsbD (i % 32)

/-- The bit and the word cells of the input list, in its order. -/
def inBits (st : Station) : List Nat := st.inputList.filter fun a => decide (cellKind a = some .bit)
def inWordCells (st : Station) : List Nat := st.inputList.filter fun a => decide (cellKind a = some .word)

/-- Words that the bit cells, and the whole captured cells, take. -/
def inBitWords (st : Station) : Nat := (2 * (inBits st).length + 31) / 32
def inCellWords (st : Station) : Nat :=
  inBitWords st + (inWordCells st).length + ((inWordCells st).length + 31) / 32

/-- The value of a cell of a capture. -/
def capBit (t : Tab Cell) (a : Nat) : Bool × Bool := cellVQ (tabGet (zeroCell a) a t)
def capWord (t : Tab Cell) (a : Nat) : Word × Bool :=
  match tabGet (zeroCell a) a t with
  | .word v q => (v, q)
  | _ => (0, false)

/-- The captured cells as words: V and Q of each bit cell, the word values, and their Q bits. -/
def packCells (st : Station) (t : Tab Cell) : List Word :=
  packAll ((inBits st).flatMap fun a => [(capBit t a).1, (capBit t a).2]) ++
  ((inWordCells st).map fun a => (capWord t a).1) ++ packAll ((inWordCells st).map fun a => (capWord t a).2)

/-- A digest as four words: CONN, SEQ, the safety code with its low word first. -/
def digestWords (d : Digest) : List Word :=
  [BitVec.ofNat 32 d.conn, BitVec.ofNat 32 d.seq, d.code.setWidth 32, d.code.extractLsb' 32 32]

/-- V and Q of a cell in received words. -/
def rxBit (st : Station) (ws : List Word) (a : Nat) : Bool × Bool :=
  match (inBits st).findIdx? fun x => x = a with
  | some i => (wordsBit ws (2 * i), wordsBit ws (2 * i + 1))
  | none => (false, false)
def rxWord (st : Station) (ws : List Word) (a : Nat) : Word × Bool :=
  match (inWordCells st).findIdx? fun x => x = a with
  | some i =>
    (ws.getD (inBitWords st + i) 0, wordsBit (ws.drop (inBitWords st + (inWordCells st).length)) i)
  | none => (0, false)

/-- The digests in received words. -/
def rxDigests : List Word → List Digest
  | c :: q :: l :: h :: t => { conn := c.toNat, seq := q.toNat, code := h ++ l } :: rxDigests t
  | _ => []

/-! ### Contributions -/

/-- A contribution to input agreement: how it reports a bit cell, a word cell, and its digests. -/
structure Contrib where
  node : Nat
  bitOf : Nat → Bool × Bool
  wordOf : Nat → Word × Bool
  digests : List Digest

/-- The digest of a telegram (R76). -/
def Telegram.digest (t : Telegram) : Digest := { conn := t.conn, seq := t.seq, code := t.code }

/-- This lane's contribution. -/
def State.ownContrib (s : State) : Contrib :=
  { node := s.node, bitOf := capBit s.inp.own, wordOf := capWord s.inp.own,
    digests := s.fld.captured.map fun h => h.tg.digest }

/-- A node's contribution, where its input image has arrived whole. -/
def State.nodeContrib (s : State) (n : Nat) : Option Contrib :=
  let v := s.nodeView n
  if v.inValid && decide (inCellWords s.station ≤ v.inWords.length) then
    some { node := n, bitOf := rxBit s.station v.inWords, wordOf := rxWord s.station v.inWords,
           digests := rxDigests (v.inWords.drop (inCellWords s.station)) }
  else none

/-- The peers of the set that contribute (R73, R476): voting ones, and while the set has none of them proving ones. -/
def State.contribPeer (s : State) (n : Nat) : Bool :=
  s.showsVoting n ||
  ((s.setNodes.all fun k => if k = s.node then !s.voting else !s.showsVoting k) &&
    (match s.fresh n with | some h => decide (hState h = 6) | none => false))

/-- A node of the other set shows itself voting in the role HOLDING. -/
def State.showsHolding (s : State) (n : Nat) : Bool :=
  match s.fresh n with | some h => decide (hState h = 7) && decide (hRole h = 0) | none => false

/-- The contributing lanes of the holding set, in lane order. A standby lane takes the images only of voting holding lanes, and
only where two of them gave theirs (R43, entry 69). -/
def State.contribs (s : State) : List Contrib :=
  if s.ownSetHolds then
    s.setNodes.filterMap fun n =>
      if n = s.node then (if s.contributes then some s.ownContrib else none) else if s.contribPeer n then s.nodeContrib n else none
  else
    let l := (s.otherNodes.filter s.showsHolding).filterMap s.nodeContrib
    if 2 ≤ l.length then l else []

/-! ### Agreement (R73, R74, R76) -/

/-- An agreed bit cell (R73). -/
def agreeBit (l : List (Bool × Bool)) : Cell :=
  if 2 ≤ (l.filter fun x => x = (true, true)).length then .bit true true
  else if 2 ≤ (l.filter fun x => x = (false, true)).length then .bit false true
  else .bit false false

/-- The agreed value of valid reports (R74): median of three, rounded-down mean of two. -/
def agreeInts : List Int → Option Int
  | [a, b] => some ((a + b) / 2)
  | [a, b, c] => some (max (min a b) (min (max a b) c))
  | _ => none

/-- The spread of valid reports. -/
def spread (l : List Int) : Int := l.foldl max (l.headD 0) - l.foldl min (l.headD 0)

/-- An agreed word cell (R74). -/
def agreeWord (tol : Nat) (l : List (Word × Bool)) : Cell :=
  let v := (l.filter fun x => x.2).map fun x => x.1.toInt
  match agreeInts v with
  | some a => if spread v ≤ (tol : Int) then .word (BitVec.ofInt 32 a) true else .word 0 false
  | none => .word 0 false

/-- The agreed supply angle (R74): the reports as signed differences from the lowest-lettered valid one. -/
def agreeAngle (tol : Nat) (l : List (Word × Bool)) : Cell :=
  let v := (l.filter fun x => x.2).map fun x => x.1.toNat
  match v with
  | [] => .word 0 false
  | b :: _ =>
    let d := v.map fun x => angleDiff x b
    match agreeInts d with
    | some a => if spread d ≤ (tol : Int) then .word (BitVec.ofNat 32 (wrapAngle ((b : Int) + a))) true else .word 0 false
    | none => .word 0 false

/-- The agreement tolerance of a word cell: 0 where the image sets none, 0.5° for the angle. -/
def tolOf (st : Station) (a : Nat) : Nat := tabGet (if a = 0x43F29 then 5965232 else 0) a st.tolerance

/-- The agreed content of a cell of the input list. -/
def agreeCell (st : Station) (l : List Contrib) (a : Nat) : Cell :=
  if cellKind a = some .word then
    if a = 0x43F29 then agreeAngle (tolOf st a) (l.map fun c => c.wordOf a)
    else agreeWord (tolOf st a) (l.map fun c => c.wordOf a)
  else agreeBit (l.map fun c => c.bitOf a)

/-- Every cell of the input list, agreed. -/
def State.agreedCells (s : State) : List (Nat × Cell) :=
  s.station.inputList.map fun a => (a, agreeCell s.station s.contribs a)

/-- The digests that at least two contributing lanes report (R76). -/
def State.agreedDigests (s : State) : List Digest :=
  let l := s.contribs
  ((l.flatMap fun c => c.digests).eraseDups).filter fun d =>
    decide (2 ≤ (l.filter fun c => c.digests.contains d).length)

/-- The telegram of a digest, where this lane holds its payload: captured, or fetched. -/
def State.telegramOf (s : State) (d : Digest) : Option Telegram :=
  ((s.fld.captured.map HeldTelegram.tg) ++ s.lnb.fetched).find? fun t => decide (t.digest = d)

/-- The agreed telegrams whose payload this lane lacks (R78). -/
def State.lackingNow (s : State) : List Digest := s.agreedDigests.filter fun d => (s.telegramOf d).isNone

end Sys2Proof.Machine
end

