-- ==== Sys2Proof/Machine/Schedule.lean ====
section
/-! DEFINITION. The lane-bus schedule (R335 to R340, R361 to R364), the bus state and the time that it brings, the health word
and the frames as sent. -/

namespace Sys2Proof.Machine

/-! ### Schedule -/

/-- Word k of window w. -/
def winWord (st : Station) (w k : Nat) : Nat := stCfg st (0x091000 + 16 * w + 4 * k) 0
def winEn (st : Station) (w : Nat) : Bool := bit (winWord st w 0) 31
def winArb (st : Station) (w : Nat) : Bool := bit (winWord st w 0) 30
def winOwner (st : Station) (w : Nat) : Nat := bits (winWord st w 0) 27 3
def winBase (st : Station) (w : Nat) : Nat := bits (winWord st w 0) 21 6
/-- START in ns. -/
def winStart (st : Station) (w : Nat) : Nat := bits (winWord st w 0) 0 21 * 10
def winRep (st : Station) (w : Nat) : Nat := bits (winWord st w 1) 26 6 + 1
/-- LEN in ns, the guard included. -/
def winLen (st : Station) (w : Nat) : Nat := bits (winWord st w 1) 0 21 * 10
/-- MSL in ns. -/
def winMsl (st : Station) (w : Nat) : Nat := bits (winWord st w 2) 22 6 * 20
def winNrank (st : Station) (w : Nat) : Nat := bits (winWord st w 2) 16 6 + 1
def winList (st : Station) (w : Nat) : Nat := bits (winWord st w 2) 0 11

/-- Entry i of the rank list. -/
def rankFid (st : Station) (i : Nat) : Nat := bits (stCfg st (0x093000 + 4 * (i / 2)) 0) (16 * (i % 2)) 10

/-- Frame ID f. -/
def fidWord (st : Station) (f : Nat) : Nat := stCfg st (0x094000 + 4 * f) 0
def fidEn (st : Station) (f : Nat) : Bool := bit (fidWord st f) 31
def fidOwner (st : Station) (f : Nat) : Nat := bits (fidWord st f) 28 3
def fidUse (st : Station) (f : Nat) : Nat := bits (fidWord st f) 24 4
def fidMax (st : Station) (f : Nat) : Nat := bits (fidWord st f) 17 7

/-- The FID at a place of the schedule: of an exclusive window, or of a rank of an arbitrating one. -/
def placeFid (st : Station) (w r : Nat) : Option Nat :=
  if !winEn st w then none
  else if winArb st w then (if r < winNrank st w then some (rankFid st (winList st w + r)) else none)
  else if r = 0 then some (winList st w % 1024) else none

/-- The enabled FIDs of an owner and a use, as the image lists them (ascending). -/
def fidsOf (st : Station) (owner use : Nat) : List Nat :=
  st.cfg.filterMap fun e =>
    if 0x094000 ≤ e.1 ∧ e.1 < 0x095000 ∧ e.2.toNat.testBit 31 ∧ bits e.2.toNat 28 3 = owner ∧ bits e.2.toNat 24 4 = use
    then some ((e.1 - 0x094000) / 4) else none

/-- The windows of the schedule. -/
def windows (st : Station) : List Nat :=
  st.cfg.filterMap fun e =>
    if 0x091000 ≤ e.1 ∧ e.1 < 0x093000 ∧ (e.1 - 0x091000) % 16 = 0 ∧ e.2.toNat.testBit 31
    then some ((e.1 - 0x091000) / 16) else none

/-- Window w is present in basic cycle m (R338). -/
def winPresent (st : Station) (ccl w m : Nat) : Bool :=
  winEn st w && decide ((m % (max 1 ccl)) % winRep st w = winBase st w)

/-- The duration of a transmission in ns (R334). -/
def txDur (len : Nat) : Nat := 560 + 160 * len

/-- The FIDs that a window carries, by rank. -/
def winFids (st : Station) (w : Nat) : List Nat :=
  if winArb st w then (List.range (winNrank st w)).map fun i => rankFid st (winList st w + i) else [winList st w % 1024]

/-- An entry takes its place among the later ones. -/
def insertStart (e : Nat × Nat) : List (Nat × Nat) → List (Nat × Nat)
  | [] => [e]
  | x :: t => if e.1 ≤ x.1 then e :: x :: t else x :: insertStart e t

/-- The windows present in the logic cycle that starts at basic cycle `m0`, in order: start in ns from its T0, and window. -/
def State.cycleWindows (s : State) (m0 : Nat) : List (Nat × Nat) :=
  let st := s.station
  let ws := windows st
  ((List.range s.cycL).flatMap fun i =>
    (ws.filter fun w => winPresent st s.ccl w (m0 + i)).map fun w => (i * s.basicNs + winStart st w, w)).foldr insertStart []

/-- The FIDs among `fs` that an arbitrating window of `len` ns carries, each in a round of its own from `r` on, at most once
(R343, R344). -/
def roundsCarry (st : Station) (len msl : Nat) : Nat → Nat → List Nat → List Nat → List Nat
  | _, _, _, [] => []
  | r, j, fs, f :: l =>
    let d := j * msl + txDur (fidMax st f)
    if !fs.contains f then roundsCarry st len msl r (j + 1) fs l
    else if r + d + 300 ≤ len then f :: roundsCarry st len msl ((r + d + 200 + 9) / 10 * 10) (j + 1) fs l
    else []

/-- The FIDs among `fs` that one logic cycle carries, each once. -/
def State.fidsCarried (s : State) (m0 : Nat) (fs : List Nat) : List Nat :=
  let st := s.station
  (s.cycleWindows m0).foldl (fun got e =>
    let more := fs.filter fun f => !got.contains f
    got ++ (if winArb st e.2 then roundsCarry st (winLen st e.2) (winMsl st e.2) 0 0 more (winFids st e.2)
      else (winFids st e.2).filter more.contains)) []

/-- The FIDs of a node and a use that the logic cycle from `m0` carries, ascending, and their payload words (R340, R352). -/
def State.useFids (s : State) (m0 n use : Nat) : List Nat :=
  let got := s.fidsCarried m0 (fidsOf s.station n use)
  (fidsOf s.station n use).filter got.contains
def State.wordRoom (s : State) (m0 n use : Nat) : Nat :=
  ((s.useFids m0 n use).map (fidMax s.station)).foldl (· + ·) 0

/-- The logic cycle that runs at cluster time now, and the basic cycle at which it starts. -/
def State.cycleNow (s : State) : Nat := s.ct / s.logicNs
def State.cycleM0 (s : State) : Nat := s.cycleNow * s.cycL

/-- LNB.DLYn. -/
def State.dly (s : State) (n : Nat) : Nat := s.cfgField (0x090020 + 4 * n) 0 0 7

/-- SCLIM, and the CYC of the current basic cycle. -/
def State.sclim (s : State) : Nat := s.cfgField 0x090000 0x00802004 20 4
def State.cyc (s : State) : Nat := s.lnb.m % max 1 s.ccl

/-- Cluster time of a place of window w in the current basic cycle: its slot start. -/
def State.slotStart (s : State) (w : Nat) : Nat := s.lnb.m * s.basicNs + winStart s.station w

/-! ### Nodes -/

def State.updNode (s : State) (n : Nat) (f : NodeView → NodeView) : State :=
  { s with lnb.node := tabUpd node0 n f s.lnb.node }

/-- Every node seen. -/
def State.mapNodes (s : State) (f : Nat → NodeView → NodeView) : State :=
  (List.range 8).foldl (fun t n => t.updNode n (f n)) s

/-- This node is a sync node (R367). -/
def State.syncNode (s : State) : Bool :=
  decide (s.node < 6) && bit (s.cfg 0x090044 (bitNat s.csn)) 0

/-- A node that may set SYNC = 1 (R339, R367). -/
def State.syncSender (s : State) (n : Nat) : Bool :=
  if n = s.node then s.syncNode else decide (n < 6) && s.station.csnNodes.getLsbD n

/-- The bus state has time, true or provisional (R365). -/
def State.busTime (s : State) : Bool :=
  match s.lnb.bstate with
  | .lead | .follow | .integrating | .active | .passive => true
  | _ => false

/-! ### Bus states (R365, R366, R370) -/

/-- What the sync rules count is cleared when the node takes or drops a time. -/
def State.syncClear (s : State) : State :=
  ({ s with lnb.devs := [], lnb.corrNow := none, lnb.precise := 0, lnb.coarse := 0, lnb.bndRun := 0, lnb.goodRun := 0,
            lnb.noSync := 0, lnb.folGood := 0, lnb.folMiss := 0, lnb.folSend := false, lnb.ownSyncNow := false,
            lnb.ownSyncLast := false } : State).mapNodes fun _ v =>
    { v with syncNow := false, syncLast := false, rxNow := false, rxLast := false, single := false, double := false,
             bndNow := false, bndLast := false }

/-- The status window of a node in basic cycle m (R340: exactly one). -/
def State.statusWindow (s : State) (n m : Nat) : Option Nat :=
  (windows s.station).find? fun w =>
    !winArb s.station w && decide (winOwner s.station w = n) && decide (fidUse s.station (winList s.station w % 1024) = 0) &&
    winPresent s.station s.ccl w m

/-- The listen timeout of R370, of R372 and R378. -/
def State.listenR370 (s : State) : Nat := 4 * s.basicNs + (s.node + 1) * 12000
def State.listenShort (s : State) : Nat := (s.node + 1) * 12000 + s.basicNs

/-- The node enters LISTEN with a timeout of `len` from `at_`. It has no time then; what CTLO would read is free (entry 27). -/
def State.enterListen (s : State) (len at_ : Nat) : State :=
  let s1 := (s.timevFall .lnbRx).syncClear
  let w0 := s1.freeWord.toNat
  let s2 := s1.freeUsed
  let w1 := s2.freeWord.toNat
  { s2.freeUsed with lnb.bstate := .listen, lnb.listenLen := len, lnb.listenAt := at_, tae.ctOff := none,
                     tae.ctHeld := w0 * 4294967296 + w1, lnb.rref := none }

/-- The node adopts a time (R372, R373, R379): cluster or provisional time `ct` stands at clock `at_`. CRT aligns the common
edges anew (R546). -/
def State.adoptTime (s : State) (b : BState) (ct : Int) (at_ : Nat) (m : Nat) : State :=
  { s.syncClear with lnb.bstate := b, tae.ctOff := some (ct - at_), tae.ctFrom := at_, tae.ctFrac := 0, tae.ctRate := s.lnb.rho,
                     tae.ctSlew := [], lnb.m := m, lnb.arb := none, lnb.arbSkip := none, crt.align := false, lnb.offs := 0,
                     lane.commitDue := none }

/-! ### The health word (R47) -/

/-- GLB.STATE codes (R607). -/
def stCode : LaneState → Nat
  | .off => 0 | .reset => 1 | .clock => 2 | .test => 3 | .load => 4 | .integrate => 5 | .prove => 6 | .run => 7
  | .stop => 8 | .hold => 9 | .safe => 10

/-- ROLE codes. -/
def roleCode : Role → Nat
  | .holding => 0 | .standby => 1 | .shadow => 2 | .excluded => 3

/-- BSTATE codes (R365). -/
def bstateCode : BState → Nat
  | .config => 0 | .listen => 1 | .swarm => 2 | .lead => 3 | .follow => 4 | .integrating => 5 | .active => 6
  | .passive => 7 | .wait => 8

/-- A holding lane: INAGR, OUTCMP, MIRR and REFR read 1 in it. -/
def State.holds (s : State) : Bool := decide (s.lane.st = .run) && decide (s.lane.role = .holding)

/-- A logic BIST is in progress (R47, R563): the test of LGE, GRD or the I/O group, not a memory test that follows it nor the
loopback of the lane-bus receiver (R567). -/
def State.logicBist (s : State) : Bool :=
  match s.crt.test with
  | some t => (decide (t.unit = .lge) || decide (t.unit = .grd) || decide (t.unit = .io)) && !t.second
  | none => false

/-- The lane's health word as a number. -/
def State.healthNat (s : State) : Nat :=
  let b (k : Nat) (x : Bool) : Nat := bitNat x * 2 ^ k
  stCode s.lane.st + 16 * roleCode s.lane.role + b 6 s.tae.timev + b 7 s.angv + b 8 (s.holds || s.lane.inagr) +
  b 9 (s.holds || s.lane.outcmp) + b 10 (s.holds || s.lane.mirr) + b 11 (s.holds || decide (s.lane.refr = BitVec.allOnes 64)) +
  b 12 (decide (s.grd.gmode = .checking)) +
  ((List.range 3).map fun i => b (13 + i) (s.votingNodes.contains (s.setBase + i))).foldl (· + ·) 0 +
  b 16 s.logicBist + 131072 * satTo 127 s.liveTrans.length + 16777216 * s.secver + 4294967296 * s.imgdLow

/-- The health word as two payload words. -/
def State.healthWords (s : State) : List Word :=
  [BitVec.ofNat 32 s.healthNat, BitVec.ofNat 32 (s.healthNat / 4294967296)]

/-! ### Sending -/

/-- A frame header (R335). -/
def frameHdr (fid node cyc len : Nat) (null sync swarm mirror : Bool) : Word :=
  BitVec.ofNat 32 (fid * 4194304 + node * 524288 + cyc * 8192 + len * 64 + 32 * bitNat null + 16 * bitNat sync +
    8 * bitNat swarm + 4 * bitNat mirror)

/-- The CRC-32 of a frame (R336). -/
def frameCrc (hdr : Word) (payload : List Word) : Word := crc32 ((hdr :: payload).flatMap fun w => leBytes 4 w.toNat)

/-- A frame goes out on X and Y. -/
def State.txFrame (s : State) (fid : Nat) (null sync swarm mirror : Bool) (payload : List Word) : State :=
  let cyc := if swarm then 0 else s.cyc
  let h := frameHdr fid s.node cyc payload.length null sync swarm mirror
  s.send (.lane fid h payload (frameCrc h payload))

end Sys2Proof.Machine
end

