-- ==== Sys2Proof/Machine/LaneBus.lean ====
section
/-! DEFINITION. Reception on the lane bus (the chapter "Lane Bus: Frames and Schedule"): the judging of copies, the decision
over X and Y, the frames of each use, and the start transitions that a frame brings (R370 to R373, R379). -/

namespace Sys2Proof.Machine

/-! ### Header fields (R335) -/

def hFid (h : Word) : Nat := bits h.toNat 22 10
def hNode (h : Word) : Nat := bits h.toNat 19 3
def hCyc (h : Word) : Nat := bits h.toNat 13 6
def hLen (h : Word) : Nat := bits h.toNat 6 7
def hNull (h : Word) : Bool := bit h.toNat 5
def hSync (h : Word) : Bool := bit h.toNat 4
def hSwarm (h : Word) : Bool := bit h.toNat 3
def hMirror (h : Word) : Bool := bit h.toNat 2

/-- The flags that a use permits (R339, R367, R371). -/
def flagsOk (use : Nat) (arb : Bool) (h : Word) : Bool :=
  decide (bits h.toNat 0 2 = 0) &&
  (match use with
   | 0 => !hSwarm h && !hMirror h && !(hNull h && hSync h)
   | 1 | 4 => !hSync h && !hSwarm h && !hMirror h && !(arb && hNull h)
   | 5 => !hSync h && !hSwarm h && !hNull h
   | 7 => !hSync h && hSwarm h && !hNull h && !hMirror h && decide (hLen h = 0) && decide (hCyc h = 0)
   | _ => !hSync h && !hSwarm h && !hNull h && !hMirror h)

/-- The length condition (R346, condition 6). -/
def lenOk (st : Station) (use : Nat) (h : Word) : Bool :=
  decide (hLen h ≤ fidMax st (hFid h)) && (!hNull h || decide (hLen h = if use = 0 then 2 else 0)) &&
  (!hSync h || decide (6 ≤ hLen h))

/-- The sync record (R368): m, WALLV, WOFF. -/
def syncM (c : Copy) : Nat :=
  let o := c.payload.length - 4
  (c.payload.getD o 0).toNat + 4294967296 * bits (c.payload.getD (o + 1) 0).toNat 0 16
def syncWallv (c : Copy) : Bool := bit (c.payload.getD (c.payload.length - 3) 0).toNat 31
def syncWoff (c : Copy) : Int :=
  let o := c.payload.length - 2
  sext48 (((c.payload.getD o 0).toNat + 4294967296 * bits (c.payload.getD (o + 1) 0).toNat 0 16 : Nat) : Int)

/-! ### Judging a copy (R346, R347) -/

/-- What a receiver makes of a copy. -/
inductive Verdict where
  | valid
  | boundary | codev | crcf | hdrf
  /-- All but the m of the sync record is right (R379). -/
  | wrongM
  deriving DecidableEq, Repr

/-- Conditions 4 to 7 at a place of the schedule; in a state without time only 6, 7 and the FID's owner (R370). A SYNC frame
whose CYC differs from m mod CCL fails in every state; one whose m is not the receiver's fails in a state that has time (R368). -/
def State.hdrVerdict (s : State) (use : Nat) (arb : Bool) (place : Option Nat) (c : Copy) : Verdict :=
  let st := s.station
  let h := c.hdr
  let base := fidEn st (hFid h) && decide (fidUse st (hFid h) = use) && decide (hNode h = fidOwner st (hFid h)) &&
    lenOk st use h && flagsOk use arb h && (!hSync h || s.syncSender (hNode h))
  if !base || (hSync h && decide (syncM c % max 1 s.ccl ≠ hCyc h)) then .hdrf
  else if !s.busTime then .valid
  else if place ≠ some (hFid h) then .hdrf
  else if hSync h && decide (syncM c ≠ s.lnb.m) then .wrongM
  else if hCyc h = s.cyc then .valid
  else .hdrf

/-- The start of the round that runs in an arbitrating window, after its slot start (R343, R344). -/
def State.roundStart (s : State) (w : Nat) : Nat :=
  match s.lnb.arb with
  | some (k, m, r) => if k = w ∧ m = s.lnb.m then r else 0
  | none => 0

/-- The start of a transmission at a place of the schedule in cluster time: the slot start, or the mini-slot of the rank. -/
def State.placeStart (s : State) (w rank : Nat) : Nat :=
  s.slotStart w + if winArb s.station w then s.roundStart w + rank * winMsl s.station w else 0

/-- The expected start of a frame at a place of the schedule, in cluster time (R346, condition 1). -/
def State.expectedStart (s : State) (w rank : Nat) : Nat :=
  s.placeStart w rank + 160 +
  s.dly (match placeFid s.station w rank with | some f => fidOwner s.station f | none => winOwner s.station w)

/-- The observed start of a copy minus the expected one, in ns of the receiver's cluster time (R346, R381). -/
def State.devOf (s : State) (exp : Nat) (c : Copy) : Int := (s.ctAt c.start : Int) - exp

/-- The verdict on a copy, by the first condition that fails; `exp` is the expected start. -/
def State.verdict (s : State) (use : Nat) (arb : Bool) (place : Option Nat) (exp : Nat) (c : Copy) : Verdict :=
  if s.busTime && decide (40 < (s.devOf exp c).natAbs) then .boundary
  else if !c.codeOk || decide (c.payload.length ≠ hLen c.hdr) then .codev
  else if c.crc ≠ frameCrc c.hdr c.payload then .crcf
  else s.hdrVerdict use arb place c

/-- The window in which cluster time `t` lies, in the current basic cycle. -/
def State.windowAt (s : State) (t : Nat) : Option Nat :=
  (windows s.station).find? fun w =>
    winPresent s.station s.ccl w s.lnb.m && decide (s.slotStart w ≤ t) && decide (t < s.slotStart w + winLen s.station w)

/-- A start of frame outside its acceptance that stands in no window is no frame at all (R347). -/
def State.seen (s : State) (exp : Nat) (c : Option Copy) : Option Copy :=
  c.filter fun c => !s.busTime || decide ((s.devOf exp c).natAbs ≤ 40) || (s.windowAt (s.ctAt c.start)).isSome

/-- The owner of the exclusive window in which a start of frame is seen. -/
def State.seenOwner (s : State) (c : Copy) : Option Nat :=
  match s.windowAt (s.ctAt c.start) with
  | some w => if winArb s.station w then none else some (winOwner s.station w)
  | none => none

/-- A failure is counted in the channel's counters and shown (R347, R359, R360); a boundary violation is `owner`'s, of the
exclusive window in which it is seen. -/
def State.countVerdict (s : State) (y : Bool) (owner : Option Nat) (v : Verdict) : State :=
  let fail (k : Nat) : State :=
    (if y then { s with lnb.failY := satInc 65535 s.lnb.failY } else { s with lnb.failX := satInc 65535 s.lnb.failX } : State).evtLnb k
  match v with
  | .valid => s
  | .boundary =>
    let s1 : State :=
      if y then { s with lnb.bndY := satInc 65535 s.lnb.bndY } else { s with lnb.bndX := satInc 65535 s.lnb.bndX }
    let s2 := s1.evtLnb 0
    (match owner with
     | some n => s2.updNode n fun v => { v with bndNow := true }
     | none => s2)
  | .codev => fail 1
  | .crcf => fail 2
  | .hdrf => fail 3
  | .wrongM => fail 3

/-- A reception as decided: the copy taken, its frame start on the lane's clock, its deviation (R381), and the channel that
was missing. -/
structure Accepted where
  copy : Copy
  start : Nat
  dev : Int
  missing : Option Bool
  deriving DecidableEq, Repr

/-- The mean of two deviations, rounded towards zero (R381). -/
def meanDev (a b : Int) : Int := Int.tdiv (a + b) 2

/-- The copy of a channel that is valid. -/
def validCopy (c : Option (Copy × Verdict)) : Option Copy :=
  match c with | some (c, .valid) => some c | _ => none

/-- The decision over X and Y (R349, R350). -/
def State.xyDecide (s : State) (exp : Nat) (x y : Option (Copy × Verdict)) : State × Option Accepted :=
  let single (c : Copy) (missing : Bool) : State × Option Accepted :=
    let n := hNode c.hdr
    if s.sclim ≤ (s.nodeView n).scCount then
      (s.updNode n fun v => { v with scRejected := true, missingY := missing }, none)
    else (s, some { copy := c, start := c.start, dev := s.devOf exp c, missing := some missing })
  match validCopy x, validCopy y with
  | some a, some b =>
    if a.hdr = b.hdr ∧ a.payload = b.payload ∧ a.crc = b.crc then
      (s, some { copy := a, start := (a.start + b.start) / 2, dev := meanDev (s.devOf exp a) (s.devOf exp b), missing := none })
    else
      ((({ s with lnb.cmpf := satInc 65535 s.lnb.cmpf } : State).evtLnb 4).record 3 0x0900 0x0901
        (hNode a.hdr :: le 2 (hFid a.hdr)), none)
  | some a, none => single a true
  | none, some b => single b false
  | none, none => (s, none)

/-! ### Entries that end the node's listening (R370, R373, R379) -/

/-- The listen timeout starts again. -/
def State.listenAgain (s : State) : State :=
  if s.lnb.bstate = .listen then { s with lnb.listenAt := s.pins.now } else s

/-- A node in LEAD abandons its attempt (R373). -/
def State.leadAbandon (s : State) : State := s.enterListen s.listenShort s.pins.now

/-- A carrier without a valid copy on either channel: in LISTEN the timeout restarts (R370); with time, the rest of the
arbitrating window in which it stands is skipped (R344). -/
def State.carrierLost (s : State) (w : Option Nat) : State :=
  if s.lnb.bstate = .listen then s.listenAgain
  else
    match w with
    | some k => if s.busTime && winArb s.station k then ({ s with lnb.arbSkip := some k } : State).evtLnb 8 else s
    | none => s

/-- The round of an arbitrating window that a transmission of `len` words from a place of it ends (R344). -/
def State.roundEnd (s : State) (w rank len : Nat) : State :=
  { s with lnb.arb := some (w, s.lnb.m, (s.placeStart w rank - s.slotStart w + txDur len + 200 + 9) / 10 * 10) }

/-- The node listens and reads the bus. -/
def State.rxLive (s : State) : Bool := decide (s.lnb.bstate ≠ .config) && s.blockLive 9 && s.img.isSome

/-- The node's record of an accepted frame (R350, R358, R378, R381). -/
def State.rxNote (s : State) (a : Accepted) : State :=
  let n := hNode a.copy.hdr
  let sy := hSync a.copy.hdr
  let s1 := s.updNode n fun v =>
    { v with rxNow := true, syncNow := v.syncNow || sy,
             single := v.single || a.missing.isSome, double := v.double || a.missing.isNone,
             missingY := a.missing.getD v.missingY }
  { s1 with lnb.att := if n = s.node then s1.lnb.att else 0, lnb.ownSyncNow := s1.lnb.ownSyncNow || (sy && decide (n = s.node)),
            lnb.devs := if sy && s.busTime && decide (n ≠ s.node) then s1.lnb.devs ++ [a.dev] else s1.lnb.devs }

/-- A SYNC frame accepted in LISTEN or WAIT (R373, R379): the node places basic cycle m so that the frame's start meets its
expected start in the sender's status window of that cycle, and enters INTEGRATING or FOLLOW as the health word's TIMEV says. -/
def State.syncTake (s : State) (a : Accepted) : State :=
  let n := hNode a.copy.hdr
  let m := syncM a.copy
  match s.statusWindow n m with
  | none => s
  | some w =>
    let ct : Int := ((m * s.basicNs + winStart s.station w + 160 + s.dly n : Nat) : Int)
    let s1 :=
      if hTimev (a.copy.payload.getD 0 0).toNat then s.adoptTime .integrating ct a.start m
      else { s.adoptTime .follow ct a.start m with lnb.leader := n }
    s1.updNode n fun v => { v with rxNow := true, syncNow := true, syncAt := some m }

/-- The end of frame of a copy on the lane's clock (R334). -/
def copyEnd (c : Copy) : Nat := c.start + 400 + 160 * c.payload.length

/-- The later end of frame of the copies (R349). -/
def frameEnd (f : RxFrame) : Nat := max (f.x.elim 0 copyEnd) (f.y.elim 0 copyEnd)

/-- The reception of a frame of a use at a place of the schedule: judged, decided, noted, and its content taken by `k` in a
state that follows the schedule. -/
def State.receive (s : State) (use : Nat) (f : RxFrame) (k : State → Accepted → State) : State :=
  let st := s.station
  let w := f.win.val
  let place := placeFid st w f.rank.val
  let arb := winArb st w
  let here := match place with | some p => decide (fidUse st p = use) | none => false
  if !s.rxLive || decide (s.lnb.arbSkip = some w && s.busTime) then s
  else if s.busTime && !(here && winPresent st s.ccl w s.lnb.m) then s
  else
    let s0 := s.advance (frameEnd f)
    let exp := s0.expectedStart w f.rank.val
    let x := (s0.seen exp f.x).map fun c => (c, s0.verdict use arb place exp c)
    let y := (s0.seen exp f.y).map fun c => (c, s0.verdict use arb place exp c)
    let s1 := match x with | some v => s0.countVerdict false (s0.seenOwner v.1) v.2 | none => s0
    let s2 := match y with | some v => s1.countVerdict true (s0.seenOwner v.1) v.2 | none => s1
    let bnd := (x.map Prod.snd = some .boundary) || (y.map Prod.snd = some .boundary)
    let wrong := (x.map Prod.snd = some .wrongM) || (y.map Prod.snd = some .wrongM)
    let good := (validCopy x).orElse fun _ => validCopy y
    let s3 := match good with
      | some c => if s2.busTime && arb then s2.roundEnd w f.rank.val (hLen c.hdr) else s2
      | none => s2
    let d := s3.xyDecide exp x y
    match d.2 with
    | some a =>
      let s4 := d.1.rxNote a
      if d.1.busTime then (if s.lnb.bstate = .lead && bnd then s4.leadAbandon else k s4 a)
      else if hSync a.copy.hdr then
        (if s.lnb.bstate = .listen ∨ s.lnb.bstate = .wait then k (s4.syncTake a) a else s4)
      else s4.listenAgain
    | none =>
      if s.lnb.bstate = .lead && bnd then d.1.leadAbandon
      else if s.lnb.bstate = .integrating && wrong then d.1.enterListen d.1.listenR370 d.1.pins.now
      else if good.isNone && (x.isSome || y.isSome || f.carrierX || f.carrierY) then
        (if bnd then d.1 else d.1.carrierLost (some w))
      else d.1

/-! ### Status frames (R47, R351) -/

/-- The logic cycle of the first T0 at least two basic cycles after a frame at cluster time `t` (R56, R225, R259). -/
def State.applyCycle (s : State) (t : Nat) : Nat := (t + 2 * s.basicNs + s.logicNs - 1) / s.logicNs

/-- The logic cycle whose T_commit is the first after cluster time `t` (R49, R497). -/
def State.commitCycle (s : State) (t : Nat) : Nat :=
  let c := s.cycC * s.basicNs
  if t < c then 0 else (t - c) / s.logicNs + 1

/-- A report of this lane by peer k (R27, R28): counted once in a logic cycle; reported by both peers it withdraws itself.
DESIGN CHOICE (entry 65): R28 does not say whether its three reports must come from one and the same peer; a cycle counts that
holds a report from either. -/
def State.reportedBy (s : State) (k : Nat) : State :=
  let s1 : State :=
    if s.lane.rep0 || s.lane.rep1 then s else { s with lane.reportCnt := s.lane.reportCnt + 1 }
  let s2 : State := if k = 0 then { s1 with lane.rep0 := true } else { s1 with lane.rep1 := true }
  if s2.lane.rep0 && s2.lane.rep1 && s2.voting then s2.withdraw .lge else s2

/-- A report of a node by this lane, or by the other peer (R26, R30): reported by both, the clock of R30 starts. -/
def State.reportNoted (s : State) (n : Nat) (own : Bool) : State :=
  s.updNode n fun v =>
    let v1 := if own then { v with ownRep := true } else { v with othRep := true }
    if v1.ownRep && v1.othRep && v1.reportedAt.isNone then { v1 with reportedAt := some s.lnb.m } else v1

/-- The set that holds as this lane knows it: true for set 1. -/
def State.holdingSet (s : State) : Bool := if s.ownSetHolds then s.sid else !s.sid

/-- The standby set is in SHADOW: this lane's role, or what the other set shows. -/
def State.shadowSet (s : State) : Bool :=
  decide (s.lane.role = .shadow) ||
  s.otherNodes.any fun n => match s.fresh n with | some h => decide (hState h = 7) && decide (hRole h = 2) | none => false

/-- A switchover entry (R49, R351, R497, R500): one that names the set that does not hold starts a switchover, one that
names the holding set aborts the pending one. -/
def State.switchEntry (s : State) (toSet : Bool) (t : Nat) (own : Bool) : State :=
  if toSet = s.holdingSet then
    match s.lane.switch with
    | some x =>
      if x.committed then s
      else
        let s1 : State := { s with lane.switch := none }
        if !x.own then s1
        else if x.program then
          ((({ s1 with upd.cmd := .aborted } : State).evtUpd 2).record 2 0x0D00 0x0D05 [bitNat s.upd.conf, 3]).cmdEnd
        else ({ s1 with lane.ctl := .aborted } : State).cmdEnd
    | none => s
  else
    match s.lane.switch with
    | some x =>
      if x.committed then s
      else { s with lane.switch := some { x with cycle := some (s.commitCycle t), own := x.own || own } }
    | none =>
      { s with lane.switch := some { toSet := toSet, cycle := some (s.commitCycle t), program := s.shadowSet,
                                     back := false, own := own, committed := false } }

/-- One entry of a status frame at cluster time `t` from node `n`: its first word and two further ones (R351). -/
def State.entryTake (s : State) (n t : Nat) (w w1 w2 : Word) : State :=
  let v := w.toNat
  match bits v 24 8 with
  | 0x01 =>
    let r := bits v 0 3
    (match s.peerIndex n with
     | some k =>
       if r = s.node then s.reportedBy k
       else if (s.peerIndex r).isSome then s.reportNoted r false
       else s
     | none => s)
  | 0x02 =>
    { s with tae.wpend := s.tae.wpend ++
        [{ value := w1.toNat + 4294967296 * bits w2.toNat 0 16, cycle := some (s.applyCycle t), node := n }] }
  | 0x03 =>
    if (s.peerIndex n).isSome then
      { s with vio.acks := s.vio.acks ++ [{ item := bits v 0 5, cycle := some (s.applyCycle t), own := false }] }
    else s
  | 0x04 =>
    { s with lmp.acks := s.lmp.acks ++ [{ item := bits v 0 3, cycle := some (s.applyCycle t), own := false }] }
  | 0x05 =>
    if s.voting && (s.peerIndex n).isSome && !s.lnb.xferFor.contains n then
      { s with lnb.xferFor := s.lnb.xferFor ++ [n] }
    else s
  | 0x06 => s.switchEntry (bit v 0) t false
  | 0x08 =>
    if s.otherNodes.contains n then
      { s with lnb.mirDig := (s.lnb.mirDig.filter fun d => decide (d.1 ≠ n)) ++ [(n, bits v 0 24, w2 ++ w1)] }
    else s
  | 0x09 =>
    if bits v 0 3 = s.node then
      { s with lnb.xferDig := (s.lnb.xferDig.filter fun d => decide (d.1 ≠ n)) ++ [(n, w2 ++ w1)] }
    else s
  | 0x0A => s.confirmHeard n
  | _ => s.evtLnb 10

/-- Words that follow the first of an entry; a reserved type names them in bits 23:16. -/
def entryMore (w : Word) : Nat :=
  match bits w.toNat 24 8 with
  | 0x02 | 0x08 | 0x09 => 2
  | 0x01 | 0x03 | 0x04 | 0x05 | 0x06 | 0x0A => 0
  | _ => bits w.toNat 16 8

/-- The entries of a status frame in order; `skip` words belong to the entry before. -/
def State.entriesTake (s : State) (n t : Nat) : Nat → List Word → State
  | _, [] => s
  | skip + 1, _ :: l => s.entriesTake n t skip l
  | 0, w :: l => (s.entryTake n t w (l.getD 0 0) (l.getD 1 0)).entriesTake n t (entryMore w) l

/-- A peer that shows INTEGRATE or PROVE has come there from STOP or HOLD and not through a restart: its word before stands in
the last basic cycle and shows STOP or HOLD, or it had come there so before (R479; DEDUCED, entry 66). -/
def State.resumes (s : State) (n old new : Nat) : Bool :=
  (decide (hState new = 5) || decide (hState new = 6)) && (s.fresh n).isSome &&
  (decide (hState old = 8) || decide (hState old = 9) || (s.nodeView n).resumed)

/-- Consent is restored to a peer that restarts or is admitted again (R30). -/
def State.consentRestore (s : State) (n k : Nat) (old new : Nat) : State :=
  let st := hState new
  if (1 ≤ st ∧ st ≤ 6 ∧ s.resumes n old new = false) ∨ (hVoting new = true ∧ hState old = 7 ∧ hRole old = 3) then
    (if k = 0 then { s with lane.withdrawn0 := false } else { s with lane.withdrawn1 := false })
  else s

/-- A health word is taken (R30, R47). The clock of R30's first condition stops once the peer shows the role EXCLUDED. -/
def State.healthTake (s : State) (n : Nat) (h : Nat) : State :=
  let old := match (s.nodeView n).health with | some (x, _) => x.toNat | none => 0
  let s1 := match s.peerIndex n with | some k => s.consentRestore n k old h | none => s
  s1.updNode n fun v =>
    { v with health := some (BitVec.ofNat 64 h, s.lnb.m), resumed := s.resumes n old h,
             reportedAt := if hState h = 7 ∧ hRole h = 3 then none else v.reportedAt }

/-- The content of an accepted status frame. -/
def State.statusTake (s : State) (w : Nat) (a : Accepted) : State :=
  let c := a.copy
  let n := hNode c.hdr
  if n = s.node then s
  else
    let h := (c.payload.getD 0 0).toNat + 4294967296 * (c.payload.getD 1 0).toNat
    let s1 := s.healthTake n h
    let s2 := if hSync c.hdr then s1.updNode n fun v => { v with wallv := syncWallv c, woff := syncWoff c } else s1
    if hNull c.hdr then s2
    else
      let body := (c.payload.take (c.payload.length - if hSync c.hdr then 4 else 0)).drop 2
      s2.entriesTake n (s.slotStart w) 0 body

/-- STATUS_FRAME (R349, R351, R379). -/
def execStatusFrame (f : RxFrame) (s : State) : Host.Outcome State Fault Refusal :=
  .next (s.receive 0 f fun t a => t.statusTake f.win.val a)

/-! ### Images (R352) -/

/-- Where a FID stands among its sender's FIDs of the use that this logic cycle carries. -/
def State.fidIndex (s : State) (owner use f : Nat) : Nat := (s.useFids s.cycleM0 owner use).findIdx fun x => x = f

/-- INPUT_FRAME: the words of a node's input image, frame by frame. -/
def State.inputTake (s : State) (a : Accepted) : State :=
  let n := hNode a.copy.hdr
  if hNull a.copy.hdr then s
  else
    let i := s.fidIndex n 1 (hFid a.copy.hdr)
    s.updNode n fun v =>
      if i = v.inNext ∧ (v.inValid = true ∨ i = 0) then
        { v with inWords := v.inWords ++ a.copy.payload, inNext := i + 1, inValid := true }
      else { v with inValid := false }
def execInputFrame (f : RxFrame) (s : State) : Host.Outcome State Fault Refusal :=
  .next (s.receive 1 f fun t a => { t.inputTake a with lnb.rxInAt := t.pins.now })

/-- OUTPUT_FRAME: the output digest and image of a node. -/
def State.outputTake (s : State) (a : Accepted) : State :=
  let n := hNode a.copy.hdr
  if hNull a.copy.hdr then s
  else
    let i := s.fidIndex n 4 (hFid a.copy.hdr)
    s.updNode n fun v =>
      if i = v.outNext ∧ (v.outValid = true ∨ i = 0) then
        { v with outWords := v.outWords ++ a.copy.payload, outNext := i + 1, outValid := true }
      else { v with outValid := false }
def execOutputFrame (f : RxFrame) (s : State) : Host.Outcome State Fault Refusal :=
  .next (s.receive 4 f fun t a => t.outputTake a)

/-! ### Fetching (R78, R353) -/

/-- The bytes of a telegram from VER to the end of its payload (R401), which a fetch reply carries (entry 28). -/
def telegramBody (ident peer : Nat) (rx : Bool) (t : Telegram) : List Byte :=
  [1#8, BitVec.ofNat 8 t.ttype] ++ beBytes 2 t.payload.length ++ beBytes 4 (if rx then peer else ident) ++
  beBytes 4 (if rx then ident else peer) ++ beBytes 4 t.conn ++ beBytes 4 t.seq ++ beBytes 4 t.tsend ++
  beBytes 4 t.techo ++ t.payload

/-- Bytes as words, least significant byte first, the last one filled with zeros. -/
def bytesToWords : Nat → List Byte → List Word
  | 0, _ => []
  | n + 1, l => BitVec.ofNat 32 (leNat (l.take 4)) :: bytesToWords n (l.drop 4)
def wordsToBytes (l : List Word) : List Byte := l.flatMap fun w => leBytes 4 w.toNat

/-- The parts of a reply: each of at most `room` bytes. -/
def replyParts (conn seq : Nat) (code : W64) (total room off : Nat) : Nat → List Byte → List (List Word)
  | 0, _ => []
  | n + 1, l =>
    if l = [] then []
    else
      ([BitVec.ofNat 32 conn, BitVec.ofNat 32 seq, code.setWidth 32, code.extractLsb' 32 32,
        BitVec.ofNat 32 (total * 65536 + off)] ++ bytesToWords (((l.take room).length + 3) / 4) (l.take room)) ::
      replyParts conn seq code total room (off + room) n (l.drop room)

/-- The connection index of a connection number. -/
def connOf (st : Station) (num : Nat) : Option Nat := (connList st).find? fun c => decide (connWord st c 0 = num)

/-- The telegrams whose payload the lane holds: captured in this cycle, or accepted and waiting for a capture (R353, R641). -/
def State.holdsTelegrams (s : State) : List Telegram := (s.fld.captured ++ s.fld.held).map HeldTelegram.tg

/-- A holder's replies to a fetch request, in its fetch-reply FID. -/
def State.fetchAnswer (s : State) : List Word → State
  | c :: q :: l =>
    let st := s.station
    let s1 :=
      match s.holdsTelegrams.find? fun t => decide (t.conn = c.toNat) && decide (t.seq = q.toNat),
            (fidsOf st s.node 3).head?, connOf st c.toNat with
      | some t, some fid, some i =>
        let body := telegramBody (stCfg st 0x0A0004 0) (connWord st i 1) true t
        let room := 4 * (fidMax st fid - 5)
        { s with lnb.pendTx := s.lnb.pendTx ++
            (replyParts t.conn t.seq t.code body.length room 0 300 body).map fun p =>
              ({ fid := fid, payload := p, mirror := false, at_ := s.pins.now } : PendFrame) }
      | _, _, _ => s
    s1.fetchAnswer l
  | _ => s

/-- FETCH_REQUEST: a voting lane that holds one of the payloads prepares a reply. -/
def execFetchRequest (f : RxFrame) (s : State) : Host.Outcome State Fault Refusal :=
  .next (s.receive 2 f fun t a =>
    if t.voting && decide (hNode a.copy.hdr ≠ t.node) then t.fetchAnswer a.copy.payload else t)

/-- A telegram read from the bytes of a reply. -/
def telegramRead (code : W64) (b : List Byte) : Telegram :=
  { conn := beNat (slice 12 4 b), ttype := beNat (slice 1 1 b), seq := beNat (slice 16 4 b), tsend := beNat (slice 20 4 b),
    techo := beNat (slice 24 4 b), payload := b.drop 28, code := code }

/-- The bytes of a telegram match a digest: the safety code computed over them under the connection's key (R78, R402). -/
def State.codeMatches (s : State) (conn : Nat) (code : W64) (b : List Byte) : Bool :=
  match connOf s.station conn with
  | some i => decide (Config.cmac (tabGet 0#128 i s.fld.keys) b = code)
  | none => false

/-- A reply is taken: parts in order are joined, and a whole one that matches an agreed digest is kept. A holder drops its
own reply to the same request once a lane of lower rank has answered. -/
def State.fetchTake (s : State) (a : Accepted) : State :=
  let p := a.copy.payload
  let conn := (p.getD 0 0).toNat
  let seq := (p.getD 1 0).toNat
  let code : W64 := p.getD 3 0 ++ p.getD 2 0
  let total := bits (p.getD 4 0).toNat 16 16
  let off := bits (p.getD 4 0).toNat 0 16
  let bytes := (wordsToBytes (p.drop 5)).take (total - off)
  let s1 : State :=
    if hNode a.copy.hdr < s.node then
      { s with lnb.pendTx := s.lnb.pendTx.filter fun e =>
          !(decide (fidUse s.station e.fid = 3) && decide (e.payload.getD 0 0 = p.getD 0 0) &&
            decide (e.payload.getD 1 0 = p.getD 1 0)) }
    else s
  if s1.lackingNow.contains { conn := conn, seq := seq, code := code } then
    let old := match s1.lnb.fetchPart.find? fun e => decide (e.1 = conn) && decide (e.2.1 = seq) with
      | some e => e.2.2 | none => []
    let rest := s1.lnb.fetchPart.filter fun e => !(decide (e.1 = conn) && decide (e.2.1 = seq))
    if old.length ≠ off then s1
    else if (old ++ bytes).length < total then { s1 with lnb.fetchPart := rest ++ [(conn, seq, old ++ bytes)] }
    else
      let t := telegramRead code (old ++ bytes)
      if t.conn = conn ∧ t.seq = seq ∧ s.codeMatches conn code (old ++ bytes) = true then
        { s1 with lnb.fetchPart := rest, lnb.fetched := s1.lnb.fetched ++ [t] }
      else { s1 with lnb.fetchPart := rest }
  else s1

/-- FETCH_REPLY (R78, R353). -/
def execFetchReply (f : RxFrame) (s : State) : Host.Outcome State Fault Refusal :=
  .next (s.receive 3 f fun t a => if hNode a.copy.hdr = t.node then t else t.fetchTake a)

/-! ### Mirror stream and state transfer (R31, R44, R354) -/

/-- MIRROR_FRAME: the stream of this logic cycle from one sender, as a standby or shadow lane collects it. -/
def execMirrorFrame (f : RxFrame) (s : State) : Host.Outcome State Fault Refusal :=
  .next (s.receive 5 f fun t a =>
    let n := hNode a.copy.hdr
    if t.otherNodes.contains n then
      let c := t.cycleNow
      { t with lnb.mirRx := if t.lnb.mirCyc = c ∧ t.lnb.mirFrom = n then t.lnb.mirRx ++ a.copy.payload else a.copy.payload,
               lnb.mirCyc := c, lnb.mirFrom := n }
    else t)

/-- STATE_TRANSFER_FRAME: the content that an EXCLUDED lane asked for. -/
def execStateTransferFrame (f : RxFrame) (s : State) : Host.Outcome State Fault Refusal :=
  .next (s.receive 6 f fun t a =>
    if t.lane.reintReq && (t.peerIndex (hNode a.copy.hdr)).isSome then
      { t with lnb.xferRx := t.lnb.xferRx ++ a.copy.payload }
    else t)

/-! ### Cold-start frames (R371 to R373) -/

/-- The verdict on a copy of a cold-start frame: conditions 2, 3, 6 and 7 of R346 and the FID's owner (R370, R371). -/
def State.coldVerdict (s : State) (c : Copy) : Verdict :=
  let st := s.station
  if !c.codeOk || decide (c.payload.length ≠ hLen c.hdr) then .codev
  else if c.crc ≠ frameCrc c.hdr c.payload then .crcf
  else if fidEn st (hFid c.hdr) && decide (fidUse st (hFid c.hdr) = 7) && decide (hNode c.hdr = fidOwner st (hFid c.hdr)) &&
      lenOk st 7 c.hdr && flagsOk 7 true c.hdr then .valid
  else .hdrf

/-- A clean cold-start frame: valid on at least one channel under the conditions of R370. -/
def State.coldValid (s : State) (c : Copy) : Bool := decide (s.coldVerdict c = .valid)

/-- The copy that a receiver takes of a cold-start frame: X before Y. -/
def State.coldCopy (s : State) (f : RxFrame) : Option Copy :=
  match f.x, f.y with
  | some x, some y => if s.coldValid x then some x else if s.coldValid y then some y else none
  | some x, none => if s.coldValid x then some x else none
  | none, some y => if s.coldValid y then some y else none
  | none, none => none

/-- A copy that fails is counted in its channel's counters (R347). -/
def State.coldCount (s : State) (y : Bool) : Option Copy → State
  | some c => s.countVerdict y none (s.coldVerdict c)
  | none => s

/-- A copy of a cold-start frame that a node with time sees: it starts inside a window and outside its acceptance, a boundary
violation (R347), or outside every window, where it is no frame. -/
def State.coldBoundary (s : State) (y : Bool) : Option Copy → State
  | some c =>
    (match s.windowAt (s.ctAt c.start) with
     | some _ => s.countVerdict y (s.seenOwner c) .boundary
     | none => s)
  | none => s

/-- The copies of a frame start inside some window of the schedule. -/
def State.inWindow (s : State) (f : RxFrame) : Bool :=
  let at_ (c : Option Copy) : Bool := match c with | some c => (s.windowAt (s.ctAt c.start)).isSome | none => false
  at_ f.x || at_ f.y

/-- COLD_START_FRAME: a listening node follows the sender; a leader abandons its attempt. -/
def execColdStartFrame (f : RxFrame) (s0 : State) : Host.Outcome State Fault Refusal :=
  let s := s0.advance (frameEnd f)
  .next (if !s0.rxLive then s0
    else match s.lnb.bstate with
    | .listen | .wait | .swarm =>
      let s1 := (s.coldCount false f.x).coldCount true f.y
      (match s.coldCopy f with
       | none => if f.x.isSome || f.y.isSome || f.carrierX || f.carrierY then s1.listenAgain else s1
       | some c =>
         let n := hNode c.hdr
         if n = s.node then s1
         else { ({ s1 with lnb.att := 0 } : State).adoptTime .follow ((160 + s.dly n : Nat) : Int) c.start 0 with lnb.leader := n })
    | .lead =>
      let s1 := (s.coldCount false f.x).coldCount true f.y
      (match s.coldCopy f with
       | some c => if hNode c.hdr = s.node then s1 else ({ s1 with lnb.att := 0 } : State).leadAbandon
       | none => if s.inWindow f then ((s1.coldBoundary false f.x).coldBoundary true f.y).leadAbandon else s1)
    | _ => (s.coldBoundary false f.x).coldBoundary true f.y)

/-- CARRIER_INVALID (R344, R370): a carrier that ends without a valid copy on either channel; with time, in the arbitrating
window that stands now. -/
def execCarrierInvalid (s : State) : Host.Outcome State Fault Refusal :=
  .next (if s.rxLive then s.carrierLost (s.windowAt s.ct) else s)

end Sys2Proof.Machine
end

