-- ==== Sys2Proof/Machine/Send.lean ====
section
/-! DEFINITION. Transmission on the lane bus: exclusive windows and null frames (R341, R342), rounds of arbitrating windows
(R343 to R345), and the guardian's cut-off (R348). -/

namespace Sys2Proof.Machine

/-! ### What a frame carries -/

/-- The part of an image that one of the node's FIDs of a use in the logic cycle carries (R352): whole words, in ascending FID
order. -/
def framePart (st : Station) (words : List Word) (fids : List Nat) (fid : Nat) : List Word :=
  let before := (fids.takeWhile fun f => decide (f ≠ fid)).map (fidMax st)
  (words.drop (before.foldl (· + ·) 0)).take (fidMax st fid)

/-- The words of the own input image, and of the own output image with its digest (R352). -/
def State.inputWords (s : State) : List Word :=
  packCells s.station s.inp.own ++ (s.fld.captured.map fun h => digestWords h.tg.digest).flatten
def State.outputWords (s : State) : List Word :=
  [s.lge.odig.setWidth 32, s.lge.odig.extractLsb' 32 32] ++ packAll s.lge.oimg

/-- The output image stands and its check has ended; in the split the halves have agreed (R71, R193). -/
def State.outputReady (s : State) : Bool := s.lge.candidate && (s.grd.chkok || s.lge.split)

/-- The lane sends its output image: it votes, or it proves (R15, R476). -/
def State.sendsOutput (s : State) : Bool := s.voting || s.proving

/-- The frame that an own FID has pending, with the clock at which it was complete; none where nothing is due. -/
def State.framePending (s : State) (fid : Nat) : Option PendFrame :=
  let st := s.station
  let frame (l : List Word) (at_ : Nat) : Option PendFrame :=
    if l = [] then none else some { fid := fid, payload := l, mirror := false, at_ := at_ }
  if fidOwner st fid ≠ s.node ∨ fidEn st fid = false ∨ s.lane.st = .safe then none
  else match fidUse st fid with
  | 1 =>
    if s.contributes && !s.lnb.sentNow.contains fid then
      frame (framePart st s.inputWords (s.useFids s.cycleM0 s.node 1) fid) s.lnb.inReady
    else none
  | 2 =>
    if s.voting && !s.lnb.sentNow.contains fid then
      frame (((s.lackingNow.flatMap fun d => [BitVec.ofNat 32 d.conn, BitVec.ofNat 32 d.seq]) : List Word).take
        (fidMax st fid / 2 * 2)) s.lnb.rxInAt
    else none
  | 4 =>
    if s.sendsOutput && s.outputReady && !s.lnb.sentNow.contains fid then
      frame (framePart st s.outputWords (s.useFids s.cycleM0 s.node 4) fid) s.lnb.outReady
    else none
  | _ => s.lnb.pendTx.find? fun e => decide (e.fid = fid)

/-- A pending frame is ready for a start at clock `t`: it stood complete 2 µs before (R342, R343). -/
def PendFrame.ready (p : PendFrame) (t : Nat) : Bool := decide (p.at_ + 2000 ≤ t)

/-- The first of a list of pending frames with a FID is taken off. -/
def dropPending (fid : Nat) : List PendFrame → List PendFrame
  | [] => []
  | e :: t => if e.fid = fid then t else e :: dropPending fid t

/-- A frame of a FID has gone out. -/
def State.frameGone (s : State) (fid : Nat) : State :=
  match fidUse s.station fid with
  | 1 | 2 | 4 => { s with lnb.sentNow := s.lnb.sentNow ++ [fid] }
  | _ => { s with lnb.pendTx := dropPending fid s.lnb.pendTx }

/-- The lane drives the lane bus: a node in ACTIVE that is no listener, with its guardian's time right (R14, R341, R348). -/
def State.busDrives (s : State) : Bool :=
  decide (s.lnb.bstate = .active) && !s.listener && !s.lnb.guardOff && s.rxLive

/-- The output window begins before the scan and the check are done (R79). -/
def State.overrun (s : State) : State :=
  if s.voting && !s.outputReady then (s.evtTae 4).withdraw .lge else s

/-! ### Status frames -/

/-- Entries that fit into so many words, in order (R351). -/
def takeEntries : Nat → List Entry → List Entry × List Entry
  | _, [] => ([], [])
  | room, e :: t =>
    if e.length ≤ room then ((e :: (takeEntries (room - e.length) t).1), (takeEntries (room - e.length) t).2)
    else ([], e :: t)

/-- The own command that an entry distributes gets its logic cycle when the frame at cluster time `t` is sent. -/
def State.entrySent (s : State) (t : Nat) (e : Entry) : State :=
  let due (l : List PendingAck) (k : Nat) : List PendingAck :=
    l.map fun a => if a.own && a.cycle.isNone && decide (a.item = k) then { a with cycle := some (s.applyCycle t) } else a
  let w := (e.headD 0).toNat
  match bits w 24 8 with
  | 0x02 =>
    { s with tae.wpend := s.tae.wpend.map fun p =>
        if p.node = s.node ∧ p.cycle = none then { p with cycle := some (s.applyCycle t) } else p }
  | 0x03 => { s with vio.acks := due s.vio.acks (bits w 0 5) }
  | 0x04 => { s with lmp.acks := due s.lmp.acks (bits w 0 3) }
  | 0x06 => s.switchEntry (bit w 0) t true
  | _ => s

def State.entriesSent (s : State) (t : Nat) : List Entry → State
  | [] => s
  | e :: l => (s.entrySent t e).entriesSent t l

/-- The windows that list a mirror FID, and the end of the last of them in a logic cycle (R354). -/
def mirrorWindows (st : Station) : List Nat :=
  (windows st).filter fun w => winArb st w &&
    (List.range (winNrank st w)).any fun r => match placeFid st w r with
      | some f => fidEn st f && decide (fidUse st f = 5) | none => false
def State.mirrorEnd (s : State) (cycle : Nat) : Nat :=
  let st := s.station
  ((List.range s.cycL).flatMap fun i =>
    let m := cycle * s.cycL + i
    ((mirrorWindows st).filter fun w => winPresent st s.ccl w m).map fun w =>
      m * s.basicNs + winStart st w + winLen st w).foldl max 0

/-- The own mirror digest joins the entries in the first status frame after the last mirror window (R354). -/
def State.mirrorEntry (s : State) (t : Nat) : State :=
  match s.lnb.mirOwn with
  | some (c, d) =>
    if s.mirrorEnd c ≤ t then
      { s with lnb.mirOwn := none, lnb.entries := s.lnb.entries ++
          [[BitVec.ofNat 32 (0x08000000 + c % 16777216), d.setWidth 32, d.extractLsb' 32 32]] }
    else s
  | none => s

/-- The sync record (R368). -/
def State.syncRecord (s : State) : List Word :=
  let o := (s.tae.woff % 281474976710656).toNat
  [BitVec.ofNat 32 s.lnb.m, BitVec.ofNat 32 (bitNat s.tae.wallv * 2147483648 + bits s.lnb.m 32 16), BitVec.ofNat 32 o,
   BitVec.ofNat 32 (o / 4294967296)]

/-- The own status frame at cluster time `t` (R47, R342, R351, R367): null in SAFE. -/
def State.statusSend (s : State) (fid t : Nat) : State :=
  if s.lane.st = .safe then s.txFrame fid true false false false s.healthWords
  else
    let sync := s.syncNode
    let s1 := s.mirrorEntry t
    let e := takeEntries (min 14 (fidMax s.station fid - 2 - if sync then 4 else 0)) s1.lnb.entries
    (({ s1 with lnb.entries := e.2 } : State).txFrame fid false sync false false
      (s1.healthWords ++ e.1.flatten ++ if sync then s1.syncRecord else [])).entriesSent t e.1

/-- TRANSMIT_FRAME (R341, R342): at the slot start of a window that the node owns, once. In LEAD and FOLLOW only status windows serve (R375). -/
def execTransmitFrame (w : Fin 512) (s : State) : Host.Outcome State Fault Refusal :=
  let st := s.station
  let k := w.val
  let fid := winList st k % 1024
  let use := fidUse st fid
  let may := match s.lnb.bstate with
    | .active => true
    | .lead => decide (use = 0)
    | .follow => decide (use = 0) && s.lnb.folSend
    | _ => false
  .next (if may && winEn st k && !winArb st k && decide (winOwner st k = s.node) && winPresent st s.ccl k s.lnb.m &&
      !s.listener && !s.lnb.guardOff && s.rxLive && fidEn st fid && decide (s.ct ≤ s.slotStart k) &&
      decide (s.lnb.arbTx ≠ some (k, s.lnb.m, 0)) then
      let t := s.slotStart k
      let s1 : State := { s.advanceCt t with lnb.arbTx := some (k, s.lnb.m, 0) }
      if use = 0 then s1.statusSend fid t
      else
        let s2 := if use = 4 then s1.overrun else s1
        match s2.framePending fid with
        | some p =>
          if p.ready s2.pins.now then (s2.txFrame fid false false false false p.payload).frameGone fid
          else (s2.evtLnb 9).txFrame fid true false false false []
        | none =>
          let want := decide (use = 4) && s1.sendsOutput && !s1.outputReady
          (if want then s2.evtLnb 9 else s2).txFrame fid true false false false []
    else s)

/-- The lowest rank of a window whose FID has a frame of this node pending. -/
def State.roundRank (s : State) (w : Nat) : Option (Nat × PendFrame) :=
  (List.range (winNrank s.station w)).findSome? fun j =>
    match placeFid s.station w j with
    | none => none
    | some f => (s.framePending f).map fun p => (j, p)

/-- The window lists a FID of use 0x4 of this node. -/
def State.windowOutput (s : State) (w : Nat) : Bool :=
  (List.range (winNrank s.station w)).any fun j =>
    match placeFid s.station w j with
    | some f => fidEn s.station f && decide (fidUse s.station f = 4) && decide (fidOwner s.station f = s.node)
    | none => false

/-- A node may start the frame of rank j, of `len` words, in the round that runs: its mini-slot is not over, the transmission
ends in time, and the node has not sent in this round (R343). A round whose mini-slots are all over closes the window (R344). -/
def State.roundRoom (s : State) (k j len : Nat) : Bool :=
  let st := s.station
  decide (s.ct ≤ s.placeStart k j) && decide (s.roundStart k + j * winMsl st k + txDur len + 100 ≤ winLen st k - 200) &&
  decide (s.lnb.arbTx ≠ some (k, s.lnb.m, s.roundStart k))

/-- ARB_ROUND_START (R343): the round of window w that starts r after its slot start, which the frames accepted so far give
(R344); `carrier` tells that a carrier was seen before this node's mini-slot. -/
def execArbRoundStart (w : Fin 512) (r : Nat) (carrier : Bool) (s : State) : Host.Outcome State Fault Refusal :=
  let st := s.station
  let k := w.val
  .next (if winEn st k && winArb st k && winPresent st s.ccl k s.lnb.m && s.busDrives && decide (s.lnb.arbSkip ≠ some k) &&
      decide (r = s.roundStart k) then
      let s1 := s.advanceCt (s.placeStart k 0)
      let at_ := s1.clockAt (s.placeStart k 0)
      let s2 := if decide (r = 0) && s1.windowOutput k then s1.overrun else s1
      match s2.roundRank k with
      | some (j, p) =>
        if !carrier && p.ready at_ && s2.roundRoom k j p.payload.length then
          let s3 := s2.advanceCt (s2.placeStart k j)
          ((({ s3 with lnb.arbTx := some (k, s3.lnb.m, s3.roundStart k) } : State).txFrame p.fid false false false p.mirror
            p.payload).frameGone p.fid)
        else s2
      | none => s2
    else s)

/-- GUARDIAN_CUTOFF (R348): an own transmission that runs past the enabled span. -/
def execGuardianCutoff (fid : BitVec 10) (s : State) : Host.Outcome State Fault Refusal :=
  let sends := match s.lnb.bstate with | .swarm | .lead | .follow | .active => true | _ => false
  .next (if s.rxLive && sends && !s.listener && !s.lnb.guardOff && fidEn s.station fid.toNat &&
      decide (fidOwner s.station fid.toNat = s.node) then
      (({ s with lnb.gcut := satInc 65535 s.lnb.gcut } : State).evtLnb 6).record 4 0x0900 0x0904 (s.node :: le 2 fid.toNat)
    else s)

end Sys2Proof.Machine
end

