-- ==== Sys2Proof/Machine/Sync.lean ====
section
/-! DEFINITION. Cold start, integration and clock synchronisation (the chapter of that name), apart from the frames. -/

namespace Sys2Proof.Machine

/-! ### Cold start (R370 to R378) -/

/-- The node sends its one cold-start frame (R371, R372): an attempt. -/
def State.swarmSend (s : State) : State :=
  let s1 : State := { s with lnb.bstate := .swarm, lnb.att := satInc 255 s.lnb.att, lnb.listenAt := s.pins.now }
  match (fidsOf s.station s.node 7).head? with
  | some f => s1.txFrame f false false true false []
  | none => s1

/-- The node may send a cold-start frame: it is a sync node, sees no carrier, and its lane is not in SAFE, where only null frames
are sent (R37, R372). -/
def State.maySwarm (s : State) (carrierBefore : Bool) : Bool := s.syncNode && !carrierBefore && decide (s.lane.st ≠ .safe)

/-- LISTEN_TIMEOUT (R370, R372): a sync node enters SWARM, unless it sees a carrier in the 200 ns before. -/
def execListenTimeout (carrierBefore : Bool) (s : State) : Host.Outcome State Fault Refusal :=
  .next (if s.lnb.bstate = .listen && s.blockLive 9 then
      let s1 := s.advance (s.lnb.listenAt + s.lnb.listenLen)
      if s1.maySwarm carrierBefore then s1.swarmSend else s1.listenAgain
    else s)

/-- WAIT_EXPIRE (R378): one attempt every 1 s. -/
def execWaitExpire (carrierBefore : Bool) (s : State) : Host.Outcome State Fault Refusal :=
  .next (if s.lnb.bstate = .wait && s.blockLive 9 then
      let s1 := s.advance (s.lnb.listenAt + 1000000000)
      if s1.maySwarm carrierBefore then s1.swarmSend else { s1 with lnb.listenAt := s1.pins.now }
    else s)

/-- SWARM_READBACK (R372): clean, the node leads; otherwise a collision. -/
def execSwarmReadback (clean : Bool) (s : State) : Host.Outcome State Fault Refusal :=
  .next (if s.lnb.bstate = .swarm && s.blockLive 9 then
      let t := s.lnb.listenAt
      let s1 := s.advance (t + 560)
      if clean then { s1.adoptTime .lead 0 t 0 with lnb.leader := s.node }
      else
        ((({ s1 with lnb.collcnt := satInc 65535 s1.lnb.collcnt } : State).sevtLnb 0).record 2 0x0900 0x0906
          [s.node, s.lnb.att]).enterListen s.listenShort t
    else s)

/-- A sync node other than this one whose SYNC frames were accepted in this basic cycle, and how many. -/
def State.syncNodes (s : State) : List Nat :=
  (List.range 6).filter fun n => decide (n ≠ s.node) && (s.nodeView n).syncNow

/-- Sync nodes whose frames stood in this and in the last provisional cycle, this node's own included (R376, R377). -/
def State.formers (s : State) : List Nat :=
  (List.range 6).filter fun n =>
    if n = s.node then s.lnb.ownSyncNow && s.lnb.ownSyncLast else (s.nodeView n).syncNow && (s.nodeView n).syncLast

/-- What belongs to one basic cycle begins anew: no deviation, no correction, no round; what was heard of each node in the ended
cycle becomes the last one's. -/
def State.syncShift (s : State) : State :=
  ({ s with lnb.devs := [], lnb.corrNow := none, lnb.arb := none, lnb.arbTx := none, lnb.arbSkip := none,
            lnb.ownSyncLast := s.lnb.ownSyncNow, lnb.ownSyncNow := false } : State).mapNodes fun _ v =>
    { v with rxLast := v.rxNow, rxNow := false, syncLast := v.syncNow, syncNow := false, bndLast := v.bndNow, bndNow := false,
             single := false, double := false }

/-- CLUSTER_FORMED (R377): at the end of the provisional cycle, cluster time is zero, and basic cycle 0 starts. -/
def execClusterFormed (s : State) : Host.Outcome State Fault Refusal :=
  .next (if (s.lnb.bstate = .lead || s.lnb.bstate = .follow) && decide (2 ≤ s.formers.length) && s.blockLive 9 then
      let e := (s.lnb.m + 1) * s.basicNs
      let s1 := s.advanceCt e
      let s2 : State :=
        { s1 with lnb.bstate := .active, lnb.m := 0, tae.ctOff := s1.tae.ctOff.map fun o => o - e, lnb.offmax := 0, lnb.noSync := 0 }
      let s2 := if s2.tae.wallv then s2.wallStep s2.tae.woff false 2 else s2
      let s3 := (s2.mapNodes fun _ v => { v with syncAt := if v.syncNow then some 0 else none }).syncShift
      let s4 := (s3.sevtLnb 1).record 2 0x0900 0x0907 [s.node, s.lnb.leader]
      if 2 ≤ s4.lnb.precise then s4.timevRise else s4
    else s)

/-- Provisional cycles in a row without the leader's SYNC frame, the current one at its end included (R378). -/
def State.leaderMissed (s : State) : Nat := if (s.nodeView s.lnb.leader).syncNow then 0 else s.lnb.folMiss + 1

/-- ATTEMPT_FAILED (R378): no formation by the end of provisional cycle 7, or the leader's SYNC missing in 2 cycles. Where a cluster
forms at the end of the same cycle, formation takes precedence (R377). -/
def execAttemptFailed (s : State) : Host.Outcome State Fault Refusal :=
  .next (if 2 ≤ s.formers.length ∨ s.blockLive 9 = false then s
    else if s.lnb.bstate = .lead ∧ 7 ≤ s.lnb.m then
      let s1 := s.advanceCt ((s.lnb.m + 1) * s.basicNs)
      s1.enterListen s1.listenShort s1.pins.now
    else if s.lnb.bstate = .follow ∧ (7 ≤ s.lnb.m ∨ 2 ≤ s.leaderMissed) then
      let s1 := s.advanceCt ((s.lnb.m + 1) * s.basicNs)
      s1.enterListen s1.listenR370 s1.pins.now
    else s)

/-- LONE_NODE (R378): after 16 attempts the node rests; only the sixteenth is recorded. -/
def execLoneNode (s : State) : Host.Outcome State Fault Refusal :=
  .next (if s.lnb.bstate = .listen && decide (16 ≤ s.lnb.att) && s.syncNode && s.blockLive 9 then
      let s1 : State := { s with lnb.bstate := .wait, lnb.listenAt := s.pins.now }
      if s.lnb.att = 16 then (s1.sevtLnb 3).record 3 0x0900 0x0909 [s.node] else s1
    else s)

/-! ### Clock correction (R381 to R384) -/

/-- Insertion into an ascending list, and the list sorted. -/
def insertInt (x : Int) : List Int → List Int
  | [] => [x]
  | y :: t => if x ≤ y then x :: y :: t else y :: insertInt x t
def sortInts (l : List Int) : List Int := l.foldr insertInt []

/-- The offset correction of the deviations (R382): none without a value. -/
def offsetCorrection (devs : List Int) : Option Int :=
  let n := devs.length
  let k := if n ≤ 2 then 0 else 1
  let l := ((sortInts devs).drop k).take (n - 2 * k)
  match l.head?, l.getLast? with
  | some a, some b => some (Int.tdiv (a + b) 2)
  | _, _ => none

/-- Rounding of a quotient to the nearest, halves away from zero. -/
def roundAway (a b : Int) : Int := if 0 ≤ a then (2 * a + b) / (2 * b) else -((2 * (-a) + b) / (2 * b))

/-- The rate correction after c (R383). -/
def rateAfter (rho c : Int) (b : Nat) : Int := clampInt (-200000) 200000 (rho - roundAway (c * 1000000000) (2 * b))

/-- The end of the last status window of the current basic cycle. -/
def State.statusEnd (s : State) : Nat :=
  let st := s.station
  (((windows st).filter fun w => !winArb st w && decide (fidUse st (winList st w % 1024) = 0) &&
      winPresent st s.ccl w s.lnb.m).map fun w => s.lnb.m * s.basicNs + winStart st w + winLen st w).foldl max 0

/-- What rate and spread corrections have added to cluster time by now is taken into its offset, and those corrections that
have been spread whole end: cluster time is the same before and after. -/
def State.ctRebase (s : State) : State :=
  let done (e : Nat × Int) : Bool := decide (e.1 + 100000 ≤ s.pins.now)
  let x : Int := (s.tae.ctFrac : Int) + s.tae.ctRate * ((s.pins.now : Int) - s.tae.ctFrom) -
    ((s.tae.ctSlew.filter done).map fun e => e.2 * 1000000000).foldl (· + ·) 0
  { s with tae.ctOff := s.tae.ctOff.map fun o => o + x / 1000000000, tae.ctFrac := (x % 1000000000).toNat, tae.ctFrom := s.pins.now,
           tae.ctSlew := s.tae.ctSlew.filter fun e => !done e }

/-- The lane retards its cluster time by `a`, spread over the first 100 µs of the next basic cycle, and runs it at the rate
correction ρ (R383). -/
def State.ctCorrect (s : State) (a rho : Int) : State :=
  let s1 : State := { s.ctRebase with tae.ctRate := rho, lnb.rho := rho }
  { s1 with tae.ctSlew := s1.tae.ctSlew ++ [(s1.clockAt ((s1.lnb.m + 1) * s1.basicNs), a)] }

/-- CLOCK_CORRECTION (R382, R383): at the end of the last status window of the basic cycle. -/
def execClockCorrection (s : State) : Host.Outcome State Fault Refusal :=
  .next (if s.busTime && s.lnb.corrNow.isNone && s.blockLive 9 then
      let s1 := s.advanceCt s.statusEnd
      let own := s1.syncNode && (match s1.lnb.bstate with | .lead | .follow | .active => true | _ => false)
      match offsetCorrection (if own then s1.lnb.devs ++ [0] else s1.lnb.devs) with
      | none => { s1 with lnb.precise := 0, lnb.coarse := 0, lnb.goodRun := 0, lnb.folGood := 0 }
      | some c =>
        let a := clampInt (-32) 32 c
        let fine := decide (c.natAbs ≤ 3)
        let two := decide (2 ≤ s1.syncNodes.length)
        let lead := (s1.nodeView s1.lnb.leader).syncNow && decide (c.natAbs ≤ 32)
        let fg := if lead then s1.lnb.folGood + 1 else 0
        let s2 : State :=
          { s1.ctCorrect a (rateAfter s1.lnb.rho c s1.basicNs) with
            lnb.corrNow := some c, lnb.offs := c,
            lnb.offmax := if s1.lnb.bstate = .active then max s1.lnb.offmax (satTo 255 c.natAbs) else s1.lnb.offmax,
            lnb.precise := if fine then s1.lnb.precise + 1 else 0,
            lnb.coarse := if 32 < c.natAbs then s1.lnb.coarse + 1 else 0,
            lnb.goodRun := if fine && two then s1.lnb.goodRun + 1 else 0,
            lnb.folGood := fg,
            lnb.folSend := s1.lnb.folSend || (s1.lnb.bstate = .follow && s1.syncNode && decide (2 ≤ fg)) }
        if a = c then s2 else s2.sevtLnb 4
    else s)

/-- The end of the basic cycle whose correction has been computed; now, where the next cycle has begun. -/
def State.cycleEnd (s : State) : State :=
  if s.lnb.corrNow.isSome then s.advanceCt ((s.lnb.m + 1) * s.basicNs) else s

/-- TIMEV_RESTORED (R384): at the end of the second basic cycle in a row that meets the precision condition. -/
def execTimevRestored (s : State) : Host.Outcome State Fault Refusal :=
  .next (if s.lnb.bstate = .active && !s.tae.timev && decide (2 ≤ s.lnb.precise) && s.blockLive 9 then s.cycleEnd.timevRise else s)

/-! ### Integration and loss (R379, R380, R385 to R387) -/

/-- WOFF and WALLV are taken from the lowest-numbered sync node accepted in the completing cycle (R57, R380): the current one where
its correction has been computed, and else the one before. -/
def State.wallAdopt (s : State) : State :=
  let l := (List.range 6).filter fun n =>
    decide (n ≠ s.node) && (if s.lnb.corrNow.isSome then (s.nodeView n).syncNow else (s.nodeView n).syncLast)
  match l.head? with
  | some n => s.wallStep (s.nodeView n).woff (s.nodeView n).wallv 1
  | none => s

/-- INTEGRATION_CHECK_PASSED (R379, R380). -/
def execIntegrationCheckPassed (s : State) : Host.Outcome State Fault Refusal :=
  .next (if s.lnb.bstate = .integrating && decide (2 ≤ s.lnb.goodRun) && s.blockLive 9 then
      let s1 : State := { s.cycleEnd with lnb.bstate := .active, lnb.offmax := 0 }
      ((s1.wallAdopt.timevRise).sevtLnb 2).record 2 0x0900 0x0908 [s.node, 0]
    else s)

/-- PASSIVE_RETURN (R387). -/
def execPassiveReturn (s : State) : Host.Outcome State Fault Refusal :=
  .next (if s.lnb.bstate = .passive && decide (8 ≤ s.lnb.goodRun) && s.blockLive 9 then
      let s1 : State := { s.cycleEnd with lnb.bstate := .active, lnb.offmax := 0 }
      (s1.timevRise.sevtLnb 2).record 2 0x0900 0x0908 [s.node, 1]
    else s)

/-- DEMOTION (R386). -/
def execDemotion (s : State) : Host.Outcome State Fault Refusal :=
  .next (if s.lnb.bstate = .active && (decide (2 ≤ s.lnb.coarse) || decide (2 ≤ s.lnb.bndRun)) && s.blockLive 9 then
      let s1 : State :=
        { s with lnb.bstate := .passive, lnb.demcnt := satInc 65535 s.lnb.demcnt, lnb.goodRun := 0, lnb.coarse := 0,
                 lnb.bndRun := 0 }
      ((s1.sevtLnb 5).record 4 0x0900 0x090A [s.node, if 2 ≤ s.lnb.coarse then 0 else 1]).timevFall .lnbRx
    else s)

/-- SYNC_LOST (R385). -/
def execSyncLost (s : State) : Host.Outcome State Fault Refusal :=
  .next (if (match s.lnb.bstate with | .integrating | .active | .passive => true | _ => false) &&
      decide (4 ≤ s.lnb.noSync) && s.blockLive 9 then
      ((s.sevtLnb 6).record 4 0x0900 0x090B [s.node, bstateCode s.lnb.bstate]).enterListen s.listenR370 s.pins.now
    else s)

/-! ### Single-channel limit, recovered clock (R350, R388, R389) -/

/-- SINGLE_CHANNEL_LIMIT (R350): the first rejection. -/
def execSingleChannelLimit (node : Fin 8) (s : State) : Host.Outcome State Fault Refusal :=
  let v := s.nodeView node.val
  .next (if v.scRejected && !v.scDeclared && s.rxLive then
      ((s.updNode node.val fun v => { v with scDeclared := true }).evtLnb 5).record 3 0x0900 0x0902
        [node.val, bitNat v.missingY]
    else s)

/-- RECOVERED_CLOCK_ADMITTED (R389): 64 basic cycles with the rate reference have passed, and the recovery unit reports its lock
and its frequency over all of them. -/
def execRecoveredClockAdmitted (s : State) : Host.Outcome State Fault Refusal :=
  .next (match s.lnb.rref with
    | some r =>
      if s.lnb.bstate = .active && decide (r ≠ s.node) && !s.lnb.recadm && decide (64 ≤ s.lnb.recRun) &&
          s.blockLive 9 then
        (({ s with lnb.recadm := true, lnb.recRef := r, crt.rval := true } : State).sevtLnb 7).record 1 0x0900 0x090C [s.node, r]
      else s
    | none => s)

/-- A validation attempt starts. With XSEL 0b11 no amplitude is waited for (R549). -/
def State.attemptStart (s : State) : State :=
  { s with crt.attempt := true, crt.attemptAt := s.pins.now, crt.amp := decide (s.xsel = 3), crt.ampAt := s.pins.now,
           crt.winGood := 0, crt.winLast := none, crt.xval := false }

/-- The lane is without a validated clock (R555): SAFE with cause 0x05, every domain stopped, SUP halted, the time lost, and
crystal validation started. -/
def State.clockLoss (s : State) : State :=
  let s1 : State := { s with crt.rootLost := true, crt.lock := false, crt.align := false, lane.supHalted := true }
  let s2 := s1.enterSafe 5
  let s3 := if s2.lnb.bstate = .config then s2 else s2.enterListen s2.listenR370 s2.pins.now
  s3.attemptStart

/-- The admission of the recovered clock is revoked (R389). -/
def State.recRevoke (s : State) (cause : Nat) : State :=
  if s.lnb.recadm then
    (({ s with lnb.recadm := false, lnb.recRun := 0, crt.rval := false } : State).sevtLnb 8).record 3 0x0900 0x090D [s.node, cause]
  else s

/-- RECOVERED_CLOCK_REVOKED (R389): 0 lock and 1 frequency, as the recovery unit reports them over two basic cycles; 2 the rate
reference has changed, or there is none; 3 the node has left ACTIVE. A root that runs from it with no validated crystal is left
without a validated clock (R548, R555). -/
def execRecoveredClockRevoked (cause : Fin 4) (s : State) : Host.Outcome State Fault Refusal :=
  let active := decide (s.lnb.bstate = .active)
  let same := decide (s.lnb.rref = some s.lnb.recRef)
  let due := match cause.val with
    | 2 => active && !same
    | 3 => !active
    | _ => active && same
  .next (if due then
      let s1 := s.recRevoke cause.val
      if s.lnb.recadm && s.crt.rootsel && !s.crt.xval then s1.clockLoss else s1
    else s)

end Sys2Proof.Machine
end

