-- ==== Sys2Proof/Machine/Field.lean ====
section
/-! DEFINITION. The field network and the Miman safety layer (the chapter of that name). -/

namespace Sys2Proof.Machine

/-! ### Configuration (R419 to R428) -/

def fldIcmp (st : Station) : Bool := bit (stCfg st 0x0A0000 0x4000B806) 31
def fldArp (st : Station) : Bool := bit (stCfg st 0x0A0000 0x4000B806) 30
def fldMport (st : Station) : Nat := bits (stCfg st 0x0A0000 0x4000B806) 0 16
def fldIdent (st : Station) : Nat := stCfg st 0x0A0004 0

/-- Port p: control word, MAC, IPv4 address, VID, PCP, TTL, DSCP (R423). -/
def portCfg (st : Station) (p : Nat) : Nat := stCfg st (0x0A0020 + 32 * p) 0
def portEn (st : Station) (p : Nat) : Bool := bit (portCfg st p) 31
def portTag (st : Station) (p : Nat) : Bool := bit (portCfg st p) 30
def portVid (st : Station) (p : Nat) : Nat := bits (portCfg st p) 0 12
def portMac (st : Station) (p : Nat) : Nat :=
  stCfg st (0x0A0024 + 32 * p) 0 + 4294967296 * bits (stCfg st (0x0A0028 + 32 * p) 0) 0 16
def portPcp (st : Station) (p : Nat) : Nat := bits (portCfg st p) 12 3
def portTtl (st : Station) (p : Nat) : Nat := bits (stCfg st (0x0A0030 + 32 * p) 0x40) 0 8
def portDscp (st : Station) (p : Nat) : Nat := bits (stCfg st (0x0A0030 + 32 * p) 0x40) 16 6
def portIp (st : Station) (p : Nat) : Nat := stCfg st (0x0A002C + 32 * p) 0

/-- The addresses of a peer group (R427). -/
def peerGroup (st : Station) (g : Nat) : List Nat :=
  ((List.range 8).map fun k => stCfg st (0x0A_A000 + 32 * g + 4 * k) 0).filter fun a => decide (a ≠ 0)

/-- The MAC address of the first enabled ARP entry that names an address and a port (R398, R428). -/
def arpMac (st : Station) (ip port : Nat) : Option Nat :=
  ((List.range 128).find? fun e =>
    let w := stCfg st (0x0AB008 + 16 * e) 0
    bit w 31 && decide (bitNat (bit w 30) = port) && decide (stCfg st (0x0AB000 + 16 * e) 0 = ip)).map fun e =>
      stCfg st (0x0AB004 + 16 * e) 0 + 4294967296 * bits (stCfg st (0x0AB008 + 16 * e) 0) 0 16

/-- Connection c: peer, group, TXPER, SEQWIN, RXCOP, RXLEN, TXLEN, TMAX, TSUP, SAFEHOLD, AUTORE. -/
def connPeer (st : Station) (c : Nat) : Nat := connWord st c 1
def connGroup (st : Station) (c : Nat) : List Nat := peerGroup st (bits (connWord st c 2) 24 6)
def connAutore (st : Station) (c : Nat) : Bool := bit (connWord st c 2) 30
def connTxper (st : Station) (c : Nat) : Nat := max 1 (bits (connWord st c 2) 16 8)
def connSeqwin (st : Station) (c : Nat) : Nat := bits (connWord st c 2) 8 8
def connRxcop (st : Station) (c : Nat) : Nat := bits (connWord st c 2) 0 8
def connRxlen (st : Station) (c : Nat) : Nat := bits (connWord st c 3) 16 11
def connTxlen (st : Station) (c : Nat) : Nat := bits (connWord st c 3) 0 11
def connTmax (st : Station) (c : Nat) : Nat := bits (connWord st c 6) 16 16
def connTsup (st : Station) (c : Nat) : Nat := bits (connWord st c 6) 0 16
def connHold (st : Station) (c : Nat) : Nat := bits (connWord st c 7) 0 16

def State.port (s : State) (p : Nat) : PortState := tabGet port0 p s.fld.port
def State.updPort (s : State) (p : Nat) (f : PortState → PortState) : State :=
  { s with fld.port := tabUpd port0 p f s.fld.port }
def State.conn (s : State) (c : Nat) : ConnState := tabGet conn0 c s.fld.conn
def State.updConn (s : State) (c : Nat) (f : ConnState → ConnState) : State :=
  { s with fld.conn := tabUpd conn0 c f s.fld.conn }

/-- FLD works: image loaded and the block live. -/
def State.fldRuns (s : State) : Bool := s.img.isSome && s.blockLive 10

/-- A link is up at full duplex. -/
def linkUp : LinkState → Bool
  | .up10 | .up100 | .up1000 => true
  | _ => false

/-- A port works: enabled, PHY released, link up. -/
def State.portUp (s : State) (p : Nat) : Bool :=
  s.fldRuns && s.fld.phyOut && portEn s.station p && linkUp (s.port p).link

/-! ### Links and single-port reception (R397, R410) -/

/-- Link code of record 0x0A01. -/
def linkCode : LinkState → Nat
  | .up10 => 1 | .up100 => 2 | .up1000 => 3
  | _ => 0

/-- PHY_POLL (R397): 10 ms after the poll before, with what the PHY's registers resolve to. -/
def execPhyPoll (port : Fin 2) (link : LinkState) (s : State) : Host.Outcome State Fault Refusal :=
  let p := port.val
  .next (if s.fldRuns && s.fld.phyOut && portEn s.station p then
      let old := (s.port p).link
      let s0 := match (s.port p).polledAt with | some t => s.advance (t + 10000000) | none => s
      let s1 := s0.updPort p fun x => { x with link := link, polledAt := some s0.pins.now }
      let s2 := if link = .half ∧ old ≠ .half then (s1.evtFld 1).record 3 0x0A00 0x0A02 [p] else s1
      if linkCode link = linkCode old then s2 else (s2.evtFld 0).record 2 0x0A00 0x0A01 [p, linkCode link]
    else s)

/-- PORT_SINGLE (R410): no copy passed on a port for 1 s while the other port accepted at least one. -/
def execPortSingle (port : Fin 2) (s : State) : Host.Outcome State Fault Refusal :=
  let p := port.val
  let recent (t : Option Nat) : Bool := match t with | some x => decide (s.pins.now < x + 1000000000) | none => false
  .next (if s.fldRuns && portEn s.station p && !recent (s.port p).acceptedAt && recent (s.port (1 - p)).acceptedAt &&
      !recent (s.port p).singleAt then
      ((s.updPort p fun x => { x with singleAt := some s.pins.now }).evtFld 2).record 3 0x0A00 0x0A03 [p, 0]
    else s)

/-! ### Received frames (R396, R400) -/

/-- A frame dropped on a port. -/
def State.portDrop (s : State) (p : Nat) : State := s.updPort p fun x => { x with drop := satInc 65535 x.drop }

/-- The Internet checksum of a header: the sum of its 16-bit words, carries folded in. -/
def sum16 : List Byte → Nat
  | a :: b :: t => a.toNat * 256 + b.toNat + sum16 t
  | [a] => a.toNat * 256
  | [] => 0
def fold16 (n : Nat) : Nat :=
  let a := n / 65536 + n % 65536
  a / 65536 + a % 65536

/-- What steps 1 to 5 of R400 leave of a frame. -/
inductive Passed where
  | drop | arp | icmp | miman | fmp
  deriving DecidableEq, Repr

/-- Steps 1 to 5 of R400 on a frame without its FCS. An ARP message other than a request and an ICMP message other than an echo
request are not supported and fail step 3 and step 4 (R396). -/
def ethJudge (st : Station) (p fmpPort : Nat) (fmpEn fcsOk : Bool) (b : List Byte) : Passed :=
  let tag := portTag st p
  let da := beNat (slice 0 6 b)
  let tagged := decide (beNat (slice 12 2 b) = 0x8100)
  let o := if tagged then 16 else 12
  let et := beNat (slice o 2 b)
  let ip := b.drop (o + 2)
  let bc := decide (da = 0xFFFFFFFFFFFF)
  if !fcsOk || decide (b.length + 4 < 64) || decide (1518 + (if tagged then 4 else 0) < b.length + 4) then .drop
  else if !(decide (da = portMac st p) || (bc && decide (et = 0x0806))) then .drop
  else if tagged != tag || (tag && decide (beNat (slice 14 2 b) % 4096 ≠ portVid st p)) then .drop
  else if et = 0x0806 then (if beNat (slice 6 2 ip) = 1 then .arp else .drop)
  else if et ≠ 0x0800 then .drop
  else
    let total := beNat (slice 2 2 ip)
    let frag := beNat (slice 6 2 ip)
    let proto := beNat (slice 9 1 ip)
    let udp := (ip.take total).drop 20
    let ulen := beNat (slice 4 2 udp)
    let dport := beNat (slice 2 2 udp)
    let pseudo := slice 12 8 ip ++ [0, 17] ++ slice 4 2 udp
    if slice 0 1 ip ≠ [0x45#8] ∨ fold16 (sum16 (ip.take 20)) ≠ 0xFFFF ∨ total < 28 ∨ ip.length < total ∨
        frag % 16384 ≠ 0 ∨ beNat (slice 16 4 ip) ≠ portIp st p then .drop
    else if proto = 1 then (if fldIcmp st && decide (slice 0 1 udp = [0x08#8]) then .icmp else .drop)
    else if proto ≠ 17 then .drop
    else if ulen ≠ udp.length ∨ (beNat (slice 6 2 udp) ≠ 0 ∧ fold16 (sum16 (pseudo ++ udp)) ≠ 0xFFFF) then .drop
    else if dport = fmpPort ∧ fmpEn = true then .fmp
    else if dport = fldMport st then .miman
    else .drop

/-- GLB.FMPCFG (R611). -/
def fmpPort (st : Station) : Nat := bits (stCfg st 0x24 0xC000B807) 0 16
def fmpOn (st : Station) (p : Nat) : Bool := bit (stCfg st 0x24 0xC000B807) (31 - p)

/-- ETHERNET_FRAME (R400): steps 1 to 5. A frame that passes goes on as the command of its content (entry 30). -/
def execEthernetFrame (port : Fin 2) (fcsOk : Bool) (bytes : List Byte) (s : State) : Host.Outcome State Fault Refusal :=
  let p := port.val
  .next (if s.portUp p && decide (ethJudge s.station p (fmpPort s.station) (fmpOn s.station p) fcsOk bytes = .drop)
    then s.portDrop p else s)

/-- ARP_REQUEST (R396). -/
def execArpRequest (port : Fin 2) (target : Word) (s : State) : Host.Outcome State Fault Refusal :=
  .next (if s.portUp port.val && fldArp s.station && decide (target.toNat = portIp s.station port.val) then
      s.send (.arpReply port.val target)
    else s)

/-- ICMP_ECHO_REQUEST (R396): at most 10 replies per second and port. -/
def execIcmpEchoRequest (port : Fin 2) (dst : Word) (s : State) : Host.Outcome State Fault Refusal :=
  let p := port.val
  let sec := s.pins.now / 1000000000
  let n := if (s.port p).icmpSecond = sec then (s.port p).icmpCount else 0
  .next (if s.portUp p && fldIcmp s.station && decide (dst.toNat = portIp s.station p) && decide (n < 10) then
      (s.updPort p fun x => { x with icmpCount := n + 1, icmpSecond := sec }).send (.icmpReply p)
    else s)

/-! ### Miman checks (R401, R402, R407 to R409) -/

/-- Engine-state word k of a connection, as the image holds it (R406). -/
def State.connEsWord (s : State) (c k : Nat) : Nat :=
  match s.cell (connEs s.station c + k) with
  | .word v _ => v.toNat
  | _ => 0

/-- The connection state: CLOSED outside RUN (R413). 0 CLOSED, 1 CONNECTING, 2 UP, 3 SAFE. -/
def State.connSt (s : State) (c : Nat) : Nat := if s.lane.st = .run then s.connEsWord c 0 % 4 else 0

/-- A difference mod 2^32 (R408). -/
def sub32 (a b : Nat) : Nat := (a + 4294967296 - b % 4294967296) % 4294967296

/-- The lane judges received copies (R407). -/
def State.judgesCopies (s : State) : Bool :=
  decide (s.lane.st = .run) && (decide (s.lane.role = .holding) || s.lane.computing)

/-- Step 6 of R409: the connection that a telegram names. -/
def mimanConn (st : Station) (srcIp : Nat) (b : List Byte) : Option Nat :=
  let ty := beNat (slice 1 1 b)
  let len := beNat (slice 2 2 b)
  match connOf st (beNat (slice 12 4 b)) with
  | none => none
  | some c =>
    if beNat (slice 0 1 b) = 1 ∧ 1 ≤ ty ∧ ty ≤ 4 ∧ 36 + len = b.length ∧ beNat (slice 8 4 b) = fldIdent st ∧
        beNat (slice 4 4 b) = connPeer st c ∧ (connGroup st c).contains srcIp = true ∧
        len = (if ty = 3 then connRxlen st c else 0)
    then some c else none

/-- A safety-code failure (R409, R418): recorded at most once per connection per second. -/
def State.cmacFail (s : State) (p c : Nat) : State :=
  let s1 := ((s.updPort p fun x => { x with cmacf := satInc 65535 x.cmacf }).updConn c fun x =>
    { x with cmacf := satInc 255 x.cmacf }).evtFld 4
  let due := match (s.conn c).cmacRec with | some t => decide (t + 1000000000 ≤ s.pins.now) | none => true
  if due then (s1.updConn c fun x => { x with cmacRec := some s.pins.now }).record 3 0x0A00 0x0A06 (le 2 c ++ [p]) else s1

/-- A copy is accepted on a port (R409, R410). -/
def State.copyAccept (s : State) (p c : Nat) (t : Telegram) (up : Bool) : State :=
  let s1 := s.updPort p fun x => { x with rxok := satInc 65535 x.rxok, acceptedAt := some s.pins.now }
  let s2 := if up then s1.updConn c fun x => { x with highest := some t.seq } else s1
  let s3 : State := { s2 with fld.held := s2.fld.held ++ [{ tg := t, reported := false, deferred := false }] }
  if (s.port p).singleAt.isSome then
    (s3.updPort p fun x => { x with singleAt := none }).record 3 0x0A00 0x0A03 [p, 1]
  else s3

/-- Steps 8 and 9 of R409. -/
def State.mimanJudge (s : State) (p c : Nat) (b : List Byte) : State :=
  let st := s.station
  let body := b.take (b.length - 8)
  let code : W64 := BitVec.ofNat 64 (beNat (b.drop (b.length - 8)))
  let t := telegramRead code body
  let up := decide (s.connSt c = 2)
  let sl := s.connEsWord c 2
  let d := sub32 t.seq sl
  let h := match (s.conn c).highest with | some x => sub32 x sl | none => 0
  let key := tabGet 0#128 c s.fld.keys
  if up && decide (connSeqwin st c < d) then
    ((s.updConn c fun x => { x with seqErr := satInc 255 x.seqErr }).evtFld 5).portDrop p
  else if up && decide (d ≤ h) then s.portDrop p
  else if !up && (s.fld.held.any fun x => decide (x.tg.conn = t.conn) && decide (x.tg.ttype = t.ttype) &&
      decide (x.tg.seq = t.seq)) then s.portDrop p
  else if Config.cmac key body = code then s.copyAccept p c t up
  else s.cmacFail p c

/-- MIMAN_TELEGRAM (R409): steps 6 to 9 on a datagram for MPORT. -/
def execMimanTelegram (port : Fin 2) (srcIp : Word) (bytes : List Byte) (s : State) : Host.Outcome State Fault Refusal :=
  let p := port.val
  .next (if s.portUp p && s.judgesCopies then
      match mimanConn s.station srcIp.toNat bytes with
      | none => (s.portDrop p).evtFld 3
      | some c =>
        let n := (s.conn c).copies + 1
        let s1 := s.updConn c fun x => { x with copies := n }
        if connRxcop s.station c < n then (s1.portDrop p).evtFld 9 else s1.mimanJudge p c bytes
    else s)

/-! ### Capture (R72, R77, R641) -/

/-- A telegram stands before another in a capture: ascending connection index, then ascending SEQ. -/
def heldLe (st : Station) (a b : HeldTelegram) : Bool :=
  let i := (connOf st a.tg.conn).getD 1024
  let j := (connOf st b.tg.conn).getD 1024
  decide (i < j) || (decide (i = j) && decide (a.tg.seq ≤ b.tg.seq))
def insertHeld (st : Station) (x : HeldTelegram) : List HeldTelegram → List HeldTelegram
  | [] => [x]
  | y :: t => if heldLe st x y then x :: y :: t else y :: insertHeld st x t

/-- Digests that the node's input frames of this logic cycle can carry beside its cells (R641). -/
def State.digestRoom (s : State) : Nat := (s.wordRoom s.cycleM0 s.node 1 - inCellWords s.station) / 4

/-- The telegrams of a capture, deferred ones first; what does not fit waits for the next capture. -/
def State.captureTelegrams (s : State) : State :=
  let st := s.station
  let old := s.fld.held.filter HeldTelegram.deferred
  let new := (s.fld.held.filter fun h => !h.deferred).foldr (insertHeld st) []
  let l := old ++ new
  let n := s.digestRoom
  let s1 : State :=
    { s with fld.captured := l.take n, fld.held := (l.drop n).map fun h => { h with deferred := true } }
  if l.drop n = [] then s1 else s1.evtLnb 11

/-- After agreement a captured telegram that was not agreed is reported once more, and then discarded (R77). -/
def State.recapture (s : State) : State :=
  let agreed := s.agreedDigests
  { s with fld.held := s.fld.held ++ (s.fld.captured.filter fun h => !agreed.contains h.tg.digest && !h.reported).map
             fun h => { h with reported := true, deferred := false } }

/-! ### The engine at T_IA (R411 to R413) -/

/-- The engine's state of a connection while it is processed. -/
structure Engine where
  st : Nat
  seq : Nat
  sl : Nat
  echo : Nat
  f : Nat
  /-- S_L was set. -/
  took : Bool
  rsp : Bool
  disc : Bool
  data : Option (Nat × List Byte)
  deriving DecidableEq, Repr

/-- now_ms(n) (R408). -/
def State.nowMs (s : State) : Nat := s.inp.t0 / 1000000 % 4294967296

/-- A connection enters UP: event, record with S_L. -/
def State.connUp (s : State) (c sl : Nat) : State := (s.evtFld 7).record 2 0x0A00 0x0A04 (le 2 c ++ le 4 sl)
/-- A connection enters SAFE. -/
def State.connSafe (s : State) (c cause : Nat) : State := (s.evtFld 8).record 4 0x0A00 0x0A05 (le 2 c ++ [cause])

/-- A fresh telegram moves S_L, the echo and, for DATA, the cells' content. -/
def Engine.take (e : Engine) (t : Telegram) : Engine :=
  { e with sl := t.seq, echo := t.tsend, took := true, data := if t.ttype = 3 then some (t.seq, t.payload) else e.data }

/-- One agreed telegram (R411 step 2, R412, R413). A stale one is discarded, unless it is a CONNECT_REQ or DISCONNECT that the table
takes fresh or not. -/
def State.engineStep (s : State) (c : Nat) (e : Engine) (t : Telegram) : State × Engine :=
  let now := s.nowMs
  let age := sub32 now t.techo
  let fresh := decide (age ≤ connTmax s.station c)
  let e1 := if fresh then e.take t else e
  if t.ttype = 1 ∧ (e.st = 1 ∨ e.st = 2) then (s, { e1 with st := 1, rsp := true })
  else if t.ttype = 4 ∧ e.st = 2 then (s.connSafe c 1, { e1 with st := 3, f := now })
  else if fresh then
    if (t.ttype = 2 ∨ t.ttype = 3) ∧ e.st = 1 then (s.connUp c t.seq, { e1 with st := 2, f := now })
    else if t.ttype = 3 ∧ e.st = 2 then (s, { e1 with f := now })
    else (s, e1)
  else
      (((s.updConn c fun x => { x with stale := satInc 255 x.stale }).evtFld 6).record 3 0x0A00 0x0A07
        (le 2 c ++ le 4 age), e)

def State.engineSteps (s : State) (c : Nat) (e : Engine) : List Telegram → State × Engine
  | [] => (s, e)
  | t :: ts => let r := s.engineStep c e t; r.1.engineSteps c r.2 ts

/-- Supervision (R413). -/
def State.engineWatch (s : State) (c : Nat) (e : Engine) : State × Engine :=
  let now := s.nowMs
  let st := s.station
  if e.st = 2 ∧ connTsup st c < sub32 now e.f then (s.connSafe c 0, { e with st := 3, f := now, disc := true })
  else if e.st = 3 ∧ connAutore st c = true ∧ connHold st c ≤ sub32 now e.f then (s, { e with st := 1 })
  else (s, e)

/-- Agreed telegrams of a connection in ascending SEQ, in UP by SEQ − S_L (R411). -/
def insertTg (base : Nat) (x : Telegram) : List Telegram → List Telegram
  | [] => [x]
  | y :: t => if sub32 x.seq base ≤ sub32 y.seq base then x :: y :: t else y :: insertTg base x t
def agreedOf (l : List Telegram) (num base : Nat) : List Telegram :=
  (l.filter fun t => decide (t.conn = num)).foldr (insertTg base) []

/-- The engine processes one connection at T_IA (R411). -/
def State.connProcess (s : State) (c : Nat) : State :=
  let st := s.station
  let e0 : Engine :=
    { st := s.connSt c, seq := s.connEsWord c 1, sl := s.connEsWord c 2, echo := s.connEsWord c 3, f := s.connEsWord c 4, took := false,
      rsp := false, disc := false, data := none }
  let e1 := if e0.st = 0 then { e0 with st := 1, seq := 0 } else e0
  let r := s.engineSteps c e1 (agreedOf s.fld.agreed (connWord st c 0) (if e1.st = 2 then e1.sl else 0))
  let w := r.1.engineWatch c r.2
  let e := w.2
  let s1 := w.1.updConn c fun x =>
    { x with rspDue := e.rsp, discDue := e.disc, highest := if e.took then none else x.highest }
  let s2 :=
    if e.st = 2 then (match e.data with
      | some d => s1.putCells (rxCells st c (some d.2))
      | none => s1)
    else s1.putCells (rxCells st c none)
  let word (k v : Nat) : Nat × Cell := (connEs st c + k, .word (BitVec.ofNat 32 v) true)
  s2.putCells [word 0 e.st, word 1 e.seq, word 2 e.sl, word 3 e.echo, word 4 e.f]

/-- Every enabled connection in ascending order. While FLD answers ABSENT its received cells have Q = 0 (R104, R562). -/
def State.connsProcess (s : State) : List Nat → State
  | [] => s
  | c :: cs => (if s.blockLive 10 then s.connProcess c else s.putCells (rxCells s.station c none)).connsProcess cs

/-! ### Sending at T_commit (R402, R415, R416) -/

/-- The payload bytes of a connection's sent cells. -/
def sentBytes (st : Station) (c : Nat) (read : Nat → Bool) : List Byte :=
  packBits (connTxlen st c) ((List.range (connTx st c).2).map fun i => read ((connTx st c).1 + i))

/-- The checksum of a header or datagram whose own checksum field reads zero (RFC 791, RFC 768). -/
def netSum (b : List Byte) : Nat := 0xFFFF - fold16 (sum16 b)

/-- The UDP datagram of a payload, from and to MPORT (R399); a checksum that comes out as 0 is sent as 0xFFFF (RFC 768). -/
def udpBytes (mport src dst : Nat) (payload : List Byte) : List Byte :=
  let len := 8 + payload.length
  let head := beBytes 2 mport ++ beBytes 2 mport ++ beBytes 2 len
  let k := netSum (beBytes 4 src ++ beBytes 4 dst ++ [0, 17] ++ beBytes 2 len ++ head ++ [0, 0] ++ payload)
  head ++ beBytes 2 (if k = 0 then 0xFFFF else k) ++ payload

/-- The IPv4 header of a datagram of `len` bytes (R399): TTL and DSCP of the port, ECN 0, DF 1, identification 0. -/
def ipHeader (st : Station) (p dst len : Nat) : List Byte :=
  let front := [0x45#8, BitVec.ofNat 8 (portDscp st p * 4)] ++ beBytes 2 (20 + len) ++ [0, 0, 0x40, 0, BitVec.ofNat 8 (portTtl st p), 17]
  let back := beBytes 4 (portIp st p) ++ beBytes 4 dst
  front ++ beBytes 2 (netSum (front ++ [0, 0] ++ back)) ++ back

/-- The frame of a telegram on a port, without its FCS (R398, R399): the tag where TAGEN is 1. -/
def telegramFrame (st : Station) (p ip mac : Nat) (telegram : List Byte) : List Byte :=
  let udp := udpBytes (fldMport st) (portIp st p) ip telegram
  beBytes 6 mac ++ beBytes 6 (portMac st p) ++
  (if portTag st p then [0x81, 0] ++ beBytes 2 (portPcp st p * 8192 + portVid st p) else []) ++
  [0x08, 0] ++ ipHeader st p ip udp.length ++ udp

/-- A telegram goes out on both ports to every address of the peer group. -/
def State.telegramOut (s : State) (bytes : List Byte) : List (Nat × Nat) → State
  | [] => s
  | (ip, p) :: l =>
    (match arpMac s.station ip p with
     | some mac =>
       if s.portUp p then
         (s.send (.telegram p (BitVec.ofNat 32 ip) (telegramFrame s.station p ip mac bytes))).updPort p fun x =>
           { x with txok := satInc 65535 x.txok }
       else s
     | none => s).telegramOut bytes l

/-- One due telegram: SEQ := word 1 + 1 in every lane; sent only where the lane transmits (R416). -/
def State.telegramDue (s : State) (c tcommit : Nat) (send : Bool) (payload : List Byte) (ty : Nat) : State :=
  let st := s.station
  let seq := (s.connEsWord c 1 + 1) % 4294967296
  let t : Telegram :=
    { conn := connWord st c 0, ttype := ty, seq := seq, tsend := tcommit / 1000000 % 4294967296, techo := s.connEsWord c 3,
      payload := if ty = 3 then payload else [], code := 0 }
  let body := telegramBody (fldIdent st) (connPeer st c) false t
  let bytes := body ++ beBytes 8 (Config.cmac (tabGet 0#128 c s.fld.keys) body).toNat
  let s1 := s.putCell (connEs st c + 1) (.word (BitVec.ofNat 32 seq) true)
  if send then s1.telegramOut bytes ((connGroup st c).flatMap fun ip => [(ip, 0), (ip, 1)]) else s1

def State.telegramsDue (s : State) (c tcommit : Nat) (send : Bool) (payload : List Byte) : List Nat → State
  | [] => s
  | ty :: l => (s.telegramDue c tcommit send payload ty).telegramsDue c tcommit send payload l

/-- The types of a connection's due telegrams (R415). -/
def State.dueTypes (s : State) (c n : Nat) (payload : List Byte) : List Nat :=
  let per := decide (n % connTxper s.station c = 0)
  match s.connSt c with
  | 1 => (if (s.conn c).rspDue then [2] else []) ++ (if per then [1] else [])
  | 2 => (if (s.conn c).rspDue then [2] else []) ++ (if per || decide (payload ≠ (s.conn c).lastSent) then [3] else [])
  | 3 => if (s.conn c).discDue then [4] else []
  | _ => []

/-- Every connection's telegrams of the commit of cycle n. -/
def State.telegramsCommit (s : State) (n tcommit : Nat) (send : Bool) (read : Nat → Bool) : List Nat → State
  | [] => s
  | c :: cs =>
    let payload := sentBytes s.station c read
    let s1 := s.telegramsDue c tcommit send payload (s.dueTypes c n payload)
    (s1.updConn c fun x => { x with rspDue := false, discDue := false, lastSent := payload }).telegramsCommit
      n tcommit send read cs

end Sys2Proof.Machine
end

