-- ==== Sys2Proof/Machine/Capture.lean ====
section
/-! DEFINITION. The logic-cycle boundary T0 (R53, R72): what takes effect there, the changes of lane state that wait for
it, and the input capture. -/

namespace Sys2Proof.Machine

/-! ### Health of a set in a basic cycle (R47, R48, R190, R494) -/

/-- The health word of a node that was accepted in basic cycle c; the own one as it stands. -/
def State.heard (s : State) (c n : Nat) : Option Nat :=
  if n = s.node then some s.healthNat
  else match (s.nodeView n).health with
    | some (h, m) => if m = c then some h.toNat else none
    | none => none

/-- A health word that makes a set healthy (R48), in the role STANDBY or SHADOW. -/
def hHealthy (role h : Nat) : Bool :=
  decide (hState h = 7) && decide (hRole h = role) && decide (bits h 6 7 = 127) && !bit h 16

/-- At least two of the nodes are healthy in the basic cycle, with equal SECVER and IMGD (R48, R494). -/
def State.setHealthy (s : State) (c : Nat) (nodes : List Nat) (role : Nat) : Bool :=
  let l := (nodes.filterMap (s.heard c)).filter (hHealthy role)
  l.any fun h => decide (2 ≤ (l.filter fun g => decide (hSecver g = hSecver h) && decide (hImgd g = hImgd h)).length)

/-- A set is healthy as a standby set, or in SHADOW. -/
def State.standbyHealthy (s : State) (c : Nat) (nodes : List Nat) : Bool := s.setHealthy c nodes 1 || s.setHealthy c nodes 2

/-- Ten seconds of basic cycles in a row. -/
def State.tenSeconds (s : State) (n : Nat) : Bool := decide (10000000000 ≤ n * s.basicNs)

/-- Consent sent to peer k (R24): by a voting lane, or one that has completed PROVE, unless withdrawn under R30; never in
SAFE, nor by a listener (R14). -/
def State.consentOut (s : State) (k : Nat) : Bool :=
  (s.voting || (decide (s.lane.st = .prove) && s.lane.proved)) && !s.lane.safeLatch && !s.listener &&
  !(if k = 0 then s.lane.withdrawn0 else s.lane.withdrawn1)

/-! ### Capture (R72) -/

/-- The state of feedback input m as reported (R220). -/
def State.vfbReport (s : State) (m : Nat) : Bool :=
  match (List.range 32).find? fun n => s.monEn n && decide (s.monSel n = m) with
  | some n => s.picked n
  | none => s.vio.vfb.getLsbD m

/-- The agreed system flags as this lane reports them (R98). -/
def State.flagCells (s : State) : List Bool :=
  let v := s.votingNodes
  [decide (v.length = 3), v.contains s.setBase, v.contains (s.setBase + 1), v.contains (s.setBase + 2),
   s.lane.firstCycle && s.lane.firstOfSet, s.lane.firstCycle && s.lane.restarted, s.tae.timev, s.angv,
   decide (s.lane.st = .run) && s.ownSetHolds, s.standbyHealthy (s.lnb.m - 1) s.otherNodes]

/-- The bit cells that the lane captures, own-lane cells among them. Cells of a block that answers ABSENT have Q = 0
(R562). -/
def State.captureBits (s : State) : List (Nat × Cell) :=
  let io := s.blockLive 6
  let lm := s.blockLive 7
  ((List.range 64).flatMap fun n =>
    let r := if io then s.vinReport n else (false, false)
    [(0x3F000 + n, Cell.bit r.1 r.2), (0x3F040 + n, Cell.bit r.1 r.2)]) ++
  ((List.range 32).flatMap fun n =>
    [(0x3F0A0 + n, Cell.bit (io && s.vfbReport n) io), (0x3F0C0 + n, Cell.bit (io && (s.vout n).lockout) io)]) ++
  ((List.range 32).flatMap fun n =>
    (s.lampCells n).map fun e => (0x3F100 + 8 * n + e.1, Cell.bit (lm && e.2.1) (lm && e.2.2))) ++
  ((List.range 16).flatMap fun g =>
    (s.groupCells g).map fun e => (0x3F200 + 16 * g + e.1, Cell.bit (lm && e.2) lm)) ++
  (s.flagCells.zipIdx.map fun e => (0x3F300 + e.2, Cell.bit e.1 true)) ++
  [(0x3F380, Cell.bit (s.lane.firstCycle && s.lane.restarted) true), (0x3F381, Cell.bit s.lane.computing true),
   (0x3F382, Cell.bit (decide (s.grd.gmode = .fallback)) true)] ++
  (rxMaps s.station).flatMap fun m =>
    if s.blockLive 11 then s.mapCapture s.pins.now m
    else (List.range (mapCells s.station m).2).map fun i => ((mapCells s.station m).1 + i, Cell.bit false false)

/-- The hardware word cells that TAE supplies (R72, R99). -/
def State.captureTime (s : State) (t0 n : Nat) : List (Nat × Cell) :=
  [(0x43F28, .word (BitVec.ofNat 32 s.freqCell) s.angv), (0x43F29, .word (BitVec.ofNat 32 s.ownAngle) s.angv),
   (0x43F2A, .word (BitVec.ofNat 32 t0) true), (0x43F2B, .word (BitVec.ofNat 32 (t0 / 4294967296)) true),
   (0x43F2C, .word (BitVec.ofNat 32 n) true)]

/-- A capture with cells added. -/
def capturePut (t : Tab Cell) (l : List (Nat × Cell)) : Tab Cell :=
  l.foldl (fun t e => tabSet (zeroCell e.1) e.1 e.2 t) t

/-- A word cell that MEA supplies (R99): lamp currents, group voltages, auxiliary channels. -/
def meaWordCell (a : Nat) : Bool :=
  (decide (0x43F00 ≤ a) && decide (a < 0x43F28)) || (decide (0x43F30 ≤ a) && decide (a < 0x43F36))

/-- At each T0, in every lane state, MEA forms the word of every enabled channel (R311). -/
def State.wordsForm (s : State) : State :=
  let s1 : State := { s with inp.own := s.inp.own.filter fun e => !meaWordCell e.1 }
  if s1.blockLive 8 then s1.wordForms s1.pins.now wordChans else s1

/-- The input capture of logic cycle n at T0 (R72), with the words that MEA formed at the last T0 (R311). -/
def State.capture (s : State) (t0 n : Nat) : State :=
  let s1 : State :=
    { s with inp.own := capturePut (capturePut (s.inp.own.filter fun e => meaWordCell e.1) s.captureBits) (s.captureTime t0 n),
             inp.t0 := t0, lnb.inReady := s.pins.now }
  let s3 := if s1.blockLive 11 then s1.mapTimeouts s1.pins.now else s1
  if s3.blockLive 10 then s3.captureTelegrams else s3

/-- A commit is due at this very T0: T_commit of the cycle before, with C = L (R69). -/
def State.commitHere (s : State) (t0 : Nat) : Bool :=
  match s.lane.commitDue with
  | some t => decide (t + s.cycC * s.basicNs = t0)
  | none => false

/-- T_commit of the cycle that begins becomes due, unless one is due at this T0: that one comes first. -/
def State.commitSet (s : State) (t0 : Nat) : State :=
  if s.commitHere t0 then s else { s with lane.commitDue := some t0 }

/-- What belongs to the commit of one logic cycle. -/
def State.commitClear (s : State) : State :=
  { s with lane.commitOk := false, lge.candidate := false, lge.aborted := false }

/-- What belongs to one logic cycle begins anew: images received, reports, frames sent, the candidate (but where its commit
follows at this T0, R69), the copies of each connection; forces released at this T0 end (R507). -/
def State.cycleClear (s0 : State) (t0 : Nat) : State :=
  let s := if s0.commitHere t0 then s0 else s0.commitClear
  let s1 := s.mapNodes fun _ v =>
    { v with ownRep := false, othRep := false, outWords := [], outNext := 0, outValid := false, inWords := [],
             inNext := 0, inValid := false }
  { s1 with
    lnb.sentNow := [], lnb.fetched := [],
    lnb.fetchPart := [], lnb.pendTx := s1.lnb.pendTx.filter fun e => decide (fidUse s1.station e.fid ≠ 3),
    fld.conn := tabMap conn0 (fun _ c => { c with copies := 0 }) s1.fld.conn,
    upd.forces := s1.upd.forces.filter fun f => !s1.upd.unforce.contains f.1, upd.unforce := [],
    grd.fbExit := if s1.grd.fbExit = some 1 then some 0 else s1.grd.fbExit }

/-- The capture of a lane in PROVE or RUN, and its phase (R89). -/
def State.cycleCapture (s : State) (t0 n : Nat) : State :=
  let s1 := (s.cycleClear t0).capture t0 n
  if s1.lane.st = .run then { s1 with tae.phase := 1 } else s1

/-! ### Changes of state at T0 (R25, R124, R226, R251, R475 to R479) -/

/-- The lane enters PROVE: the image initialised (R106), no committed guard image (R179), every latch clear (R251), the
monitors dropping (R226), no set angle (R64), proving-required inputs unproven, or LOW_SEEN at once where they are VALID at 0
(R215), and no dark-proving pulse passed (R286). -/
def State.enterProve (s : State) : State :=
  let s1 := ({ s with lane.proveFrom := none, lane.proveCnt := 0, lane.proved := false } : State).setSt .prove
  let s2 := s1.imageInit.monProve (List.range 32)
  { s2 with
    grd.comm := [], grd.commFrom := false, grd.cand := none, grd.chkok := false, grd.wasActive := [],
    lane.commitDue := none, lane.commitOk := false, lge.split := false, lge.splitWant := none, lge.candidate := false,
    lnb.mirLast := [], lnb.mirDefer := [],
    lmp.group := tabMap aspect0 (fun _ g => { g with latch := none, outvoted := 0 }) s2.lmp.group,
    lmp.lamp := tabMap lamp0 (fun _ l => { l with fbActive := false, mis := [], dpok := false, dpFails := 0 }) s2.lmp.lamp,

    lmp.iso := 0, lmp.isoHold := 0, tae.samSet := false, tae.samHold := none,
    vio.vin := tabMap vin0 (fun n v => if s2.vinPr n then vinSettle true { v with prov := .unproven } else v) s2.vio.vin,
    lge.rung0 := Rung.empty, lge.rung1 := Rung.empty }

/-- The other set has two voting lanes (R16). -/
def State.otherInRun (s : State) : Bool := decide (2 ≤ (s.otherNodes.filter s.showsVoting).length)

/-- The image of the holding lanes of the other set differs from this lane's (R494). -/
def State.otherImgdDiffers (s : State) : Bool :=
  s.otherNodes.any fun n => match s.fresh n with
    | some h => decide (hState h = 7) && decide (hRole h = 0) && decide (hImgd h ≠ s.imgdLow) | none => false

/-- The role of a set that makes a set start (R16, R494). -/
def State.startRole (s : State) : Role :=
  if s.otherHolds then (if s.otherImgdDiffers then .shadow else .standby)
  else if s.preferredSet = s.sid ∨ s.otherInRun = false then .holding
  else .standby

/-- What the slot of an image asks for on entry to RUN (R503, R572). -/
def State.runSlotEnter (s : State) (r : Role) : State :=
  if s.runSlotState = .confirmed then s.burnWanted
  else if s.runSlotState = .shadow ∧ r = .standby then s.imageConfirm
  else s

/-- The lane enters RUN (R25, R477, R478): in the set's role, or EXCLUDED with a reintegration request. A lasting fault stands
until the lane restarts (R33): such a lane asks for nothing. -/
def State.enterRun (s : State) : State :=
  let j := s.lane.joining
  let r : Role := if j then .excluded else s.startRole
  let s1 : State :=
    { (s.setSt .run).setRole r with
      lane.proved := false, lane.proveCnt := 0, lane.joining := false, lane.firstCycle := true, lane.firstOfSet := !j,
      lane.implicated := if s.lane.lasting then s.lane.implicated else none, lane.implicatedMem := false, lane.planned := false,
      lane.computing := false, lane.confirmCnt := 0, lane.reportCnt := 0, lane.rep0 := false, lane.rep1 := false,
      lane.driving := false, lane.outcmp := false, lane.inagr := false, lane.mirr := false, lane.refr := 0,
      lane.switch := none, lane.reintReq := j && !s.lane.lasting, lnb.xferRx := [], lnb.xferDig := [] }
  let s2 : State := if s1.lane.reintReq then { s1 with lnb.entries := s1.lnb.entries ++ [[0x05000000]] } else s1
  s2.runSlotEnter r

/-- A lane in RUN passes to HOLD (R124, R127): drives static, consent withheld, no capture. A handover that this lane accepted
and that waits for its boundary ends FAILED (R9). -/
def State.enterHold (s : State) : State :=
  let s1 := ({ s with lane.holdPend := false, lane.wasHold := true, lane.ctl := .completed } : State).ctlOvertaken.leaveVote
  (((s1.lgeHalt.lampsDark).forcesRelease).setSt .hold).cmdEnd

/-- What waits for the T0 of logic cycle n in the present lane state. -/
def State.cycleAct (s : State) (t0 n : Nat) : State :=
  match s.lane.st with
  | .stop =>
    if s.lane.resumePend then
      (({ s with lane.resumePend := false, lane.ctl := .completed } : State).setSt .integrate).cmdEnd
    else s
  | .integrate =>
    match s.lane.proveFrom with
    | some m =>
      if m ≤ n * s.cycL then
        if s.tae.timev && decide (s.node < 6) then s.enterProve.cycleCapture t0 n
        else { s with lane.proveFrom := none, lane.joining := false }
      else s
    | none => s
  | .prove =>
    if s.lane.proved && (s.lane.cons0 || s.lane.cons1) && s.tae.timev then s.enterRun.cycleCapture t0 n
    else s.cycleCapture t0 n
  | .run =>
    if s.lane.holdPend then s.enterHold
    else
      ({ s with lane.firstCycle := false, lane.firstOfSet := s.lane.firstOfSet && s.commitHere t0,
                lane.restarted := s.lane.restarted && !s.lane.firstCycle } : State).cycleCapture t0 n
  | _ => s

/-- Acknowledgements due at the T0 of logic cycle n. -/
def acksDue (n : Nat) (l : List PendingAck) : List PendingAck :=
  l.filter fun a => match a.cycle with | some c => decide (c ≤ n) | none => false

/-- What takes effect at T0 in every lane state: the wall time (R56), the acknowledgements of R225 and R259, and the words of
MEA (R311). -/
def State.cycleTime (s : State) (t0 n : Nat) : State :=
  let s1 := ({ s with tae.cycnum := n % 4294967296 } : State).wallApply n t0
  let dv := acksDue n s1.vio.acks
  let s2 := dv.foldl (fun t a => t.lockAckApply a) ({ s1 with vio.acks := s1.vio.acks.filter fun a => !dv.contains a } : State)
  let dl := acksDue n s2.lmp.acks
  (dl.foldl (fun t a => t.isoAckApply a) ({ s2 with lmp.acks := s2.lmp.acks.filter fun a => !dl.contains a } : State)).wordsForm

/-- LOGIC_CYCLE_BOUNDARY (R53): T0 of logic cycle n. -/
def execLogicCycleBoundary (n : Nat) (s : State) : Host.Outcome State Fault Refusal :=
  let t0 := n * s.logicNs
  .next (if s.hasCt && decide (s.ct ≤ t0) then (((s.advanceCt t0).cycleTime t0 n).cycleAct t0 n).commitSet t0 else s)

end Sys2Proof.Machine
end

