-- ==== Sys2Proof/Machine/Apply.lean ====
section
/-! DEFINITION. T_IA (R71, R111): the state transfer, the agreed image, the mirror stream, on-line changes and forces, in this
order; what follows from the agreed cells; and the start of the scan. -/

namespace Sys2Proof.Machine

/-! ### Entries of the mirror stream and of a state transfer (R45) -/

/-- The header of an entry. -/
def entryHdr (kind : Nat) (q v : Bool) (a : Nat) : Word :=
  BitVec.ofNat 32 (kind * 2 ^ 30 + bitNat q * 2 ^ 25 + bitNat v * 2 ^ 24 + a)

/-- One cell as an entry. -/
def cellEntry (a : Nat) : Cell → List Word
  | .bit v q => [entryHdr 0 q v a]
  | .word v q => [entryHdr 1 q false a, v]
  | .timer p start r q => [entryHdr 2 q r a, p, start.setWidth 32, start.extractLsb' 32 32]
  | .edge m q => [entryHdr 3 q m a]

/-- The entries of a stream as cells; an entry whose KIND is not the cell's is dropped. `fuel` is its length. -/
def entryCells : Nat → List Word → List (Nat × Cell)
  | 0, _ => []
  | _, [] => []
  | k + 1, h :: t =>
    let a := bits h.toNat 0 20
    let v := h.getLsbD 24
    let q := h.getLsbD 25
    match bits h.toNat 30 2, t with
    | 0, t => if cellKind a = some .bit then (a, .bit v q) :: entryCells k t else entryCells k t
    | 3, t => if cellKind a = some .edge then (a, .edge v q) :: entryCells k t else entryCells k t
    | 1, x :: t => if cellKind a = some .word then (a, .word x q) :: entryCells k t else entryCells k t
    | 2, p :: lo :: hi :: t =>
      if cellKind a = some .timer then (a, .timer p (hi ++ lo) v q) :: entryCells k t else entryCells k t
    | _, _ => []

/-- The digest of a stream (R31, R44): the CRC-64 of R121 over its bytes (PRESUMED, entry 31). -/
def streamDigest (l : List Word) : W64 := crc64 (wordsToBytes l)

/-! ### State transfer (R31) -/

/-- The own-lane cells (R100). -/
def ownLaneCells : List Nat := (List.range 64).map (fun n => 0x3F040 + n) ++ [0x3F380, 0x3F381, 0x3F382]

/-- A reintegration request waits for the next status frame (R31, R351). -/
def State.requestEntry (s : State) : State :=
  if s.lnb.entries.contains [0x05000000] then s else { s with lnb.entries := s.lnb.entries ++ [[0x05000000]] }

/-- The content matches the digests of two voting lanes of the set. -/
def State.transferMatches (s : State) : Bool :=
  let d := streamDigest s.lnb.xferRx
  let v := s.votingNodes
  decide (2 ≤ (s.lnb.xferDig.filter fun e => v.contains e.1 && decide (e.2 = d)).length)

/-- The mirrored cells in the order of the refresh, and slice k of them: one in 64 (R44). -/
def mirrorSlice {α : Type} (cells : List α) (k : Nat) : List α := (cells.zipIdx.filter fun e => decide (e.2 % 64 = k)).map Prod.fst

/-- The transferred state: entries over the contents of R106, with this lane's own-lane cells kept. From it on the lane forms
the mirror stream of its peers (R44): their differences start from the cells as they sent them. -/
def State.transferWrite (s : State) : State :=
  let keep := ownLaneCells.map fun a => (a, s.cell a)
  let base : Replica := { base := .proved, cells := [] }
  let s1 := (({ s with lge.rep0 := base, lge.rep1 := base } : State).putCells
    (entryCells s.lnb.xferRx.length s.lnb.xferRx)).putCells keep
  { s1 with lane.reintReq := false, lane.computing := true, lane.confirmCnt := 0, lnb.xferRx := [], lnb.xferDig := [],
            lnb.mirLast := capturePut [] (s.station.mirrored.map fun a => (a, s1.cell a)), lnb.mirDefer := [] }

/-- STATE_TRANSFER_APPLY: applied where it matches, and otherwise requested again. A lane that requested it at the T0 of this
cycle, its first, waits for the next one. -/
def State.transferApply (s : State) : State :=
  if s.lane.st = .run ∧ s.lane.role = .excluded ∧ s.lane.reintReq = true ∧ s.lane.firstCycle = false then
    if s.transferMatches then s.transferWrite
    else ({ s with lnb.xferRx := [], lnb.xferDig := [] } : State).requestEntry
  else s

/-! ### The agreed image (R72 to R78) -/

/-- Steps 2 of R111: agreed cells, own-lane cells of this lane's capture, the T0 and cycle-number cells; then the
connections (R411). -/
def State.agreedApply (s : State) : State :=
  let cells := s.agreedCells
  let own := (ownLaneCells ++ [0x43F2A, 0x43F2B, 0x43F2C]).map fun a => (a, tabGet (zeroCell a) a s.inp.own)
  let inagr := decide (2 ≤ s.contribs.length)
  let s1 := (({ s with inp.agreed := capturePut [] cells, lane.inagr := inagr,
                       fld.agreed := s.agreedDigests.filterMap s.telegramOf } : State).putCells cells).putCells own
  let s2 := if s1.voting && decide (s.lackingNow ≠ []) then s1.withdraw .lnbRx else s1
  (if s2.lane.st = .run then s2.connsProcess (connList s2.station) else s2).recapture

/-! ### Mirror stream (R44, R46, R495) -/

/-- Words of mirror stream that one logic cycle may carry (R46): 80 bits in each µs of it. -/
def State.mirrorBudget (s : State) : Nat := s.logicNs * 2 / 25 / 32

/-- The map names the NEW address. -/
def mapNamesNew (st : Station) (a : Nat) : Bool := st.map.any fun e => decide (e.new = a)
def mapNamesOld (st : Station) (a : Nat) : Bool := st.map.any fun e => decide (e.old = a)

/-- The KIND of a cell kind (R45). -/
def kindCode : CellKind → Nat
  | .bit => 0 | .word => 1 | .timer => 2 | .edge => 3

/-- A holding entry through the map (R495): none where it is discarded. A timer keeps its own preset. -/
def State.mapEntryOf (s : State) (a : Nat) (c : Cell) : Option (Nat × Cell) :=
  match s.station.map.find? fun e => decide (e.old = a) && e.mir with
  | none => none
  | some e =>
    if (cellKind a).map kindCode = some e.kind.toNat ∧ cellKind e.new = cellKind a then
      match c, s.cell e.new with
      | .timer _ start r q, .timer p _ _ _ => some (e.new, .timer p start r q)
      | c, _ => some (e.new, c)
    else none

/-- The unmapped timers and edges of this image (R488, R495), as rewritten at T_IA. -/
def State.unmappedCells (s : State) : List (Nat × Cell) :=
  (s.station.mirrored.filter fun a => !mapNamesNew s.station a).filterMap fun a =>
    match s.cell a with
    | .timer p start _ _ => some (a, .timer p start false true)
    | .edge m _ => some (a, .edge m false)
    | _ => none

/-- A SHADOW lane with a map. -/
def State.shadowMapped (s : State) : Bool := decide (s.lane.role = .shadow) && decide (s.station.map ≠ [])

/-- The stream whose digests have arrived: the cycle that the newest digest names. -/
def State.mirrorStream (s : State) : List Word :=
  match s.lnb.mirDig.getLast? with
  | some (_, c, _) => if s.lnb.mirCyc % 16777216 = c then s.lnb.mirRx else []
  | none => []

/-- The content matches the digests of its sender and of one other holding lane (R44). -/
def State.mirrorMatches (s : State) : Bool :=
  match s.lnb.mirDig.getLast? with
  | some (_, c, _) =>
    let d := streamDigest s.mirrorStream
    let ns := (s.lnb.mirDig.filter fun e => decide (e.2.1 = c) && decide (e.2.2 = d)).map Prod.fst
    ns.contains s.lnb.mirFrom && ns.any fun n => decide (n ≠ s.lnb.mirFrom)
  | none => false

/-- The last run of ascending addresses of a stream. -/
def lastRun : List Nat → List Nat → List Nat
  | run, [] => run
  | run, a :: t => if a ≤ run.getLastD 0 then lastRun [a] t else lastRun (run ++ [a]) t

/-- The sender of a stream has no backlog (R46). No field of R45 or R354 says so; the stream does (DESIGN CHOICE, entry 68): a
sender with a difference left over has filled the budget to within an entry of four words, and has sent no refresh slice. So
there is none where four words are free, or where a run of addresses is followed by the whole slice of the cycle. -/
def State.mirrorClear (s : State) (l : List Word) (as : List Nat) : Bool :=
  decide (l.length + 4 ≤ s.mirrorBudget) ||
  (decide (lastRun [] as ≠ as) && decide (lastRun [] as = mirrorSlice s.station.mirrored (s.lnb.mirCyc % 64)))

/-- The refresh slices that a stream carries in whole, as a mask (R47); through a map, whose sender's mirrored cells this image
does not name, one slice for each stream without a backlog. -/
def State.slicesOf (s : State) (clear : Bool) (as : List Nat) : W64 :=

  if s.shadowMapped then
    (match (List.range 64).find? fun k => !s.lane.refr.getLsbD k with
     | some k => if clear then BitVec.ofNat 64 (2 ^ k) else 0
     | none => 0)
  else
    BitVec.ofNat 64 (((List.range 64).filter fun k =>
      let l := mirrorSlice s.station.mirrored k
      l.all as.contains && (decide (l ≠ []) || (clear && decide (k = s.lnb.mirCyc % 64)))).foldl (fun x k => x ||| 2 ^ k) 0)

/-- MIRROR_APPLY in a standby or shadow lane, step 3 of R111. -/
def State.mirrorApply (s : State) : State :=
  let s1 : State :=
    if s.lane.st = .run ∧ (s.lane.role = .standby ∨ s.lane.role = .shadow) then
      if s.mirrorMatches then
        let l := s.mirrorStream
        let cells := entryCells l.length l
        let w := if s.shadowMapped then cells.filterMap fun e => s.mapEntryOf e.1 e.2 else cells
        let as := cells.map Prod.fst
        let ok := s.mirrorClear l as
        { s.putCells w with lane.mirr := ok, lane.refr := s.lane.refr ||| s.slicesOf ok as, lnb.mirRx := [], lnb.mirDig := [] }
      else { s with lane.mirr := false }
    else s
  let s2 := if s1.lane.st = .run ∧ (s1.shadowMapped ∨ s1.upd.lastRewrite = true) then s1.putCells s1.unmappedCells else s1
  { s2 with upd.lastRewrite := false }

/-! ### On-line changes and forces (R505, R506) -/

/-- A settings-log entry of the running slot (R490). -/
def State.logAppend (s : State) (sym : Word) (v : Int) (preset : Bool) : State :=
  let x := s.slot s.runSlotNo
  s.setSlot s.runSlotNo { x with log := x.log ++ [{ seq := x.log.length, sym := sym, value := v, preset := preset, ok := true }] }

/-- A value written into a parameter cell, or into the preset of a timer. -/
def State.paramWrite (s : State) (p : ParamEntry) (v : Word) : State :=
  match s.cell p.addr with
  | .timer _ start r q => s.putCell p.addr (.timer v start r q)
  | .word _ _ => s.putCell p.addr (.word v true)
  | _ => s

/-- One change applied (R505). -/
def State.onlineApply (s : State) (c : OnlineChange) : State :=
  match s.station.params.find? fun p => decide (p.sym = c.sym) with
  | some p =>
    (((s.paramWrite p c.value).logAppend c.sym c.value.toInt p.timer).evtUpd 4).record 2 0x0D00 0x0D07
      (le 4 c.sym.toNat ++ le 4 c.value.toNat)
  | none => s

/-- The changes due at this T_IA, in the order in which they were accepted. -/
def State.onlinesApply (s : State) : State :=
  let due := s.upd.online.filter fun c => decide (c.cycle ≤ s.inp.t0 / s.logicNs)
  due.foldl (fun t c => t.onlineApply c) { s with upd.online := s.upd.online.filter fun c => !due.contains c }

/-- A forced cell (R506). -/
def forceCell (a : Nat) (v : Word) : Nat × Cell :=
  (a, if cellKind a = some .word then .word v true else .bit (v.getLsbD 0) true)
def State.forcesApply (s : State) : State := s.putCells (s.upd.forces.map fun f => forceCell f.1 f.2)

/-! ### Split and scan start (R122, R128, R192) -/

/-- Entry to the split, or exit from it, takes effect (R128). A lane that returns to normal checking leaves fall-back by
row 1 of R194. -/
def State.splitApply (s : State) : State :=
  match s.lge.splitWant with
  | none => s
  | some true => { s with lge.split := true, lge.splitWant := none }
  | some false =>
    let s1 : State := { s with lge.split := false, lge.splitWant := none, lge.rep1 := s.lge.rep0 }
    if s1.grd.gmode = .fallback then
      ({ s1 with grd.gmode := .checking, grd.masked := false, grd.armed := true } : State).fallbackRecord 1
    else s1

/-- The one scan of the logic cycle starts (R122), unless a self-test occupies LGE (R29). -/
def State.scanStart (s : State) : State :=
  if s.blockLive 4 && (match s.crt.test with | some t => decide (t.unit ≠ .lge) | none => true) then
    { s with
      lge.scan := true, lge.pc := 0, lge.region := 0, lge.rung0 := Rung.empty, lge.rung1 := Rung.empty, lge.drain := none,
      lge.buf0 := [], lge.buf1 := [], lge.stored0 := [], lge.stored1 := [], lge.candidate := false, lge.aborted := false,
      lge.scanAt := s.pins.now, tae.phase := if s.lane.st = .run then 6 else s.tae.phase }
  else s

/-- What follows from the agreed cells: lockouts (R223, R224), isolation (R258), fall-back latches (R257), and the counts
of R291 in a voting lane. -/
def State.agreedFollow (s : State) : State :=
  (((s.lockoutAgreed (List.range 32)).isolatesAgreed (List.range 8)).fallbacksAgreed (List.range 16)).provingCounts (List.range 32)

/-- The lane is between T0 and T_IA of its cycle. -/
def State.beforeScan (s : State) : Bool :=
  decide (s.lane.st = .prove) || (decide (s.lane.st = .run) && decide (s.tae.phase = 1))

/-- AGREED_IMAGE_APPLY (R111): T_IA. -/
def execAgreedImageApply (s : State) : Host.Outcome State Fault Refusal :=
  .next (if s.hasCt && s.beforeScan && !s.lge.scan then
      (((s.transferApply.agreedApply).mirrorApply.onlinesApply.forcesApply).agreedFollow.splitApply).scanStart
    else s)

end Sys2Proof.Machine
end

