-- ==== Sys2Proof/Machine/Commit.lean ====
section
/-! DEFINITION. Output agreement and T_commit (R26 to R33, R71, R179, R217, R247, R476 to R478): the classification of the
images, exclusion, the commit, admission, and what the lane sends in the idle time. -/

namespace Sys2Proof.Machine

/-! ### Output agreement (R26, R32, R43, R477, R496) -/

/-- How a node's output image stands to this lane's own. -/
inductive ImageClass where
  | equal | different | missing
  deriving DecidableEq, Repr

/-- The classification of one node's image (R26); no valid image is classed as different (R79). -/
def State.imageClass (s : State) (n : Nat) : ImageClass :=
  let v := s.nodeView n
  let own := s.outputWords
  if !v.outValid || decide (v.outWords.length ≠ own.length) then .missing
  else if v.outWords = own then .equal
  else .different

/-- The peers that vote, and those that prove (STATE 0x6). -/
def State.votingPeers (s : State) : List Nat := [s.peer 0, s.peer 1].filter fun n => s.votingNodes.contains n
def State.provingPeers (s : State) : List Nat :=
  [s.peer 0, s.peer 1].filter fun n => match s.fresh n with | some h => decide (hState h = 6) | none => false

/-- A peer is reported in the next status frame (R26, R351). -/
def State.report (s : State) (n : Nat) (c : ImageClass) : State :=
  let w : Word := BitVec.ofNat 32 (0x01000000 + (if c = .missing then 256 else 0) + n)
  ({ s with lnb.entries := s.lnb.entries ++ [[w]] } : State).reportNoted n true

/-- Consent is withdrawn from a node of the set (R30). -/
def State.consentWithdraw (s : State) (n : Nat) : State :=
  match s.peerIndex n with
  | some 0 => { s with lane.withdrawn0 := true }
  | some _ => { s with lane.withdrawn1 := true }
  | none => s

/-- The table of R26 for a voting lane whose image stands. -/
def State.voteOutputs (s : State) : State :=
  match s.votingPeers with
  | [a, b] =>
    (match s.imageClass a, s.imageClass b with
     | .equal, .equal => { s with lane.commitOk := true }
     | .equal, c => ({ s with lane.commitOk := true } : State).report b c
     | c, .equal => ({ s with lane.commitOk := true } : State).report a c
     | _, _ => s.withdraw .lge)
  | [a] =>
    (match s.imageClass a with
     | .equal => { s with lane.commitOk := true }
     | _ => (s.consentWithdraw a).enterSafe 3)
  | _ => s

/-- Output bits of the holding set that at least two of its lanes gave alike (R43): the words after the digest. -/
def State.holdingOutput (s : State) : Option (List Word) :=
  let l := s.otherNodes.filterMap fun n =>
    let v := s.nodeView n
    match s.fresh n with
    | some h => if v.outValid && decide (hState h = 7) && decide (hRole h = 0) then some v.outWords else none
    | none => none
  (l.find? fun w => decide (2 ≤ (l.filter fun x => x = w).length)).map fun w => w.drop 2

/-- The mapped comparison (R496). The predecessor's output cells are taken in the order of this image's (entry 32). -/
def State.mappedCompare (s : State) (full : Bool) (hold : List Word) : Bool :=
  let st := s.station
  let outs := outputCells st
  let oldBit (a : Nat) : Bool := wordsBit hold (outs.findIdx fun x => x = a)
  (st.map.all fun e =>
    !(outs.contains e.new && (e.cmp || full)) || decide (oldBit e.old = imageBit st s.lge.oimg e.new)) &&
  (outs.all fun a => mapNamesNew st a || decide (imageBit st s.lge.oimg a = safeBit st a)) &&
  (outs.all fun a => mapNamesOld st a || decide (oldBit a = safeBit st a))

/-- The logic cycle whose T_commit precedes a pending handover boundary. -/
def State.handoverCycle (s : State) : Bool :=
  match s.lane.switch with
  | some x => x.program && !x.committed && decide (x.cycle = some (s.inp.t0 / s.logicNs))
  | none => false

/-- OUTCMP of a standby or shadow lane (R47, R496). -/
def State.compareHolding (s : State) : State :=
  let ok : Bool :=
    match s.holdingOutput with
    | none => false
    | some w =>
      if s.lane.role = .shadow then
        if s.station.map = [] then s.upd.conf else s.mappedCompare s.handoverCycle w
      else decide (w = packAll s.lge.oimg)
  { s with lane.outcmp := ok || (decide (s.lane.role = .shadow) && decide (s.station.map = []) && s.upd.conf) }

/-- The count of R32 in a lane that computes without voting. -/
def State.confirmStep (s : State) : State :=
  let p := s.votingPeers
  let ok := s.outputReady && decide (2 ≤ p.length) && p.all fun n => decide (s.imageClass n = .equal)
  { s with lane.confirmCnt := if ok then s.lane.confirmCnt + 1 else 0 }

/-- A proving lane returns to INTEGRATE (R477). -/
def State.proveReturn (s : State) : State :=
  ((((s.leaveVote).lgeHalt.lampsDark).setSt .integrate)).record 3 0x0200 0x0204 []

/-- The table of R477. Once two lanes of the set vote, the lane continues as one that joins. -/
def State.proveClassify (s : State) : State :=
  if s.lane.joining then s
  else if 2 ≤ s.votingPeers.length then { s with lane.joining := true }
  else
    let l := s.provingPeers.map s.imageClass
    if s.outputReady && (l.any fun c => decide (c = .equal)) then { s with lane.proveCnt := s.lane.proveCnt + 1 }
    else s.proveReturn

/-- Reports received since the last output agreement are closed: a cycle without one ends the run of R28. -/
def State.reportsClose (s : State) : State :=
  { s with lane.reportCnt := if s.lane.rep0 || s.lane.rep1 then s.lane.reportCnt else 0, lane.rep0 := false,
           lane.rep1 := false }

/-- A lane in fall-back that has to withdraw before the next T_commit does so (R194, rows 2 and 4). -/
def State.fallbackLeave (s : State) : State :=
  match s.grd.fbExit with
  | some r => if s.grd.gmode = .fallback ∧ 2 ≤ r then s.fallbackWithdraw r .grd else s
  | none => s

/-- OUTPUT_AGREEMENT (R26): after the output windows. -/
def execOutputAgreement (s : State) : Host.Outcome State Fault Refusal :=
  .next (
    if s.lane.st = .prove then s.proveClassify
    else if s.lane.st = .run ∧ s.tae.phase ≠ 0 ∧ s.tae.phase < 9 then
      let s1 := (s.fallbackLeave.reportsClose).overrun
      let s2 : State := { s1 with tae.phase := if s1.lane.st = .run then 9 else s1.tae.phase }
      if s2.voting then
        let s3 := s2.voteOutputs
        if s3.voting ∧ s3.lane.role ≠ .holding then s3.compareHolding else s3
      else if s2.lane.computing then s2.confirmStep
      else s2
    else s)

/-- REPORT_LIMIT (R28): the third consecutive logic cycle with a report. -/
def execReportLimit (s : State) : Host.Outcome State Fault Refusal :=
  .next (if s.voting && decide (3 ≤ s.lane.reportCnt) then
      ({ s with lane.reportCnt := 0 } : State).withdraw .lge
    else s)

/-! ### Guard images at T_commit (R179, R181, R192) -/

/-- Where each guarded output was last active (R181): an output that leaves the committed image is stamped. -/
def wasActiveNext (st : Station) (now : Nat) (old new : GuardImage) (t : Tab Nat) : Tab Nat :=
  (guardedOutputs st).foldl (fun t o =>
    if guardActive st new o then t.filter fun e => decide (e.1 ≠ o)
    else if guardActive st old o then (t.filter fun e => decide (e.1 < o)) ++ (o, now) :: t.filter fun e => decide (o < e.1)
    else t) t

/-- GUARD_IMAGE_SWAP. In fall-back the lane that returns to normal checking gathers from replica 1 (R192). -/
def State.guardSwap (s : State) : State :=
  let back := decide (s.grd.fbExit = some 0) && decide (s.grd.gmode = .fallback)
  let new : GuardImage := if back then gatherImage s.station s.lge.rep1 else s.grd.cand.getD []
  { s with
    grd.wasActive := wasActiveNext s.station s.pins.now s.grd.comm new s.grd.wasActive, grd.comm := new,
    grd.commFrom := back || s.grd.cand.isSome, grd.cand := none, grd.chkok := false,
    grd.fbExit := if back then none else s.grd.fbExit, lge.splitWant := if back then some false else s.lge.splitWant }

/-! ### The set angle (R64) -/

/-- Slots with REF = 1 whose angle lies in the span from `old`, exclusive, to `d` units on, inclusive. -/
def State.slotsPassed (s : State) (old : Nat) (d : Int) : List Nat :=
  (List.range 256).filter fun n =>
    s.aslotEn n && s.aslotRef n &&
    (let x := wrapAngle ((s.aslotAng n : Int) - old)
     decide (0 < x) && decide ((x : Int) ≤ d))

def State.slotsAct (s : State) : List Nat → State
  | [] => s
  | n :: ns => (s.aslotFire n).slotsAct ns

/-- The agreed angle and frequency of this cycle; on DC the frequency is 100 Hz. -/
def State.agreedModel (s : State) : Option (Nat × Nat) :=
  match tabGet (.word 0 false) 0x43F29 s.inp.agreed, tabGet (.word 0 false) 0x43F28 s.inp.agreed with
  | .word a true, .word f q =>
    if s.dcAngle then some (a.toNat, 100000) else if q then some (a.toNat, f.toNat) else none
  | _, _ => none

/-- SET_ANGLE_ADOPT of the cycle that starts at t0. -/
def State.setAngleAdopt (s : State) (t0 : Nat) : State :=
  match s.agreedModel with
  | none => s
  | some (a, f) =>
    let old := s.setAngleAt s.ct
    let s1 : State := { s with tae.samAng := a, tae.samFrq := f, tae.samT0 := t0, tae.samSet := true, tae.samHold := none }
    if !s.tae.samSet then s1.flashesAdopt (List.range 16)
    else
      let d := angleDiff (s1.setAngleAt s.ct) old
      if 0 ≤ d then s1.slotsAct (s1.slotsPassed old d) else { s1 with tae.samHold := some old }

/-! ### Outputs (R217, R247) -/

/-- A dynamic output takes its committed command (R217, R218). -/
def State.voutCommit (s : State) (read : Nat → Bool) (n : Nat) : State :=
  let c := read (0x3F080 + n)
  let e := c && !(s.vout n).lockout && s.voutEn n && !s.feedCut n
  let s1 := (s.updVout n fun v => { v with committed := c, effective := e }).voutWave n
  if e = (s.vout n).effective then s1 else s1.monCommand n

def State.voutsCommit (s : State) (read : Nat → Bool) : List Nat → State
  | [] => s
  | n :: ns => (s.voutCommit read n).voutsCommit read ns

/-- The waves of a lane whose drives are no longer held static start (R217, R244). -/
def State.drivesOn (s : State) : State := (s.voutWaves (List.range 32)).lampsRefresh (List.range 32)

/-- VIO and LMP take the committed cells; then the telegrams and the mapped CAN messages (R415, R436). -/
def State.commitOutputs (s : State) (n tc : Nat) (sends : Bool) : State :=
  let img := s.lge.oimg
  let read (a : Nat) : Bool := imageBit s.station img a
  let s0 : State := { (if sends then s else s.wavesCut) with lmp.isoHold := 0, lane.driving := sends }
  let s1 := if s0.blockLive 6 then s0.voutsCommit read (List.range 32) else s0
  let s2 := if s1.blockLive 7 then (s1.lampsCommit read (List.range 16)).lampsRefresh (List.range 32) else s1
  let s3 := if s2.blockLive 10 then s2.telegramsCommit n tc sends read (connList s2.station) else s2
  s3.mapsCommit n sends img

/-! ### Mirroring and state transfer in the idle time (R31, R44, R46, R498) -/

/-- Entries that fit into the budget, in order, with what is left of it. -/
def takeBudget : Nat → List (Nat × Cell) → List (Nat × Cell) × Nat
  | room, [] => ([], room)
  | room, (a, c) :: t =>
    let k := (cellEntry a c).length
    if k ≤ room then ((a, c) :: (takeBudget (room - k) t).1, (takeBudget (room - k) t).2) else ([], room)

/-- Whole entries packed into frames of at most `room` words. -/
def packFrames (room : Nat) : List Word → List (List Word) → List (List Word)
  | cur, [] => if cur = [] then [] else [cur]
  | cur, e :: t => if cur.length + e.length ≤ room then packFrames room (cur ++ e) t else cur :: packFrames room e t

/-- The lanes of the new image mirror to OLD addresses while the former set shadows them (R498 step 8). -/
def State.mirrorAddr (s : State) (a : Nat) : Option Nat :=
  if s.upd.conf && s.upd.confNew then (s.station.map.find? fun e => decide (e.new = a) && e.mir).map MapEntry.old
  else some a

/-- The mirrored cells as this lane sends them. -/
def State.mirrorCells (s : State) : List (Nat × Cell) :=
  s.station.mirrored.filterMap fun a => (s.mirrorAddr a).map fun b => (b, s.cell a)

/-- Frames queued under a FID of a use, by the first voting lane of the set in lane order. -/
def State.queueFrames (s : State) (use : Nat) (es : List (List Word)) : State :=
  match (fidsOf s.station s.node use).head? with
  | some fid =>
    if s.votingNodes.head? = some s.node then
      { s with lnb.pendTx := s.lnb.pendTx ++
          (packFrames (fidMax s.station fid) [] es).map fun p =>
            ({ fid := fid, payload := p, mirror := decide (use = 5), at_ := s.pins.now } : PendFrame) }
    else s
  | none => s

/-- The refresh slices due, in order, whole ones while there is room; what is left over is deferred. -/
def takeSlices (slice : Nat → List (Nat × Cell)) : Nat → List Nat → List (Nat × Cell) × List Nat
  | _, [] => ([], [])
  | room, k :: ks =>
    let r := takeBudget room (slice k)
    if r.1.length = (slice k).length then (r.1 ++ (takeSlices slice r.2 ks).1, (takeSlices slice r.2 ks).2) else ([], k :: ks)

/-- The mirror stream of logic cycle n (R44, R46): differences first, then the refresh slices deferred and that of this cycle,
n mod 64, where the budget leaves room. A lane that computes forms it too, so that its differences stay those of its peers, and
neither sends nor publishes it. -/
def State.mirrorForm (s : State) (n : Nat) : State :=
  let cells := s.mirrorCells
  let diff := cells.filter fun e => decide (tabGet (zeroCell e.1) e.1 s.lnb.mirLast ≠ e.2)
  let d := takeBudget s.mirrorBudget diff
  let due := s.lnb.mirDefer.filter (fun k => decide (k ≠ n % 64)) ++ [n % 64]
  let r := if d.1.length = diff.length then takeSlices (mirrorSlice cells) d.2 due else ([], due)
  let sent := d.1 ++ r.1
  let words := sent.map fun e => cellEntry e.1 e.2
  let s1 : State :=
    { s with
      lnb.mirLast := capturePut s.lnb.mirLast sent, lnb.mirDefer := r.2,
      lnb.mirBacklog := ((diff.drop d.1.length).map fun e => cellEntry e.1 e.2).flatten }
  if s.voting then
    ({ s1 with
      lnb.mirOwn := some (n % 4294967296, streamDigest words.flatten),
      lnb.pendTx := s.lnb.pendTx.filter fun e => decide (fidUse s.station e.fid ≠ 5) } : State).queueFrames 5 words
  else s1

/-- The cells in use, ascending: those that the image names, and every other one that has left its contents of R106. -/
def State.cellsInUse (s : State) : List Nat :=
  (namedCells s.station ++ s.lge.rep0.cells.map Prod.fst).foldr insertAddr []

/-- The state that a reintegrating lane is sent (R31): every cell in use but for own-lane cells, each as an entry of R45, in
ascending address (DESIGN CHOICE, entry 33). The receiver has every other cell from R106. -/
def State.transferCells (s : State) : List (List Word) :=
  (s.cellsInUse.filter fun a =>
    decide (cellClass s.station a ≠ .reserved) && decide (cellClass s.station a ≠ .ownLane)).map fun a => cellEntry a (s.cell a)

/-- The content and the digests for every node that asked. -/
def State.transfersSend (s : State) : List Nat → State
  | [] => { s with lnb.xferFor := [] }
  | k :: ks =>
    let es := s.transferCells
    let d := streamDigest es.flatten
    let s1 : State := { s with lnb.entries := s.lnb.entries ++
        [[BitVec.ofNat 32 (0x09000000 + k), d.setWidth 32, d.extractLsb' 32 32]] }
    (s1.queueFrames 6 es).transfersSend ks

/-! ### The targeted self-test (R567) -/

/-- TARGETED_SELFTEST_START: at the T_commit at which the lane leaves the vote. -/
def State.targetedStart (s : State) : State :=
  match s.lane.implicated with
  | some u =>
    if s.lane.st = .run ∧ s.lane.role = .excluded ∧ s.lane.lasting = false ∧ u ≠ .crt ∧ s.crt.test = none then
      let s1 : State :=
        { s with crt.test := some { unit := u, planned := false, thenMem := s.lane.implicatedMem, inFallback := false,
                                    second := false, startAt := s.pins.now } }
      if u = .grd then { s1 with grd.masked := true, grd.armed := false } else s1
    else s
  | none => s

/-! ### OUTPUT_COMMIT -/

/-- The commit of logic cycle n in a lane in RUN. Where the next cycle has begun at this instant (C = L) its phase stands. -/
def State.commitRun (s : State) (n tc : Nat) : State :=
  let ok := s.voting && s.lane.commitOk
  let sends := ok && decide (s.lane.role = .holding) && !s.lane.safeLatch && decide (s.mode < 2)
  let s1 :=
    if ok || (s.lane.computing && s.outputReady) then s.commitOutputs n tc sends
    else s
  let s2 := if (s1.voting && decide (s1.lane.role = .holding)) || (s1.lane.computing && s1.ownSetHolds) then s1.mirrorForm n else s1
  let s3 := if s2.voting then s2.transfersSend s2.lnb.xferFor else s2
  { s3.targetedStart with tae.phase := if tc = s.inp.t0 then s.tae.phase else 10 }

/-- Both sets entered RUN at one T0, and this lane's is not the preferred one, so the other set holds (R16, entry 64). -/
def State.yields (s : State) : Bool :=
  s.voting && decide (s.lane.role = .holding) && s.lane.firstOfSet && decide (s.preferredSet ≠ s.sid) &&
  s.otherHolds && s.otherInRun

/-- Such a lane takes the role that R16 and R494 give a set while the other one holds, before it has committed anything. -/
def State.roleYield (s : State) : State :=
  if s.yields then (s.setRole s.startRole).runSlotEnter s.startRole else s

/-- The commit of the cycle that starts at t0 is done: with C = L that of the cycle begun at this instant is due next. -/
def State.commitDone (s : State) (t0 : Nat) : State :=
  if s.cycC = s.cycL then
    { s.commitClear with lane.commitDue := some (t0 + s.logicNs), lane.firstOfSet := s.lane.firstOfSet && decide (t0 + s.logicNs = s.inp.t0) && s.lane.firstCycle }
  else { s with lane.commitDue := none }

/-- The commit that is due: with C = L the T0 at the same instant comes first (R69). -/
def State.commitOf (s : State) : Option Nat :=
  match s.lane.commitDue with
  | some t0 => if s.cycC < s.cycL ∨ s.tae.cycnum = (t0 / s.logicNs + 1) % 4294967296 then some t0 else none
  | none => none

/-- OUTPUT_COMMIT (R71): T_commit of the logic cycle whose commit is due, in every lane state (R179). The set-angle model is
adopted, the slots due at this edge fire, then the commit (R69). -/
def execOutputCommit (s : State) : Host.Outcome State Fault Refusal :=
  .next (match s.commitOf with
    | some t0 =>
      if s.hasCt && s.img.isSome then
        let tc := t0 + s.cycC * s.basicNs
        let s1 := (s.advanceCt tc).roleYield.fallbackLeave
        let prev := s1.setAngleAt ((s1.ct : Int) - 10)
        let s2 := if s1.lane.st = .run ∨ s1.lane.st = .prove then s1.setAngleAdopt t0 else s1
        let s3 := s2.edgeFire (if s1.tae.samSet then prev else s2.setAngleAt ((s2.ct : Int) - 10)) (fun _ => false) fun _ => false
        let ready := s3.outputReady
        let s4 := s3.guardSwap
        let s5 :=
          if s4.lane.st = .run then
            { ({ s4 with grd.chkok := ready } : State).commitRun (t0 / s.logicNs) tc with grd.chkok := false }
          else s4
        s5.commitDone t0
      else s
    | none => s)

/-- PROVE_COMPLETE (R477, R478): at the T_commit of the last counted cycle, or of the one cycle of a lane that joins. -/
def execProveComplete (s : State) : Host.Outcome State Fault Refusal :=
  .next (if s.lane.st = .prove ∧ s.lane.proved = false ∧ s.hasCt = true ∧
      (s.lane.joining = true ∨ s.prvcyc ≤ s.lane.proveCnt) then
      { (match s.lane.commitDue with
         | some t0 => if t0 = s.inp.t0 ∧ s.ct < t0 + 10 then s else s.advanceCt (t0 + s.cycC * s.basicNs)
         | none => s) with lane.proved := true }
    else s)

/-! ### ADMISSION (R32) -/

/-- The role of the own set as its voting lanes show it. -/
def State.setRoleShown (s : State) : Role :=
  match (s.votingPeers.filterMap s.fresh).head? with
  | some h => match hRole h with | 0 => .holding | 1 => .standby | 2 => .shadow | _ => .excluded
  | none => .excluded

/-- Lockout latches of an admitted lane take the agreed cells (R224). The monitor follows: LOCKED becomes DROPPED on 0, and on 1 it
becomes LOCKED with no record and no FBMIS (entry 75). -/
def State.lockoutsTake (s : State) : List Nat → State
  | [] => s
  | n :: ns =>
    let a := s.bitRead (0x3F0C0 + n)
    (s.updVout n fun v =>
      { v with lockout := a, outvoted := 0,
               mon := if a then .locked else if v.mon = .locked then .dropped else v.mon }).lockoutsTake ns

/-- The last value that the settings log holds for a symbol, and what a parameter cell holds now. -/
def lastLogged (log : List SettingsEntry) (sym : Word) : Option Int :=
  (log.filter fun e => decide (e.sym = sym) && e.ok).getLast?.map SettingsEntry.value
def State.paramValue (s : State) (p : ParamEntry) : Int :=
  match s.cell p.addr with
  | .word v _ => v.toInt
  | .timer v _ _ _ => v.toInt
  | _ => 0
def State.paramImage (s : State) (p : ParamEntry) : Int :=
  (if p.timer then tabGet 0#32 p.addr s.station.presets else tabGet 0#32 p.addr s.station.init).toInt

/-- A log entry for every parameter cell that differs from the log (R505). -/
def State.paramsLog (s : State) : List ParamEntry → State
  | [] => s
  | p :: ps =>
    (if s.paramValue p = (lastLogged (s.slot s.runSlotNo).log p.sym).getD (s.paramImage p) then s
     else s.logAppend p.sym (s.paramValue p) p.timer).paramsLog ps

/-- ADMISSION (R32): the lane takes the set's role, drives its elements and restores consent. -/
def execAdmission (s : State) : Host.Outcome State Fault Refusal :=
  let r := s.setRoleShown
  .next (if s.lane.st = .run ∧ s.lane.role = .excluded ∧ s.lane.computing = true ∧ s.confirmCycles ≤ s.lane.confirmCnt ∧
      2 ≤ s.votingPeers.length ∧ r ≠ .excluded ∧ s.crt.test = none ∧ s.tae.timev = true then
      let s1 : State :=
        { (s.setRole r) with
          lane.computing := false, lane.confirmCnt := 0, lane.implicated := none, lane.implicatedMem := false,
          lane.planned := false, lane.wasHold := false, lane.withdrawn0 := false, lane.withdrawn1 := false,
          lane.refr := 0, lane.mirr := false, lane.commitOk := true, lane.driving := decide (r = .holding) }
      ((s1.lockoutsTake (List.range 32)).paramsLog s1.station.params).drivesOn
    else s)

end Sys2Proof.Machine
end

