-- ==== Sys2Proof/Machine/Boundary.lean ====
section
/-! DEFINITION. The basic-cycle boundary (R30, R47 to R50, R194, R337, R348, R350, R385 to R388, R475, R478, R494, R502): what is
evaluated for the cycle that ends, and the switchovers that take place at a boundary (R49, R498, R502). -/

namespace Sys2Proof.Machine

/-! ### Counts of the ended basic cycle -/

/-- The single-channel count of a sender (R350). -/
def State.singleCount (s : State) (n : Nat) : State :=
  let v := s.nodeView n
  if v.single then s.updNode n fun v => { v with scCount := satInc 255 v.scCount }
  else if v.double ∧ 0 < v.scCount then
    (s.updNode n fun v => { v with scCount := 0, scRejected := false, scDeclared := false }).record 2 0x0900 0x0903 [n]
  else s
def State.singleCounts (s : State) : List Nat → State
  | [] => s
  | n :: ns => (s.singleCount n).singleCounts ns

/-- The node owns an exclusive window that is present in basic cycle c. -/
def State.ownsWindow (s : State) (c n : Nat) : Bool :=
  (windows s.station).any fun w => !winArb s.station w && decide (winOwner s.station w = n) && winPresent s.station s.ccl w c

/-- A health word that makes a peer fully healthy (R190). -/
def hFully (h : Nat) : Bool := hVoting h && hTimev h && bit h 12 && !bit h 16

/-- What the ended cycle c says of a node is counted (R30, R190). -/
def State.nodeCounts (s : State) (c n : Nat) (v : NodeView) : NodeView :=
  { v with
    syncAt := if v.syncNow then some c else v.syncAt,
    silent := if s.ownsWindow c n then (if v.rxNow then 0 else satInc 255 v.silent) else v.silent,
    healthyFor := if (match s.heard c n with | some h => hFully h | none => false) then v.healthyFor + 1 else 0 }

/-- Boundary violations from two sync nodes, and SYNC frames from fewer than two (R386). -/
def State.boundaryBad (s : State) : Bool :=
  decide (2 ≤ ((List.range 6).filter fun n => decide (n ≠ s.node) && (s.nodeView n).bndNow &&
    (match (s.nodeView n).syncAt with | some a => decide (a < s.lnb.m) && decide (s.lnb.m ≤ a + 8) | none => false)).length) &&
  decide (s.syncNodes.length < 2)

/-- The rate reference (R388): the lowest sync node, this one among them, whose SYNC frame was accepted. -/
def State.rateRef (s : State) : Option Nat :=
  (List.range 6).find? fun n => if n = s.node then s.lnb.ownSyncNow else (s.nodeView n).syncNow

/-- The guardian's compare at the start of a basic cycle (R348). -/
def State.guardCompare (s : State) (diff : Nat) : State :=
  if 10 < diff then
    (({ s with lnb.guardOff := true } : State).evtLnb 7).record 4 0x0900 0x0905 [s.node, satTo 255 diff]
  else { s with lnb.guardOff := false }

/-- The rate reference over the next basic cycle, and the cycles in a row with it; this node's own crystal is none (R388, R389). -/
def State.recCount (s : State) : State :=
  let r := if s.lnb.bstate = .active then s.rateRef else none
  { s with lnb.rref := r,
           lnb.recRun := if r = none ∨ r = some s.node then 0 else if r = s.lnb.rref then satInc 64 s.lnb.recRun else 1 }

/-- The sync rules' counts at the end of a basic cycle (R376, R378, R385, R386, R388), and the node records shifted. A cycle in
which no correction was computed meets no condition (R384). -/
def State.syncCounts (s : State) : State :=
  let c := s.lnb.m
  let s1 : State :=
    { s with
      lnb.precise := if s.lnb.corrNow = none then 0 else s.lnb.precise,
      lnb.coarse := if s.lnb.corrNow = none then 0 else s.lnb.coarse,
      lnb.goodRun := if s.lnb.corrNow = none then 0 else s.lnb.goodRun,
      lnb.folGood := if s.lnb.corrNow = none then 0 else s.lnb.folGood,
      lnb.noSync := if s.syncNodes = [] then s.lnb.noSync + 1 else 0,
      lnb.bndRun := if s.boundaryBad then s.lnb.bndRun + 1 else 0,
      lnb.folMiss := if (s.nodeView s.lnb.leader).syncNow then 0 else s.lnb.folMiss + 1 }
  (s1.recCount.mapNodes fun n v => s.nodeCounts c n v).syncShift

/-! ### Health of the sets (R48, R49) -/

/-- The own set and the other set as standby sets, and the standby lanes' count of cycles with fewer than two voting
holding lanes. -/
def State.setCounts (s : State) (c : Nat) : State :=
  let holders := s.otherNodes.filter fun n => match s.heard c n with
    | some h => decide (hState h = 7) && decide (hRole h = 0) | none => false
  let stand := s.voting && (decide (s.lane.role = .standby) || decide (s.lane.role = .shadow))
  { s with
    lane.otherHealthy := if s.standbyHealthy c s.otherNodes then s.lane.otherHealthy + 1 else 0,
    lane.ownHealthy := if s.standbyHealthy c s.setNodes then s.lane.ownHealthy + 1 else 0,
    lane.holdersMissing := if stand && decide (holders.length < 2) then satInc 3 s.lane.holdersMissing else 0 }

/-! ### Set start and joining (R475, R478, R493, R494) -/

/-- The lanes of the set that show STATE 0x5 and TIMEV with this lane's SECVER and IMGD. -/
def State.startPartners (s : State) (c : Nat) : List Nat :=
  s.setNodes.filter fun n => match s.heard c n with
    | some h => decide (hState h = 5) && hTimev h && decide (hSecver h = s.secver) && decide (hImgd h = s.imgdLow)
    | none => false

/-- The condition of a set start in basic cycle c (R475). A lane in STOP or after HOLD joins only (R127), and one whose digest
vote is open makes no set start (R493). -/
def State.setStart (s : State) (c : Nat) : Bool :=
  !(s.setNodes.any fun n => match s.heard c n with | some h => hVoting h || decide (hState h = 6) | none => false) &&
  (s.startPartners c).contains s.node && decide (2 ≤ (s.startPartners c).length) && !s.lane.digestDue && !s.lane.wasHold &&
  !s.lane.lasting

/-- The voting lanes of the set in basic cycle c, and those of them that hold this lane's image (R478). -/
def State.joinVoters (s : State) (c : Nat) : List Nat :=
  s.setNodes.filter fun n => decide (n ≠ s.node) && (match s.heard c n with | some h => hVoting h | none => false)
def State.joinSame (s : State) (c : Nat) : Bool :=
  (s.joinVoters c).all fun n => match s.heard c n with | some h => decide (hImgd h = s.imgdLow) | none => false

/-- A lane in INTEGRATE decides from the health words of basic cycle c. The record of R494 has no code in the spec, so its code
is free (entry 26). -/
def State.integrateStep (s : State) (c : Nat) : State :=
  if s.lane.st = .integrate ∧ s.lane.proveFrom = none ∧ s.node < 6 ∧ s.tae.timev = true then
    if 2 ≤ (s.joinVoters c).length then
      if s.joinSame c then { s with lane.proveFrom := some (c + 3), lane.joining := true }
      else if s.lane.joinRefused then s
      else
        let w := s.freeWord.toNat
        ({ s.freeUsed with lane.joinRefused := true } : State).record (bits w 16 3 % 6) 0x0D00 (bits w 0 16) []
    else if s.setStart c then { s with lane.proveFrom := some (c + 3), lane.joining := false }
    else s
  else s

/-! ### Fall-back (R194), and the switchovers that SUP issues (R50, R502) -/

/-- A peer that is not fully healthy takes a lane in fall-back out of the vote. -/
def State.fallbackPeers (s : State) : State :=
  if s.grd.gmode = .fallback ∧ s.voting = true ∧
      ((s.nodeView (s.peer 0)).healthyFor = 0 ∨ (s.nodeView (s.peer 1)).healthyFor = 0) then
    s.fallbackWithdraw 2 .grd
  else s

/-- A switchover entry naming a set waits for the next status frame. -/
def State.switchoverEntry (s : State) (toSet : Bool) : State :=
  { s with lnb.entries := s.lnb.entries ++ [[BitVec.ofNat 32 (0x06000000 + bitNat toSet)]] }

/-- SUP of the first voting lane of a holding set with two voting lanes issues the switchover: where the image names the
exception of R50, and in the confirmation period (R502). -/
def State.supSwitchover (s : State) : State :=
  if s.voting ∧ s.lane.role = .holding ∧ s.votingNodes.length = 2 ∧ s.votingNodes.head? = some s.node ∧
      s.tenSeconds s.lane.otherHealthy = true ∧ s.lane.switch = none ∧
      (s.station.twoLaneHandover = true ∨ (s.upd.conf = true ∧ s.upd.confNew = true)) ∧
      (s.lnb.entries.all fun e => decide (bits (e.headD 0).toNat 24 8 ≠ 6)) = true then
    s.switchoverEntry (!s.sid)
  else s

/-! ### BASIC_CYCLE_BOUNDARY -/

/-- At the end of a basic cycle whose correction was not precise, a node in ACTIVE loses TIMEV (R384). -/
def State.imprecise (s : State) : State :=
  match s.lnb.corrNow with
  | some c => if s.lnb.bstate = .active ∧ 3 < c.natAbs then s.timevFall .lnbRx else s
  | none => s

/-- The boundary at which basic cycle m starts. -/
def State.boundary (s : State) (m diff : Nat) : State :=
  let c := s.lnb.m
  let s1 := ((s.advanceCt (m * s.basicNs)).singleCounts (List.range 8)).imprecise
  let s2 := (s1.syncCounts.setCounts c).integrateStep c
  (({ s2 with lnb.m := m } : State).guardCompare diff).fallbackPeers.supSwitchover

/-- BASIC_CYCLE_BOUNDARY (R337): the next basic cycle, with the difference that the guardian's compare finds. -/
def execBasicCycleBoundary (m guardDiff : Nat) (s : State) : Host.Outcome State Fault Refusal :=
  .next (if s.busTime && s.blockLive 9 && decide (m = s.lnb.m + 1) then s.boundary m guardDiff else s)

/-- PEER_SILENT (R30). -/
def execPeerSilent (k : Fin 2) (s : State) : Host.Outcome State Fault Refusal :=
  let n := s.peer k.val
  let v := s.nodeView n
  let late := match v.reportedAt with | some r => decide (r + 2 ≤ s.lnb.m) | none => false
  .next (if s.voting && (decide (2 ≤ v.silent) || late) then
      (s.updNode n fun v => { v with reportedAt := none }).consentWithdraw n
    else s)

/-! ### Switchovers (R49, R498, R502) -/

/-- AUTOMATIC_SWITCHOVER: the set takes the role HOLDING and drives from its next commit. As a handback it ends the
confirmation period (R502). -/
def execAutomaticSwitchover (s : State) : Host.Outcome State Fault Refusal :=
  .next (if s.voting = true ∧ (s.lane.role = .standby ∨ s.lane.role = .shadow) ∧ 2 ≤ s.lane.holdersMissing ∧
      s.tenSeconds s.lane.ownHealthy = true then
      let s1 : State :=
        { s.setRole .holding with lane.driving := false, lane.holdersMissing := 0, lane.switch := none, lnb.mirLast := [],
                                  lnb.mirDefer := [] }
      if s1.upd.conf && !s1.upd.confNew then s1.confEnds else s1
    else s)

/-- T_commit of a logic cycle. -/
def State.commitAt (s : State) (n : Nat) : Nat := n * s.logicNs + s.cycC * s.basicNs

/-- The former set returns the field: the switchover of a confirmation period (R502). -/
def State.isHandback (s : State) (x : Switch) : Bool :=
  x.program && s.upd.conf && decide (x.toSet = if s.upd.confNew then !s.sid else s.sid)

/-- A handover or handback ends (R509). -/
def State.handoverEnded (s : State) (back : Bool) (status : Nat) : State :=
  (s.evtUpd 2).record 2 0x0D00 0x0D05 [bitNat back, status]

/-- A switchover that the set to drive is not healthy for ends FAILED, and nothing changes (R49, R498). -/
def State.switchFail (s : State) (x : Switch) : State :=
  let s1 : State := { s with lane.switch := none }
  if !x.own then s1
  else if x.program then (({ s1 with upd.cmd := .failed } : State).handoverEnded (s.isHandback x) 4).cmdEnd
  else ({ s1 with lane.ctl := .failed } : State).cmdEnd

/-- A lane of the set that is to drive takes the role HOLDING and drives its committed outputs (R49, R498 step 5). Its mirror
stream begins with every cell, as that of its peers does (R44). -/
def State.switchIn (s : State) (x : Switch) : State :=
  let back := s.isHandback x
  let s1 := ({ s.setRole .holding with lane.driving := true, lnb.mirLast := [], lnb.mirDefer := [] } : State).drivesOn
  if back then s1.confEnds
  else if x.program then
    { s1.programSlot s1.runSlotNo .trial with
      upd.conf := true, upd.confNew := true, upd.lastRewrite := true,
      upd.confEnd := some (s1.ct + (if s1.station.confper = 0 then 24 else s1.station.confper) * 3600000000000) }
  else s1

/-- A lane of the set that drove: it records the commit point (R501), or programs its TRIAL slot RETIRED (R502). -/
def State.switchOut (s : State) (x : Switch) : State :=
  if s.isHandback x then ((s.programSlot s.runSlotNo .retired).handoverEnded true 2).confEnds
  else if x.program then
    { s with upd.conf := true, upd.confNew := false, upd.confEnd := none, lnb.confirmed := [] }
  else s

/-- The set that is to drive was healthy in the basic cycle from T_commit(n) of a program handover (R498 steps 4 and 5). -/
def State.switchHealthy (s : State) (x : Switch) (n : Nat) : Bool :=
  !x.program || s.isHandback x ||
  s.setHealthy (n * s.cycL + s.cycC) (if x.toSet = s.sid then s.setNodes else s.otherNodes) 2

/-- SWITCHOVER_COMMIT (R49, R498): one basic cycle after T_commit. A handback is marked so that its release knows it. -/
def execSwitchoverCommit (s : State) : Host.Outcome State Fault Refusal :=
  .next (match s.lane.switch with
    | some x =>
      (match x.cycle with
       | some n =>
         if x.committed || !s.hasCt then s
         else
           let s1 := s.advanceCt (s.commitAt n + s.basicNs)
           if s1.switchHealthy x n then
             let y : Switch := { x with committed := true, back := s1.isHandback x }
             if s1.voting then
               { (if x.toSet = s1.sid then s1.switchIn x else s1.switchOut x) with lane.switch := some y }
             else { s1 with lane.switch := some y }
           else s1.switchFail x
       | none => s)
    | none => s)

/-- The former holding lane opens its elements and takes its new role; after a handback it goes to SAFE (R49, R498 step 6,
R502, R507, R508). -/
def State.switchRelease (s : State) (x : Switch) : State :=
  if s.voting ∧ x.toSet ≠ s.sid then
    let s1 := (({ s.wavesCut with lane.driving := false } : State).forcesRelease).setRole (if x.program then .shadow else .standby)
    let s2 := s1.lampsRefresh (List.range 32)
    if x.back then s2.enterSafe 7 else s2
  else s

/-- The command of the accepting lane reaches COMPLETED. -/
def State.switchDone (s : State) (x : Switch) : State :=
  if !x.own then s
  else if x.program then
    (if x.back then ({ s with upd.cmd := .completed } : State)
     else ({ s with upd.cmd := .completed } : State).handoverEnded false 2).cmdEnd
  else if s.lane.ctl ≠ .completed then ({ s with lane.ctl := .completed } : State).cmdEnd
  else s

/-- SWITCHOVER_RELEASE (R49, R498): one basic cycle after the commit point. -/
def execSwitchoverRelease (s : State) : Host.Outcome State Fault Refusal :=
  .next (match s.lane.switch with
    | some x =>
      (match x.cycle with
       | some n =>
         if x.committed && s.hasCt then
           let s1 := s.advanceCt (s.commitAt n + 2 * s.basicNs)
           (({ s1 with lane.switch := none } : State).switchDone x).switchRelease x
         else s
       | none => s)
    | none => s)

end Sys2Proof.Machine
end

