-- ==== Sys2Proof/Machine/Recorder.lean ====
section
/-! DEFINITION. The event recorder's commands (the chapter "Event Recorder"): records, flushes, the freeze, the cursors, and
the legacy access. The record itself, the buffer, the flush and the memory stand in Ops. -/

namespace Sys2Proof.Machine

/-! ### Records and flushes (R518, R520) -/

/-- RECORD_CREATE (R518): any severity but that of a SAFE entry (R12). -/
def execRecordCreate (sev : Fin 6) (src code : BitVec 16) (data : List Byte) (s : State) : Host.Outcome State Fault Refusal :=
  if data.length = 8 then .next (s.record sev.val src.toNat code.toNat (data.map BitVec.toNat))
  else .fault .illFormed

/-- REC works: it accepts records, and the root clock is there (R555). -/
def State.recRuns (s : State) : Bool := s.recOpen && !s.crt.rootLost

/-- FLUSH_PERIOD (R520): the next multiple of 100 ms of MONO. Triggers are suspended while a freeze runs (R529). -/
def execFlushPeriod (s : State) : Host.Outcome State Fault Refusal :=
  .next (if s.recRuns then
      let s1 := s.advance ((s.pins.now / 100000000 + 1) * 100000000)
      if s1.rcd.frozen then s1 else { s1 with rcd.flush := true }
    else s)

/-- REC_FLUSH (R520): the flush that is due runs to its end, or its write or read-back fails. -/
def execRecFlush (ok : Bool) (s : State) : Host.Outcome State Fault Refusal :=
  .next (if s.rcd.flush && !s.rcd.frozen && s.recRuns then s.flushNow ok else s)

/-! ### The freeze (R529 to R531) -/

/-- FREEZE is refused while a freeze runs or is about to, and while a clear sequence is open. -/
def State.freezeWrite (s : State) (sid : Nat) : State :=
  if s.rcd.frozen || s.rcd.frzWait || decide (s.rcd.legStat = 1) then { s with rcd.frz := .refused }
  else { s with rcd.frz := .waiting, rcd.frzWait := true, rcd.frzSess := sid, rcd.flush := true }

/-- FREEZE, UNFREEZE: the commands of R541 from a session at Maintainer level or above. After its final status an abort
changes nothing (R9); at the commit point, 10 s after the start, and later it is answered COMPLETED (R8, R10). -/
def execFreeze (sid : BitVec 16) (s : State) : Host.Outcome State Fault Refusal :=
  .next (s.command sid.toNat 0x0C0060 1 2 fun t => t.freezeWrite sid.toNat)
def execUnfreeze (sid : BitVec 16) (s : State) : Host.Outcome State Fault Refusal :=
  .next (s.command sid.toNat 0x0C0060 2 2 fun t => t.freezeEnd true)

/-- FREEZE_START: the flush before it has ended. Its own record is the first that the freeze holds. -/
def execFreezeStart (s : State) : Host.Outcome State Fault Refusal :=
  .next (if s.rcd.frzWait && !s.rcd.flush && s.recRuns then
      ({ s with rcd.frzWait := false, rcd.frozen := true, rcd.frzFirst := s.rcd.seqNext, rcd.frz := .running,
                rcd.frzAt := s.pins.now } : State).record 1 0x0C00 0x0C04 (le 4 s.rcd.seqNext)
    else s)

/-- FREEZE_COMMIT (R531): 10 s after the start. -/
def execFreezeCommit (s : State) : Host.Outcome State Fault Refusal :=
  .next (if s.rcd.frozen && s.recRuns then (s.advance (s.rcd.frzAt + 10000000000)).freezeEnd false else s)

/-! ### Cursors (R525, R540) -/

/-- The records that a reader can reach: those in memory, and those in the buffer that no freeze holds. -/
def State.recVisible (s : State) : List Record :=
  (if s.rcd.msize = 0 then [] else s.rcd.pages.flatMap Page.recs) ++
  (if s.rcd.frozen then s.rcd.buf.filter fun r => decide (r.seq < s.rcd.frzFirst) else s.rcd.buf)

/-- The record of the lowest, of the highest SEQ in a list. -/
def lowestRec : List Record → Option Record
  | [] => none
  | r :: t => match lowestRec t with
    | some x => if x.seq < r.seq then some x else some r
    | none => some r
def highestRec : List Record → Option Record
  | [] => none
  | r :: t => match highestRec t with
    | some x => if r.seq < x.seq then some x else some r
    | none => some r

/-- The words of a record as the window shows them (R540). -/
def recWindow (r : Record) : List Word :=
  (List.range 8).map fun k => BitVec.ofNat 32 (leNat (slice (4 * k) 4 r.bytes))

/-- A cursor command of a session selects a record; `want` is the SEQ expected, where one is. Without a record the status is
NONE and the window stays. -/
def State.cursorTo (s : State) (sid : Nat) (r : Option Record) (want : Option Nat) : State :=
  match r with
  | none => s.updSession sid fun x => { x with curStat := 4 }
  | some r => s.updSession sid fun x =>
      { x with cursor := some r.seq, win := recWindow r,
               curStat := if want = none ∨ want = some r.seq then 2 else 3 }

/-- Where a session's cursor stands. -/
def State.cursorOf (s : State) (sid : Nat) : Option Nat :=
  match s.session sid with
  | some x => x.cursor
  | none => none

/-- A cursor operation. NEXT and PREV before any placement find no record (entry 36). -/
def State.cursorOp (s : State) (sid op : Nat) : State :=
  let l := s.recVisible
  match op with
  | 1 => s.cursorTo sid (lowestRec l) none
  | 2 => s.cursorTo sid (highestRec l) none
  | 3 =>
    (match s.cursorOf sid with
     | some c => s.cursorTo sid (lowestRec (l.filter fun r => decide (c < r.seq))) (some (c + 1))
     | none => s.cursorTo sid none none)
  | 4 =>
    (match s.cursorOf sid with
     | some c => s.cursorTo sid (highestRec (l.filter fun r => decide (r.seq < c))) (some (c - 1))
     | none => s.cursorTo sid none none)
  | 5 =>
    (match s.session sid with
     | some x => s.cursorTo sid (lowestRec (l.filter fun r => decide (x.cseq.toNat ≤ r.seq))) (some x.cseq.toNat)
     | none => s)
  | _ => s

/-- The write of REC.CURCMD by a session at Observer level or above. -/
def State.cursorWrite (s : State) (sid op : Nat) : State := s.plainWrite sid 0x0C0020 1 fun t => t.cursorOp sid op

/-- OLDEST, NEWEST, NEXT, PREV, SEEK (R525). -/
def execOldest (sid : BitVec 16) (s : State) : Host.Outcome State Fault Refusal := .next (s.cursorWrite sid.toNat 1)
def execNewest (sid : BitVec 16) (s : State) : Host.Outcome State Fault Refusal := .next (s.cursorWrite sid.toNat 2)
def execNextRec (sid : BitVec 16) (s : State) : Host.Outcome State Fault Refusal := .next (s.cursorWrite sid.toNat 3)
def execPrevRec (sid : BitVec 16) (s : State) : Host.Outcome State Fault Refusal := .next (s.cursorWrite sid.toNat 4)
def execSeek (sid : BitVec 16) (s : State) : Host.Outcome State Fault Refusal := .next (s.cursorWrite sid.toNat 5)

/-! ### Legacy access (R532 to R535) -/

/-- The record at the legacy cursor: the one it stands on, the oldest held where that one is gone, or the next one to come. -/
def State.legRecord (s : State) : Option Record :=
  let l := s.recVisible
  if s.rcd.legEnd then lowestRec (l.filter fun r => decide (s.rcd.legCur ≤ r.seq))
  else match l.find? fun r => decide (r.seq = s.rcd.legCur) with
    | some r => some r
    | none => lowestRec l

/-- LEG_HI of a record (R532). -/
def legHiWord (r : Record) : Word := BitVec.ofNat 32 (r.code * 65536 + r.sev * 4096 + r.seq % 4096)

/-- What a read of LEG_HI returns (R532). -/
def State.legHi (s : State) : Word := match s.legRecord with | some r => legHiWord r | none => 0

/-- The read of LEG_HI: LEG_LO latched, the cursor moved to the next higher SEQ held. -/
def State.legRead (s : State) : State :=
  match s.legRecord with
  | none => { s with rcd.legLo := 0 }
  | some r =>
    let s1 : State := { s with rcd.legLo := BitVec.ofNat 32 (leNat (r.data.take 4)) }
    match lowestRec (s.recVisible.filter fun x => decide (r.seq < x.seq)) with
    | some n => { s1 with rcd.legCur := n.seq, rcd.legEnd := false }
    | none => { s1 with rcd.legCur := r.seq + 1, rcd.legEnd := true }

/-- The legacy registers serve (effective CMPT). -/
def State.legServes (s : State) : Bool := s.cmpt && s.blockLive 12 && s.supServes

/-- LEG_HI_READ (R532): by any session that may read. -/
def execLegHiRead (s : State) : Host.Outcome State Fault Refusal := .next (if s.legServes then s.legRead else s)

/-- The clear sequence becomes void (R534). -/
def State.legVoid (s : State) : State := { s with rcd.legStat := 3, rcd.legSess := none }

/-- The clear (R535): everything discarded, SEQ and LOSTCNT at 0, a CLEAR record, and a flush at once. -/
def State.recClear (s : State) (level path : Nat) : State :=
  let top := s.rcd.seqNext - 1
  let s1 : State :=
    { s with rcd.buf := [], rcd.pages := [], rcd.seqNext := 0, rcd.lostcnt := 0, rcd.drops := [], rcd.flush := false,
             rcd.legCur := 0, rcd.legEnd := true, rcd.legStat := 2, rcd.legSess := none }
  ((s1.evtRec 4).record 3 0x0C00 0x0C03 (le 4 top ++ [level, path])).flushNow true

/-- A key written to LEGKEY (R534). -/
def State.legKey (s : State) (sid key : Nat) : State :=
  if s.rcd.legStat = 1 then
    if key = 0xA5A5 ∧ s.rcd.legSess = some sid ∧ s.rcd.frozen = false ∧ s.pins.now ≤ s.rcd.legAt + 1000000000 then
      match s.session sid with
      | some x => s.recClear x.level x.path
      | none => s.legVoid
    else s.legVoid
  else if key = 0x5A5A ∧ s.rcd.frozen = false then
    { s with rcd.legStat := 1, rcd.legSess := some sid, rcd.legAt := s.pins.now }
  else s.legVoid

/-- LEGKEY_WRITE: by a session at Maintainer level or above, with CMPT in effect. -/
def State.legkeyWrite (s : State) (sid key : Nat) : State :=
  s.plainWrite sid 0x0C0088 2 fun t => if t.cmpt then t.legKey sid key else t
def execLegkeyWrite (sid : BitVec 16) (key : BitVec 16) (s : State) : Host.Outcome State Fault Refusal :=
  .next (s.legkeyWrite sid.toNat key.toNat)

/-- LEGKEY_TIMEOUT (R534): 1 s of MONO without the second key. -/
def execLegkeyTimeout (s : State) : Host.Outcome State Fault Refusal :=
  .next (if s.rcd.legStat = 1 then (s.advance (s.rcd.legAt + 1000000000)).legVoid else s)

end Sys2Proof.Machine
end

