-- ==== Sys2Proof/Machine/Clock.lean ====
section
/-! DEFINITION. Clocks, monitors, gates, soft resets, self-tests and fuses (the chapter "Clocks, Reset and Self-Test"). -/

namespace Sys2Proof.Machine

/-! ### Oscillator validation (R548 to R550) -/

/-- CRT runs: the lane is powered and past RESET. -/
def State.crtRuns (s : State) : Bool :=
  s.pins.powered && (match s.lane.st with | .off | .reset => false | _ => true)

/-- AMPLITUDE_DETECTED (R549): within 20 ms of the start of the attempt. -/
def execAmplitudeDetected (s : State) : Host.Outcome State Fault Refusal :=
  .next (if s.crt.attempt && !s.crt.amp && s.crtRuns && decide (s.pins.now ≤ s.crt.attemptAt + 20000000) then
      { s with crt.amp := true, crt.ampAt := s.pins.now, crt.winGood := 0, crt.winLast := none }
    else s)

/-- The nominal count of a window of 32 µs in 1/64 periods of the reference (R543, R548). -/
def State.nominalCount (s : State) : Nat :=
  (match s.xsel with | 0 => 20 | 2 => 40 | _ => 25) * 32 * 64

/-- A window's count is good (R548): within 15 % of nominal, and within 0.1 % of the window before. -/
def State.windowGood (s : State) (count : Nat) : Bool :=
  let n := s.nominalCount
  decide (100 * ((count : Int) - n).natAbs ≤ 15 * n) &&
  (match s.crt.winLast with | none => true | some p => decide (1000 * ((count : Int) - p).natAbs ≤ p))

/-- VALIDATION_WINDOW (R548): the window that ends, within 200 ms of the amplitude (R550). The reference is validated after 1,024
good ones in a row. -/
def execValidationWindow (count : Nat) (s : State) : Host.Outcome State Fault Refusal :=
  .next (if s.crt.attempt && s.crt.amp && s.crtRuns && decide (s.pins.now + 32000 ≤ s.crt.ampAt + 200000000) then
      let g := if s.windowGood count then s.crt.winGood + 1 else 0
      let s1 : State := { s.advance (s.pins.now + 32000) with crt.winGood := g, crt.winLast := some count }
      if 1024 ≤ g then { s1 with crt.attempt := false, crt.xval := true, crt.fails := 0 } else s1
    else s)

/-- A start fault (R472): ATTN.SFLT, and a record where one can be made. -/
def State.startFault (s : State) (code : Nat) (more : List Nat) : State :=
  (({ s with lane.sfault := code } : State).attn 4).record 4 0x0200 0x0201 (code :: more)

/-- VALIDATION_ATTEMPT_TIMEOUT (R550): 20 ms without amplitude, or 200 ms from the amplitude without validation. -/
def execValidationAttemptTimeout (s : State) : Host.Outcome State Fault Refusal :=
  .next (if s.crt.attempt && s.crtRuns then
      let n := satInc 255 s.crt.fails
      let s1 : State :=
        { s.advance (if s.crt.amp then s.crt.ampAt + 200000000 else s.crt.attemptAt + 20000000) with
          crt.attempt := false, crt.amp := false, crt.fails := n }
      if s1.lane.st = .clock then (if s1.lane.sfault = 0 then s1.startFault 2 [] else s1)
      else s1.record 3 0x0100 0x0103 [n]
    else s)

/-- VALIDATION_RETRY (R550): 100 ms after the start of the failed attempt. -/
def execValidationRetry (s : State) : Host.Outcome State Fault Refusal :=
  .next (if !s.crt.attempt && !s.crt.xval && s.crtRuns then (s.advance (s.crt.attemptAt + 100000000)).attemptStart else s)

/-! ### The PLL, and what starts with it (R520, R522, R524, R549, R555) -/

/-- The control-area copy that REC uses: the valid one with the higher flush count (R524). -/
def State.ctlBest (s : State) : Option CtlCopy :=
  let a := s.rcd.ctlA
  let b := s.rcd.ctlB
  if a.valid && (!b.valid || decide (b.flushes ≤ a.flushes)) then some a
  else if b.valid then some b
  else none

/-- A CLEAR record and the recorder memory fault that follows it (R519, R522, R524). -/
def State.recFault (s : State) (path : Nat) (fault : Nat) : State :=
  ((s.record 3 0x0C00 0x0C03 [0, 0, 0, 0, 0, path]).evtRec 0).record 4 0x0C00 0x0C06 [fault]

/-- The density in MiB that the recorder memory reports is supported (R522). -/
def densityOk (d : Nat) : Bool := [1, 2, 4, 8, 16, 32].contains d

/-- REC at the start of TEST: it accepts records from here on (R520), and takes up its memory (R522, R524). -/
def State.recStart (s : State) (density : Option Nat) : State :=
  let s1 : State := { s with rcd.accepting := true, rcd.seqNext := 0, rcd.wepoch := 0, rcd.msize := 0 }
  match density with
  | none => s1.recFault 4 0
  | some d =>
    if densityOk d then
      let s2 : State := { s1 with rcd.msize := d }
      match s2.ctlBest with
      | some c => { s2 with rcd.seqNext := c.nextSeq, rcd.wepoch := c.wepoch }
      | none => ({ s2 with rcd.pages := [] } : State).recFault 3 2
    else s1.recFault 4 1

/-- DATA byte 0 of the start record (R472). -/
def startCode : StartCause → Nat
  | .powerUp => 0 | .resetN => 1 | .restart => 2

/-- PLL_LOCK (R549, R555). In CLOCK the lane passes to TEST; after a clock-loss SAFE the waiting records are created, and SUP
resumes unless a lockstep mismatch halted it (R556). -/
def execPllLock (density : Option Nat) (s : State) : Host.Outcome State Fault Refusal :=
  .next (if s.crt.xval && s.crtRuns then
      if s.lane.st = .clock && !s.crt.lock then
        let s1 : State := { s with crt.lock := true, lane.sfault := 0 }
        ((s1.setSt .test).recStart density).record 2 0x0200 0x0202 [startCode s.lane.startCause]
      else if s.crt.rootLost then
        let s1 := ({ s with crt.lock := true, crt.rootLost := false, crt.rootsel := false,
                            lane.supHalted := s.crt.monst.getLsbD 18 } : State).recordLate
        if s1.lane.safeLatch then s1.freezeEnd true else s1
      else s
    else s)

/-- ALIGN_REACHED (R546): a held rise of TIMEV takes place. -/
def execAlignReached (s : State) : Host.Outcome State Fault Refusal :=
  .next (if s.tae.ctOff.isSome && !s.crt.align && s.crt.lock then
      let s1 : State := { s with crt.align := true }
      if s1.crt.timevHeld then s1.timevRise else s1
    else s)

/-! ### Monitors and the reference (R551 to R555) -/

/-- The root's reference switches without a step: RSW and a record. -/
def State.refSwitch (s : State) (toRec : Bool) (why : Nat) : State :=
  (({ s with crt.rootsel := toRec } : State).evtCrt 0).record 3 0x0100 0x0101 [bitNat toRec, why]

/-- The bit of MONST, and DATA of record 0x0102 (R573, R576). -/
def monBit : Monitor → Nat
  | .xmon => 13 | .rmon => 14 | .pmon => 15 | .amon => 16 | .dmon d => d.val
def monData : Monitor → List Nat
  | .xmon => [0] | .rmon => [1] | .pmon => [2] | .dmon d => [3, d.val] | .amon => [4]

/-- The reactions of R554. -/
def State.monReact (s : State) : Monitor → State
  | .xmon =>
    if s.crt.rootsel then s.attemptStart
    else if s.crt.rval then (s.refSwitch true 2).attemptStart
    else s.clockLoss
  | .rmon =>
    if !s.crt.rootsel then s.recRevoke 0
    else if s.crt.xval then (s.refSwitch false 2).recRevoke 0
    else (s.recRevoke 0).clockLoss
  | _ => s.clockLoss

/-- The monitor watches: its reference validated or admitted (R553), the root running. -/
def State.monWatches (s : State) : Monitor → Bool
  | .xmon => s.crt.xval
  | .rmon => s.crt.rval
  | _ => true

/-- MONITOR_TRIP (R554). Where the root is lost with it, its record waits for a valid root. -/
def execMonitorTrip (m : Monitor) (s : State) : Host.Outcome State Fault Refusal :=
  .next (if s.crt.lock && s.crtRuns && s.monWatches m then
      let s1 := ({ s with crt.monst := putBit s.crt.monst (monBit m) true } : State).evtCrt 1
      (s1.monReact m).record 4 0x0100 0x0102 (monData m)
    else s)

/-- REFERENCE_SWITCH (R551): at the admission of the recovered clock, and at its revocation. -/
def execReferenceSwitch (toRecovered : Bool) (s : State) : Host.Outcome State Fault Refusal :=
  .next (if s.crt.lock && s.crtRuns then
      if toRecovered && s.crt.rval && !s.crt.rootsel then s.refSwitch true 0
      else if !toRecovered && s.crt.xval && !s.crt.rval && s.crt.rootsel then s.refSwitch false 1
      else s
    else s)

/-- A fault of a unit is classed lasting: the lane stays EXCLUDED (R33); in fall-back it goes on voting (R192). -/
def State.classLasting (s : State) (u : FaultUnit) : State :=
  if s.grd.gmode = .fallback then s
  else { s with lane.lasting := true, lane.implicated := some u }

/-- A lasting fault of CRT (R547, R561): a voting lane withdraws itself, and a lane that does not vote holds the fault. -/
def State.crtFault (s : State) : State :=
  if s.voting then s.withdraw .crt else s.classLasting .crt

/-- WATCH_OSC_MEASURE (R547): every 100 ms. -/
def execWatchOscMeasure (khz : Nat) (s : State) : Host.Outcome State Fault Refusal :=
  .next (if s.crt.lock && s.crtRuns then
      let s1 : State := { s.advance ((s.pins.now / 100000000 + 1) * 100000000) with crt.wosc := satTo 65535 khz }
      if 28800 ≤ khz ∧ khz ≤ 35200 then s1
      else
        let s2 := (({ s1 with crt.monst := putBit s1.crt.monst 17 true } : State).evtCrt 2).record 4 0x0100 0x0104 (le 4 khz)
        s2.crtFault
    else s)

/-! ### Supervisor lockstep (R556) -/

/-- A lockstep mismatch: SAFE with cause 0x06, SUP halted for good. -/
def State.lockstep (s : State) (kind d0 : Nat) : State :=
  let s1 : State := { s with crt.monst := putBit s.crt.monst 18 true, lane.supHalted := true }
  (s1.enterSafe 6).record 5 0x0100 0x0108 (kind :: le 4 d0)

/-- LOCKSTEP_MISMATCH and SUP_WATCHDOG_TIMEOUT, with the D0 cycle count that the record shows. -/
def execLockstepMismatch (kind : LockstepKind) (d0 : Word) (s : State) : Host.Outcome State Fault Refusal :=
  .next (if s.crt.lock && !s.lane.supHalted then s.lockstep (match kind with | .comparator => 0 | .sram => 1) d0.toNat else s)
def execSupWatchdogTimeout (d0 : Word) (s : State) : Host.Outcome State Fault Refusal :=
  .next (if s.crt.lock && !s.lane.supHalted then s.lockstep 2 d0.toNat else s)

/-! ### Soft reset of one block (R559 to R562) -/

/-- What a soft reset leaves of a block: its registers at their reset values, its CFG fields, loaded memories and REC's
buffer kept. -/
def State.blockReset (s : State) (k : Nat) : State :=
  match k with
  | 3 =>
    let w := s.freeWord.toNat
    let s1 := s.freeUsed.timevFall .lnbRx
    let s2 := if s1.tae.wallv then s1.wallStep s1.tae.woff false 2 else s1
    ({ s2 with tae := { Tae.reset with loopOn := s2.tae.loopOn, ctHeld := w, runFreq := nominalMhz s2.supNom, angAt := s2.pins.now,
                                       srcact := decide (s2.srcSel = 1) } } : State).angleSusp
  | 4 =>
    { s with lge := { Lge.reset with rep0 := s.lge.rep0, rep1 := s.lge.rep1 } }
  | 5 =>
    { s with grd := { Grd.reset with
        gmode := if s.grd.gmode = .notLoaded then .notLoaded else if s.grd.gmode = .fallback then .fallback else .checking,
        masked := s.grd.masked, armed := s.grd.armed, fbExit := s.grd.fbExit, crcAt := s.grd.crcAt, decAt := s.grd.decAt } }
  | 6 => { s with vio := { Vio.reset with vfbFrom := s.pins.now } }
  | 7 => { s.learnDone true with lmp := Lmp.reset }
  | 8 => { s with mea := { Mea.reset with bufon := s.mea.bufon, rdy := s.mea.rdy, monok := s.mea.monok, refFrom := s.mea.refFrom } }
  | 9 =>
    let s1 := s.timevFall .lnbRx
    let s2 : State := { s1 with lnb := Lnb.reset }
    if s.img.isSome ∧ s.lnb.bstate ≠ .config then s2.enterListen s2.listenR370 s2.pins.now else s2
  | 10 => { s with fld := { Fld.reset with keys := s.fld.keys, phyOut := s.fld.phyOut } }
  | 11 =>
    { s with cab := { Cab.reset with ctl := tabMap can0 (fun c _ =>
        { can0 with estate := if s.img.isSome && canEn s.station c then .active else .disabled }) s.cab.ctl } }
  | 12 =>
    { s with rcd := { Rec.reset with buf := s.rcd.buf, pages := s.rcd.pages, ctlA := s.rcd.ctlA, ctlB := s.rcd.ctlB,
                                     msize := s.rcd.msize, accepting := s.rcd.accepting, seqNext := s.rcd.seqNext,
                                     wepoch := s.rcd.wepoch, closed := s.rcd.closed, late := s.rcd.late } }
  | _ => s

/-- A soft reset of a block begins (R561 steps 1 to 3): the epoch tag increments, and the block is held in reset. -/
def State.softBegin (s : State) (k : Nat) : State :=
  let s1 := s.blockReset k
  { s1 with crt.inReset := putBit s1.crt.inReset k true,
            crt.epoch := tabUpd 0 k (fun e => (e + 1) % 16) s1.crt.epoch }

/-- Soft resets of several blocks, as SUP issues them after a run (R563). -/
def State.softBegins (s : State) : List Nat → State
  | [] => s
  | k :: ks => (s.softBegin k).softBegins ks

/-- The states in which a soft-reset command for a block is accepted (R560). -/
def State.srstState (s : State) (k : Nat) : Bool :=
  if [4, 8, 10, 11, 12].contains k then s.crtRuns && decide (s.lane.st ≠ .clock) && decide (s.lane.st ≠ .test)
  else if [3, 5, 6, 7, 9].contains k then
    match s.lane.st with | .load | .integrate | .stop | .hold | .safe => true | _ => false
  else false

/-- The write of CRT.SRST (R560). -/
def State.srstWrite (s : State) (k : Nat) : State :=
  if s.srstState k && s.crt.gate.getLsbD k && decide (s.crt.inReset = s.crt.stuck) && !s.crt.stuck.getLsbD k then
    { s.softBegin k with crt.srst := .running, crt.srstBlk := k }
  else { s with crt.srst := .refused }

/-- SOFT_RESET: the command of R560 from a session at Signalling Engineer level or above. -/
def execSoftReset (sid : BitVec 16) (blk : BitVec 4) (s : State) : Host.Outcome State Fault Refusal :=
  .next (s.command sid.toNat 0x010010 blk.toNat 3 fun t => t.srstWrite blk.toNat)

/-- The block whose soft reset ends next: the lowest code that is in reset and not held there. -/
def State.srstNext (s : State) : Option Nat :=
  (List.range 13).find? fun k => s.crt.inReset.getLsbD k && !s.crt.stuck.getLsbD k

/-- A run on GRD has ended: after the soft reset that follows it (R184, R561) the veto input is unmasked and the stall counter
armed afresh, unless the lane stays in fall-back. -/
def State.grdRunEnd (s : State) : State :=
  if s.grd.gmode = .fallback || s.crt.inReset.getLsbD 5 then s
  else { s with grd.masked := false, grd.armed := true, grd.decAt := s.pins.now }

/-- The end of a block's soft reset: released, or held in reset with a lasting fault (R561). A gate write that came meanwhile
takes effect (R560). -/
def State.srstEnd (s : State) (k : Nat) (ok : Bool) : State :=
  let own := decide (s.crt.srst = .running) && decide (s.crt.srstBlk = k)
  let s1 : State := { s with crt.srst := if own then (if ok then .completed else .failed) else s.crt.srst }
  let s2 := if own then s1.cmdEnd else s1
  let s3 : State :=
    if ok then
      { s2 with crt.inReset := putBit s2.crt.inReset k false,
                crt.closing := if s2.crt.clken.getLsbD k then s2.crt.closing else putBit s2.crt.closing k true }
    else { s2 with crt.stuck := putBit s2.crt.stuck k true }
  let s3 := if ok ∧ k = 7 then s3.angleSusp.suspChecks (List.range 32) else s3
  let s3 := if ok ∧ k = 5 ∧ s3.img.isSome ∧ (s3.crt.test.all fun t => decide (t.unit ≠ .grd)) then s3.grdRunEnd else s3
  let s4 := (s3.evtCrt 4).record 2 0x0100 0x0105 [k, if ok then 2 else 4]
  if ok then s4 else s4.crtFault

/-- SOFT_RESET_DONE (R561): the comparison of step 4 ends. -/
def execSoftResetDone (crcEqual : Bool) (s : State) : Host.Outcome State Fault Refusal :=
  .next (match s.srstNext with | some k => s.srstEnd k crcEqual | none => s)

/-! ### Clock gates (R557, R558) -/

/-- One enable bit written. In PROVE and RUN a 0 for GRD, VIO, LMP, TAE or LNB is dropped. -/
def State.clkenBit (s : State) (k : Nat) (b : Bool) : State :=
  if b then
    if s.crt.clken.getLsbD k then s
    else
      let s1 : State :=
        { s with crt.clken := putBit s.crt.clken k true, crt.gate := putBit s.crt.gate k true,
                 crt.closing := putBit s.crt.closing k false }
      if s1.crt.inReset.getLsbD k then s1 else s1.softBegin k
  else if !s.crt.clken.getLsbD k ||
      ([3, 5, 6, 7, 9].contains k && (decide (s.lane.st = .prove) || decide (s.lane.st = .run))) then s
  else
    { s with crt.clken := putBit s.crt.clken k false,
             crt.closing := if s.crt.inReset.getLsbD k then s.crt.closing else putBit s.crt.closing k true }

/-- CRT.CLKEN written whole: the bits of CRT and SUP are ignored. -/
def State.clkenBits (s : State) (v : Word) : List Nat → State
  | [] => s
  | k :: ks => (s.clkenBit k (v.getLsbD k)).clkenBits v ks
def State.clkenWrite (s : State) (v : Word) : State := s.clkenBits v ((List.range 10).map fun i => i + 3)

/-- GATE_CLOSE_WRITE and GATE_OPEN_WRITE: the write of CRT.CLKEN by a session at Signalling Engineer level or above. -/
def execGateCloseWrite (sid : BitVec 16) (value : Word) (s : State) : Host.Outcome State Fault Refusal :=
  .next (s.command sid.toNat 0x010004 value.toNat 3 fun t => t.clkenWrite value)
def execGateOpenWrite (sid : BitVec 16) (value : Word) (s : State) : Host.Outcome State Fault Refusal :=
  .next (s.command sid.toNat 0x010004 value.toNat 3 fun t => t.clkenWrite value)

/-- GATE_CLOSED (R558 step 3). -/
def execGateClosed (code : Fin 13) (s : State) : Host.Outcome State Fault Refusal :=
  .next (if s.crt.closing.getLsbD code.val then
      { s with crt.closing := putBit s.crt.closing code.val false, crt.gate := putBit s.crt.gate code.val false }
    else s)

/-! ### Self-test (R563 to R570) -/

/-- Unit codes of record 0x0106 and of BISTRES. -/
def unitCode : FaultUnit → Nat
  | .lge => 0 | .lgeMem => 1 | .grd => 2 | .io => 3 | .lnbRx => 4 | .crt => 5

/-- The blocks of a run, which SUP soft-resets after it. -/
def unitBlocks : FaultUnit → List Nat
  | .lge => [4] | .grd => [5] | .io => [6, 7, 8] | _ => []

/-- The coverage of a run in 0.1 % (R563); for the tests that the spec gives none for it is free (entry 6). -/
def State.coverage (s : State) : FaultUnit → Nat
  | .lge => 965 | .grd => 980 | .io => 955 | _ => s.freeWord.toNat % 1024

/-- The result of a test is shown and recorded (R573, R581). -/
def State.testReport (s : State) (t : SelfTest) (fail lasting : Bool) (duration : Nat) : State :=
  let u := unitCode t.unit
  let cov := s.coverage t.unit
  let d := satTo 4095 duration
  let s1 := (if unitBlocks t.unit = [] then s.freeUsed else s)
  let s2 : State :=
    { s1 with crt.bistres := BitVec.ofNat 32 (cov * 4194304 + d * 1024 + u * 128 + 4 * bitNat t.planned + 2 * bitNat lasting + bitNat fail) }
  (s2.evtCrt 5).record 4 0x0100 0x0106
    ([u, bitNat fail + 2 * bitNat lasting + 4 * bitNat t.planned] ++ le 2 cov ++ le 2 (satTo 65535 duration))

/-- Transients of a unit within 24 h (R568). -/
def State.transOf (s : State) (u : FaultUnit) : Nat := (s.liveTrans.filter fun x => decide (x.unit = u)).length

/-- A fault of a unit is classed transient: it is counted, and the lane requests reintegration, or GRD is to return to normal
checking (R192). -/
def State.classTransient (s : State) (u : FaultUnit) : State :=
  let s1 : State := { s with crt.trans := s.crt.trans ++ [{ unit := u, at_ := s.mono }] }
  if s1.grd.gmode = .fallback then { s1 with grd.fbExit := some 1 }
  else if s1.lane.st = .run ∧ s1.lane.role = .excluded then
    ({ s1 with lane.reintReq := true, lane.implicated := none, lane.implicatedMem := false } : State).requestEntry
  else { s1 with lane.implicated := none }

/-- The status of a planned run, where BISTCMD or SUP asked for it. -/
def State.plannedEnd (s : State) (pass : Bool) : State :=
  let s1 := ({ s with crt.bist := if pass then .completed else .failed } : State).cmdEnd
  if pass then
    (if s1.lane.st = .run ∧ s1.lane.role = .excluded then ({ s1 with lane.reintReq := true } : State).requestEntry else s1)
  else s1

/-- A self-test ends. For GATHMIS the test of the memory bank follows the one of GRD, and the fault is GRD's (R567, R568). -/
def State.testEnd (s : State) (t : SelfTest) (pass : Bool) (duration : Nat) : State :=
  let u := if t.second && pass then FaultUnit.grd else if t.second then FaultUnit.lge else t.unit
  let lasting := !pass || (!t.planned && decide (3 ≤ s.transOf u))
  let s0 := { s with crt.test := none }.testReport t (!pass) (lasting && !(t.thenMem && pass)) duration
  let s1 := s0.softBegins (unitBlocks t.unit)
  let s2 := if t.unit = .grd then s1.grdRunEnd else s1
  if t.planned then (if pass then s2 else s2.classLasting t.unit).plannedEnd pass
  else if t.thenMem && pass then
    { s2 with crt.test := some { unit := .lgeMem, planned := false, thenMem := false, inFallback := t.inFallback,
                                 second := true, startAt := s2.pins.now } }
  else
    let s3 : State := if t.second ∧ pass = false then (s2.evtLge 3) else s2
    if lasting then s3.classLasting u else s3.classTransient u

/-- SELFTEST_END (R568), with the duration in 0.1 ms. -/
def execSelftestEnd (pass : Bool) (duration : Nat) (s : State) : Host.Outcome State Fault Refusal :=
  .next (match s.crt.test with
    | some t => (s.advance (t.startAt + duration * 100000)).testEnd t pass duration
    | none => s)

/-- TRANSIENT_AGE_OUT (R568): the oldest transient of a unit leaves the count after 24 h of MONO. -/
def faultUnitOf : Fin 5 → FaultUnit
  | 0 => .lge | 1 => .lgeMem | 2 => .grd | 3 => .io | 4 => .lnbRx
def execTransientAgeOut (unit : Fin 5) (s : State) : Host.Outcome State Fault Refusal :=
  .next (match s.crt.trans.find? fun x => decide (x.unit = faultUnitOf unit) with
    | some x => { s.advance ((x.at_ + 86400000000) * 1000) with crt.trans := s.crt.trans.erase x }
    | none => s)

/-- The lane is between T_commit and 100 µs before the next T0 (R564), or does not run logic cycles. -/
def State.idleTime (s : State) : Bool :=
  decide (s.lane.st ≠ .run) || (decide (10 ≤ s.tae.phase) && decide (s.ct + 100000 ≤ s.inp.t0 + s.logicNs))

/-- BGMT of LGE.CTRL (R134). -/
def State.bgmt (s : State) : Bool := bit (s.cfg 0x040000 2) 1

/-- A chunk that failed raises the uncorrectable error of its memory (R131, R186, R556, R564). A memory that no rule gives such
an error has none. -/
def State.memFault (s : State) : BistMemory → State
  | .lgeProgram => (s.evtLge 2).withdraw .lge
  | .lgeState => (s.evtLge 3).withdraw .lge
  | .supSram => s.freeUsed.lockstep 1 s.freeWord.toNat
  | .guardian => (s.guardianEvent 6).guardianFault false
  | .other => s

/-- MBIST_CHUNK (R564): in idle time, in LGE memory only with BGMT. A chunk on LGE memory also serves the scrub and March test
that R131 asks for, which ends as a self-test of that bank (R567). -/
def execMbistChunk (mem : BistMemory) (ok : Bool) (s : State) : Host.Outcome State Fault Refusal :=
  let lge := decide (mem = .lgeProgram) || decide (mem = .lgeState)
  .next (if s.idleTime && s.crt.lock && (!lge || s.bgmt || s.lge.marchDue) then
      let s1 : State := if lge then { s with lge.marchDue := false } else s
      let s2 := if lge && s.lge.marchDue then
          s1.testReport { unit := .lgeMem, planned := false, thenMem := false, inFallback := false, second := false, startAt := s.pins.now }
            (!ok) false 20
        else s1
      if ok then s2 else s2.memFault mem
    else s)

/-- REPLICA_COMPARE (R102): the comparison finds a difference. One that ECC cannot attribute to one replica withdraws the lane;
the other kind is mended. The replicas' faults are no part of the model's contents, so the command says that there is one. -/
def execReplicaCompare (attributable : Bool) (s : State) : Host.Outcome State Fault Refusal :=
  .next (if s.idleTime && s.bgmt && !s.lge.split && s.blockLive 4 then
      if attributable then s else (s.evtLge 8).withdraw .lge
    else s)

/-! ### Planned logic BIST (R569, R570) -/

/-- The group of a planned run. -/
def groupUnit (g : Nat) : FaultUnit := match g with | 0 => .lge | 1 => .grd | _ => .io

/-- The test of a planned run starts, with its first pattern at a clock. -/
def State.plannedTest (s : State) (at_ : Nat) : State :=
  let u := groupUnit s.crt.bistGrp
  let s1 : State :=
    { s with crt.bist := .running, crt.bistWait := false,
             crt.test := some { unit := u, planned := true, thenMem := false, inFallback := false, second := false, startAt := at_ } }
  if u = .grd then { s1 with grd.masked := true, grd.armed := false } else s1

/-- A planned run is asked for: in STOP it starts at once, in RUN it waits, and elsewhere it is refused. A refusal leaves a run
that was accepted as it is; its final status replaces the answer (R9). -/
def State.bistWrite (s : State) (g : Nat) : State :=
  if s.crt.bistWait ∨ s.crt.test.isSome = true then { s with crt.bist := .refused }
  else if s.lane.st = .stop then ({ s with crt.bistGrp := g } : State).plannedTest s.pins.now
  else if s.lane.st = .run then { s with crt.bist := .waiting, crt.bistGrp := g, crt.bistWait := true }
  else { s with crt.bist := .refused }

/-- The abort of a planned run (R570): before its first pattern it ends ABORTED, and a lane that had withdrawn requests
reintegration; from the first pattern on the abort is answered COMPLETED and the run goes on (R8, entry 22). -/
def State.bistAbortWrite (s : State) : State :=
  if s.crt.bistWait then ({ s with crt.bist := .aborted, crt.bistWait := false } : State).cmdEnd
  else
    match s.crt.test with
    | some t =>
      if t.planned && decide (s.pins.now < t.startAt) then
        let s1 := ({ s with crt.test := none, crt.bist := .aborted } : State).grdRunEnd.cmdEnd
        if s1.lane.st = .run ∧ s1.lane.role = .excluded then ({ s1 with lane.reintReq := true } : State).requestEntry else s1
      else if t.planned then { s with crt.bist := .completed }
      else s
    | none => s

/-- BIST_REQUEST and BIST_ABORT: the commands of R580 from a session at Maintainer level or above. -/
def execBistRequest (sid : BitVec 16) (grp : Fin 3) (s : State) : Host.Outcome State Fault Refusal :=
  .next (s.command sid.toNat 0x010020 (16 * grp.val + 1) 2 fun t => t.bistWrite grp.val)
def execBistAbort (sid : BitVec 16) (s : State) : Host.Outcome State Fault Refusal :=
  .next (s.command sid.toNat 0x010020 2 2 fun t => t.bistAbortWrite)

/-- BISTPER of CRT.BCFG in hours (R580). -/
def State.bistper (s : State) : Nat := s.cfgField 0x010024 0 0 8

/-- BISTPER_EXPIRE (R569): BISTPER hours after the last time, or after the image was loaded, SUP asks for the next group of its
rotation, where none waits or runs. -/
def execBistperExpire (s : State) : Host.Outcome State Fault Refusal :=
  .next (if s.bistper ≠ 0 ∧ s.crtRuns = true ∧ s.img.isSome = true then
      let s0 := s.advance (s.crt.bistAt + s.bistper * 3600000000000)
      let s1 : State := { s0 with crt.bistAt := s0.pins.now }
      if s1.crt.bistWait = false ∧ s1.crt.test = none ∧ (s1.lane.st = .run ∨ s1.lane.st = .stop) then
        { s1.bistWrite s1.crt.bistNext with crt.bistNext := (s1.crt.bistNext + 1) % 3 }
      else s1
    else s)

/-- A health word that permits a planned run in its set (R569). -/
def hPlanned (h : Nat) : Bool := hVoting h && decide (bits h 13 3 = 7) && bit h 12 && !bit h 16

/-- The logic cycle whose T_commit is this instant, where its commit has taken place. -/
def State.commitNow (s : State) : Option Nat :=
  let d := s.ct - s.cycC * s.basicNs
  let n := d / s.logicNs
  if s.hasCt && decide (d % s.logicNs < 10) && decide (s.cycC * s.basicNs ≤ s.ct) && decide (s.lane.commitDue ≠ some (n * s.logicNs)) then some n
  else none

/-- PLANNED_BIST_START (R569): at T_commit(n) with n mod 3 = i, every lane of the set healthy in the basic cycle that ends
there. The lane withdraws there; the first pattern follows one D11 tick later (entry 22). -/
def execPlannedBistStart (s : State) : Host.Outcome State Fault Refusal :=
  .next (match s.commitNow with
    | some n =>
      if s.crt.bistWait = true ∧ s.crt.test = none ∧ s.voting = true ∧ n % 3 = s.lid ∧
          (s.setNodes.all fun k => match s.heard (n * s.cycL + s.cycC - 1) k with | some h => hPlanned h | none => false) = true then
        s.withdrawPlanned.plannedTest (s.pins.now + 10)
      else s
    | none => s)

/-! ### Fuses (R571, R572, R622) -/

/-- VFUSE_CHANGE (R622). -/
def execVfuseChange (present : Bool) (s : State) : Host.Outcome State Fault Refusal := .next { s with crt.vfuse := present }

/-- CRT.FUSE.VFOK (R583). -/
def State.vfok (s : State) : Bool := s.crt.vfuse && s.crtRuns

/-- SUP may start a fuse step: VFUSE present, SUP running, and no power-fail SAFE (R622, R626). -/
def State.fuseReady (s : State) : Bool := s.vfok && s.supServes && !(s.lane.safeLatch && s.lane.smask.testBit 3)

/-- SV_BURN_STEP (R572): a step is burned and read back. Without VFUSE it is left for the next entry to RUN. The record is
written when the burn ends. -/
def execSvBurnStep (readBack : Bool) (s : State) : Host.Outcome State Fault Refusal :=
  .next (match s.crt.svTarget with
    | some g =>
      if !s.fuseReady then { s with crt.svTarget := none }
      else if s.crt.sv < g ∧ s.crt.sv < 255 then
        if readBack then
          let s1 := ({ s with crt.sv := s.crt.sv + 1 } : State).evtCrt 6
          if s1.crt.sv < g then s1 else ({ s1 with crt.svTarget := none } : State).record 2 0x0100 0x0107 [s1.crt.sv, 0]
        else (({ s with crt.burnf := true, crt.svTarget := none } : State).evtCrt 6).record 2 0x0100 0x0107 [s.crt.sv, 1]
      else { s with crt.svTarget := none }
    | none => s)

/-- PUBK of the block 0 that SUP last read, as its digest. -/
def State.keyDigest (s : State) : Option W256 := s.upd.hdr.map fun h => Config.sha256 h.pubk

/-- The write of CRT.FCMD with KEYBURN (R571). -/
def State.keyburnWrite (s : State) : State :=
  match s.keyDigest with
  | some d =>
    if (s.mode = 1 ∨ s.mode = 3) ∧ s.crt.ikd = none ∧ s.vfok = true then
      ({ s with crt.ikd := some d, crt.fcmd := .completed } : State).cmdEnd
    else { s with crt.fcmd := .refused }
  | none => { s with crt.fcmd := .refused }

/-- KEYBURN: the command of R571 from a session at Signalling Engineer level or above. -/
def execKeyburn (sid : BitVec 16) (s : State) : Host.Outcome State Fault Refusal :=
  .next (s.command sid.toNat 0x010034 1 3 fun t => t.keyburnWrite)

end Sys2Proof.Machine
end

