-- ==== Sys2Proof/Machine/Start.lean ====
section
/-! DEFINITION. Power, RESET_N, straps, the restart out of SAFE, consent and PFAIL_N (the chapters "Lanes, Sets and the Safe
State", "Straps, Station Image and Start-Up" and "Electrical Characteristics and Package"). -/

namespace Sys2Proof.Machine

/-! ### The resets of the whole lane (R559, R643) -/

/-- Everything at its reset value, but for the fuses, the recorder memory, the flash, the pins, MONO, and the model's own
counters. Records in the buffer are lost. -/
def State.wholeReset (s : State) (x : LaneState) (why : StartCause) : State :=
  { State.reset with
    pins := { Pins.reset with powered := s.pins.powered, lowRails := s.pins.lowRails, resetN := s.pins.resetN,
                              pfailHigh := s.pins.pfailHigh, restartAt := s.pins.now, now := s.pins.now, free := s.pins.free,
                              sent := s.pins.sent },
    lane := { Lane.reset with st := x, startCause := why },
    crt := { Crt.reset with ikd := s.crt.ikd, sv := s.crt.sv, devid := s.crt.devid, rpr := s.crt.rpr, vfuse := s.crt.vfuse },
    sup := { Sup.reset with drawn := s.sup.drawn, nextSess := s.sup.nextSess },
    rcd := { Rec.reset with pages := s.rcd.pages, ctlA := s.rcd.ctlA, ctlB := s.rcd.ctlB },
    upd := { Upd.reset with slot0 := s.upd.slot0, slot1 := s.upd.slot1 },
    pending := s.pending }

/-- POWER_ON (R623, R474): the rails have risen, and the lane is held in RESET with RESET_N low. MONO starts at zero (R518).
The filters of PFAIL_N and RESTART have settled by then (entry 4). -/
def execPowerOn (pfailHigh restartHigh : Bool) (s : State) : Host.Outcome State Fault Refusal :=
  .next (if s.pins.powered then s
    else
      let s1 := s.wholeReset .reset .powerUp
      { s1 with pins.powered := true, pins.lowRails := [], pins.resetN := false, pins.now := 0, pins.restartAt := 0,
                pins.pfailHigh := pfailHigh, pins.restartLvl := restartHigh })

/-- LOSS_OF_POWER (R474): from any state to OFF. -/
def execLossOfPower (s : State) : Host.Outcome State Fault Refusal :=
  .next (if s.pins.powered then
      let s1 := s.wholeReset .off .powerUp
      { s1 with pins.powered := false, pins.lowRails := [], pins.resetN := false, pins.pfailHigh := false,
                crt.vfuse := false }
    else s)

/-- RESET_N low, or what has its effect (R559, R623). A lane that was held in RESET since power-on keeps that cause. -/
def State.resetLow (s0 : State) : State :=
  let s := if s0.grd.gmode = .fallback then s0.fallbackRecord 5 else s0
  s.wholeReset .reset (if s.lane.st = .reset && !s.lane.strapAcc then s.lane.startCause else .resetN)

/-- RESET_N_LOW (R559). -/
def execResetNLow (s : State) : Host.Outcome State Fault Refusal :=
  .next (if s.pins.powered then { s.resetLow with pins.resetN := false } else s)

/-- RAIL_BELOW_THRESHOLD and RAIL_ABOVE_THRESHOLD (R623). -/
def execRailBelow (r : Rail) (s : State) : Host.Outcome State Fault Refusal :=
  .next (if s.pins.powered then
      let s1 := s.resetLow
      { s1 with pins.lowRails := if s.pins.lowRails.contains r then s.pins.lowRails else s.pins.lowRails ++ [r] }
    else s)
def execRailAbove (r : Rail) (s : State) : Host.Outcome State Fault Refusal :=
  .next (if s.pins.powered then { s with pins.lowRails := s.pins.lowRails.filter fun x => decide (x ≠ r) } else s)

/-! ### Straps (R453 to R455) -/

/-- Three samples of every strap, 32 watch-oscillator periods apart. Where they agree the straps take effect and the lane
passes to CLOCK; after 16 disagreeing attempts it stays with start fault 0x01. -/
def State.strapSample (s : State) (s0 s1 s2 : BitVec 14) : State :=
  let t := s.advance (s.pins.now + 2000)
  if s0 = s1 ∧ s1 = s2 then
    (({ t with lane.pin := s0, lane.eff := s0, lane.strapAcc := true, lane.strapTry := 0 } : State).setSt .clock).attemptStart
  else
    let n := t.lane.strapTry + 1
    if 16 ≤ n then ({ t with lane.strapTry := n, lane.sfault := 1 } : State).attn 4
    else { t with lane.strapTry := n }

/-- What holds the lane in RESET apart from the straps: RESET_N, a low rail, and PFAIL_N low with PFEN strapped (R623, R627). -/
def State.resetHeld (s : State) (pfen : Bool) : Bool :=
  !s.pins.resetN || decide (s.pins.lowRails ≠ []) || (pfen && !s.pins.pfailHigh)

/-- RESET_N_RISE (R454): unless something else holds the lane in RESET, the straps are sampled. -/
def execResetNRise (s0 s1 s2 : BitVec 14) (s : State) : Host.Outcome State Fault Refusal :=
  .next (if s.pins.powered && !s.pins.resetN && decide (s.lane.st = .reset) then
      let t : State := { s with pins.resetN := true }
      if t.resetHeld (s0.getLsbD 11) then t else t.strapSample s0 s1 s2
    else s)

/-- STRAP_RESAMPLE (R454): after disagreeing samples every 1 ms, and when another hold in RESET has ended. -/
def execStrapResample (s0 s1 s2 : BitVec 14) (s : State) : Host.Outcome State Fault Refusal :=
  .next (if s.pins.powered && decide (s.lane.st = .reset) && !s.lane.strapAcc && decide (s.lane.strapTry < 16) &&
      !s.resetHeld (s0.getLsbD 11) then
      (if s.lane.strapTry = 0 then s else s.advance (s.pins.now + 1000000)).strapSample s0 s1 s2
    else s)

/-! ### RESTART (R40 to R42, R227) -/

/-- Every session ends at a reset; its record (R605). -/
def State.sessionsEndReset (s : State) : List Session → State
  | [] => s
  | x :: xs => (if x.st = .opened then s.record 1 0x0200 0x0211 [x.path, 3] else s).sessionsEndReset xs

/-- The restart of R42: its record, whose code the spec does not give (entry 26), the command COMPLETED, a flush of the buffer,
the reset, the SAFE latch cleared, and the straps sampled. -/
def State.restartRun (s : State) (s0 s1 s2 : BitVec 14) : State :=
  let w := s.freeWord.toNat
  let f := if s.grd.gmode = .fallback then s.freeUsed.fallbackRecord 5 else s.freeUsed
  let a := (({ f with lane.ctl := .completed, lane.window := false } : State).record (bits w 16 3 % 6) 0x0200
    (bits w 0 16) []).cmdEnd
  let b := (a.sessionsEndReset a.sup.sessions).flushNow true
  let c := b.wholeReset .reset .restart
  let d : State := { c with lane.restarted := true, pins.restartLvl := true }
  if d.resetHeld (s0.getLsbD 11) then d else d.strapSample s0 s1 s2

/-- RESTART_FILTERED_CHANGE (R41, R227). A rise after a qualified low is the qualified edge: inside an armed window it restarts
the lane, whose straps are then read as `s0`, `s1`, `s2`; otherwise it is recorded. -/
def execRestartFilteredChange (level : Bool) (s0 s1 s2 : BitVec 14) (s : State) : Host.Outcome State Fault Refusal :=
  .next (if s.pins.powered && decide (s.pins.restartLvl ≠ level) then
      if level then
        let t : State := { s with pins.restartLvl := true, pins.restartQual := false }
        if s.pins.restartQual then
          let t1 := t.evtVio 6
          if t1.lane.window && t1.lane.safeLatch && !t1.lane.supHalted && decide (t1.pins.now ≤ t1.lane.windowAt + 60000000000) then
            t1.restartRun s0 s1 s2
          else t1.record 2 0x0600 0x0607 []
        else t
      else { s with pins.restartLvl := false, pins.restartQual := false, pins.restartAt := s.pins.now }
    else s)

/-- RESTART_QUALIFIED (R41): 17,600,000 watch-oscillator periods, 550 ms nominal, of filtered low. -/
def execRestartQualified (s : State) : Host.Outcome State Fault Refusal :=
  .next (if s.pins.powered && !s.pins.restartLvl && !s.pins.restartQual then
      { s.advance (s.pins.restartAt + 550000000) with pins.restartQual := true }
    else s)

/-- RESTART_WINDOW_EXPIRE (R42): 60 s without a qualified edge. -/
def execRestartWindowExpire (s : State) : Host.Outcome State Fault Refusal :=
  .next (if s.lane.window then
      ({ s.advance (s.lane.windowAt + 60000000000) with lane.window := false, lane.ctl := .failed } : State).cmdEnd
    else s)

/-! ### Consent (R23, R25) -/

/-- The level that the loss detector of XIN k declares. -/
def State.setCons (s : State) (k : Fin 2) (b : Bool) : State :=
  if k.val = 0 then { s with lane.cons0 := b } else { s with lane.cons1 := b }

/-- CONSENT_LOST (R23, R25): lost on both XIN, a lane in RUN enters SAFE, and one that another cause has taken out of RUN within
the last 1 µs has the loss in its mask (R34). -/
def execConsentLost (k : Fin 2) (s : State) : Host.Outcome State Fault Refusal :=
  .next (if s.pins.powered then
      let s1 := s.setCons k false
      let run := decide (s1.lane.st = .run) || (s1.lane.safeLatch && s1.lane.safeRun)
      if run && !s1.lane.cons0 && !s1.lane.cons1 then s1.enterSafe 2 else s1
    else s)

/-- CONSENT_PRESENT (R23): 64 watch-oscillator periods without a loss condition, 2 µs nominal. -/
def execConsentPresent (k : Fin 2) (s : State) : Host.Outcome State Fault Refusal :=
  .next (if s.pins.powered then (s.advance (s.pins.now + 2000)).setCons k true else s)

/-! ### PFAIL_N (R521, R625 to R627) -/

/-- The recorder's power-fail sequence (R521): its record, with the records not flushed at the fall; and the end of a freeze and
of a clear sequence. -/
def State.pfailRecord (s : State) : State :=
  let n := s.rcd.buf.length
  let s1 := s.freezeEnd true
  let s2 := if s1.rcd.legStat = 1 then s1.legVoid else s1
  s2.record 4 0x0C00 0x0C07 (le 2 n)

/-- PFAIL_N_FALL (R626): with PFEN in effect, in CLOCK and every later state, SAFE with cause 0x04; the flush of R521, after
which REC accepts no record. Without a root clock the recorder does not run (R555). -/
def execPfailFall (s : State) : Host.Outcome State Fault Refusal :=
  .next (if s.pins.powered then
      let s1 : State := { s with pins.pfailHigh := false }
      if s1.pfen && s1.crtRuns && s1.crt.rootLost then s1.enterSafe 4
      else if s1.pfen && s1.crtRuns then
        let s2 := (s1.pfailRecord.enterSafe 4).flushNow true
        { s2.evtRec 5 with rcd.closed := true }
      else s1
    else s)

/-- PFAIL_N_RISE (R627): it ends the hold in RESET; in later states nothing follows from it. -/
def execPfailRise (s : State) : Host.Outcome State Fault Refusal :=
  .next (if s.pins.powered then { s with pins.pfailHigh := true } else s)

end Sys2Proof.Machine
end

