-- ==== Sys2Proof/Machine/Content.lean ====
section
/-! DEFINITION. The content rules of R470 and the schedule rules R70 and R340, by which SUP refuses an image in LOAD (R469,
codes 0x1B and 0x1C). Each receiving subsystem has one check; the lane that judges has the image's content in place. -/

namespace Sys2Proof.Machine

/-- A relation holds between every element of a list and every later one. -/
def pairwiseB {α : Type} (f : α → α → Bool) : List α → Bool
  | [] => true
  | x :: xs => xs.all (f x) && pairwiseB f xs

/-- No number occurs twice. -/
def distinct (l : List Nat) : Bool := pairwiseB (fun a b => decide (a ≠ b)) l

/-- Ranges of first cell and length do not overlap. -/
def apart (l : List (Nat × Nat)) : Bool :=
  pairwiseB (fun a b => decide (a.2 = 0 ∨ b.2 = 0 ∨ a.1 + a.2 ≤ b.1 ∨ b.1 + b.2 ≤ a.1)) l

/-! ### The logic program (R94, R101, R107, R144 to R153, R166) -/

/-- Format K (R144, R149). -/
def insIsK (w : Word) : Bool := !insKhi w && ((0x20 ≤ insOp w && insOp w ≤ 0x25) || insOp w = 0x28)

/-- What the static rules need of an instruction. -/
structure InsForm where
  /-- A load form (R151). -/
  load : Bool
  opens : Bool
  closes : Bool
  /-- acc is defined after it. -/
  accAfter : Bool
  /-- Store-buffer entries at most (R107, R149). -/
  entries : Nat
  deriving DecidableEq, Repr

/-- The cell exists, is of the kind and is not reserved (R94, R150). -/
def operandOk (st : Station) (k : CellKind) (a : Nat) : Bool := decide (cellKind a = some k) && decide (cellClass st a ≠ .reserved)

/-- The form of an instruction other than KHI, FENCE and END; none where R94, R101, R148 or R150 refuses it. -/
def insForm (st : Station) (w : Word) : Option InsForm :=
  let a := insA w
  let m := insM w
  let n := insN w
  let plain (load : Bool) (k : Nat) : InsForm := { load := load, opens := false, closes := false, accAfter := true, entries := k }
  let when (c : Bool) (f : InsForm) : Option InsForm := if c && (!insRs w || f.load) then some f else none
  match insOp w with
  | 0x08 => when (decide (m ≠ 3) && operandOk st .bit a) (plain (m = 0) 0)
  | 0x09 => when (decide (m = 0) && decide (a = 0)) (plain true 0)
  | 0x0C => when ((m = 1 || m = 2) && operandOk st .bit a) { plain false 0 with opens := true }
  | 0x0D => when ((m = 1 || m = 2) && !n && decide (a = 0)) { plain false 0 with opens := true, accAfter := false }
  | 0x0E => when (decide (m = 0) && decide (a = 0)) { plain false 0 with closes := true }
  | 0x10 => when (decide (m = 0) && operandOk st .bit a && storable st a) (plain false 1)
  | 0x11 | 0x12 => when (decide (m = 0) && !n && operandOk st .bit a && storable st a) (plain false 1)
  | 0x18 | 0x19 => when (decide (m = 0) && !n && operandOk st .timer a) (plain false 2)
  | 0x1A | 0x1B => when (decide (m ≠ 3) && operandOk st .timer a) (plain (m = 0) 0)
  | 0x1C | 0x1D => when (decide (m = 0) && !n && operandOk st .edge a) (plain false 1)
  | 0x20 | 0x21 | 0x22 | 0x23 | 0x24 | 0x25 => when (decide (insKm w ≠ 3) && operandOk st .word (insW w)) (plain (insKm w = 0) 0)
  | 0x28 => when (decide (insKm w = 0) && operandOk st .word (insW w) && storable st (insW w)) (plain false 1)
  | _ => none

/-- Where the static check of a program stands. -/
structure ProgChk where
  /-- A rung has begun (R151), with its instructions so far, its depth and whether acc is defined. -/
  inRung : Bool
  len : Nat
  depth : Nat
  acc : Bool
  /-- A KHI waits for its instruction (R147). -/
  khi : Bool
  /-- Entries of the region, the most of any region so far, FENCE instructions, END seen. -/
  entries : Nat
  most : Nat
  fences : Nat
  ended : Bool
  deriving DecidableEq, Repr

def ProgChk.start : ProgChk :=
  { inRung := false, len := 0, depth := 0, acc := false, khi := false, entries := 0, most := 0, fences := 0, ended := false }

/-- One instruction of a program; none where a rule refuses it. -/
def progStep (st : Station) (c : ProgChk) (w : Word) : Option ProgChk :=
  if c.ended then none
  else if insKhi w then (if c.khi || decide (bits w.toNat 25 6 ≠ 0) then none else some { c with khi := true })
  else if insFence w || insEnd w then
    if c.khi || decide (bits w.toNat 0 24 ≠ 0) || decide (c.depth ≠ 0) then none
    else some { ProgChk.start with most := c.most, fences := c.fences + bitNat (insFence w), ended := insEnd w }
  else
    match insForm st w with
    | none => none
    | some f =>
      let rs := insRs w
      let len := (if rs then 0 else c.len) + 1 + bitNat c.khi
      let depth := if f.opens then c.depth + 1 else if f.closes then c.depth - 1 else c.depth
      if (c.khi && !insIsK w) || (rs && decide (c.depth ≠ 0)) || (!rs && !c.inRung) || decide (256 < len) ||
          (!f.load && !c.acc) || (f.opens && decide (c.depth = 16)) || (f.closes && decide (c.depth = 0)) ||
          decide (1536 < c.entries + f.entries) then none
      else some { inRung := true, len := len, depth := depth, acc := f.accAfter, khi := false,
                  entries := c.entries + f.entries, most := max c.most (c.entries + f.entries), fences := c.fences,
                  ended := false }

def progRun (st : Station) (c : ProgChk) : List Word → Option ProgChk
  | [] => some c
  | w :: ws => match progStep st c w with | none => none | some c1 => progRun st c1 ws

/-- Timer and edge cells named by TON, TOF, EDGR and EDGF (R107, R116). -/
def progNames (p : List Word) : List Nat :=
  p.filterMap fun w => if !insKhi w && [0x18, 0x19, 0x1C, 0x1D].contains (insOp w) then some (insA w) else none

/-- Bit and word cells that the program reads, and those it stores to. -/
def progReads (p : List Word) : List Nat :=
  p.filterMap fun w =>
    if insKhi w then none
    else if insOp w = 0x08 ∨ insOp w = 0x0C then some (insA w)
    else if 0x20 ≤ insOp w ∧ insOp w ≤ 0x25 then some (insW w)
    else none
def progStores (p : List Word) : List Nat :=
  p.filterMap fun w =>
    if insKhi w then none
    else if 0x10 ≤ insOp w ∧ insOp w ≤ 0x12 then some (insA w)
    else if insOp w = 0x28 then some (insW w)
    else none

/-- LGE takes the program, whose length and structure PLEN and PINFO give (R137, R157). -/
def lgeContent (st : Station) : Bool :=
  decide (1 ≤ st.program.length) && decide (st.program.length ≤ 1048576) &&
  decide (bits (stCfg st 0x04000C 0) 0 21 = st.program.length) &&
  (match progRun st ProgChk.start st.program with
   | some c =>
     c.ended && decide (4096 * c.fences ≤ st.program.length) && decide (bits (stCfg st 0x040010 0) 16 11 = c.most) &&
     decide (bits (stCfg st 0x040010 0) 0 9 = c.fences)
   | none => false) &&
  distinct (progNames st.program)

/-- A rung starts at a program address (R147, R151). -/
def rungStarts (p : List Word) (i : Nat) : Bool :=
  let w := p.getD i 0
  if insKhi w then insRs (p.getD (i + 1) 0) else insRs w

/-! ### Scan bounds (R120, R129) -/

/-- The scan bound in ns for N instructions: unsplit, and in the split. -/
def scanBound (n : Nat) : Nat := (400000 + 854 * n + 999999) / 1000000 * 100
def splitBound (n : Nat) : Nat := (800000 + 1708 * n + 999999) / 1000000 * 100

/-! ### Guardian tables (R169, R170, R173, R176, R189) -/

/-- The 32-byte header field at an offset, as a digest (R188): byte 0 is its most significant. -/
def grdDigest (st : Station) (off : Nat) : W256 :=
  BitVec.ofNat 256 (beNat ((List.range 8).flatMap fun i => leBytes 4 (grdWord st (off + 4 * i))))

/-- A table word that R169 needs to be zero: reserved, or of an entry that is not in use. -/
def grdUnused (st : Station) (off : Nat) : Bool :=
  if off < 0x1000 then
    (0x14 ≤ off && off < 0x20) || (0x28 ≤ off && off < 0x40) || 0xC8 ≤ off
  else if off < 0x1800 then !gatherEn st ((off - 0x1000) / 4)
  else if off < 0x2000 then true
  else if off < 0x12000 then
    let o := (off - 0x2000) / 8
    decide (grdNout st ≤ o) || !outEn st o
  else if off < 0x16000 then
    let g := (off - 0x12000) / 4
    decide (grdNgrp st ≤ g) || !grpEn st g
  else if off < 0x24000 then decide (grdNmemb st ≤ (off - 0x16000) / 2)
  else if off < 0x94000 then decide (grdNrow st ≤ (off - 0x24000) / 32)
  else true

/-- R169, over the words that the tables list. A word of the membership pool that straddles the count has its upper half unused. -/
def grdZeros (st : Station) : Bool :=
  st.grd.all fun e =>
    let off := 4 * e.1
    (!grdUnused st off || decide (e.2 = 0)) &&
    (!(0x16000 ≤ off && off < 0x24000) || decide ((off - 0x16000) / 2 + 1 < grdNmemb st) || decide (bits e.2.toNat 16 16 = 0))

/-- The bits of a word of an entry in use that are reserved (R170, R173, R176, R188). -/
def grdReserved (off : Nat) : Nat :=
  if off = 0x004 then 0xF8000000
  else if off = 0x008 then 0x8000C000
  else if off = 0x010 then 0xFFFFFFFE
  else if off < 0x1000 then 0
  else if off < 0x1800 then 0x7FFF8000
  else if off < 0x2000 then 0
  else if off < 0x12000 then (if off % 8 = 0 then 0x40000000 else 0xC0000000)
  else if off < 0x16000 then 0x7E000000
  else if off < 0x24000 then 0xE000E000
  else 0

/-- The reserved bits are zero. -/
def grdClean (st : Station) : Bool := st.grd.all fun e => decide (e.2.toNat &&& grdReserved (4 * e.1) = 0)

/-- The header: the table format, the counts within the table memory, and a VOUT allowance of 100 µs or more, where one is given
(R168, R188, R196, R197). -/
def grdHeader (st : Station) : Bool :=
  let v := bits (grdWord st 0xC) 0 16
  decide (grdWord st 0 = 1) && decide (grdNout st ≤ 8192) && decide (grdNgrp st ≤ 4096) && decide (grdNrow st ≤ 14336) &&
  decide (grdNmemb st ≤ 28672) && (decide (v = 0) || decide (100 ≤ v))

/-- The guard-image cell is filled by an enabled gather entry, or is one of the fixed 32. -/
def gixMapped (st : Station) (i : Nat) : Bool := gatherEn st (i / 32) || decide (0x3FE0 ≤ i)

/-- R170. -/
def gatherOk (st : Station) : Bool :=
  let on := (List.range 512).filter (gatherEn st)
  decide (grdWord st (0x1000 + 4 * 511) = 0) && distinct (on.map (gatherBase st)) &&
  (on.all fun e => (List.range 32).all fun i => operandOk st .bit (gatherBase st e + i)) &&
  (guardedOutputs st).all fun o =>
    gixMapped st (outGix st o) && (termLiterals st o).all fun l => gixMapped st (bits l 0 14)

/-- R173. -/
def guardedOk (st : Station) : Bool :=
  distinct ((guardedOutputs st).map (outCell st)) &&
  (guardedOutputs st).all fun o =>
    let g := outGix st o
    decide (g < 0x3FE0) && decide (gatherBase st (g / 32) + g % 32 = outCell st o) &&
    decide (cellKind (outCell st o) = some .bit) && decide (cellClass st (outCell st o) = .output) &&
    !safeBit st (outCell st o) && decide (outRow st o + outRows st o ≤ grdNrow st)

/-- R176. -/
def groupsOk (st : Station) : Bool :=
  (exclusionGroups st).all fun g =>
    decide (2 ≤ grpNmem st g) && decide (grpNmem st g ≤ 256) && decide (grpMemb st g + grpNmem st g ≤ grdNmemb st) &&
    (grpMembers st g).all fun o => decide (o < grdNout st) && outEn st o

/-- The logic program as loaded: words least significant byte first (R168). -/
def programBytes (st : Station) : List Byte := st.program.flatMap fun w => leBytes 4 w.toNat

/-- The digests of R189 that SUP computes over the loaded program and tables equal those of the header. -/
def digestsOk (st : Station) : Bool :=
  decide (grdDigest st 0x80 = Config.sha256 (programBytes st)) && decide (grdDigest st 0xA0 = Config.sha256 (grdBytes st))

/-- R189: the evidence of diverse compilation. -/
def evidenceOk (st : Station) : Bool :=
  decide (grdDigest st 0x40 = grdDigest st 0x60) && decide (grdWord st 0xC0 ≠ grdWord st 0xC4) && digestsOk st &&
  decide (grdCrc st [] = grdTcrc st)

def grdContent (st : Station) : Bool :=
  grdHeader st && grdZeros st && grdClean st && gatherOk st && guardedOk st && groupsOk st && evidenceOk st

/-! ### Slots (R67, R68, R253) -/

/-- The TARGET of an action is in range (R68). -/
def targetOk (act tgt : Nat) : Bool :=
  match act with
  | 0x10 | 0x13 | 0x14 => decide (tgt < 16)
  | 0x11 | 0x12 | 0x15 => decide (tgt < 32)
  | _ => true

/-- The action is one that an angle slot of a REF may name, and one that a time slot may name. -/
def angleActOk (ref : Bool) (act : Nat) : Bool :=
  [0x00, 0x02, 0x11, 0x12, 0x15, 0x30].contains act || (ref && [0x10, 0x13, 0x14].contains act)
def timeActOk (act : Nat) : Bool := [0x00, 0x01, 0x02, 0x30].contains act

def State.taeContent (s : State) : Bool :=
  ((List.range 256).all fun n =>
    angleActOk (s.aslotRef n) (s.aslotAct n) && (!s.aslotEn n || targetOk (s.aslotAct n) (s.aslotTgt n))) &&
  (List.range 64).all fun n =>
    let c := s.tslotCtl n
    timeActOk (bits c 8 8) &&
    (if bits c 28 2 = 3 then !bit c 31 else decide (s.tslotOffset n < s.tslotBase n))

/-! ### Vital I/O (R205, R208, R218, R220) -/

def State.vioContent (s : State) : Bool :=
  let st := s.station
  let tp := s.cfgField 0x060000 0x280C05 0 6 * 1000
  let tpw := s.cfgField 0x060000 0x280C05 8 8
  let dly := s.cfgField 0x060000 0x280C05 16 7
  let reads := progReads st.program
  ((List.range 64).all fun n => s.vinEn n || (!reads.contains (0x3F000 + n) && !reads.contains (0x3F040 + n))) &&
  decide (10 ≤ tpw) && decide (320 * tpw ≤ tp) && decide (64 * (tpw + dly) ≤ tp) &&
  decide (0 < tp) && decide (s.logicNs % (tp * 1000) = 0) &&
  ((List.range 32).all fun n =>
    !s.voutEn n || (guardedOutputs st).any fun o => decide (outSrc st o = 1) && decide (outDidx st o = n)) &&
  distinct (((List.range 32).filter s.monEn).map s.monSel)

/-! ### Lamps (R239 to R241, R247, R253, R254, R258, R277, R282, R288) -/

/-- R239. -/
def lampsNamed (st : Station) : Bool :=
  ((List.range 32).all fun n => !chEn st n || (agEn st (chAg st n) && gfEn st (chGrp st n))) &&
  (List.range 16).all fun g => !agEn st g || decide (agLamps st g ≠ [])

/-- R240. -/
def lampStores (st : Station) : Bool :=
  let w := progStores st.program
  ((List.range 32).all fun n =>
    !(chEn st n && agEn st (chAg st n) && !agDirect st (chAg st n)) ||
      (!w.contains (0x3F100 + 8 * n) && !w.contains (0x3F101 + 8 * n))) &&
  (List.range 16).all fun g =>
    !agEn st g || (List.range 8).all fun k =>
      !w.contains (0x3F200 + 16 * g + k) || (!agDirect st g && decide (k < agNasp st g))

/-- The lamps of a group as a channel mask. -/
def agMask (st : Station) (g : Nat) : Nat := ((agLamps st g).map fun n => 2 ^ n).foldl (· + ·) 0

/-- R241. -/
def aspectsOk (st : Station) : Bool :=
  (List.range 16).all fun g =>
    !agEn st g || agDirect st g ||
    (decide (1 ≤ agNasp st g) && decide (agNasp st g ≤ 8) &&
     ((List.range (agNasp st g)).all fun k =>
       let lit := aspLit st g k
       let fl := aspFlash st g k
       decide (lit ≠ 0) && decide (lit &&& agMask st g = lit) && decide (fl &&& lit = fl) &&
       (!aspFben st g k ||
         (decide (aspFb st g k < k) &&
          (guardedOutputs st).all fun o =>
            !(decide (outSrc st o = 3) && decide (outDidx st o = 8 * g + aspFb st g k)))) &&
       (decide (fl = 0) || (decide (slotAngles st 0x13 g ≠ []) && decide (slotAngles st 0x14 g ≠ [])))))

/-- R247. -/
def switchSlots (st : Station) : Bool := (List.range 16).all fun g => !agEn st g || decide (slotAngles st 0x10 g ≠ [])

/-- R253 and R254. -/
def darkProveOk (st : Station) : Bool :=
  ((List.range 32).all fun n => decide (chType st n ≠ 3) && (!chDpen st n || decide (chType st n = 0))) &&
  ((List.range 256).all fun n =>
    let c := stCfg st (0x031004 + 8 * n) 0
    !decide (bits c 8 8 = 0x15) || bit c 30) &&
  decide (2 * 20000 ≤ dpWidth st) && decide (dpWidth st ≤ 20 * 20000)

/-- R258. -/
def State.feedsOk (s : State) : Bool :=
  let st := s.station
  let fed := (List.range 8).filter fun g => gfFeed st g
  (fed.all fun g => gfEn st g && s.voutEn (gfOut st g)) && distinct (fed.map (gfOut st))

/-- Cyclic runs of discriminating points, the shortest first found: their lengths. A run of all 256 points has no end. -/
def discRuns (l : List Bool) : List Nat :=
  if l.all id then []
  else
    let k := l.findIdx fun b => !b
    let r := l.drop k ++ l.take k
    let f := r.foldl (fun (acc : Nat × List Nat) b => if b then (acc.1 + 1, acc.2) else (0, if acc.1 = 0 then acc.2 else acc.1 :: acc.2)) (0, [])
    if f.1 = 0 then f.2 else f.1 :: f.2

/-- The limit of R288 in ns. -/
def detLimit (sup lt : Nat) : Nat := if sup = 3 ∨ lt = 2 then 400000 else if sup = 2 then 4500000 else 2000000

/-- R277 for one enabled channel. -/
def State.bandOk (s : State) (n : Nat) : Bool :=
  let st := s.station
  let b := blindRun st n
  let sup := s.supNom
  ((List.range 256).all fun i => decide (tplLo st n i ≤ tplHi st n i)) &&
  (decide (chType st n ≠ 2) || decide (b = 0)) && (decide (sup ≠ 3) || decide (b = 0)) &&
  ((discRuns ((List.range 256).map (pointDisc st n))).all fun r =>
    decide ((prDw st n + 1) * 25000 * 256 * freqHigh sup ≤ r * 1000000000000)) &&
  decide ((110000 + prDw st n * 25000) * (256 * nominalMhz sup) + b * 1000000000000 ≤ detLimit sup (chType st n) * (256 * nominalMhz sup))

/-- R282. -/
def windowSlots (st : Station) (n : Nat) : Bool :=
  !prWinen st n || (decide (slotAngles st 0x11 n ≠ []) && decide (slotAngles st 0x12 n ≠ []))

def State.lmpContent (s : State) : Bool :=
  let st := s.station
  lampsNamed st && lampStores st && aspectsOk st && switchSlots st && darkProveOk st && s.feedsOk &&
  (List.range 32).all fun n => !chEn st n || (s.bandOk n && windowSlots st n)

/-! ### Measurement (R300, R311, R313) -/

/-- R313 for one window, enabled or not. -/
def windowOk (st : Station) (n w : Nat) : Bool :=
  let h := bits (winCtl st n w) 0 16
  decide (winLo st n w + h ≤ winHi st n w - h)

def State.meaContent (s : State) : Bool :=
  let st := s.station
  let reads := progReads st.program
  ((List.range 32).all fun n => !chEn st n || meaEn st n) &&
  ((List.range 8).all fun g => !gfEn st g || meaEn st (32 + g)) &&
  (decide (s.srcSel = 1) || meaEn st 40) && (decide (s.srcSel = 0) || meaEn st 41) &&
  ((List.range 48).all fun n => decide (meaWmode st n ≠ 3)) &&
  (wordChans.all fun n =>
    (meaEn st n || !reads.contains (wordCell n)) && (!meaEn st n || decide (stCfg st (0x081004 + 64 * n) 0 ≠ 0))) &&
  (List.range 48).all fun n => windowOk st n 0 && windowOk st n 1

/-! ### Field network (R398, R404, R417) -/

/-- The addresses of a peer group (R427). -/
def groupIps (st : Station) (g : Nat) : List Nat :=
  ((List.range 8).map fun k => stCfg st (0x0AA000 + 32 * g + 4 * k) 0).filter fun a => decide (a ≠ 0)

/-- An ARP entry serves the address on an enabled port (R398, R428). -/
def arpServes (st : Station) (ip : Nat) : Bool :=
  (List.range 128).any fun e =>
    let w := stCfg st (0x0AB008 + 16 * e) 0
    bit w 31 && decide (stCfg st (0x0AB000 + 16 * e) 0 = ip) && bit (stCfg st (0x0A0020 + 32 * bitNat (bit w 30)) 0) 31

/-- R404. -/
def connsOk (st : Station) : Bool :=
  let cs := connList st
  let rs := cs.flatMap fun c => [connRx st c, connTx st c]
  distinct (cs.map fun c => connWord st c 0) && apart rs &&
  (rs.all fun r => decide (r.2 = 0) || (decide (r.1 + r.2 ≤ 0x3F000) && decide (r.2 ≤ 8192))) &&
  cs.all fun c => decide (groupIps st (bits (connWord st c 2) 24 6) ≠ [])

/-- R417: bits of a logic cycle of `ns`. -/
def throughputOk (st : Station) (ns : Nat) : Bool :=
  let load := ((connList st).map fun c =>
    let p := (groupIps st (bits (connWord st c 2) 24 6)).length
    2 * p * (36 + bits (connWord st c 3) 0 11) + bits (connWord st c 2) 0 8 * (36 + bits (connWord st c 3) 16 11)).foldl (· + ·) 0
  decide (load * 8 * 10 ≤ 12 * ns)

def State.fldContent (s : State) : Bool :=
  let st := s.station
  connsOk st && throughputOk st s.logicNs &&
  (connList st).all fun c => (groupIps st (bits (connWord st c 2) 24 6)).all (arpServes st)

/-! ### Cabinet bus (R429, R430, R434, R444) -/

/-- R430 and R444 for one enabled controller. The data bit rate is judged where CAN FD frames are enabled. -/
def canOk (st : Station) (c : Nat) : Bool :=
  let nb := stCfg st (0x0B0024 + 64 * c) 0
  let db := stCfg st (0x0B0028 + 64 * c) 0
  let n1 := bits nb 16 8 + 1
  let n2 := bits nb 8 7 + 1
  let d1 := bits db 16 5 + 1
  let d2 := bits db 8 4 + 1
  !canEn st c ||
  (decide (1000 ≤ (1 + n1 + n2) * (bits nb 24 5 + 1) * 25) && decide (bits nb 0 7 + 1 ≤ n2) &&
   (!canFden st c || (decide (125 ≤ (1 + d1 + d2) * (bits db 24 5 + 1) * 25) && decide (bits db 0 4 + 1 ≤ d2))) &&
   !(canTmen st c && canTslv st c))

/-- R434. -/
def canMapOk (st : Station) : Bool :=
  let ms := mapList st
  let rx := ms.filter fun m => !mapTx st m
  (ms.all fun m =>
    let r := mapCells st m
    decide ((r.1 - 0x3F400) % 8 = 0) && decide (r.1 + r.2 ≤ 0x3F800) &&
    (!mapTx st m || decide (bits (mapWord st m 1) 26 3 ≠ 0)) && (!mapFdf st m || canFden st (mapCtrl st m))) &&
  apart (ms.map (mapCells st)) &&
  pairwiseB (fun a b => decide ((mapCtrl st a, mapIde st a, mapId st a) ≠ (mapCtrl st b, mapIde st b, mapId st b))) rx

def cabContent (st : Station) : Bool := canOk st 0 && canOk st 1 && canMapOk st

/-! ### The handover map (R488) -/

def updContent (st : Station) : Bool :=
  distinct (st.map.map MapEntry.old) && distinct (st.map.map MapEntry.new) &&
  st.map.all fun e =>
    (!e.cmp || decide (cellClass st e.new = .output)) && (!e.mir || st.mirrored.contains e.new)

/-- The subsystem whose content rule fails first, in the order of R470. -/
def State.contentFault (s : State) : Option Nat :=
  let st := s.station
  ([(4, lgeContent st), (5, grdContent st), (3, s.taeContent), (6, s.vioContent), (7, s.lmpContent), (8, s.meaContent),
    (10, s.fldContent), (11, cabContent st), (13, updContent st)].find? fun e => !e.2).map Prod.fst

/-! ### The schedule (R70, R340, R369) -/

/-- The nodes of the image: those that own an enabled frame ID (entry 35). -/
def nodesOwning (st : Station) : List Nat := (List.range 8).filter fun n => (List.range 16).any fun u => decide (fidsOf st n u ≠ [])

/-- The basic cycles at which the logic cycles start that differ. -/
def State.cycleStarts (s : State) : List Nat :=
  (List.range (max 1 (s.ccl / max 1 s.cycL))).map fun i => i * s.cycL

/-- The windows of a logic cycle that carry a FID of a node with one of some uses. -/
def State.windowsOf (s : State) (m0 n : Nat) (uses : List Nat) : List (Nat × Nat) :=
  let fs := uses.flatMap fun u => fidsOf s.station n u
  (s.cycleWindows m0).filter fun e => (winFids s.station e.2).any fun f => fs.contains f

def lastEnd (st : Station) (l : List (Nat × Nat)) : Nat := (l.map fun e => e.1 + winLen st e.2).foldl max 0
def firstStart (l : List (Nat × Nat)) : Nat := (l.map Prod.fst).foldl min ((l.headD (0, 0)).1)

/-- The windows of one logic cycle keep the order of R71, with a scan and a check that last so long. -/
def State.cyclePlaced (s : State) (scan check m0 : Nat) : Bool :=
  let st := s.station
  let ns := (nodesOwning st).filter fun n => decide (n < 6)
  let tia := (ns.map fun n => lastEnd st (s.windowsOf m0 n [1, 2, 3])).foldl max 0
  ns.all fun n =>
    let i := s.windowsOf m0 n [1]
    let f := s.windowsOf m0 n [2, 3]
    let o := s.windowsOf m0 n [4]
    decide (i ≠ []) && decide (f ≠ []) && decide (o ≠ []) && decide (5000 ≤ firstStart i) &&
    decide (firstStart i < lastEnd st f) && decide (tia + 2000 + scan + check ≤ firstStart o) &&
    decide (lastEnd st o + 5000 ≤ s.cycC * s.basicNs)

/-- R70. -/
def State.cycleOk (s : State) (scan check : Nat) : Bool :=
  decide (1 ≤ s.cycL) && decide (s.cycL ≤ 500) && decide (1 ≤ s.cycC) && decide (s.cycC ≤ 2) && decide (s.cycC ≤ s.cycL) &&
  decide (5000000 ≤ s.logicNs) && decide (1 ≤ s.ccl) && (decide (s.cycL % s.ccl = 0) || decide (s.ccl % s.cycL = 0)) &&
  s.cycleStarts.all (s.cyclePlaced scan check)

/-- The window rules of R340 that look at one window. -/
def State.windowFits (s : State) (w : Nat) : Bool :=
  let st := s.station
  let fs := winFids st w
  let most := (fs.map (fidMax st)).foldl max 0
  decide (s.ccl % winRep st w = 0) && decide (winBase st w < winRep st w) && decide (winStart st w + winLen st w ≤ s.basicNs) &&
  (if winArb st w then
    distinct fs && (fs.all fun f => !(fidEn st f && decide (fidUse st f = 0))) && decide (winOwner st w = 0) &&
    decide ((winNrank st w - 1) * winMsl st w + txDur most + 300 ≤ winLen st w) &&
    (List.range 8).all fun n => decide (s.dly n + 120 ≤ winMsl st w)
   else
    fs.all fun f =>
      fidEn st f && decide (fidOwner st f = winOwner st w) && !([2, 3, 5, 6].contains (fidUse st f)) &&
      decide (txDur (fidMax st f) + 300 ≤ winLen st w))

/-- The window rules of R340 that look at one basic cycle. -/
def State.cycleFits (s : State) (m : Nat) : Bool :=
  let st := s.station
  let ws := (windows st).filter fun w => winPresent st s.ccl w m
  decide (ws.length ≤ 128) && apart (ws.map fun w => (winStart st w, winLen st w)) &&
  ((nodesOwning st).filter fun n => decide (n < 6)).all fun n =>
    decide ((ws.filter fun w => !winArb st w && decide (winOwner st w = n) &&
      (winFids st w).all fun f => decide (fidUse st f = 0)).length = 1)

/-- Frames of 64 words that an arbitrating window of so many ns carries at a rank (R343, R344). -/
def roundsIn (len rank msl : Nat) : Nat :=
  let d := rank * msl + txDur 64
  if len < d + 300 then 0 else (len - 300 - d) / (d + 200) + 1

/-- The mirror frames of 64 words that one logic cycle carries for a node in its mirror FID (R340, R354). -/
def State.mirrorRoom (s : State) (m0 n : Nat) : Nat :=
  let st := s.station
  let fs := (fidsOf st n 5).filter fun f => decide (fidMax st f = 64)
  ((s.cycleWindows m0).map fun e =>
    if winArb st e.2 then
      match (winFids st e.2).findIdx? fun f => fs.contains f with
      | some r => roundsIn (winLen st e.2) r (winMsl st e.2)
      | none => 0
    else 0).foldl (· + ·) 0

/-- The capacity rules of R340 for one logic cycle. -/
def State.cycleCarries (s : State) (m0 : Nat) : Bool :=
  let st := s.station
  ((nodesOwning st).filter fun n => decide (n < 6)).all fun n =>
    decide ((s.logicNs * 2 / 25 + 2047) / 2048 ≤ s.mirrorRoom m0 n) &&
    decide (inCellWords st ≤ s.wordRoom m0 n 1) &&
    decide (2 + ((outputCells st).length + 31) / 32 ≤ s.wordRoom m0 n 4)

/-- R340. -/
def State.scheduleOk (s : State) : Bool :=
  let st := s.station
  decide (1 ≤ s.ccl) && decide (s.ccl ≤ 64) && (windows st).all s.windowFits && (List.range s.ccl).all s.cycleFits &&
  ((nodesOwning st).all fun n => decide (n < 6)) && s.cycleStarts.all s.cycleCarries

/-- R369: each sync node of the image, this one among them, has one cold-start FID, with no payload, and a status FID with room
for the sync record. -/
def State.coldFidOk (s : State) : Bool :=
  let st := s.station
  (List.range 6).all fun n =>
    !s.syncSender n ||
    ((match fidsOf st n 7 with | [f] => decide (fidMax st f = 0) | _ => false) &&
     (fidsOf st n 0).all fun f => decide (6 ≤ fidMax st f))

/-- The rule of the schedule that fails: TAE for R70, LNB for R340 and R369. -/
def State.scheduleFault (s : State) : Option Nat :=
  if !s.cycleOk (scanBound s.station.program.length) 4000 then some 3
  else if !s.scheduleOk || !s.coldFidOk then some 9
  else none

/-- The schedule meets R129 for the split. -/
def State.splitFits (s : State) : Bool := s.cycleOk (splitBound s.station.program.length) 1000

end Sys2Proof.Machine
end

