-- ==== Sys2Proof/Machine/Load.lean ====
section
/-! DEFINITION. TEST and LOAD (the chapter "Straps, Station Image and Start-Up"): the end of TEST, the choice of a slot, the blocks
of the image, the checks of R469 and R492, and what the image puts into the subsystems. -/

namespace Sys2Proof.Machine

/-- A record whose CODE and severity the spec leaves out (entry 26). -/
def State.recordOpen (s : State) (src : Nat) (data : List Nat) : State :=
  let w := s.freeWord.toNat
  s.freeUsed.record (bits w 16 3 % 6) src (bits w 0 16) data

/-! ### Slot records and selection (R460 to R462) -/

/-- Copies of a slot record that differ are programmed to match, and recorded (R461). -/
def State.slotMatch (s : State) (k : Bool) : State :=
  let x := s.slot k
  if s.nvw ∨ x.recA = x.recB then s
  else (s.setSlot k { x with recA := x.both false, recB := x.both false }).recordOpen 0x0200 [bitNat k]

/-- The slot in a state, with the higher GEN where both are in it, and slot 0 at equal GEN. -/
def State.slotIn (s : State) (x : SlotState) : Option Bool :=
  let a := decide (s.slotState false = x)
  let b := decide (s.slotState true = x)
  if a && b then some (decide ((s.slotRec false).gen.toNat < (s.slotRec true).gen.toNat))
  else if a then some false
  else if b then some true
  else none

/-- What the reads of LOAD found is dropped. -/
def State.readsClear (s : State) : State :=
  { s with upd.hdr := none, upd.blocksOk := [], upd.badA := [], upd.badB := [], upd.fromShadow := false, upd.fromTrial := false }

/-- Rules 3 to 5 of R462. -/
def State.selectOld (s : State) : State :=
  let s1 := s.readsClear
  match s1.slotIn .confirmed with
  | some k => { s1 with upd.runSlot := some k }
  | none =>
    match (if s1.mode = 1 then s1.slotIn .complete else none) with
    | some k => { s1 with upd.runSlot := some k }
    | none => ({ s1 with upd.runSlot := none } : State).startFault 0x13 []

/-- The selection of R462, with the start fault of an earlier load gone. -/
def State.slotSelect (s : State) : State :=
  let s1 : State := { s.readsClear with lane.sfault := 0 }
  match s1.slotIn .trial with
  | some k => { s1 with upd.runSlot := some k, upd.fromTrial := true }
  | none =>
    match s1.slotIn .shadow with
    | some k => { s1 with upd.runSlot := some k, upd.fromShadow := true }
    | none => s1.selectOld

/-! ### TEST_END (R566, R471, R458, R459) -/

/-- The lane passes from TEST to LOAD: every block soft-reset, whose epoch tags increment (R566 step 4, R561), and the
reference buffer of MEA enabled. -/
def State.enterLoad (s : State) : State :=
  let s1 : State :=
    { s with crt.epoch := (List.range 10).foldl (fun t i => tabUpd 0 (i + 3) (fun e => (e + 1) % 16) t) s.crt.epoch,
             mea.bufon := true, mea.monok := true, mea.refFrom := s.pins.now }
  s1.setSt .load

/-- TEST_END. The SFDP tables are read and the slots judged at the start of LOAD. -/
def execTestEnd (fusesOk mbistOk lbistOk norAOk norBOk : Bool) (s : State) : Host.Outcome State Fault Refusal :=
  .next (if s.lane.st = .test ∧ s.lane.sfault = 0 then
      if !fusesOk || !mbistOk then s.startFault 0x03 []
      else if !lbistOk then s.startFault 0x04 []
      else
        let s1 := s.enterLoad
        if !norAOk || (!norBOk && !s1.nvw) then s1.startFault 0x10 []
        else if s1.nvw ∧ s1.mode ≠ 1 ∧ s1.mode ≠ 2 then s1.startFault 0x11 []
        else ((s1.slotMatch false).slotMatch true).slotSelect
    else s)

/-! ### Block 0 (R464 to R466) -/

/-- Block 0 as its bytes give it. -/
def parseHeader (b : List Byte) : Header :=
  let n := leNat (slice 0x0A 2 b)
  let digt := slice 0x200 (32 * (n - 1)) b
  { magic := BitVec.ofNat 32 (leNat (slice 0 4 b)), hfmt := leNat (slice 4 2 b), secver := leNat (slice 6 1 b),
    modes := leNat (slice 7 1 b), schema := leNat (slice 8 2 b), nblk := n,
    station := BitVec.ofNat 32 (leNat (slice 0x0C 4 b)), start := BitVec.ofNat 32 (leNat (slice 0x10 4 b)),
    imgd := BitVec.ofNat 256 (beNat (slice 0x20 32 b)), sig := slice 0x40 64 b, pubk := slice 0x80 64 b,
    sect := slice 0x100 256 b,
    digt := (List.range (n - 1)).map fun i => BitVec.ofNat 256 (beNat (slice (32 * i) 32 digt)),
    signed := slice 0 0x40 b, imgdCalc := Config.sha256 (slice 0 0x20 b ++ slice 0x80 (0x180 + 32 * (n - 1)) b) }

/-- A section-table entry (R466). -/
structure Section where
  kind : Nat
  node : Nat
  first : Nat
  count : Nat
  /-- Bytes 3 and 12 to 15 are zero. -/
  clean : Bool
  deriving DecidableEq, Repr

def sections (h : Header) : List Section :=
  (List.range 16).map fun i =>
    let e := slice (16 * i) 16 h.sect
    { kind := leNat (slice 0 2 e), node := leNat (slice 2 1 e), first := leNat (slice 4 2 e), count := leNat (slice 6 2 e),
      clean := decide (slice 3 1 e = [0#8]) && decide (slice 12 4 e = [0#8, 0#8, 0#8, 0#8]) }

/-- R466: exactly one EXEC and one COMMON section, at most one NODE section for a node, whole blocks from block 1 on, none
shared. -/
def sectionsOk (h : Header) : Bool :=
  let used := (sections h).filter fun x => decide (x.kind ≠ 0)
  let kindOf (k : Nat) := used.filter fun x => decide (x.kind = k)
  ((sections h).all fun x =>
    x.clean &&
    (match x.kind with
     | 0 => decide (x.node = 0)
     | 1 | 2 => decide (x.node = 0xFF)
     | 3 => decide (x.node < 8)
     | _ => false)) &&
  (used.all fun x => decide (1 ≤ x.first) && decide (1 ≤ x.count) && decide (x.first + x.count ≤ h.nblk)) &&
  decide ((kindOf 1).length = 1) && decide ((kindOf 2).length = 1) && distinct ((kindOf 3).map Section.node) &&
  apart (used.map fun x => (x.first, x.count))

/-- 0 or 4 to 64. -/
def cyclesOk (v : Nat) : Bool := decide (v = 0) || (decide (4 ≤ v) && decide (v ≤ 64))

/-- The header rules of the check for fault 0x14. -/
def headerOk (h : Header) : Bool :=
  decide (h.magic = 0x53595745) && decide (h.hfmt = 1) && decide (2 ≤ h.nblk) && decide (h.nblk ≤ 255) &&
  cyclesOk (bits h.start.toNat 0 8) && cyclesOk (bits h.start.toNat 8 8) && decide (bits h.start.toNat 17 15 = 0) && sectionsOk h

/-- The image has a NODE section for a node. -/
def hasNode (h : Header) (n : Nat) : Bool := (sections h).any fun x => decide (x.kind = 3) && decide (x.node = n)

/-! ### NOR_BLOCK_READ (R463, R468) -/

/-- The CRC-32C of a block of 65,536 bytes. -/
def blockCrcOk (b : List Byte) : Bool := decide ((crc32c (b.take 65532)).toNat = leNat (b.drop 65532))

/-- The SHA-256 of a whole block as a number. -/
def blockDigest (b : List Byte) : W256 := Config.sha256 b

/-- A block that passed. -/
def State.blockGood (s : State) (k : Nat) (b : List Byte) : State :=
  let s1 : State := { s with upd.blocksOk := if s.upd.blocksOk.contains k then s.upd.blocksOk else s.upd.blocksOk ++ [k] }
  if k = 0 ∧ s.upd.hdr = none then { s1 with upd.hdr := some (parseHeader b) } else s1

/-- A block that failed is read again from the other NOR; its record. -/
def State.blockBad (s : State) (chip : Chip) (k : Nat) : State :=
  let s1 : State :=
    match chip with
    | .norA => { s with upd.badA := if s.upd.badA.contains k then s.upd.badA else s.upd.badA ++ [k] }
    | .norB => { s with upd.badB := if s.upd.badB.contains k then s.upd.badB else s.upd.badB ++ [k] }
  s1.recordOpen 0x0200 (k :: [bitNat (decide (chip = .norB))])

/-- Block k stands in a NOR's queue (R468): block 0 in both; every other block in that of NOR A where k is even or NVW is 1 and in
that of NOR B where k is odd, and in the other one once its read has failed. -/
def State.blockQueued (s : State) (chip : Chip) (k : Nat) : Bool :=
  match chip with
  | .norA => !s.upd.badA.contains k && (decide (k % 2 = 0) || s.nvw || s.upd.badB.contains k)
  | .norB => !s.nvw && !s.upd.badB.contains k && (decide (k = 0) || decide (k % 2 = 1) || s.upd.badA.contains k)

/-- A read of a block is of the image being loaded: a block of it, in the queue of the NOR. -/
def State.readsBlock (s : State) (chip : Chip) (k : Nat) : Bool :=
  decide (s.lane.st = .load) && decide (s.lane.sfault = 0) && s.upd.runSlot.isSome && s.blockQueued chip k &&
  (decide (k = 0) || (match s.upd.hdr with | some h => decide (k < h.nblk) | none => false))

/-- NOR_BLOCK_READ: the 64 KiB that a NOR delivers for block k of the selected slot. -/
def execNorBlockRead (chip : Chip) (k : Fin 255) (data : List Byte) (s : State) : Host.Outcome State Fault Refusal :=
  if data.length = 65536 then
    .next (if s.readsBlock chip k.val then
        let ok := blockCrcOk data &&
          (decide (k.val = 0) || (match s.upd.hdr with | some h => decide (h.digt[k.val - 1]? = some (blockDigest data)) | none => false))
        if ok then s.blockGood k.val data else s.blockBad chip k.val
      else s)
  else .fault .illFormed

/-! ### Settings logs (R490, R492) -/

/-- The value lies within the limits of the parameter entry (R489). -/
def paramTakes (p : ParamEntry) (v : Int) : Bool := decide (p.min ≤ v) && decide (v ≤ p.max)

/-- A settings entry dropped or skipped. -/
def State.settingDropped (s : State) (e : SettingsEntry) : State := s.record 3 0x0D00 0x0D09 (le 4 e.sym.toNat)

/-- The log of a slot applied after the image's initial values. -/
def applyLog (st : Station) : List SettingsEntry → Station
  | [] => st
  | e :: es =>
    let st1 : Station :=
      match st.params.find? fun p => decide (p.sym = e.sym) with
      | some p =>
        if !e.ok then st
        else if p.timer then { st with presets := tabSet 0#32 p.addr (BitVec.ofInt 32 e.value) st.presets }
        else { st with init := tabSet 0#32 p.addr (BitVec.ofInt 32 e.value) st.init }
      | none => st
    applyLog st1 es

/-- Entries with a bad CRC are skipped and recorded. -/
def State.skipsRecord (s : State) : List SettingsEntry → State
  | [] => s
  | e :: es => (if e.ok then s else s.settingDropped e).skipsRecord es

/-- The other slot's log copied into an empty one through this image's parameter table. -/
def State.logCopy (s : State) (st : Station) (k : Bool) : List SettingsEntry → State
  | [] => s
  | e :: es =>
    let x : Slot := s.slot k
    (match (st.params.find? fun (p : ParamEntry) => decide (p.sym = e.sym)) with
     | some (p : ParamEntry) =>
       if e.ok && paramTakes p e.value then
         s.setSlot k { x with log := x.log ++ [({ seq := x.log.length, sym := e.sym, value := e.value, preset := p.timer, ok := true } : SettingsEntry)] }
       else s.settingDropped e
     | none => s.settingDropped e).logCopy st k es

/-! ### The checks of R469 and R492 -/

/-- What the checks find: every one passes, some block is still to be read, or a fault with DATA bytes 1 and up. -/
inductive LoadResult where
  | pass
  | waits
  | fails (code : Nat) (more : List Nat)
  deriving DecidableEq, Repr

/-- A block failed in every copy that the lane reads. -/
def State.blockLost (s : State) (k : Nat) : Bool :=
  !s.upd.blocksOk.contains k && s.upd.badA.contains k && (s.nvw || s.upd.badB.contains k)

/-- The effective straps after the overrides of the NODE section (R453, R455, R467). NVW is overridden under R458 alone. -/
def overStraps (pin : BitVec 14) (val en : BitVec 7) : BitVec 14 :=
  ([(0, 3), (2, 10), (3, 9), (4, 11), (5, 12), (6, 13)] : List (Nat × Nat)).foldl
    (fun p e => if en.getLsbD e.1 then putBit p e.2 (val.getLsbD e.1) else p) pin

/-- SPLITOK as SUP sets it (R129): the image's request where the schedule meets the bound of the split. -/
def splitClear (st : Station) : Station :=
  { st with cfg := tabSet 2#32 0x040000 ((tabGet 2#32 0x040000 st.cfg) &&& 0xFFFFFFFE) st.cfg }

/-- The lane with the image's content in place. -/
def State.withImage (s : State) (st : Station) : State :=
  { s with img := some st, lane.eff := overStraps s.lane.pin st.ovrVal st.ovrEn }

/-- Checks 0x14 to 0x18, and R458. -/
def State.headChecks (s : State) (h : Header) (st : Station) : LoadResult :=
  if !headerOk h then .fails 0x14 []
  else if !(s.crt.ikd = some (Config.sha256 h.pubk) && st.sigOk && decide (h.imgd = h.imgdCalc)) then .fails 0x15 []
  else if h.secver < s.crt.sv then .fails 0x16 []
  else if !st.schemas.contains h.schema then .fails 0x17 []
  else if !st.execOk then .fails 0x12 []
  else if !(bit h.modes s.mode && hasNode h s.node && st.nodeOk && decide (st.devid = s.crt.devid)) then .fails 0x18 []
  else if s.nvw && st.ovrEn.getLsbD 1 && !st.ovrVal.getLsbD 1 then .fails 0x11 []
  else .pass

/-- Checks 0x19 to 0x1C. -/
def State.bodyChecks (s : State) (h : Header) (st : Station) : LoadResult :=
  let ks := (List.range h.nblk).drop 1
  match ks.find? s.blockLost with
  | some k => .fails 0x19 (le 2 k)
  | none =>
    if !(ks.all fun k => s.upd.blocksOk.contains k) then .waits
    else if (st.connKeys ++ st.levelKeys).any fun k => k.key.isNone then .fails 0x1A []
    else
      let t := s.withImage st
      match t.contentFault with
      | some c => .fails 0x1B [c]
      | none => match t.scheduleFault with | some c => .fails 0x1C [c] | none => .pass

/-- Every check of R469, in its order. -/
def State.loadChecks (s : State) (st : Station) : LoadResult :=
  match s.upd.hdr with
  | none => if s.blockLost 0 then .fails 0x14 [] else .waits
  | some h =>
    match s.headChecks h st with
    | .pass => s.bodyChecks h st
    | r => r

/-- The two checks of R492. -/
def State.shadowCheck (s : State) (st : Station) : Option Nat :=
  let o := !s.runSlotNo
  let sch := (s.slot o).schema
  if sch < st.rdmin ∨ st.rdmax < sch then some 0x1D
  else if st.predd ≠ (s.slotRec o).imgd then some 0x1E
  else none

/-! ### The end of LOAD (R455, R470, R471, R557) -/

/-- Gates of the subsystems that the image leaves unused close (R557). -/
def State.unusedGate (s : State) (u : BitVec 13) : List Nat → State
  | [] => s
  | k :: ks => (if u.getLsbD k then s.clkenBit k false else s).unusedGate u ks

/-- What the image and the end of LOAD put into the subsystems. -/
def State.install (s : State) (st : Station) : State :=
  let t := s.withImage st
  let t1 : State := if t.splitOk && !t.splitFits then (s.withImage (splitClear st)).recordOpen 0x0400 [] else t
  let key (l : List WrappedKey) : Tab W256 := l.filterMap fun k => k.key.map fun v => (k.index, v)
  { t1 with
    sup.keys := (key st.levelKeys).foldl (fun m e => tabSet 0 e.1 e.2 m) [],
    fld.keys := (key st.connKeys).foldl (fun m e => tabSet 0 e.1 (e.2.setWidth 128) m) [],
    fld.phyOut := true,
    grd.gmode := .checking, grd.armed := true, grd.tcrc := grdCrc st [], grd.crcAt := t1.pins.now,
    grd.decAt := t1.pins.now, vio.vfbFrom := t1.pins.now,
    tae.loopOn := true, tae.srcact := decide (t1.srcSel = 1), tae.runFreq := nominalMhz t1.supNom, tae.angle := 0,
    tae.angAt := t1.pins.now, crt.bistAt := t1.pins.now,
    lane.digestDue := t1.upd.fromShadow, lane.joinRefused := false,
    cab.ctl := (List.range 2).foldl (fun m c => tabUpd can0 c (fun x =>
      { x with estate := if canEn t1.station c then .active else .disabled }) m) t1.cab.ctl }

/-- The lane leaves LOAD (R471 step 9): INTEGRATE, LNB in LISTEN, proving under way. -/
def State.loadDone (s : State) (st : Station) : State :=
  let s1 := (s.install st).unusedGate st.unused ((List.range 10).map fun i => i + 3)
  let s2 := (s1.setSt .integrate).angleSusp.suspChecks (List.range 32)
  s2.enterListen s2.listenR370 s2.pins.now

/-- The selected slot holds an image of the schema of its header. -/
def State.schemaNote (s : State) : State :=
  match s.upd.hdr with
  | some h => s.setSlot s.runSlotNo { s.slot s.runSlotNo with schema := h.schema }
  | none => s

/-- The load succeeds: for a SHADOW slot after the checks and the copy of R492; then the log of the selected slot. -/
def State.loadPass (s : State) (st : Station) : State :=
  let s1 := s.schemaNote
  let k := s1.runSlotNo
  let bad := if s1.upd.fromShadow then s1.shadowCheck st else none
  match bad with
  | some c =>
    ((s1.programSlot k .retired).startFault c []).record 4 0x0D00 0x0D03 (c :: le 2 (s1.slot (!k)).schema)
  | none =>
    let s2 := if s1.upd.fromShadow ∧ (s1.slot k).log = [] then s1.logCopy st k (s1.slot (!k)).log else s1
    let log := (s2.slot k).log
    (s2.skipsRecord log).loadDone (applyLog st log)

/-- GRD computes the CRC-64 of the tables as soon as they are loaded, and shows it whether or not it matches (R186, R202): where
the checks have come to the content of the image. -/
def State.tablesLoaded (s : State) (st : Station) (code : Nat) : State :=
  if 0x1A ≤ code then { s with grd.tcrc := grdCrc st [] } else s

/-- LOAD_END (R469, R462): a slot in TRIAL or SHADOW that fails is RETIRED, and the selection goes on from rule 3. -/
def execLoadEnd (st : Station) (s : State) : Host.Outcome State Fault Refusal :=
  .next (if s.lane.st = .load ∧ s.lane.sfault = 0 ∧ s.upd.runSlot.isSome = true then
      match s.loadChecks st with
      | .waits => s
      | .pass => s.loadPass st
      | .fails c more =>
        let t := s.tablesLoaded st c
        if s.upd.fromShadow ∨ s.upd.fromTrial then
          ((t.programSlot t.runSlotNo .retired).recordOpen 0x0200 [c]).selectOld
        else t.startFault c more
    else s)

end Sys2Proof.Machine
end

