-- ==== Sys2Proof/Machine/Update.lean ====
section
/-! DEFINITION. Updates, activation, handover, on-line changes and forces (the chapter "Updates, Handover and On-Line Changes"): the
operations of UPD.CMD, the staging registers, the digest vote and the end of the confirmation period. -/

namespace Sys2Proof.Machine

/-! ### Answers in UPD.CMD (R510) -/

def State.updDone (s : State) : State := ({ s with upd.cmd := .completed } : State).cmdEnd
def State.updRefuse (s : State) : State := { s with upd.cmd := .refused }

/-- A write operation of another session while the lock is held (R482). -/
def State.updBusy (s : State) : State := ({ s with upd.cmd := .busy } : State).evtUpd 1

/-- A program handover or handback that this lane accepted is under way; `program` is that of the switchover, and an entry that
still waits is one exactly where the other set stands in SHADOW. -/
def State.ownSwitch (s : State) (program : Bool) : Bool :=
  (match s.lane.switch with | some x => x.own && decide (x.program = program) | none => false) ||
  (s.entryWaits && decide (s.shadowSet = program))

/-- An operation of UPD.CMD is still running (R600). -/
def State.updRuns (s : State) : Bool := s.upd.op.isSome || s.ownSwitch true

/-- An operation other than ABORT at UPD.CMD: refused while one still runs (R600). -/
def State.updOp (s : State) (f : State → State) : State := if s.updRuns then s.updRefuse else f s

/-- A write operation other than OPEN: BUSY for another session's lock, refused without a lock. -/
def State.updHeld (s : State) (sid : Nat) (f : State → State) : State :=
  match s.upd.lock with
  | none => s.updRefuse
  | some n => if n = sid then s.updOp f else s.updBusy

/-! ### The write of a pending image (R481 to R486) -/

/-- The pending slot (R481). Without a CONFIRMED slot it is the one that was not selected. -/
def State.pendingSlot (s : State) : Bool :=
  if s.lane.st = .load ∧ s.lane.sfault ≠ 0 then
    match s.slotIn .confirmed with
    | some k => !k
    | none => (match s.upd.runSlot with | some k => !k | none => false)
  else !s.runSlotNo

/-- A write is not refused (R481). -/
def State.writeAllowed (s : State) : Bool :=
  (decide (s.lane.st = .load) && decide (s.lane.sfault ≠ 0)) ||
  (s.upd.runSlot.isSome &&
    (decide (s.runSlotState = .confirmed) || (decide (s.runSlotState = .complete) && decide (s.mode = 1))))

/-- The write ends (R485, R509): unless COMPLETED its slot is RETIRED; the lock ends; record 0x0D01 and WEND. -/
def State.writeEnd (s : State) (st : CmdStatus) (code blk : Nat) : State :=
  match s.upd.write with
  | none => { s with upd.lock := none, upd.op := none }
  | some w =>
    let s1 := if st = .completed then s else s.programSlot w.slot .retired
    (({ s1 with upd.cmd := st, upd.lock := none, upd.op := none, upd.write := none } : State).evtUpd 0).record 2 0x0D00 0x0D01
      [code, blk] |>.cmdEnd

/-- OPEN (R482, R483): the lock taken, the pending slot erased. -/
def State.openWrite (s : State) (sid : Nat) : State :=
  match s.upd.lock with
  | some n => if n = sid then s.updRefuse else s.updBusy
  | none =>
    s.updOp fun t =>
      if t.writeAllowed then
        let k := t.pendingSlot
        { t.setSlot k Slot.erased with
          upd.lock := some sid, upd.op := some .open, upd.cmd := .running,
          upd.write := some { slot := k, written := [], hdr := none, cur := 0, buf := [] } }
      else t.updRefuse

/-- BLOCK (R483): the staged bytes are taken for block UPD.BLK; block 0 comes first. -/
def State.blockWrite (s : State) : State :=
  match s.upd.write with
  | none => s.updRefuse
  | some w =>
    if w.hdr.isNone ∧ s.upd.blk ≠ 0 then s.updRefuse
    else { s with upd.op := some .block, upd.cmd := .running, upd.write := some { w with cur := s.upd.blk, buf := s.upd.staged } }

/-- FINISH (R483). -/
def State.finishWrite (s : State) : State :=
  if s.upd.write.isNone then s.updRefuse else { s with upd.op := some .finish, upd.cmd := .running }

/-- The 65,536 bytes of a staged block, each word with its least significant byte first (R513). -/
def stagedBytes (buf : Tab Word) : List Byte := (List.range 16384).flatMap fun i => leBytes 4 (tabGet 0 i buf).toNat

/-- What the checks of R469 for codes 0x14 to 0x18 ask of block 0, as far as its bytes and the lane decide; the rest is in the
operation's verdict. -/
def State.blockZeroOk (s : State) (h : Header) : Bool :=
  headerOk h && decide (s.crt.ikd = some (Config.sha256 h.pubk)) && decide (h.imgd = h.imgdCalc) &&
  decide (s.crt.sv ≤ h.secver) && bit h.modes s.mode && hasNode h s.node

/-- A staged block passes R484. -/
def State.blockPasses (s : State) (w : ImageWrite) (b : List Byte) : Bool :=
  blockCrcOk b &&
  (if w.cur = 0 then s.blockZeroOk (parseHeader b)
   else match w.hdr with | some h => decide (h.digt[w.cur - 1]? = some (blockDigest b)) | none => false)

/-- A BLOCK operation ends (R484). -/
def State.blockDone (s : State) (w : ImageWrite) (ok : Bool) : State :=
  let b := stagedBytes w.buf
  if ok && s.blockPasses w b then
    let rest := w.written.filter fun k => decide (k ≠ w.cur)
    let h := if w.cur = 0 then some (parseHeader b) else w.hdr
    let s1 := if w.cur = 0 then s.setSlot w.slot { s.slot w.slot with schema := (parseHeader b).schema } else s
    ({ s1 with upd.op := none, upd.write := some { w with written := rest ++ [w.cur], hdr := h } } : State).updDone
  else if w.cur = 0 then s.writeEnd .failed 4 0
  else
    ({ s with upd.op := none, upd.cmd := .failed,
              upd.write := some { w with written := w.written.filter fun k => decide (k ≠ w.cur) } } : State).cmdEnd

/-- FINISH ends (R485): its commit point is the programming of STATE COMPLETE. -/
def State.finishDone (s : State) (w : ImageWrite) (ok : Bool) : State :=
  match w.hdr with
  | none => s.writeEnd .failed 4 0
  | some h =>
    match ((List.range h.nblk).drop 1).find? fun k => !w.written.contains k with
    | some k => s.writeEnd .failed 4 k
    | none =>
      if ok then
        let r : SlotRec :=
          { state := slotWord .complete, gen := (s.slotRec (!w.slot)).gen + 1, nblk := BitVec.ofNat 32 h.nblk, imgd := h.imgd }
        (s.setSlot w.slot ((s.slot w.slot).program s.nvw r)).writeEnd .completed 2 0
      else s.writeEnd .failed 4 0

/-- WRITE_OPERATION_DONE (R483). The verdict stands for the erase and the read-back, the signatures, and the unwrapping. -/
def execWriteOperationDone (ok : Bool) (s : State) : Host.Outcome State Fault Refusal :=
  .next (match s.upd.op, s.upd.write with
    | some .open, some w =>
      if ok then ({ s.programSlot w.slot .writing with upd.op := none } : State).updDone else s.writeEnd .failed 4 0
    | some .block, some w => s.blockDone w ok
    | some .finish, some w => s.finishDone w ok
    | _, _ => s)

/-- The lock ends (R482): a write before its commit point ends ABORTED. -/
def State.lockEnd (s : State) : State := s.writeEnd .aborted 3 0

/-- ABORT (R485, R500, R9): of a handover that this lane accepted, or else of the write. After the commit point of a handover
it is answered COMPLETED; with nothing to abort the status stands. -/
def State.updAbort (s : State) (sid : Nat) : State :=
  if s.ownSwitch true then
    match s.lane.switch with
    | some x => if x.committed then ({ s with upd.cmd := .completed } : State) else s.switchoverEntry s.sid
    | none => s.switchoverEntry s.sid
  else
    match s.upd.lock with
    | none => s
    | some n => if n = sid then s.lockEnd else s.updBusy

/-- RELEASE (R482): by the session that holds the lock. -/
def State.updRelease (s : State) (sid : Nat) : State :=
  s.updOp fun t =>
    if t.upd.lock = some sid then (if t.upd.write.isNone then ({ t with upd.lock := none } : State).updDone else t.lockEnd)
    else t.updRefuse

/-! ### Activation and handover (R491, R497, R502) -/

/-- The restart window is armed (R40). -/
def State.windowArm (s : State) : State :=
  { s with lane.window := true, lane.windowAt := s.pins.now, lane.ctl := .running }

/-- ACTIVATE is accepted (R491). -/
def State.activateOk (s : State) (sid : Nat) : Bool :=
  decide (s.lane.st = .run) && (decide (s.lane.role = .standby) || decide (s.lane.role = .shadow)) &&
  decide (s.pendSlotState = .complete) && (s.upd.lock.isNone || decide (s.upd.lock = some sid)) && !s.upd.conf

def State.updActivate (s : State) (sid : Nat) : State :=
  s.updOp fun t =>
    if t.activateOk sid then
      let k := !t.runSlotNo
      (((t.programSlot k .shadow).record 2 0x0D00 0x0D02 (le 4 ((t.slotRec k).imgd.toNat % 4294967296))).updDone.enterSafe 7).windowArm
    else t.updRefuse

/-- HANDOVER is accepted (R497, R502). -/
def State.handoverOk (s : State) (dropf : Bool) : Bool :=
  s.voting && decide (s.lane.role = .holding) && decide (s.lane.switch = none) && !s.entryWaits && s.shadowSet &&
  s.tenSeconds s.lane.otherHealthy && (decide (s.upd.forces = []) || dropf)

def State.updHandover (s : State) (dropf : Bool) : State :=
  s.updOp fun t =>
    if t.handoverOk dropf then { t.switchoverEntry (!t.sid) with upd.cmd := .running } else t.updRefuse

/-! ### On-line changes (R504) -/

/-- The logic cycle that UPD.OLCYC names: the first one to come with these 32 bits. -/
def State.onlineCycle (s : State) : Nat :=
  let n := s.ct / s.logicNs
  n + (s.upd.olcyc.toNat + 4294967296 - n % 4294967296) % 4294967296

/-- ONLINE is accepted (R504). -/
def State.onlineOk (s : State) : Bool :=
  (match (s.station.params.find? fun (p : ParamEntry) => decide (p.sym = s.upd.olsym)) with
   | some (p : ParamEntry) => paramTakes p s.upd.olval.toInt
   | none => false) &&
  s.hasCt && decide (s.ct + 1000000000 ≤ s.onlineCycle * s.logicNs) &&
  decide (s.onlineCycle * s.logicNs ≤ s.ct + 3600000000000) && decide (s.upd.online.length < 16) &&
  decide ((s.slot s.runSlotNo).log.length < 3840)

def State.updOnline (s : State) : State :=
  s.updOp fun t =>
    if t.onlineOk then
      ({ t with upd.online := t.upd.online ++ [{ sym := t.upd.olsym, value := t.upd.olval, cycle := t.onlineCycle }] } : State).updDone
    else t.updRefuse

/-! ### Forces (R506, R507) -/

/-- A force held, whatever its value. -/
def forceSet (a : Nat) (v : Word) (l : Tab Word) : Tab Word :=
  (l.filter fun e => decide (e.1 < a)) ++ (a, v) :: l.filter fun e => decide (a < e.1)

/-- A force on the cell is held. -/
def State.forced (s : State) (a : Nat) : Bool := s.upd.forces.any fun e => decide (e.1 = a)

/-- FORCE is accepted (R506). -/
def State.forceOk (s : State) : Bool :=
  decide (s.mode = 1) && s.voting && decide (s.lane.role = .holding) &&
  (decide (cellClass s.station s.upd.faddr = .input) || decide (cellClass s.station s.upd.faddr = .parameter)) &&
  (s.forced s.upd.faddr || decide (s.upd.forces.length < 32))

def State.updForce (s : State) : State :=
  s.updOp fun t =>
    if t.forceOk then
      (({ t with upd.forces := forceSet t.upd.faddr t.upd.fval t.upd.forces,
                 upd.unforce := t.upd.unforce.filter fun a => decide (a ≠ t.upd.faddr) } : State).forceRecord t.upd.faddr 0).updDone
    else t.updRefuse

def State.updUnforce (s : State) : State :=
  s.updOp fun t =>
    if t.forced t.upd.faddr ∧ t.upd.faddr ∉ t.upd.unforce then
      (({ t with upd.unforce := t.upd.unforce ++ [t.upd.faddr] } : State).forceRecord t.upd.faddr 1).updDone
    else t.updRefuse

/-- RELOAD (R492): LOAD begins again from the selection. -/
def State.updReload (s : State) : State :=
  s.updOp fun t =>
    if t.lane.st = .load ∧ (t.lane.sfault = 0x1D ∨ t.lane.sfault = 0x1E) then t.slotSelect.updDone else t.updRefuse

/-! ### The commands of UPD.CMD (R510) -/

/-- What UPD.CMD does for an operation; a reserved one is refused. -/
def State.updCmd (s : State) (sid op : Nat) (dropf : Bool) : State :=
  match op with
  | 1 => s.openWrite sid
  | 2 => s.updHeld sid fun t => t.blockWrite
  | 3 => s.updHeld sid fun t => t.finishWrite
  | 4 => s.updAbort sid
  | 5 => s.updRelease sid
  | 6 => s.updActivate sid
  | 7 => s.updHandover dropf
  | 8 => s.updOnline
  | 9 => s.updForce
  | 10 => s.updUnforce
  | 11 => s.updReload
  | _ => s.updRefuse

/-- A write of UPD.CMD: Signalling Engineer level, and Maintainer for RELOAD. -/
def updLevel (op : Nat) : Nat := if op = 11 then 2 else 3

def State.updWrite (s : State) (sid op : Nat) (dropf : Bool) : State :=
  s.command sid 0x0D0000 (op + 256 * bitNat dropf) (updLevel op) fun t => t.updCmd sid op dropf

def execUpdOpen (sid : BitVec 16) (s : State) : Host.Outcome State Fault Refusal := .next (s.updWrite sid.toNat 1 false)
def execBlock (sid : BitVec 16) (s : State) : Host.Outcome State Fault Refusal := .next (s.updWrite sid.toNat 2 false)
def execFinish (sid : BitVec 16) (s : State) : Host.Outcome State Fault Refusal := .next (s.updWrite sid.toNat 3 false)
def execAbort (sid : BitVec 16) (s : State) : Host.Outcome State Fault Refusal := .next (s.updWrite sid.toNat 4 false)
def execRelease (sid : BitVec 16) (s : State) : Host.Outcome State Fault Refusal := .next (s.updWrite sid.toNat 5 false)
def execActivate (sid : BitVec 16) (s : State) : Host.Outcome State Fault Refusal := .next (s.updWrite sid.toNat 6 false)
def execHandover (sid : BitVec 16) (dropf : Bool) (s : State) : Host.Outcome State Fault Refusal :=
  .next (s.updWrite sid.toNat 7 dropf)
def execOnline (sid : BitVec 16) (s : State) : Host.Outcome State Fault Refusal := .next (s.updWrite sid.toNat 8 false)
def execForce (sid : BitVec 16) (s : State) : Host.Outcome State Fault Refusal := .next (s.updWrite sid.toNat 9 false)
def execUnforce (sid : BitVec 16) (s : State) : Host.Outcome State Fault Refusal := .next (s.updWrite sid.toNat 10 false)
def execReload (sid : BitVec 16) (s : State) : Host.Outcome State Fault Refusal := .next (s.updWrite sid.toNat 11 false)

/-! ### Staging (R513) -/

/-- A write of UPD.BLK by the session that holds the lock: the pointer goes back to 0. -/
def State.blkSet (s : State) (sid : Nat) (v : Word) : State :=
  if s.upd.lock = some sid then { s with upd.blk := v.toNat % 256, upd.ptr := 0 } else s

/-- A write of UPD.BDATA by the session that holds the lock, up to 65,536 bytes. -/
def State.bdataSet (s : State) (sid : Nat) (v : Word) : State :=
  if s.upd.lock = some sid ∧ s.upd.ptr < 65536 then
    { s with upd.staged := tabSet 0 (s.upd.ptr / 4) v s.upd.staged, upd.ptr := s.upd.ptr + 4 }
  else s

def execBlkWrite (sid : BitVec 16) (value : Word) (s : State) : Host.Outcome State Fault Refusal :=
  .next (s.plainWrite sid.toNat 0x0D000C 2 fun t => t.blkSet sid.toNat value)
def execBdataWrite (sid : BitVec 16) (value : Word) (s : State) : Host.Outcome State Fault Refusal :=
  .next (s.plainWrite sid.toNat 0x0D0010 2 fun t => t.bdataSet sid.toNat value)

/-! ### The digest vote (R493) and the end of the confirmation period (R501) -/

/-- STATE, TIMEV and IMGD that a lane of the own set shows. -/
def State.shows (s : State) (n : Nat) : Option Nat := if n = s.node then some s.healthNat else s.fresh n

/-- All three lanes of the set show STATE 0x5 with TIMEV = 1. -/
def State.digestReady (s : State) : Bool :=
  s.setNodes.all fun n => match s.shows n with | some h => decide (hState h = 5) && hTimev h | none => false

/-- The first lane of the set in STATE 0x5 that shows another IMGD. -/
def State.digestOther (s : State) : Option Nat :=
  s.setNodes.find? fun n => match s.shows n with
    | some h => decide (hState h = 5) && decide (hImgd h ≠ s.imgdLow) | none => false

/-- The voting lanes of the holding set that show neither the predecessor nor this image. -/
def State.digestHolders (s : State) : List Nat :=
  s.otherNodes.filter fun n => match s.fresh n with
    | some h => hVoting h && decide (hRole h = 0) && decide (hImgd h ≠ s.station.predd.toNat % 4294967296) &&
        decide (hImgd h ≠ s.imgdLow)
    | none => false

/-- The digest vote passes. -/
def State.digestPasses (s : State) : Bool :=
  decide (2 ≤ (s.setNodes.filter fun n => match s.shows n with | some h => decide (hImgd h = s.imgdLow) | none => false).length) &&
  s.digestOther.isNone && decide (s.digestHolders = [])

/-- The vote is decided. -/
def State.digestDecide (s : State) : State :=
  let s1 : State := { s with lane.digestDue := false }
  if s.digestPasses then s1
  else
    let n := match s.digestOther with | some n => n | none => s.digestHolders.headD 0xFF
    ((s1.programSlot s1.runSlotNo .retired).record 4 0x0D00 0x0D04 [n]).enterSafe 7

/-- DIGEST_VOTE (R493). -/
def execDigestVote (s : State) : Host.Outcome State Fault Refusal :=
  .next (if s.lane.st = .integrate ∧ s.lane.digestDue = true ∧ s.tae.timev = true then
      (if s.digestReady then s else s.advance (s.tae.timevAt + 5000000000)).digestDecide
    else s)

/-- CONFIRMATION_END (R501): in a lane of the new holding set. -/
def execConfirmationEnd (s : State) : Host.Outcome State Fault Refusal :=
  .next (match s.upd.confEnd with
    | some e =>
      if s.upd.conf && s.upd.confNew then ((s.advanceCt e).imageConfirm.confirmEntry).confEnds else s
    | none => s)

end Sys2Proof.Machine
end

