-- ==== Sys2Proof/Machine/Control.lean ====
section
/-! DEFINITION. The lane commands of GLB.CTLCMD (R604) and the step commands of LGE.STEP in HOLD (R125). -/

namespace Sys2Proof.Machine

/-! ### GLB.CTLCMD (R604, R612) -/

def State.ctlDone (s : State) : State := ({ s with lane.ctl := .completed } : State).cmdEnd
def State.ctlRefuse (s : State) : State := { s with lane.ctl := .refused }

/-- A lane command is still running (R600): it waits for a T0, a restart window is armed, or a switchover is under way. -/
def State.ctlRuns (s : State) : Bool := s.lane.holdPend || s.lane.resumePend || s.lane.window || s.ownSwitch false

/-- A lane command: refused while another one runs and where its conditions do not hold; accepted with its record. -/
def State.ctlOp (s : State) (op sid : Nat) (ok : Bool) (f : State → State) : State :=
  if s.ctlRuns || !ok then s.ctlRefuse else f { s.cmdRecord op sid with lane.ctlSw := decide (op = 7) }

/-- MAKESAFE: in LOAD and every later state but SAFE; SAFE with cause 0x07, COMPLETED at once. -/
def State.makesafe (s : State) (sid : Nat) : State :=
  s.ctlOp 1 sid (s.supServes && decide (s.lane.st ≠ .safe)) fun t => t.ctlDone.enterSafe 7

/-- RESTART (R40): in SAFE, unless the latch holds cause 0x04. -/
def State.restartCmd (s : State) (sid : Nat) : State :=
  s.ctlOp 2 sid (decide (s.lane.st = .safe) && !bit s.lane.smask 3) fun t => t.windowArm

/-- STOP (R123): static drives and no consent at once; a scan in progress runs to its END and commits nothing. -/
def State.stopCmd (s : State) (sid : Nat) : State :=
  s.ctlOp 3 sid (decide (s.lane.st = .run)) fun t =>
    ((t.ctlOvertaken.leaveVote.lampsDark.forcesRelease).setSt .stop).ctlDone

/-- HOLD (R124): in MODE Bench or Commissioning; from RUN at the next T0, from STOP at once. -/
def State.holdCmd (s : State) (sid : Nat) : State :=
  s.ctlOp 4 sid ((decide (s.lane.st = .run) || decide (s.lane.st = .stop)) && (decide (s.mode = 1) || decide (s.mode = 2)))
    fun t => if t.lane.st = .run then { t with lane.holdPend := true, lane.ctl := .waiting } else t.enterHold

/-- LEAVEHOLD (R127): to STOP; stores that wait are discarded. -/
def State.leaveHold (s : State) (sid : Nat) : State :=
  s.ctlOp 5 sid (decide (s.lane.st = .hold)) fun t => (t.lgeHalt.setSt .stop).ctlDone

/-- RESUME (R479): from STOP to INTEGRATE at the next T0. -/
def State.resumeCmd (s : State) (sid : Nat) : State :=
  s.ctlOp 6 sid (decide (s.lane.st = .stop)) fun t => { t with lane.resumePend := true, lane.ctl := .waiting }

/-- A commanded switchover is accepted (R49): in a voting lane of the holding set, to a standby set that has been healthy for the
previous 10 s. A set in SHADOW takes a program handover instead (R497). -/
def State.switchoverOk (s : State) : Bool :=
  s.voting && decide (s.lane.role = .holding) && decide (s.lane.switch = none) && !s.entryWaits && !s.shadowSet &&
  s.tenSeconds s.lane.otherHealthy

/-- SWITCHOVER (R49). -/
def State.switchoverCmd (s : State) (sid : Nat) : State :=
  s.ctlOp 7 sid s.switchoverOk fun t => { t.switchoverEntry (!t.sid) with lane.ctl := .running }

/-- ABORTSW (R500, R8, R9): distributed as an entry naming the own set; after the commit point answered COMPLETED, after the final
status answered with it. -/
def State.abortSwitch (s : State) (sid : Nat) : State :=
  if s.ownSwitch false then
    let t := s.cmdRecord 8 sid
    match t.lane.switch with
    | some x => if x.committed then ({ t with lane.ctl := .completed } : State) else t.switchoverEntry t.sid
    | none => t.switchoverEntry t.sid
  else if s.lane.ctlSw && !s.ctlRuns then s
  else s.ctlRefuse

/-- What GLB.CTLCMD does for an operation; a reserved one is refused. -/
def State.ctlCmd (s : State) (sid op : Nat) : State :=
  match op with
  | 1 => s.makesafe sid
  | 2 => s.restartCmd sid
  | 3 => s.stopCmd sid
  | 4 => s.holdCmd sid
  | 5 => s.leaveHold sid
  | 6 => s.resumeCmd sid
  | 7 => s.switchoverCmd sid
  | 8 => s.abortSwitch sid
  | _ => s.ctlRefuse

/-- The level of a lane command (R604). -/
def ctlLevel (op : Nat) : Nat := if op = 4 ∨ op = 5 ∨ op = 7 ∨ op = 8 then 3 else 2

/-- A write of GLB.CTLCMD. -/
def State.ctlWrite (s : State) (sid op : Nat) : State := s.command sid 0x28 op (ctlLevel op) fun t => t.ctlCmd sid op

def execMakesafe (sid : BitVec 16) (s : State) : Host.Outcome State Fault Refusal := .next (s.ctlWrite sid.toNat 1)
def execRestart (sid : BitVec 16) (s : State) : Host.Outcome State Fault Refusal := .next (s.ctlWrite sid.toNat 2)
def execStop (sid : BitVec 16) (s : State) : Host.Outcome State Fault Refusal := .next (s.ctlWrite sid.toNat 3)
def execHold (sid : BitVec 16) (s : State) : Host.Outcome State Fault Refusal := .next (s.ctlWrite sid.toNat 4)
def execLeavehold (sid : BitVec 16) (s : State) : Host.Outcome State Fault Refusal := .next (s.ctlWrite sid.toNat 5)
def execResume (sid : BitVec 16) (s : State) : Host.Outcome State Fault Refusal := .next (s.ctlWrite sid.toNat 6)
def execSwitchover (sid : BitVec 16) (s : State) : Host.Outcome State Fault Refusal := .next (s.ctlWrite sid.toNat 7)
def execAbortsw (sid : BitVec 16) (s : State) : Host.Outcome State Fault Refusal := .next (s.ctlWrite sid.toNat 8)

/-! ### LGE.STEP (R125, R139) -/

/-- Word cells that the hardware captures. -/
def hardWords : List Nat := (List.range 45).map (fun i => 0x43F00 + i) ++ (List.range 6).map fun i => 0x43F30 + i

/-- CAPTURE (R125): this lane's inputs with its own quality into the input and own-lane cells; the T0 and cycle-number cells of
the most recent boundary of a logic cycle; then the forces. -/
def State.holdCapture (s : State) : State :=
  let n := s.ct / s.logicNs
  let s1 := s.capture (n * s.logicNs) n
  let as := s.captureBits.map Prod.fst ++ hardWords
  (s1.putCells (as.map fun a => (a, tabGet (zeroCell a) a s1.inp.own))).forcesApply

/-- A step begins: the candidate of the last one is gone. A rung begins after the FENCE instructions that stand before it. -/
def State.stepBegin (s : State) (k : StepKind) : State :=
  { s with lge.step := .running, lge.stepKind := some k, lge.candidate := false,
           lge.stepPc := if k = .rung then s.lge.pc + s.fencesAt s.lge.pc else s.lge.pc }

def State.stepRefuse (s : State) : State := { s with lge.step := .refused }

/-- What LGE.STEP does: refused outside HOLD, and while a step runs; a CAPTURE also in the middle of a region. -/
def State.stepCmd (s : State) (op : Nat) : State :=
  if s.lane.st ≠ .hold ∨ s.lge.stepKind.isSome = true then s.stepRefuse
  else
    match op with
    | 1 => if s.atRegion s.lge.pc then ({ s.holdCapture with lge.step := .completed } : State).cmdEnd else s.stepRefuse
    | 2 => s.stepBegin .rung
    | 3 => s.stepBegin .region
    | 4 => s.stepBegin .scan
    | _ => s.stepRefuse

/-- A write of LGE.STEP. -/
def State.stepWrite (s : State) (sid op : Nat) : State := s.command sid 0x040018 op 3 fun t => t.stepCmd op

def execCapture (sid : BitVec 16) (s : State) : Host.Outcome State Fault Refusal := .next (s.stepWrite sid.toNat 1)
def execStepRung (sid : BitVec 16) (s : State) : Host.Outcome State Fault Refusal := .next (s.stepWrite sid.toNat 2)
def execStepRegion (sid : BitVec 16) (s : State) : Host.Outcome State Fault Refusal := .next (s.stepWrite sid.toNat 3)
def execStepScan (sid : BitVec 16) (s : State) : Host.Outcome State Fault Refusal := .next (s.stepWrite sid.toNat 4)

/-- STEP_COMPLETE (R125). -/
def execStepComplete (s : State) : Host.Outcome State Fault Refusal :=
  .next (if s.lane.st = .hold ∧ s.lge.stepKind.isSome = true ∧ s.lge.drain = none ∧ s.stepEnded = true then
      let s1 : State := { s with lge.step := .completed, lge.stepKind := none }
      (if s.lge.stepKind = some .scan ∧ s.lge.candidate = false then s1.evtLge 9 else s1).cmdEnd
    else s)

end Sys2Proof.Machine
end

