-- ==== Sys2Proof/Machine/Registers.lean ====
section
/-! DEFINITION. The register map as a read shows it (R4 to R6, R599, R601): one function per subsystem, from the offset in its block
to the value, and the windows. Reserved fields and addresses read as zero. -/

namespace Sys2Proof.Machine

/-! ### Fields -/

/-- A field of `w` bits from bit `lo` on. -/
def fieldAt (v lo w : Nat) : Nat := v % 2 ^ w * 2 ^ lo

/-- A one-bit field. -/
def flag (b : Bool) (k : Nat) : Nat := bitNat b * 2 ^ k

/-- A signed number in a field of `w` bits from bit 0 on. -/
def sfld (i : Int) (w : Nat) : Nat := (i % (2 ^ w : Nat)).toNat

/-- Bit i of a register for each of `n` items. -/
def mask (n : Nat) (f : Nat → Bool) : Nat := ((List.range n).map fun i => flag (f i) i).foldl (· + ·) 0

/-! ### Command status codes -/

/-- GLB.CTLCMD, CRT.SRST and UPD.CMD (R612, R578, R510). -/
def stdCode : CmdStatus → Nat
  | .idle => 0 | .waiting | .running => 1 | .completed => 2 | .aborted => 3 | .failed => 4 | .refused => 5 | .busy => 6

/-- MEA.CALCMD and CRT.BISTCMD (R327, R580). -/
def runCode : CmdStatus → Nat
  | .idle => 0 | .waiting => 1 | .running => 2 | .completed => 3 | .aborted => 4 | .failed => 5 | _ => 6

/-- LGE.STEP, GRD.FBCMD, VIO.LOCKACK, LMP.ISOACK and CRT.FCMD (R139, R204, R234, R267, R583). -/
def shortCode : CmdStatus → Nat
  | .idle => 0 | .waiting | .running => 1 | .completed => 2 | _ => 3

/-- TAE.WSETHI and LMP.LRN (R87, R295). -/
def failCode : CmdStatus → Nat
  | .idle => 0 | .waiting | .running => 1 | .completed => 2 | .refused => 4 | _ => 3

/-- REC.FRZ (R541). -/
def frzCode : CmdStatus → Nat
  | .running => 1 | .completed => 2 | .aborted => 3 | .refused => 4 | _ => 0

/-! ### CFG registers -/

/-- The place of an address in a table of entries of `size` bytes from `base` on, `n` of them: the offset in its entry. -/
def inTable (a base size n : Nat) : Option Nat :=
  if base ≤ a ∧ a < base + size * n then some ((a - base) % size) else none

/-- Tables of CFG registers: base, entry size, number of entries, and for each offset the default and the implemented bits. -/
def cfgTables : List (Nat × Nat × Nat × List (Nat × Nat × Nat)) :=
  [(0x031000, 8, 256, [(0, 0, 0xFFFFFFFF), (4, 0, 0xC000FFFF)]),
   (0x031800, 8, 64, [(0, 0, 0x3FFFFFFF), (4, 0, 0xB000FFFF)]),
   (0x060100, 4, 64, [(0, 30, 0xC00001FF)]),
   (0x060200, 4, 32, [(0, 0, 0xFF03FFFF)]),
   (0x070020, 4, 8, [(0, 0, 0xC000001F)]),
   (0x070100, 4, 32, [(0, 0, 0xF000007F)]),
   (0x070200, 8, 16, [(0, 0, 0xC00F00FF), (4, 0x03E801F4, 0xFFFFFFFF)]),
   (0x070300, 4, 32, [(0, 0x08004000, 0x9FFFFFFF)]),
   (0x070400, 16, 128, [(0, 0, 0xFFFFFFFF), (4, 0, 0xFFFFFFFF), (8, 0, 0x80000007)]),
   (0x074000, 4, 8192, [(0, 0, 0x00FFFFFF)]),
   (0x081000, 64, 48, [(0, 0, 0xF800003F), (4, 0, 0xFFFFFFFF), (8, 0, 0xFFFFFFFF), (12, 0, 0xFFFFFFFF), (16, 0, 0xFFFFFFFF),
     (20, 0, 0xFFFFFFFF), (24, 0, 0xC03FFFFF), (28, 0, 0xFFFFFFFF), (32, 0, 0xC03FFFFF)]),
   (0x090020, 4, 8, [(0, 0, 0x7F)]),
   (0x091000, 16, 512, [(0, 0, 0xFFFFFFFF), (4, 0, 0xFC1FFFFF), (8, 0, 0x0FFF07FF)]),
   (0x093000, 4, 1024, [(0, 0, 0x03FF03FF)]),
   (0x094000, 4, 1024, [(0, 0, 0xFFFE0000)]),
   (0x0A0020, 32, 2, [(0, 0, 0xF00FFFFF), (4, 0, 0xFFFFFFFF), (8, 0, 0xFFFF), (12, 0, 0xFFFFFFFF), (16, 64, 0x003F00FF)]),
   (0x0A1000, 32, 1024, [(0, 0, 0xFFFFFFFF), (4, 0, 0xFFFFFFFF), (8, 0x0001100C, 0xFFFFFFFF), (12, 0, 0x07FF07FF),
     (16, 0, 0xFFFFFFFF), (20, 0, 0x3FFF), (24, 0, 0xFFFFFFFF), (28, 1000, 0xFFFF)]),
   (0x0AA000, 4, 512, [(0, 0, 0xFFFFFFFF)]),
   (0x0AB000, 16, 128, [(0, 0, 0xFFFFFFFF), (4, 0, 0xFFFFFFFF), (8, 0, 0xC000FFFF)]),
   (0x0B0020, 64, 2, [(0, 0x2000000A, 0xFCFF7FFF), (4, 0, 0x1FFF7F7F), (8, 0, 0x1F1F0F0F), (16, 0, 0x9FFFFFFF)]),
   (0x0B0400, 16, 64, [(0, 0, 0xFFFFFFFF), (4, 0, 0xFC0F03FF), (8, 0, 0xFFFF00FF)]),
   (0x0B0800, 8, 16, [(0, 0, 0xFFFFFFFF), (4, 0, 0x1FFFFFFF)])]

/-- Single CFG registers: address, default, implemented bits that the image gives. -/
def cfgSingles : List (Nat × Nat × Nat) :=
  [(0x000024, 0xC000B807, 0xC000FFFF), (0x010024, 0, 0xFF), (0x030030, 0x40A, 0x7FF), (0x040000, 2, 3),
   (0x04000C, 0, 0x1FFFFF), (0x040010, 0, 0x07FF01FF), (0x050000, 0, 1), (0x050004, 0, 0x07FFFFFF), (0x050008, 0, 0x7FFF3FFF),
   (0x05000C, 0x025800C8, 0xFFFFFFFF), (0x060000, 0x00280C05, 0x007FFF3F), (0x070000, 0x03E80005, 0xFFFF001F),
   (0x080000, 0x80050032, 0x80FFFFFF), (0x090000, 0x00802004, 0x00FFE03F), (0x090004, 0, 0x0FFF03FF),
   (0x0A0000, 0x4000B806, 0xC000FFFF), (0x0A0004, 0, 0xFFFFFFFF), (0x0A0008, 0, 0x00FF07FF), (0x0C0000, 1, 0xF)]

/-- Default and implemented bits of the CFG register at an address; none where there is none. -/
def cfgInfo (a : Nat) : Option (Nat × Nat) :=
  match cfgSingles.find? fun e => decide (e.1 = a) with
  | some e => some e.2
  | none =>
    cfgTables.findSome? fun t =>
      match inTable a t.1 t.2.1 t.2.2.1 with
      | some o => (t.2.2.2.find? fun e => decide (e.1 = o)).map Prod.snd
      | none => none

/-- The CFG fields of the register at an address; zero where it has none. -/
def State.cfgRead (s : State) (a : Nat) : Nat :=
  match cfgInfo a with
  | some (d, m) => s.cfg a d &&& m
  | none => 0

/-! ### GLB (R606 to R614) -/

/-- GLB.ATTN as a read shows it: the SAFE term follows the latch (R603, R610). -/
def State.attnBits (s : State) : Nat := s.lane.attn.toNat / 2 * 2 + bitNat s.lane.safeLatch

/-- SAFE_N (R38). -/
def State.safeN (s : State) : Bool := decide (s.lane.st = .run) && decide (s.lane.role ≠ .excluded)

/-- SUMM.EVTANY (R609). -/
def State.evtAny (s : State) : Nat :=
  flag (decide (s.crt.evt ≠ 0)) 1 + flag (decide (s.tae.evt ≠ 0)) 3 + flag (decide (s.lge.evt ≠ 0)) 4 +
  flag (decide (s.grd.evt ≠ 0)) 5 + flag (decide (s.vio.evt ≠ 0)) 6 + flag (decide (s.lmp.evt ≠ 0) || decide (s.lmp.pevt ≠ 0)) 7 +
  flag (decide (s.mea.evt ≠ 0)) 8 + flag (decide (s.lnb.evt ≠ 0) || decide (s.lnb.sevt ≠ 0)) 9 + flag (decide (s.fld.evt ≠ 0)) 10 +
  flag (decide (s.cab.evt ≠ 0)) 11 + flag (decide (s.rcd.evt ≠ 0)) 12 + flag (decide (s.upd.evt ≠ 0)) 13

/-- A path is locked out now (R596): 1 s after a mismatch, 60 s after the eighth in a row. -/
def lockNs (p : PathLock) : Nat := if 8 ≤ p.failures then 60000000000 else 1000000000
def State.lockedOut (s : State) (path : Nat) : Bool :=
  let p := tabGet path0 path s.sup.paths
  p.locked && decide (s.pins.now < p.since + lockNs p)

def sessCode : SessState → Nat
  | .none => 0 | .challenged => 1 | .opened => 2

/-- GLB.STATE. -/
def State.glbState (s : State) : Nat :=
  fieldAt s.lane.sfault 24 8 + fieldAt (if s.lane.safeLatch then s.lane.scause else 0) 16 8 +
  fieldAt (if s.lane.safeLatch then s.lane.smask else 0) 8 8 + flag (decide (s.lane.st = .run)) 6 + fieldAt (roleCode s.lane.role) 4 2 +
  stCode s.lane.st

/-- GLB as session `x` sees it. -/
def State.readGlb (s : State) (x : Session) (o : Nat) : Nat :=
  match o with
  | 0x00 => 0x3E31A100
  | 0x04 => s.glbState
  | 0x08 => flag s.lane.strapAcc 31 + fieldAt s.lane.eff.toNat 16 14 + s.lane.pin.toNat
  | 0x0C => flag s.safeN 21 + flag s.lane.cons1 20 + flag s.lane.cons0 19 + flag s.lane.safeLatch 18 + flag s.angv 17 +
      flag s.tae.timev 16 + s.evtAny
  | 0x10 => s.attnBits
  | 0x14 => fieldAt s.lane.attnSev 8 3 + s.lane.attnEn.toNat
  | 0x18 => s.station.fwver.toNat
  | 0x1C => (match s.upd.hdr with | some h => h.station.toNat | none => 0)
  | 0x20 => s.imgdLow
  | 0x24 => s.cfgRead 0x24
  | 0x28 => stdCode s.lane.ctl
  | 0x40 => x.scmd
  | 0x44 => fieldAt x.num 16 16 + fieldAt (if x.st = .opened then x.level else 0) 8 4 + flag x.tok.isSome 3 +
      flag (s.lockedOut x.path) 2 + sessCode x.st
  | 0x48 => x.tcnt
  | 0x4C => fieldAt x.chal.toNat 0 32
  | 0x50 => x.chal.toNat / 4294967296
  | _ => 0

/-! ### CRT (R574 to R584) -/

/-- TAE.PHASE (R89): the step of R71 at present. Input agreement begins with its windows, 5 µs after T0; the commit is one
instant, and the idle time follows it. -/
def State.phaseNow (s : State) : Nat :=
  match s.tae.phase with
  | 1 => if s.inp.t0 + 5000 ≤ s.ct then 3 else 1
  | 10 => if s.inp.t0 + s.cycC * s.basicNs + 10 ≤ s.ct then 11 else 10
  | p => p

/-- Epoch tags of codes `k` to `k + n - 1`, the first in bits 3:0. -/
def State.epochs (s : State) (k n : Nat) : Nat :=
  ((List.range n).map fun i => fieldAt (tabGet 0 (k + i) s.crt.epoch) (4 * i) 4).foldl (· + ·) 0

def State.readCrt (s : State) (o : Nat) : Nat :=
  match o with
  | 0x00 => fieldAt s.xsel 26 2 + flag s.crt.xval 25 + flag s.crt.rval 24 + flag s.crt.rootsel 23 + flag s.crt.lock 22 +
      flag s.crt.align 21 + s.crt.gate.toNat / 2 * 2
  | 0x04 => s.crt.clken.toNat / 2 * 2
  | 0x08 => s.crt.monst.toNat
  | 0x0C => s.crt.evt.toNat
  | 0x10 => stdCode s.crt.srst
  | 0x14 => s.epochs 1 8
  | 0x18 => s.epochs 9 4
  | 0x20 => fieldAt s.crt.bistGrp 4 2 + runCode s.crt.bist
  | 0x24 => s.cfgRead 0x010024
  | 0x28 => s.crt.bistres.toNat
  | 0x2C => fieldAt (s.transOf .lge) 0 3 + fieldAt (s.transOf .lgeMem) 3 3 + fieldAt (s.transOf .grd) 6 3 + fieldAt (s.transOf .io) 9 3 +
      fieldAt (s.transOf .lnbRx) 12 3
  | 0x30 => flag s.crt.burnf 11 + flag (s.crt.vfuse && decide (s.lane.st ≠ .reset)) 10 + flag s.crt.ikd.isNone 9 + fieldAt s.crt.sv 0 8
  | 0x34 => shortCode s.crt.fcmd
  | 0x38 => fieldAt s.crt.devid.toNat 0 32
  | 0x3C => s.crt.devid.toNat / 4294967296
  | 0x40 => fieldAt s.crt.wosc 0 16
  | _ => 0

/-! ### TAE (R81 to R92) -/

def State.readTae (s : State) (o : Nat) : Nat :=
  match o with
  | 0x00 => s.taeCfg &&& 0xFFF
  | 0x04 => fieldAt s.tae.loss 8 8 + flag s.tae.slew 5 + flag s.dcAngle 4 + flag s.tae.srcact 3 + flag s.tae.wallv 2 + flag s.angv 1 +
      bitNat s.tae.timev
  | 0x08 => s.tae.evt.toNat
  | 0x10 => fieldAt s.ct 0 32
  | 0x14 => s.tae.cthi.toNat
  | 0x18 => fieldAt s.ownAngle 0 32
  | 0x1C => fieldAt s.freqCell 0 32
  | 0x20 => sfld s.tae.woff 32
  | 0x24 => sfld (s.tae.woff / 4294967296) 16
  | 0x28 => s.tae.wsetlo.toNat
  | 0x2C => failCode s.tae.wset
  | 0x30 => fieldAt (s.cfgField 0x090000 0x00802004 0 6) 11 6 + s.cfgRead 0x030030
  | 0x34 => fieldAt s.tae.cycnum 0 32
  | 0x38 => fieldAt s.phaseNow 0 4
  | 0x3C => fieldAt s.tae.samAng 0 32
  | 0x40 => fieldAt s.tae.samFrq 0 32
  | _ => s.cfgRead (0x030000 + o)

/-! ### LGE (R134 to R143) -/

def emodeCode : EMode → Nat
  | .halted => 0 | .cyclic => 1 | .stepping => 2 | .splitCyclic => 3

/-- EMODE follows the lane state (R122). -/
def State.emode (s : State) : EMode :=
  match s.lane.st with
  | .prove | .run => if s.lge.split then .splitCyclic else .cyclic
  | .hold => .stepping
  | _ => .halted

/-- A store to the cell waits in the store buffer, in HOLD (R141). -/
def State.pendStore (s : State) (a : Nat) : Bool :=
  decide (s.lane.st = .hold) && s.lge.buf0.any fun e => decide (e.addr = a)

/-- LGE.CRD0 to CRD3 of the selected cell. -/
def State.readCrd (s : State) (k : Nat) : Nat :=
  let a := s.lge.csel
  let st := s.station
  if cellKind a = none ∨ cellClass st a = .reserved then 0
  else
    let c := s.cell a
    let metaBits := flag c.q 31 + flag (s.forced a) 30 + flag (s.pendStore a) 27
    match c with
    | .bit v _ =>
      (match k with | 0 => bitNat v + flag (readBit st a c) 1 | 1 => bitNat (safeBit st a) | 3 => metaBits | _ => 0)
    | .word v _ => (match k with | 0 => v.toNat | 1 => (safeWord st a).toNat | 3 => metaBits + fieldAt 1 28 2 | _ => 0)
    | .timer p t r _ =>
      (match k with
       | 0 => p.toNat | 1 => fieldAt t.toNat 0 32 | 2 => t.toNat / 4294967296 | _ => metaBits + fieldAt 2 28 2 + bitNat r)
    | .edge m _ => (match k with | 0 => bitNat m | 3 => metaBits + fieldAt 3 28 2 | _ => 0)

/-- What POS and REGION show (R135, R140): in HOLD the next rung and its region; else the address and the region of the scan that
runs, 0 where none does (entry 74). -/
def State.stepShown (s : State) : Nat × Nat :=
  if s.lane.st = .hold then s.nextRung else (s.lge.pc, if s.lge.scan then s.lge.region else 0)

def State.readLge (s : State) (o : Nat) : Nat :=
  match o with
  | 0x00 => flag s.lge.brken 2 + s.cfgRead 0x040000
  | 0x04 => fieldAt s.stepShown.2 16 9 +
      flag (decide (s.lane.st = .hold) && decide (s.lge.buf0 ≠ [])) 6 + flag s.lge.split 5 +
      flag (s.lge.scan || s.lge.stepKind.isSome) 4 + emodeCode s.emode
  | 0x08 => s.lge.evt.toNat
  | 0x14 => fieldAt s.lge.scanMax 16 16 + fieldAt s.lge.scanLast 0 16
  | 0x18 => shortCode s.lge.step
  | 0x1C => fieldAt s.lge.breg 0 9
  | 0x20 => fieldAt s.stepShown.1 0 20
  | 0x24 => fieldAt s.lge.csel 0 20
  | 0x28 => s.readCrd 0
  | 0x2C => s.readCrd 1
  | 0x30 => s.readCrd 2
  | 0x34 => s.readCrd 3
  | 0x38 => fieldAt s.lge.odig.toNat 0 32
  | 0x3C => s.lge.odig.toNat / 4294967296
  | 0x40 => fieldAt s.lge.scorr 16 16 + fieldAt s.lge.pcorr 0 16
  | _ => s.cfgRead (0x040000 + o)

/-- The cell window (R132). -/
def State.readCell (s : State) (a : Nat) : Nat :=
  if cellKind a = none ∨ cellClass s.station a = .reserved then 0
  else
    match s.cell a with
    | .bit v q => bitNat (readBit s.station a (.bit v q)) + flag q 31
    | .word v q => (readWord s.station a (.word v q)).toNat
    | .timer _ _ r q => bitNat r + flag q 31
    | .edge m q => bitNat m + flag q 31

/-- The program window (R133). -/
def State.readProgram (s : State) (p : Nat) : Nat := match s.insAt p with | some w => w.toNat | none => 0

/-! ### GRD (R195 to R204) -/

def gmodeCode : GMode → Nat
  | .notLoaded => 0 | .checking => 1 | .faultExcluded => 2 | .fallback => 3

def State.readGrd (s : State) (o : Nat) : Nat :=
  match o with
  | 0x00 => grdWord s.station 0x10 % 2
  | 0x04 => grdNgrp s.station * 16384 + grdNout s.station
  | 0x08 => grdNmemb s.station * 65536 + grdNrow s.station
  | 0x0C => grdAllow s.station
  | 0x10 => flag (s.grd.cand.isSome && !s.grd.chkok) 6 + flag s.grd.veto 5 + flag s.grd.chkok 4 + gmodeCode s.grd.gmode
  | 0x14 => s.grd.evt.toNat
  | 0x18 => s.grd.vdet0.toNat
  | 0x1C => s.grd.vdet1.toNat
  | 0x20 => fieldAt s.grd.vcnt 0 16
  | 0x24 => fieldAt s.grd.passcnt 0 32
  | 0x28 => fieldAt s.grd.tcrc.toNat 0 32
  | 0x2C => s.grd.tcrc.toNat / 4294967296
  | 0x30 => fieldAt s.grd.gcorr 16 16 + fieldAt s.grd.tcorr 0 16
  | 0x34 => shortCode s.grd.fbcmd
  | _ => s.cfgRead (0x050000 + o)

/-- The Guardian table window (R168): the reserved ranges read as zero. -/
def State.readTables (s : State) (o : Nat) : Nat :=
  if o < 0x1800 ∨ (0x2000 ≤ o ∧ o < 0x94000) then (tabGet 0#32 (o / 4) s.station.grd).toNat else 0

/-! ### VIO (R229 to R238) -/

def monCode : MonState → Nat
  | .dropped => 1 | .picking => 2 | .picked => 3 | .dropping => 4 | .locked => 5

/-- The bits of 32 inputs from `b` on. -/
def State.vinMask (s : State) (b : Nat) (f : Nat → VinState → Bool) : Nat := mask 32 fun i => f (b + i) (s.vin (b + i))
def State.vinQ (s : State) (n : Nat) (v : VinState) : Bool := s.vinEn n && decide (v.pat ≠ .fault)
def State.vinProven (s : State) (n : Nat) (v : VinState) : Bool := s.img.isSome && (!s.vinPr n || decide (v.prov = .proven))

/-- VIO.FBSMr. -/
def State.fbsm (s : State) (r : Nat) : Nat :=
  ((List.range 8).map fun i =>
    fieldAt (if s.monEn (8 * r + i) then monCode (s.vout (8 * r + i)).mon else 0) (4 * i) 4).foldl (· + ·) 0

def State.readVio (s : State) (o : Nat) : Nat :=
  match o with
  | 0x04 => fieldAt s.vio.tpof.toNat 8 4 + flag s.pins.restartLvl 4 + flag (s.vio.vout.any fun e => e.2.lockout) 3 +
      flag ((List.range 64).any fun n => s.vinPr n && decide ((s.vin n).prov ≠ .proven)) 2 +
      flag ((List.range 64).any fun n => s.vinEn n && decide ((s.vin n).pat = .fault)) 1 + bitNat s.vio.tpoAct
  | 0x08 => s.vio.evt.toNat
  | 0x10 => s.vinMask 0 fun _ v => v.filtered
  | 0x14 => s.vinMask 32 fun _ v => v.filtered
  | 0x18 => s.vinMask 0 s.vinQ
  | 0x1C => s.vinMask 32 s.vinQ
  | 0x20 => s.vinMask 0 s.vinProven
  | 0x24 => s.vinMask 32 s.vinProven
  | 0x28 => mask 32 s.voutLive
  | 0x2C => s.vio.vfb.toNat
  | 0x30 => mask 32 fun n => (s.vout n).lockout
  | 0x34 => shortCode s.vio.lockack
  | 0x38 => s.fbsm 0
  | 0x3C => s.fbsm 1
  | 0x40 => s.fbsm 2
  | 0x44 => s.fbsm 3
  | 0x48 => flag s.pins.restartQual 1 + bitNat s.pins.restartLvl
  | _ => s.cfgRead (0x060000 + o)

/-! ### LMP (R263 to R272, R294 to R299) -/

/-- LMP.AGSTg. -/
def State.readAgst (s : State) (g : Nat) : Nat :=
  let a := s.group g
  let tgt := match a.seq with | some q => q.target | none => a.effective
  flag (agEn s.station g && a.shown.isNone) 11 + flag a.seq.isSome 10 + flag a.latch.isSome 9 + fieldAt (a.latch.getD 0) 6 3 + fieldAt (tgt.getD 0) 3 3 +
  fieldAt (a.shown.getD 0) 0 3

/-- LMP.PRSTn. -/
def State.readPrst (s : State) (n : Nat) : Nat :=
  let l := s.lamp n
  fieldAt (satTo 255 (blindRun s.station n)) 24 8 + flag (blankAt l.blankTo s.pins.now || inrushAt l.inrushTo s.pins.now) 7 + flag l.suspended 6 + flag l.dpok 5 + flag l.oob 4 +
  flag l.lwd 3 + flag l.dwl 2 + flag l.pd 1 + bitNat l.pl

/-- LMP.LRNDATi. -/
def State.readLrn (s : State) (i : Nat) : Nat :=
  let e := tabGet (1, 0) i s.lmp.lrndat
  if e.1 ≤ e.2 then flag true 31 + sfld e.2 12 * 4096 + sfld e.1 12 else 0

def State.readLmp (s : State) (o : Nat) : Nat :=
  match o with
  | 0x04 => fieldAt s.lmp.iso.toNat 8 8 + flag (decide (s.lane.st ≠ .off) && decide (s.lane.st ≠ .reset) && !s.drives) 2 + flag (s.lmp.group.any fun e => e.2.latch.isSome) 1 +
      bitNat (s.lmp.group.any fun e => e.2.seq.isSome)
  | 0x08 => s.lmp.evt.toNat
  | 0x0C => mask 32 fun n => (s.lamp n).drive
  | 0x10 => mask 32 s.lampLive
  | 0x14 => shortCode s.lmp.isoack
  | 0x18 => s.lmp.pevt.toNat
  | 0x1C => failCode s.lmp.lrn
  | _ =>
    if 0x280 ≤ o ∧ o < 0x2C0 then s.readAgst ((o - 0x280) / 4)
    else if 0x380 ≤ o ∧ o < 0x400 then s.readPrst ((o - 0x380) / 4)
    else if 0x3000 ≤ o ∧ o < 0x3400 then s.readLrn ((o - 0x3000) / 4)
    else s.cfgRead (0x070000 + o)

/-! ### MEA (R322 to R331) -/

def phaseCode : SiPhase → Nat
  | .idle => 0 | .selfCal => 1 | .parallel => 2 | .serving => 3 | .returning => 4 | .outOfService => 5

/-- MEA.CHSTn. -/
def State.readChst (s : State) (n : Nat) : Nat :=
  let m := s.meaOf n
  let age := if s.mea.calDone then fieldAt (satTo 65535 ((s.pins.now - m.calAt) / 1000000000)) 0 16 else 0
  let low := flag m.fastQ 31 + flag m.inv 30 + flag m.clip 29 + age
  if 48 ≤ n then low
  else low + flag m.rngq 28 + flag m.rateq 27 + flag m.srv.isSome 26 + flag (decide (m.srv = some 1)) 25

/-- The registers of a channel at an offset in its block. -/
def State.readChan (s : State) (n o : Nat) : Nat :=
  let m := s.meaOf n
  match o with
  | 0x24 => sfld m.off 24
  | 0x28 => fieldAt m.gain 0 24
  | 0x2C => s.readChst n
  | 0x30 => flag m.fastQ 31 + sfld m.fast 16
  | 0x34 => flag m.fineQ 31 + sfld m.fine 24
  | _ => s.cfgRead (0x081000 + 64 * n + o)

def State.readMea (s : State) (o : Nat) : Nat :=
  let out (b : Nat) (f : MeaState → WinRun) : Nat := mask (if b = 0 then 32 else 16) fun i => decide ((f (s.meaOf (b + i))).st ≠ .inside)
  match o with
  | 0x04 => fieldAt s.mea.refloss 8 8 + flag (s.mea.monok || (s.mea.bufon && decide (s.mea.refFrom < s.pins.now))) 2 + flag s.mea.bufon 1 + bitNat s.mea.rdy
  | 0x08 => s.mea.evt.toNat
  | 0x0C => flag s.mea.calstale 25 + flag (s.mea.aligned && s.tae.timev) 24 + fieldAt (phaseCode s.mea.si1.phase) 21 3 + fieldAt s.mea.si1.chan 10 6 +
      fieldAt (phaseCode s.mea.si0.phase) 7 3 + fieldAt s.mea.si0.chan 0 6
  | 0x10 => mask 32 fun i => (s.meaOf i).fastQ
  | 0x14 => mask 18 fun i => (s.meaOf (32 + i)).fastQ
  | 0x18 => out 0 MeaState.winA
  | 0x1C => out 32 MeaState.winA
  | 0x20 => out 0 MeaState.winB
  | 0x24 => out 32 MeaState.winB
  | 0x28 => runCode s.mea.calcmd
  | _ =>
    if 0x100 ≤ o ∧ o < 0x1C0 then
      let e := tabGet (0, false) ((o - 0x100) / 4) s.mea.snap
      flag e.2 31 + sfld e.1 16
    else if 0x1000 ≤ o ∧ o < 0x1C80 then s.readChan ((o - 0x1000) / 64) ((o - 0x1000) % 64)
    else s.cfgRead (0x080000 + o)

/-! ### LNB (R356 to R364, R391 to R395) -/

/-- A bit for each of the eight nodes. -/
def State.nodeMask (s : State) (f : NodeView → Bool) : Nat := mask 8 fun n => f (s.nodeView n)

def State.readLnb (s : State) (o : Nat) : Nat :=
  match o with
  | 0x00 => flag s.lbt 31 + s.cfgRead 0x090000
  | 0x08 => fieldAt (s.lnb.m % max 1 s.ccl) 24 6 + fieldAt (s.nodeMask NodeView.rxLast) 16 8 + fieldAt (s.nodeMask NodeView.scRejected) 8 8 +
      s.nodeMask fun v => decide (v.scCount ≠ 0)
  | 0x0C => s.lnb.evt.toNat
  | 0x10 => fieldAt s.lnb.failX 16 16 + fieldAt s.lnb.bndX 0 16
  | 0x14 => fieldAt s.lnb.failY 16 16 + fieldAt s.lnb.bndY 0 16
  | 0x18 => fieldAt s.lnb.gcut 16 16 + fieldAt s.lnb.cmpf 0 16
  | 0x40 => fieldAt s.lnb.att 24 8 + fieldAt (s.lnb.rref.getD 0) 21 3 + flag s.lnb.rref.isSome 20 + flag s.lnb.recadm 19 +
      fieldAt s.lnb.leader 16 3 + fieldAt (s.nodeMask NodeView.syncLast) 8 8 + bstateCode s.lnb.bstate
  | 0x44 => bitNat s.csn
  | 0x48 => fieldAt s.lnb.offmax 16 8 + sfld s.lnb.offs 16
  | 0x4C => sfld s.lnb.rho 32
  | 0x50 => s.lnb.sevt.toNat
  | 0x54 => fieldAt s.lnb.demcnt 16 16 + fieldAt s.lnb.collcnt 0 16
  | _ => s.cfgRead (0x090000 + o)

/-! ### FLD (R419 to R428) -/

/-- SPDp. -/
def speedCode : LinkState → Nat
  | .up100 => 1 | .up1000 => 2 | _ => 0

/-- FLD.CSTc. -/
def State.readCst (s : State) (c : Nat) : Nat :=
  if (connList s.station).contains c then
    let x := s.conn c
    fieldAt (s.connEsWord c 0) 30 2 + fieldAt x.seqErr 16 8 + fieldAt x.stale 8 8 + fieldAt x.cmacf 0 8
  else 0

def State.readFld (s : State) (o : Nat) : Nat :=
  let l (p : Nat) := (s.port p).link
  match o with
  | 0x0C => fieldAt ((connList s.station).filter fun c => decide (s.connEsWord c 0 % 4 = 2)).length 16 11 + fieldAt (speedCode (l 1)) 4 2 +
      flag (linkUp (l 1)) 3 + fieldAt (speedCode (l 0)) 1 2 + bitNat (linkUp (l 0))
  | 0x10 => s.fld.evt.toNat
  | 0x60 => fieldAt (s.port 0).rxok 16 16 + fieldAt (s.port 0).drop 0 16
  | 0x64 => fieldAt (s.port 0).txok 16 16 + fieldAt (s.port 0).cmacf 0 16
  | 0x68 => fieldAt (s.port 1).rxok 16 16 + fieldAt (s.port 1).drop 0 16
  | 0x6C => fieldAt (s.port 1).txok 16 16 + fieldAt (s.port 1).cmacf 0 16
  | _ => if 0x9000 ≤ o ∧ o < 0xA000 then s.readCst ((o - 0x9000) / 4) else s.cfgRead (0x0A0000 + o)

/-! ### CAB (R446 to R452) -/

def estateCode : CanEState → Nat
  | .active => 0 | .passive => 1 | .busoff => 2 | .disabled => 3

def txCode : TxState → Nat
  | .free => 0 | .pending => 1 | .started => 2 | .completed => 3 | .aborted => 4 | .failed => 5

/-- CAB.CSTATc. -/
def State.readCstat (s : State) (c : Nat) : Nat :=
  let x := s.can c
  flag x.lonely 28 + fieldAt (estateCode x.estate) 26 2 + fieldAt x.tdcMeas 16 8 + fieldAt x.recN 8 8 + fieldAt x.tecN 0 8

/-- CAB.RXHDR0 of an entry. -/
def rxHdr0 (e : RxEntry) : Nat :=
  fieldAt e.ctrl 31 1 + flag e.frame.ide 30 + flag e.frame.fdf 29 + flag e.frame.brs 28 + flag e.frame.rtr 27 + flag e.frame.esi 26 +
  fieldAt e.frame.dlc.toNat 16 4

/-- The head of the receive queue; zero when it is empty. -/
def State.readRx (s : State) (f : RxEntry → Nat) : Nat := match s.cab.rxq.head? with | some e => f e | none => 0

/-- CAB.TXSTe. -/
def State.readTxst (s : State) (e : Nat) : Nat :=
  let x := s.txEntry e
  fieldAt x.att 8 8 + fieldAt x.cause 4 3 + txCode x.st

def State.readCab (s : State) (o : Nat) : Nat :=
  match o with
  | 0x00 => s.cab.evt.toNat
  | 0x04 => flag s.cab.postRef 8 + fieldAt s.cab.postEntry 0 5
  | 0x08 => fieldAt s.cab.cancelAns 0 3
  | 0x0C => fieldAt s.cab.rxq.length 16 7 + fieldAt s.cab.ovf 0 16
  | 0x2C => s.readCstat 0
  | 0x34 => (s.can 0).toff.toNat
  | 0x6C => s.readCstat 1
  | 0x74 => (s.can 1).toff.toNat
  | 0x100 => s.cab.txhdr0.toNat
  | 0x104 => s.cab.txhdr1.toNat
  | 0x180 => s.readRx rxHdr0
  | 0x184 => s.readRx fun e => e.frame.ident.toNat
  | 0x188 => s.readRx fun e => fieldAt e.sof 0 32
  | _ =>
    if 0x140 ≤ o ∧ o < 0x180 then (tabGet 0#32 ((o - 0x140) / 4) s.cab.txdata).toNat
    else if 0x1C0 ≤ o ∧ o < 0x200 then s.readRx fun e => leNat (slice (o - 0x1C0) 4 e.frame.data)
    else if 0x200 ≤ o ∧ o < 0x280 then s.readTxst ((o - 0x200) / 4)
    else s.cfgRead (0x0B0000 + o)

/-! ### REC (R536 to R542) -/

def State.readRec (s : State) (x : Session) (o : Nat) : Nat :=
  match o with
  | 0x00 => flag s.cmpt 8 + s.cfgRead 0x0C0000
  | 0x04 => fieldAt s.rcd.msize 12 6 + fieldAt (if s.rcd.msize = 0 then 0 else if s.rcd.msize = 32 then 2 else 1) 10 2 +
      flag (decide (s.rcd.legStat = 1)) 9 + flag s.rcd.frozen 8 + flag s.rcd.flush 7 + satTo 127 (s.rcd.buf.length / 64)
  | 0x08 => s.rcd.evt.toNat
  | 0x0C => fieldAt s.rcd.seqNext 0 32
  | 0x10 => fieldAt s.rcd.lostcnt 0 32
  | 0x20 => x.curStat
  | 0x24 => x.cseq.toNat
  | 0x60 => frzCode s.rcd.frz
  | 0x80 => if s.cmpt then s.legHi.toNat else 0
  | 0x84 => if s.cmpt then s.rcd.legLo.toNat else 0
  | 0x88 => if s.cmpt then fieldAt s.rcd.legStat 16 2 else 0
  | _ => if 0x40 ≤ o ∧ o < 0x60 then (x.win.getD ((o - 0x40) / 4) 0).toNat else 0

/-! ### UPD (R510 to R516) -/

/-- UPD.CONFREM (R501, R514): whole minutes left. -/
def State.confRem (s : State) : Nat :=
  if s.upd.conf then
    match s.upd.confEnd with
    | some e => satTo 65535 ((e - s.ct) / 60000000000)
    | none => 0xFFFF
  else 0

def State.readUpd (s : State) (o : Nat) : Nat :=
  match o with
  | 0x00 => stdCode s.upd.cmd
  | 0x04 => flag s.upd.lock.isSome 31 + flag s.upd.conf 30 + fieldAt s.upd.forces.length 16 6 + fieldAt (satTo 7 s.upd.online.length) 8 3 +
      fieldAt (slotCode (s.slotState (!s.runSlotNo))) 4 3 + fieldAt (slotCode s.runSlotState) 1 3 + bitNat s.runSlotNo
  | 0x08 => s.upd.evt.toNat
  | 0x0C => fieldAt s.upd.blk 0 8
  | 0x10 => s.upd.ptr
  | 0x14 => s.confRem
  | 0x40 => s.upd.olsym.toNat
  | 0x44 => s.upd.olval.toNat
  | 0x48 => s.upd.olcyc.toNat
  | 0x50 => fieldAt s.upd.faddr 0 20
  | 0x54 => s.upd.fval.toNat
  | _ => if 0x20 ≤ o ∧ o < 0x40 then (s.slotRec (!s.runSlotNo)).imgd.toNat / 2 ^ (8 * (o - 0x20)) % 4294967296 else 0

/-! ### The map (R601) -/

/-- What session `x` reads at an address of an open block; SUP's block is closed to maintenance. -/
def State.readAt (s : State) (x : Session) (a : Nat) : Nat :=
  let o := a % 0x10000
  if a < 0x100000 then
    match a / 0x10000 with
    | 0 => s.readGlb x o
    | 1 => s.readCrt o
    | 3 => s.readTae o
    | 4 => s.readLge o
    | 5 => s.readGrd o
    | 6 => s.readVio o
    | 7 => s.readLmp o
    | 8 => s.readMea o
    | 9 => s.readLnb o
    | 10 => s.readFld o
    | 11 => s.readCab o
    | 12 => s.readRec x o
    | 13 => s.readUpd o
    | _ => 0
  else if a < 0x288000 then s.readCell ((a - 0x100000) / 4)
  else if 0x300000 ≤ a ∧ a < 0x700000 then s.readProgram ((a - 0x300000) / 4)
  else if 0x700000 ≤ a ∧ a < 0x800000 then s.readTables (a - 0x700000)
  else 0

/-- A read: zero in a block whose gate is closed (R6). -/
def State.readReg (s : State) (x : Session) (a : Nat) : Word :=
  BitVec.ofNat 32 (if s.gated a then 0 else s.readAt x a)

/-- What a read changes: TAE.CTLO latches CTHI (R84), and LEG_HI moves the legacy cursor (R532). -/
def State.readEffect (s : State) (a : Nat) : State :=
  if s.gated a then s
  else if a = 0x030010 then { s with tae.cthi := BitVec.ofNat 32 (s.ct / 4294967296) }
  else if a = 0x0C0080 ∧ s.legServes = true then s.legRead
  else s

end Sys2Proof.Machine
end

