-- ==== Sys2Proof/Machine/Maint.lean ====
section
/-! DEFINITION. Maintenance access (R585 to R603): the access rules of a write, the effect of a write to every register, the
sessions and their exchange, and the two paths MAP and FMP. -/

namespace Sys2Proof.Machine

/-! ### Sessions (R594 to R597) -/

/-- A session ends (R597): its lock, its token, its cursor, its freeze and its clear sequence go; MAP keeps a fresh copy of the
registers. `cause` is byte 1 of record 0x0211. An exchange that has not opened a session ends without a record. -/
def State.sessRelease (s : State) (sid : Nat) : State :=
  let s1 := if s.upd.lock = some sid then s.lockEnd else s
  let s2 := if (s1.rcd.frozen || s1.rcd.frzWait) && decide (s1.rcd.frzSess = sid) then s1.freezeEnd true else s1
  if s2.rcd.legStat = 1 ∧ s2.rcd.legSess = some sid then s2.legVoid else s2

/-- The copy of a session is given up; MAP's stays, fresh. -/
def State.sessDrop (s : State) (sid : Nat) : State :=
  if sid = 0 then s.updSession 0 fun _ => Session.fresh 0 none
  else { s with sup.sessions := s.sup.sessions.filter fun x => decide (x.num ≠ sid) }

def State.sessEnd (s : State) (sid cause : Nat) : State :=
  match s.session sid with
  | none => s
  | some x =>
    if x.st = .opened then
      let s1 := ((s.sessRelease sid).sessDrop sid).record 1 0x0200 0x0211 [x.path, cause]
      if cause = 1 ∨ cause = 2 then s1.attn 6 else s1
    else s.sessDrop sid

/-- The level that OPEN asks for is permitted (R7, R456, R595). -/
def State.levelAllowed (s : State) (level : Nat) : Bool :=
  (decide (1 ≤ level) && decide (level ≤ 3)) || (decide (level = 4) && decide (s.mode = 3))

/-- A challenge is drawn into a session's copy (R596 step 1). -/
def State.challengeTo (s : State) (sid level : Nat) : State :=
  let c := Config.challenge s.sup.drawn
  ({ s with sup.drawn := s.sup.drawn + 1 } : State).updSession sid fun x =>
    { x with st := .challenged, reqLevel := level, chal := c, chalAt := s.pins.now, lastAt := s.pins.now }

/-- GLB.SESSCMD as last written. -/
def sessWord (level op : Nat) : Nat := level % 16 * 256 + op % 4

/-- OPEN on MAP (R596): an open session ends first; the exchange before it is given up. -/
def State.mapOpen (s : State) (level : Nat) : State :=
  let s1 := (s.sessEnd 0 2).updSession 0 fun x => { x with scmd := sessWord level 1 }
  if s1.levelAllowed level && !s1.lockedOut 0 then s1.challengeTo 0 level else s1

/-- A free session number (entry 17): the next one from 1 to 65,535 that no session holds. -/
def State.freeSession (s : State) : Nat :=
  (((List.range 5).map fun i => (s.sup.nextSess - 1 + i) % 65535 + 1).find? fun n => (s.session n).isNone).getD 1

/-- OPEN on FMP (R596): the number allocated, where it is not refused. -/
def State.fmpOpens (s : State) (p : Peer) (level : Nat) : Bool :=
  s.levelAllowed level && !s.lockedOut (1 + p.port.val) && decide ((s.sup.sessions.filter fun x => x.src.isSome).length < 4)
def State.fmpOpen (s : State) (p : Peer) (level : Nat) : State :=
  if s.fmpOpens p level then
    let n := s.freeSession
    ({ s with sup.sessions := s.sup.sessions ++ [{ Session.fresh n (some p) with scmd := sessWord level 1 }],
              sup.nextSess := n % 65535 + 1 } : State).challengeTo n level
  else s

/-- What a response is computed over (R596 step 2). -/
def State.chalBytes (s : State) (x : Session) : List Byte :=
  beBytes 8 x.chal.toNat ++ beBytes 8 s.crt.devid.toNat ++ [BitVec.ofNat 8 x.path, BitVec.ofNat 8 x.reqLevel]

/-- The response is right. -/
def State.respRight (s : State) (x : Session) (resp : W64) : Bool :=
  match s.levelKey x.reqLevel with
  | some k => decide (resp = left64 (Config.hmac k (s.chalBytes x)))
  | none => false

/-- The session key K_S (R596); MAP uses none. -/
def State.sessKey (s : State) (x : Session) (resp : W64) : W256 :=
  match x.src, s.levelKey x.reqLevel with
  | some _, some k => Config.hmac k (s.chalBytes x ++ beBytes 8 resp.toNat ++ [0x53#8])
  | _, _ => 0

/-- The write of RESPHI (R596 step 3): a match opens the session; a mismatch ends the exchange and locks the path out. -/
def State.respHi (s : State) (sid : Nat) (hi : Word) : State :=
  match s.session sid with
  | none => s
  | some x =>
    if x.st = .challenged then
      if s.pins.now ≤ x.chalAt + 10000000000 then
        let resp : W64 := hi ++ x.respLo
        if s.respRight x resp then
          let s1 := s.updSession sid fun y =>
            { y with st := .opened, level := x.reqLevel, tcnt := 1, tok := none, ks := s.sessKey x resp, seq := 0, cached := [],
                     lastAt := s.pins.now }
          ({ s1 with sup.paths := tabUpd path0 x.path (fun p => { p with failures := 0, locked := false }) s1.sup.paths } : State).record
            2 0x0200 0x0210 ([x.path, x.reqLevel] ++ [sid / 256, sid % 256])
        else
          let n := (tabGet path0 x.path s.sup.paths).failures + 1
          let s1 := s.sessDrop sid
          ({ s1 with sup.paths := tabSet path0 x.path { failures := n, locked := true, since := s.pins.now } s1.sup.paths } : State).record
            3 0x0200 0x0212 [x.path, x.reqLevel, min 255 n]
      else s.sessDrop sid
    else s

/-- The write of TOKHI (R598): the token is presented, and TCNT rises. -/
def State.tokHi (s : State) (sid : Nat) (hi : Word) : State :=
  s.updSession sid fun x =>
    if x.st = .opened then
      { x with tok := some { value := hi ++ x.tokLo, tcnt := x.tcnt, at_ := s.pins.now }, tcnt := (x.tcnt + 1) % 4294967296 }
    else x

/-- The write of GLB.SESSCMD in a session's copy. An OPEN in an FMP session's own copy asks for nothing new. -/
def State.sessCmd (s : State) (sid : Nat) (v : Nat) : State :=
  let level := bits v 8 4
  match v % 4 with
  | 1 => if sid = 0 then s.mapOpen level else s.updSession sid fun x => { x with scmd := sessWord level 1 }
  | 2 => (s.sessEnd sid 0).updSession sid fun x => { x with scmd := sessWord level 2 }
  | k => s.updSession sid fun x => { x with scmd := sessWord level k }

/-! ### Access rules (R4, R599) -/

/-- What a write of a word needs: nothing, with or without effect; an open session; a level; a level and a token. -/
inductive WriteNeed where
  | none
  | free
  | session
  | plain (level : Nat)
  | cmd (level : Nat)
  deriving DecidableEq, Repr

/-- The RW and W1C registers at Maintainer level: the event registers, and those of LGE, TAE, CAB, REC and UPD. -/
def plainAddrs : List Nat :=
  [0x01000C, 0x030008, 0x040008, 0x050014, 0x060008, 0x070008, 0x070018, 0x080008, 0x09000C, 0x090050, 0x0A0010, 0x0B0000,
   0x0C0008, 0x0D0008, 0x030028, 0x040000, 0x04001C, 0x040024, 0x0B0004, 0x0B0008, 0x0B0010, 0x0B002C, 0x0B006C, 0x0B0100,
   0x0B0104, 0x0C0088, 0x0D000C, 0x0D0010, 0x0D0040, 0x0D0044, 0x0D0048, 0x0D0050, 0x0D0054]

/-- The level of a CMD register, which its operation can set. -/
def cmdLevel (a v : Nat) : Option Nat :=
  match a with
  | 0x000028 => some (ctlLevel (v % 16))
  | 0x010004 | 0x010010 | 0x010034 | 0x040018 | 0x07001C => some 3
  | 0x010020 | 0x03002C | 0x050034 | 0x060034 | 0x070014 | 0x080028 | 0x0C0060 => some 2
  | 0x0D0000 => some (updLevel (v % 16))
  | _ => none

/-- What a write of `v` at `a` needs in session `sid`. On FMP, GLB.ATTN and GLB.ATTNEN take no write (R603). -/
def writeNeed (sid a v : Nat) : WriteNeed :=
  match cmdLevel a v with
  | some l => .cmd l
  | none =>
    if a = 0x40 ∨ a = 0x54 ∨ a = 0x58 then .free
    else if a = 0x5C ∨ a = 0x60 then .session
    else if a = 0x10 ∨ a = 0x14 then (if sid = 0 then .plain 1 else .none)
    else if a = 0x0C0020 ∨ a = 0x0C0024 then .plain 1
    else if plainAddrs.contains a || (decide (0x0B0140 ≤ a) && decide (a < 0x0B0180)) ||
        (decide (0x0B0200 ≤ a) && decide (a < 0x0B0280)) then .plain 2
    else .none

/-- The session has what a write needs, but for the token. -/
def WriteNeed.met (x : Session) : WriteNeed → Bool
  | .none | .free => true
  | .session => decide (x.st = .opened)
  | .plain l | .cmd l => x.holds l

/-! ### Writes (R4) -/

/-- Flags cleared by writing 1 (W1C). -/
def w1c {n : Nat} (f : BitVec n) (v : Word) : BitVec n := f &&& ~~~(v.setWidth n)

/-- The write of a GLB register. -/
def State.writeGlb (s : State) (sid o : Nat) (v : Word) : State :=
  match o with
  | 0x10 => { s with lane.attn := w1c s.lane.attn (v &&& 0x7E) }
  | 0x14 => { s with lane.attnSev := bits v.toNat 8 3, lane.attnEn := v.setWidth 7 }
  | 0x28 => s.ctlCmd sid (v.toNat % 16)
  | 0x40 => s.sessCmd sid v.toNat
  | 0x54 => s.updSession sid fun x => { x with respLo := v }
  | 0x58 => s.respHi sid v
  | 0x5C => s.updSession sid fun x => { x with tokLo := v }
  | 0x60 => s.tokHi sid v
  | _ => s

/-- The write of CRT.BISTCMD (R580). -/
def State.bistCmd (s : State) (v : Nat) : State :=
  if v % 8 = 1 ∧ bits v 4 2 < 3 then s.bistWrite (bits v 4 2)
  else if v % 8 = 2 then s.bistAbortWrite
  else { s with crt.bist := if s.crt.bist = .waiting ∨ s.crt.bist = .running then s.crt.bist else .refused }

/-- The write of MEA.CALCMD (R319, R327). -/
def State.calCmd (s : State) (v : Nat) : State :=
  if bits v 6 2 = 1 then s.calStart (v % 64)
  else if bits v 6 2 = 2 then s.calAbort (v % 64)
  else { s with mea.calcmd := .refused }

/-- The write of REC.FRZ (R541). -/
def State.frzCmd (s : State) (sid v : Nat) : State :=
  if v % 8 = 1 then s.freezeWrite sid
  else if v % 8 = 2 then s.freezeEnd true
  else if s.rcd.frozen || s.rcd.frzWait then s
  else { s with rcd.frz := .refused }

/-- The write of a register of a subsystem with `code` at offset `o` of its block. -/
def State.writeBlock (s : State) (sid code o : Nat) (v : Word) : State :=
  let n := v.toNat
  match code, o with
  | 0, _ => s.writeGlb sid o v
  | 1, 0x04 => s.clkenWrite v
  | 1, 0x0C => { s with crt.evt := w1c s.crt.evt v }
  | 1, 0x10 => s.srstWrite (n % 16)
  | 1, 0x20 => s.bistCmd n
  | 1, 0x34 => if n % 4 = 1 then s.keyburnWrite else { s with crt.fcmd := .refused }
  | 3, 0x08 => { s with tae.evt := w1c s.tae.evt v }
  | 3, 0x28 => { s with tae.wsetlo := v }
  | 3, 0x2C => s.wallSet (n % 65536)
  | 4, 0x00 => { s with lge.brken := v.getLsbD 2 }
  | 4, 0x08 => { s with lge.evt := w1c s.lge.evt v }
  | 4, 0x18 => s.stepCmd (n % 16)
  | 4, 0x1C => { s with lge.breg := n % 512 }
  | 4, 0x24 => { s with lge.csel := n % 1048576 }
  | 5, 0x14 => { s with grd.evt := w1c s.grd.evt v }
  | 5, 0x34 => s.fallbackExit (n % 4)
  | 6, 0x08 => { s with vio.evt := w1c s.vio.evt v }
  | 6, 0x34 => s.lockAck (n % 32)
  | 7, 0x08 => { s with lmp.evt := w1c s.lmp.evt v }
  | 7, 0x14 => s.isoAck (n % 8)
  | 7, 0x18 => { s with lmp.pevt := w1c s.lmp.pevt v }
  | 7, 0x1C => s.learnWrite (n % 32) (bits n 8 8)
  | 8, 0x08 => { s with mea.evt := w1c s.mea.evt v }
  | 8, 0x28 => s.calCmd n
  | 9, 0x0C => { s with lnb.evt := w1c s.lnb.evt v }
  | 9, 0x50 => { s with lnb.sevt := w1c s.lnb.sevt v }
  | 10, 0x10 => { s with fld.evt := w1c s.fld.evt v }
  | 11, 0x00 => { s with cab.evt := w1c s.cab.evt v }
  | 11, 0x04 => if v.getLsbD 0 then s.txPost else s
  | 11, 0x08 => s.txCancel (n % 32)
  | 11, 0x10 => if v.getLsbD 0 then { s with cab.rxq := s.cab.rxq.drop 1 } else s
  | 11, 0x2C => if v.getLsbD 31 then s.canRecover 0 else s
  | 11, 0x6C => if v.getLsbD 31 then s.canRecover 1 else s
  | 11, 0x100 => { s with cab.txhdr0 := v &&& 0xF80F0000 }
  | 11, 0x104 => { s with cab.txhdr1 := v &&& 0x1FFFFFFF }
  | 11, _ =>
    if 0x140 ≤ o ∧ o < 0x180 then { s with cab.txdata := tabSet 0#32 ((o - 0x140) / 4) v s.cab.txdata }
    else if 0x200 ≤ o ∧ o < 0x280 ∧ v.getLsbD 31 = true then s.txRelease ((o - 0x200) / 4)
    else s
  | 12, 0x08 => { s with rcd.evt := w1c s.rcd.evt v }
  | 12, 0x20 => s.cursorOp sid (n % 16)
  | 12, 0x24 => s.updSession sid fun x => { x with cseq := v }
  | 12, 0x60 => s.frzCmd sid n
  | 12, 0x88 => if s.cmpt then s.legKey sid (n % 65536) else s
  | 13, 0x00 => s.updCmd sid (n % 16) (v.getLsbD 8)
  | 13, 0x08 => { s with upd.evt := w1c s.upd.evt v }
  | 13, 0x0C => s.blkSet sid v
  | 13, 0x10 => s.bdataSet sid v
  | 13, 0x40 => { s with upd.olsym := v }
  | 13, 0x44 => { s with upd.olval := v }
  | 13, 0x48 => { s with upd.olcyc := v }
  | 13, 0x50 => { s with upd.faddr := n % 1048576 }
  | 13, 0x54 => { s with upd.fval := v }
  | _, _ => s

/-- The effect of a write that is allowed; none at RO, CFG and reserved addresses (R4, R5). -/
def State.regWrite (s : State) (sid a : Nat) (v : Word) : State :=
  if writeNeed sid a v.toNat = .none then s else s.writeBlock sid (a / 0x10000) (a % 0x10000) v

/-- REGISTER_WRITE: a write of one word by a session, under its access rule. -/
def execRegisterWrite (sid : BitVec 16) (addr : BitVec 24) (value : Word) (s : State) : Host.Outcome State Fault Refusal :=
  let n := sid.toNat
  let a := addr.toNat
  .next (if a % 4 = 0 then
      match writeNeed n a value.toNat with
      | .none => if s.supServes then s.useToken n else s
      | .free => if s.supServes then (s.useToken n).regWrite n a value else s
      | .session => s.plainWrite n a 1 fun t => t.regWrite n a value
      | .plain l => s.plainWrite n a l fun t => t.regWrite n a value
      | .cmd l => s.command n a value.toNat l fun t => t.regWrite n a value
    else s)

/-! ### A request of either path (R586, R589) -/

/-- The words of a request: their addresses (FIX and NM1 of the CMD byte). -/
def burstAddrs (cmd a : Nat) : List Nat :=
  (List.range (cmd % 32 + 1)).map fun i => if bit cmd 5 then a else (a + 4 * i) % 16777216

/-- The words of a burst read one after the other; none where one is answered ABSENT. -/
def State.readBurst (s : State) (x : Session) : List Nat → State × Option (List Word)
  | [] => (s, some [])
  | a :: as =>
    if s.absent a then (s.evtCrt 3, none)
    else
      let r := (s.readEffect a).readBurst x as
      (r.1, r.2.map fun ws => s.readReg x a :: ws)

/-- The words of a burst written one after the other, up to the first that is answered ABSENT; whether all were. -/
def State.writeBurst (s : State) (sid : Nat) : List (Nat × Word) → State × Bool
  | [] => (s, true)
  | (a, v) :: ws =>
    if s.absent a then (s.evtCrt 3, false)
    else if s.gated a then s.writeBurst sid ws
    else (s.regWrite sid a v).writeBurst sid ws

/-- A write request: level of the whole burst, then the token, then the words. The token is consumed in any case. -/
def State.writeRequest (s : State) (x : Session) (ws : List (Nat × Word)) : State × Nat :=
  let needs := ws.map fun w => writeNeed x.num w.1 w.2.toNat
  let isCmd (n : WriteNeed) : Bool := match n with | .cmd _ => true | _ => false
  let s1 := s.useToken x.num
  if decide (1 < ws.length) && needs.any isCmd then (s1, 0x85)
  else if !needs.all (WriteNeed.met x) then (s1, 0x83)
  else if needs.any isCmd && !(ws.all fun w => s.tokenOk x w.1 w.2.toNat) then (s1, 0x84)
  else
    let r := s1.writeBurst x.num ws
    (r.1, if r.2 then 0x80 else 0x82)

/-- A read request: Observer outside GLB. -/
def State.readRequest (s : State) (x : Session) (as : List Nat) : State × Nat × List Word :=
  if as.all (fun a => decide (a < 0x10000)) || x.holds 1 then
    let r := s.readBurst x as
    match r.2 with
    | some ws => (r.1, 0x80, ws)
    | none => (r.1, 0x82, [])
  else (s, 0x83, [])

/-- The data words of a request, most significant byte first. -/
def reqWords (n : Nat) (bs : List Byte) : List Word :=
  (List.range n).map fun i => BitVec.ofNat 32 (beNat (slice (4 * i) 4 bs))

/-- A request that passed the checks of its path: the state after, the status, and the words read. -/
def State.request (s : State) (x : Session) (cmd a : Nat) (data : List Byte) : State × Nat × List Word :=
  let as := burstAddrs cmd a
  if 2 ≤ bits cmd 6 2 ∨ a % 4 ≠ 0 then (if bits cmd 6 2 = 1 then s.useToken x.num else s, 0x85, [])
  else if bits cmd 6 2 = 0 then s.readRequest x as
  else
    let r := s.writeRequest x (as.zip (reqWords as.length data))
    (r.1, r.2, [])

/-- The data bytes of words read. -/
def wordBytes (ws : List Word) : List Byte := ws.flatMap fun w => beBytes 4 w.toNat

/-! ### MAP (R586 to R590) -/

/-- The bytes that a request needs, its CRC included. -/
def mapLen (cmd : Nat) : Nat := 5 + (if bits cmd 6 2 = 1 then 4 * (cmd % 32 + 1) else 0)

/-- A response on MAP: the status, the data, and the CRC-8. -/
def State.mapAnswer (s : State) (status : Nat) (ws : List Word) : State :=
  let b := BitVec.ofNat 8 status :: wordBytes ws
  s.send (.map (b ++ [crc8 b]))

/-- The request with a valid CRC is served; it counts as activity (R590). -/
def State.mapServe (s : State) (cmd : Nat) (bs : List Byte) : State :=
  let s1 := s.updSession 0 fun x => { x with lastAt := s.pins.now }
  match s1.session 0 with
  | none => s1
  | some x =>
    let r := s1.request x cmd (beNat (slice 1 3 bs)) (bs.drop 4)
    r.1.mapAnswer r.2.1 r.2.2

/-- MAP_REQUEST: the bytes of one transaction. -/
def execMapRequest (bytes : List Byte) (s : State) : Host.Outcome State Fault Refusal :=
  let cmd := (bytes.headD 0).toNat
  let n := mapLen cmd
  .next (if s.supServes = true ∧ n ≤ bytes.length then
      let bs := bytes.take (n - 1)
      if crc8 bs = bytes.getD (n - 1) 0 then s.mapServe cmd bs else s.mapAnswer 0x81 []
    else s)

/-! ### FMP (R591 to R593, R596) -/

/-- The blocks of this node's NODE section have passed R468. -/
def State.nodeRead (s : State) : Bool :=
  match s.upd.hdr with
  | none => false
  | some h =>
    (match (sections h).find? fun x => decide (x.kind = 3) && decide (x.node = s.node) with
     | some x => (List.range x.count).all fun i => s.upd.blocksOk.contains (x.first + i)
     | none => false)

/-- FMP serves on a port (R593, R611). -/
def State.fmpReach (s : State) (p : Nat) : Bool :=
  s.supServes && fmpOn s.station p && (s.portUp p || (s.img.isNone && s.blockLive 10 && s.nodeRead))

/-- A datagram counts against the 1,000 that a port takes in a second. -/
def State.fmpTaken (s : State) (p : Nat) : State :=
  let sec := s.pins.now / 1000000000
  s.updPort p fun x => { x with fmpCount := (if x.fmpSecond = sec then x.fmpCount else 0) + 1, fmpSecond := sec }
def State.fmpFull (s : State) (p : Nat) : Bool :=
  decide ((s.port p).fmpSecond = s.pins.now / 1000000000) && decide (1000 ≤ (s.port p).fmpCount)

/-- Length of a request by its CMD byte. -/
def fmpLen (cmd : Nat) : Nat := 20 + (if bits cmd 6 2 = 1 then 4 * (cmd % 32 + 1) else 0)

/-- A response before its TAG. -/
def fmpBody (sess : Nat) (seq : Nat) (status a : Nat) (ws : List Word) : List Byte :=
  [0x01#8, 0x02#8] ++ beBytes 2 sess ++ beBytes 4 seq ++ [BitVec.ofNat 8 status] ++ beBytes 3 a ++ wordBytes ws

/-- The TAG of a datagram of an open session (R591). -/
def fmpTag (x : Session) (body : List Byte) : List Byte :=
  beBytes 8 (left64 (Config.hmac x.ks (beBytes 8 x.chal.toNat ++ body))).toNat

/-- A response: tagged where the session is open when it leaves, zero elsewhere. -/
def State.fmpBytes (s : State) (sess seq status a : Nat) (ws : List Word) : List Byte :=
  let b := fmpBody sess seq status a ws
  b ++ (match s.session sess with
    | some x => if sess ≠ 0 ∧ x.st = .opened then fmpTag x b else beBytes 8 0
    | none => beBytes 8 0)

def State.fmpAnswer (s : State) (p : Peer) (sess seq status a : Nat) (ws : List Word) : State :=
  s.send (.fmp p (s.fmpBytes sess seq status a ws))

/-- The addresses a half-open exchange may write. -/
def respAddr (a : Nat) : Bool := decide (a = 0x54) || decide (a = 0x58)

/-- A request of an exchange that has not opened: reads of GLB and, where `resp` holds, the writes of RESPLO and RESPHI. -/
def State.halfRequest (s : State) (x : Session) (resp : Bool) (cmd a : Nat) (data : List Byte) : State × Nat × List Word :=
  let as := burstAddrs cmd a
  if bits cmd 6 2 = 0 ∨ (bits cmd 6 2 = 1 ∧ a % 4 = 0 ∧ resp = true ∧ as.all respAddr = true) then s.request x cmd a data
  else (s, if bits cmd 6 2 = 1 ∧ a % 4 = 0 then 0x83 else 0x85, [])

/-- A request outside a session: the OPEN that starts an exchange, and reads of GLB. -/
def State.fmpOutside (s : State) (p : Peer) (cmd a seq : Nat) (data : List Byte) : State :=
  let v := beNat (slice 0 4 data)
  if bits cmd 6 2 = 1 ∧ a = 0x40 ∧ cmd % 32 = 0 ∧ v % 4 = 1 then
    let t := s.fmpOpen p (bits v 8 4)
    t.fmpAnswer p (if s.fmpOpens p (bits v 8 4) then s.freeSession else 0) seq 0x80 a []
  else
    let r := s.halfRequest (Session.fresh 0 (some p)) false cmd a data
    r.1.fmpAnswer p 0 seq r.2.1 a r.2.2

/-- A request in a half-open session. -/
def State.fmpHalf (s : State) (x : Session) (p : Peer) (cmd a seq : Nat) (data : List Byte) : State :=
  let r := s.halfRequest x true cmd a data
  r.1.fmpAnswer p x.num seq r.2.1 a r.2.2

/-- A tagged request of an open session: the next SEQ is executed, and its response kept; the last SEQ gets that response
again; any other is dropped (R592). -/
def State.fmpTagged (s : State) (x : Session) (p : Peer) (cmd a seq : Nat) (data : List Byte) : State :=
  if seq = (x.seq + 1) % 4294967296 then
    let s1 := s.updSession x.num fun y => { y with lastAt := s.pins.now, seq := seq }
    let r := s1.request x cmd a data
    let b := r.1.fmpBytes x.num seq r.2.1 a r.2.2
    (r.1.updSession x.num fun y => { y with cached := b }).send (.fmp p b)
  else if seq = x.seq ∧ x.cached ≠ [] then s.send (.fmp p x.cached)
  else s

/-- A datagram whose form is right. -/
def State.fmpServe (s : State) (p : Peer) (bytes : List Byte) : State :=
  let sess := beNat (slice 2 2 bytes)
  let seq := beNat (slice 4 4 bytes)
  let cmd := beNat (slice 8 1 bytes)
  let a := beNat (slice 9 3 bytes)
  let n := bytes.length - 8
  let data := (bytes.take n).drop 12
  let tag := bytes.drop n
  if sess = 0 then
    if tag = beBytes 8 0 then s.fmpOutside p cmd a seq data else s
  else
    match s.session sess with
    | some x =>
      if x.src = some p then
        match x.st with
        | .none => s
        | .challenged =>
          if tag = beBytes 8 0 ∧ s.pins.now ≤ x.chalAt + 10000000000 then s.fmpHalf x p cmd a seq data else s
        | .opened => if tag = fmpTag x (bytes.take n) then s.fmpTagged x p cmd a seq data else s
      else s
    | none => s

/-- FMP_DATAGRAM: the payload of a UDP datagram that passed steps 1 to 5 of R400. -/
def execFmpDatagram (p : Peer) (bytes : List Byte) (s : State) : Host.Outcome State Fault Refusal :=
  let k := p.port.val
  .next (if s.fmpReach k = true ∧ s.fmpFull k = false then
      let s1 := s.fmpTaken k
      if bytes.length = fmpLen (beNat (slice 8 1 bytes)) ∧ slice 0 2 bytes = [0x01#8, 0x01#8] then s1.fmpServe p bytes else s1
    else s)

/-! ### The exchange as commands of its own -/

/-- SESSION_OPEN (R596): OPEN on MAP, or on FMP from a source. -/
def execSessionOpen (p : Option Peer) (level : BitVec 4) (s : State) : Host.Outcome State Fault Refusal :=
  .next (match p with
    | none => if s.supServes then (s.useToken 0).mapOpen level.toNat else s
    | some q => if s.fmpReach q.port.val then s.fmpOpen q level.toNat else s)

/-- CLOSE (R597). -/
def execClose (sid : BitVec 16) (s : State) : Host.Outcome State Fault Refusal :=
  .next (if s.supServes then s.sessCmd sid.toNat 2 else s)

/-- RESPONSE_SUBMIT (R596): the write of RESPHI. -/
def execResponseSubmit (sid : BitVec 16) (hi : Word) (s : State) : Host.Outcome State Fault Refusal :=
  .next (if s.supServes then (s.useToken sid.toNat).respHi sid.toNat hi else s)

/-- TOKEN_PRESENT (R598): the write of TOKHI, itself a write request of the session. -/
def execTokenPresent (sid : BitVec 16) (hi : Word) (s : State) : Host.Outcome State Fault Refusal :=
  .next (if s.supServes then (s.useToken sid.toNat).tokHi sid.toNat hi else s)

/-- TOKEN_EXPIRE (R598): 1 s after its presentation. -/
def execTokenExpire (sid : BitVec 16) (s : State) : Host.Outcome State Fault Refusal :=
  .next (match s.session sid.toNat with
    | some x =>
      (match x.tok with
       | some t => (s.advance (t.at_ + 1000000000)).updSession sid.toNat fun y => { y with tok := none }
       | none => s)
    | none => s)

/-- CHALLENGE_EXPIRE (R596): 10 s after it was issued; a half-open FMP session is released. -/
def execChallengeExpire (sid : BitVec 16) (s : State) : Host.Outcome State Fault Refusal :=
  .next (match s.session sid.toNat with
    | some x => if x.st = .challenged then (s.advance (x.chalAt + 10000000000)).sessDrop sid.toNat else s
    | none => s)

/-- LOCKOUT_EXPIRE (R596): 1 s, or 60 s after the eighth mismatch in a row. -/
def execLockoutExpire (path : Fin 3) (s : State) : Host.Outcome State Fault Refusal :=
  let p := tabGet path0 path.val s.sup.paths
  .next (if p.locked then
      let s1 := s.advance (p.since + lockNs p)
      { s1 with sup.paths := tabSet path0 path.val { p with locked := false } s1.sup.paths }
    else s)

/-- SESSION_TIMEOUT (R597): 100 ms without a valid request on MAP, 10 s without a served request on FMP. -/
def execSessionTimeout (sid : BitVec 16) (s : State) : Host.Outcome State Fault Refusal :=
  .next (match s.session sid.toNat with
    | some x =>
      if x.st = .opened then
        (s.advance (x.lastAt + (if x.src.isSome then 10000000000 else 100000000))).sessEnd sid.toNat 1
      else s
    | none => s)

end Sys2Proof.Machine
end

