-- ==== Sys2Proof/Machine/Dispatch.lean ====
section
/-! DEFINITION. One arm per command of the table: the direct call of its meaning, or its refusal by name. -/

namespace Sys2Proof.Machine

/-- The effect of a command on everything but the queue. -/
def exec (i : Instr) (s : State) : Host.Outcome State Fault Refusal :=
  match i with
  | .powerOn pfailHigh restartHigh => Sys2Proof.Machine.execPowerOn pfailHigh restartHigh s
  | .lossOfPower => Sys2Proof.Machine.execLossOfPower s
  | .railBelow r => Sys2Proof.Machine.execRailBelow r s
  | .resetNLow => Sys2Proof.Machine.execResetNLow s
  | .resetNRise s0 s1 s2 => Sys2Proof.Machine.execResetNRise s0 s1 s2 s
  | .strapResample s0 s1 s2 => Sys2Proof.Machine.execStrapResample s0 s1 s2 s
  | .amplitudeDetected => Sys2Proof.Machine.execAmplitudeDetected s
  | .validationWindow count => Sys2Proof.Machine.execValidationWindow count s
  | .validationAttemptTimeout => Sys2Proof.Machine.execValidationAttemptTimeout s
  | .validationRetry => Sys2Proof.Machine.execValidationRetry s
  | .pllLock density => Sys2Proof.Machine.execPllLock density s
  | .alignReached => Sys2Proof.Machine.execAlignReached s
  | .monitorTrip m => Sys2Proof.Machine.execMonitorTrip m s
  | .referenceSwitch toRecovered => Sys2Proof.Machine.execReferenceSwitch toRecovered s
  | .watchOscMeasure khz => Sys2Proof.Machine.execWatchOscMeasure khz s
  | .lockstepMismatch kind d0 => Sys2Proof.Machine.execLockstepMismatch kind d0 s
  | .supWatchdogTimeout d0 => Sys2Proof.Machine.execSupWatchdogTimeout d0 s
  | .vfuseChange present => Sys2Proof.Machine.execVfuseChange present s
  | .testEnd fusesOk mbistOk lbistOk norAOk norBOk => Sys2Proof.Machine.execTestEnd fusesOk mbistOk lbistOk norAOk norBOk s
  | .norBlockRead chip k data => Sys2Proof.Machine.execNorBlockRead chip k data s
  | .loadEnd st => Sys2Proof.Machine.execLoadEnd st s
  | .refReady => Sys2Proof.Machine.execRefReady s
  | .refLost => Sys2Proof.Machine.execRefLost s
  | .startCalibrationEnd rs => Sys2Proof.Machine.execStartCalibrationEnd rs s
  | .logicCycleBoundary n => Sys2Proof.Machine.execLogicCycleBoundary n s
  | .agreedImageApply => Sys2Proof.Machine.execAgreedImageApply s
  | .lockoutOutvoted n => Sys2Proof.Machine.execLockoutOutvoted n s
  | .fallbackOutvoted g => Sys2Proof.Machine.execFallbackOutvoted g s
  | .provingOutvoted ch k => Sys2Proof.Machine.execProvingOutvoted ch k s
  | .ld e rs n m a => Sys2Proof.Machine.execLd e rs n m a s
  | .ldc e rs n => Sys2Proof.Machine.execLdc e rs n s
  | .andOpen e n op a => Sys2Proof.Machine.execAndOpen e n op a s
  | .andOpenNoOperand e op => Sys2Proof.Machine.execAndOpenNoOperand e op s
  | .blockClose e n => Sys2Proof.Machine.execBlockClose e n s
  | .st e n a => Sys2Proof.Machine.execSt e n a s
  | .set e a => Sys2Proof.Machine.execSet e a s
  | .rst e a => Sys2Proof.Machine.execRst e a s
  | .ton e a => Sys2Proof.Machine.execTon e a s
  | .tof e a => Sys2Proof.Machine.execTof e a s
  | .ldte e rs n m a => Sys2Proof.Machine.execLdte e rs n m a s
  | .ldtr e rs n m a => Sys2Proof.Machine.execLdtr e rs n m a s
  | .edgr e a => Sys2Proof.Machine.execEdgr e a s
  | .edgf e a => Sys2Proof.Machine.execEdgf e a s
  | .ldeq e rs m w kl => Sys2Proof.Machine.execLdeq e rs m w kl s
  | .ldne e rs m w kl => Sys2Proof.Machine.execLdne e rs m w kl s
  | .ldlt e rs m w kl => Sys2Proof.Machine.execLdlt e rs m w kl s
  | .ldle e rs m w kl => Sys2Proof.Machine.execLdle e rs m w kl s
  | .ldgt e rs m w kl => Sys2Proof.Machine.execLdgt e rs m w kl s
  | .ldge e rs m w kl => Sys2Proof.Machine.execLdge e rs m w kl s
  | .wstk e w kl => Sys2Proof.Machine.execWstk e w kl s
  | .khi e kh => Sys2Proof.Machine.execKhi e kh s
  | .fence e => Sys2Proof.Machine.execFence e s
  | .endScan e => Sys2Proof.Machine.execEndScan e s
  | .reservedOpcode w => Sys2Proof.Machine.execReservedOpcode w s
  | .regionDrainEnd => Sys2Proof.Machine.execRegionDrainEnd s
  | .scanEnd => Sys2Proof.Machine.execScanEnd s
  | .gatherEnd => Sys2Proof.Machine.execGatherEnd s
  | .guardianPass k e => Sys2Proof.Machine.execGuardianPass k e s
  | .guardianStall => Sys2Proof.Machine.execGuardianStall s
  | .tableCrcCheck bad => Sys2Proof.Machine.execTableCrcCheck bad s
  | .regatherCheck => Sys2Proof.Machine.execRegatherCheck s
  | .fallbackExitCommand sid => Sys2Proof.Machine.execFallbackExitCommand sid s
  | .outputAgreement => Sys2Proof.Machine.execOutputAgreement s
  | .reportLimit => Sys2Proof.Machine.execReportLimit s
  | .outputCommit => Sys2Proof.Machine.execOutputCommit s
  | .proveComplete => Sys2Proof.Machine.execProveComplete s
  | .admission => Sys2Proof.Machine.execAdmission s
  | .basicCycleBoundary m guardDiff => Sys2Proof.Machine.execBasicCycleBoundary m guardDiff s
  | .peerSilent k => Sys2Proof.Machine.execPeerSilent k s
  | .automaticSwitchover => Sys2Proof.Machine.execAutomaticSwitchover s
  | .switchoverCommit => Sys2Proof.Machine.execSwitchoverCommit s
  | .switchoverRelease => Sys2Proof.Machine.execSwitchoverRelease s
  | .zeroCrossing ch t rising => Sys2Proof.Machine.execZeroCrossing ch t rising s
  | .crossingMissing ch => Sys2Proof.Machine.execCrossingMissing ch s
  | .slewEnd => Sys2Proof.Machine.execSlewEnd s
  | .angleSlotFire n => Sys2Proof.Machine.execAngleSlotFire n s
  | .timeSlotFire n => Sys2Proof.Machine.execTimeSlotFire n s
  | .darkPulseEnd ch => Sys2Proof.Machine.execDarkPulseEnd ch s
  | .blankingEnd ch => Sys2Proof.Machine.execBlankingEnd ch s
  | .inrushEnd ch => Sys2Proof.Machine.execInrushEnd ch s
  | .fastSample ch raw t => Sys2Proof.Machine.execFastSample ch raw t s
  | .fineSample ch raw t => Sys2Proof.Machine.execFineSample ch raw t s
  | .stabilityReset ch => Sys2Proof.Machine.execStabilityReset ch s
  | .rotationStart si => Sys2Proof.Machine.execRotationStart si s
  | .rotationPhaseEnd si off gain diff => Sys2Proof.Machine.execRotationPhaseEnd si off gain diff s
  | .rotationPathSwitch si => Sys2Proof.Machine.execRotationPathSwitch si s
  | .rotationCommit si => Sys2Proof.Machine.execRotationCommit si s
  | .calstale ch => Sys2Proof.Machine.execCalstale ch s
  | .vinFilterChange n c => Sys2Proof.Machine.execVinFilterChange n c s
  | .tpoFrameStart f obs => Sys2Proof.Machine.execTpoFrameStart f obs s
  | .tpoReadbackFault k => Sys2Proof.Machine.execTpoReadbackFault k s
  | .voutLiveExpire n => Sys2Proof.Machine.execVoutLiveExpire n s
  | .voutDriveFault n => Sys2Proof.Machine.execVoutDriveFault n s
  | .vfbFilterChange m c => Sys2Proof.Machine.execVfbFilterChange m c s
  | .monitorBoundElapsed n => Sys2Proof.Machine.execMonitorBoundElapsed n s
  | .restartFilteredChange level s0 s1 s2 => Sys2Proof.Machine.execRestartFilteredChange level s0 s1 s2 s
  | .restartQualified => Sys2Proof.Machine.execRestartQualified s
  | .restartWindowExpire => Sys2Proof.Machine.execRestartWindowExpire s
  | .lampLiveExpire ch => Sys2Proof.Machine.execLampLiveExpire ch s
  | .lampDriveFault ch => Sys2Proof.Machine.execLampDriveFault ch s
  | .learnEnd => Sys2Proof.Machine.execLearnEnd s
  | .consentLost k => Sys2Proof.Machine.execConsentLost k s
  | .consentPresent k => Sys2Proof.Machine.execConsentPresent k s
  | .pfailFall => Sys2Proof.Machine.execPfailFall s
  | .transmitFrame w => Sys2Proof.Machine.execTransmitFrame w s
  | .arbRoundStart w r carrier => Sys2Proof.Machine.execArbRoundStart w r carrier s
  | .guardianCutoff fid => Sys2Proof.Machine.execGuardianCutoff fid s
  | .statusFrame f => Sys2Proof.Machine.execStatusFrame f s
  | .inputFrame f => Sys2Proof.Machine.execInputFrame f s
  | .outputFrame f => Sys2Proof.Machine.execOutputFrame f s
  | .fetchRequest f => Sys2Proof.Machine.execFetchRequest f s
  | .fetchReply f => Sys2Proof.Machine.execFetchReply f s
  | .mirrorFrame f => Sys2Proof.Machine.execMirrorFrame f s
  | .stateTransferFrame f => Sys2Proof.Machine.execStateTransferFrame f s
  | .coldStartFrame f => Sys2Proof.Machine.execColdStartFrame f s
  | .carrierInvalid => Sys2Proof.Machine.execCarrierInvalid s
  | .listenTimeout carrierBefore => Sys2Proof.Machine.execListenTimeout carrierBefore s
  | .swarmReadback clean => Sys2Proof.Machine.execSwarmReadback clean s
  | .waitExpire carrierBefore => Sys2Proof.Machine.execWaitExpire carrierBefore s
  | .clockCorrection => Sys2Proof.Machine.execClockCorrection s
  | .timevRestored => Sys2Proof.Machine.execTimevRestored s
  | .clusterFormed => Sys2Proof.Machine.execClusterFormed s
  | .attemptFailed => Sys2Proof.Machine.execAttemptFailed s
  | .loneNode => Sys2Proof.Machine.execLoneNode s
  | .integrationCheckPassed => Sys2Proof.Machine.execIntegrationCheckPassed s
  | .demotion => Sys2Proof.Machine.execDemotion s
  | .passiveReturn => Sys2Proof.Machine.execPassiveReturn s
  | .syncLost => Sys2Proof.Machine.execSyncLost s
  | .singleChannelLimit node => Sys2Proof.Machine.execSingleChannelLimit node s
  | .recoveredClockAdmitted => Sys2Proof.Machine.execRecoveredClockAdmitted s
  | .recoveredClockRevoked cause => Sys2Proof.Machine.execRecoveredClockRevoked cause s
  | .digestVote => Sys2Proof.Machine.execDigestVote s
  | .phyPoll port link => Sys2Proof.Machine.execPhyPoll port link s
  | .ethernetFrame port fcsOk bytes => Sys2Proof.Machine.execEthernetFrame port fcsOk bytes s
  | .arpRequest port target => Sys2Proof.Machine.execArpRequest port target s
  | .icmpEchoRequest port dst => Sys2Proof.Machine.execIcmpEchoRequest port dst s
  | .mimanTelegram port srcIp bytes => Sys2Proof.Machine.execMimanTelegram port srcIp bytes s
  | .portSingle port => Sys2Proof.Machine.execPortSingle port s
  | .canFrameReceived c f sof => Sys2Proof.Machine.execCanFrameReceived c f sof s
  | .canFrameStart c sof => Sys2Proof.Machine.execCanFrameStart c sof s
  | .canTxComplete c => Sys2Proof.Machine.execCanTxComplete c s
  | .canAckError c => Sys2Proof.Machine.execCanAckError c s
  | .canError c tec rec => Sys2Proof.Machine.execCanError c tec rec s
  | .busoffRecovered c => Sys2Proof.Machine.execBusoffRecovered c s
  | .referenceMessageDue c => Sys2Proof.Machine.execReferenceMessageDue c s
  | .recordCreate sev src code data => Sys2Proof.Machine.execRecordCreate sev src code data s
  | .flushPeriod => Sys2Proof.Machine.execFlushPeriod s
  | .recFlush ok => Sys2Proof.Machine.execRecFlush ok s
  | .freezeStart => Sys2Proof.Machine.execFreezeStart s
  | .freezeCommit => Sys2Proof.Machine.execFreezeCommit s
  | .legkeyTimeout => Sys2Proof.Machine.execLegkeyTimeout s
  | .mbistChunk mem ok => Sys2Proof.Machine.execMbistChunk mem ok s
  | .replicaCompare attributable => Sys2Proof.Machine.execReplicaCompare attributable s
  | .bistperExpire => Sys2Proof.Machine.execBistperExpire s
  | .plannedBistStart => Sys2Proof.Machine.execPlannedBistStart s
  | .selftestEnd pass duration => Sys2Proof.Machine.execSelftestEnd pass duration s
  | .transientAgeOut unit => Sys2Proof.Machine.execTransientAgeOut unit s
  | .gateClosed code => Sys2Proof.Machine.execGateClosed code s
  | .softResetDone crcEqual => Sys2Proof.Machine.execSoftResetDone crcEqual s
  | .svBurnStep readBack => Sys2Proof.Machine.execSvBurnStep readBack s
  | .confirmationEnd => Sys2Proof.Machine.execConfirmationEnd s
  | .writeOperationDone ok => Sys2Proof.Machine.execWriteOperationDone ok s
  | .mapRequest bytes => Sys2Proof.Machine.execMapRequest bytes s
  | .fmpDatagram p bytes => Sys2Proof.Machine.execFmpDatagram p bytes s
  | .registerWrite sid addr value => Sys2Proof.Machine.execRegisterWrite sid addr value s
  | .ctloRead => Sys2Proof.Machine.execCtloRead s
  | .sessionOpen p level => Sys2Proof.Machine.execSessionOpen p level s
  | .close sid => Sys2Proof.Machine.execClose sid s
  | .responseSubmit sid hi => Sys2Proof.Machine.execResponseSubmit sid hi s
  | .tokenPresent sid hi => Sys2Proof.Machine.execTokenPresent sid hi s
  | .tokenExpire sid => Sys2Proof.Machine.execTokenExpire sid s
  | .challengeExpire sid => Sys2Proof.Machine.execChallengeExpire sid s
  | .lockoutExpire path => Sys2Proof.Machine.execLockoutExpire path s
  | .sessionTimeout sid => Sys2Proof.Machine.execSessionTimeout sid s
  | .makesafe sid => Sys2Proof.Machine.execMakesafe sid s
  | .restart sid => Sys2Proof.Machine.execRestart sid s
  | .stop sid => Sys2Proof.Machine.execStop sid s
  | .hold sid => Sys2Proof.Machine.execHold sid s
  | .leavehold sid => Sys2Proof.Machine.execLeavehold sid s
  | .resume sid => Sys2Proof.Machine.execResume sid s
  | .switchover sid => Sys2Proof.Machine.execSwitchover sid s
  | .abortsw sid => Sys2Proof.Machine.execAbortsw sid s
  | .wallTimeSet sid hi => Sys2Proof.Machine.execWallTimeSet sid hi s
  | .capture sid => Sys2Proof.Machine.execCapture sid s
  | .stepRung sid => Sys2Proof.Machine.execStepRung sid s
  | .stepRegion sid => Sys2Proof.Machine.execStepRegion sid s
  | .stepScan sid => Sys2Proof.Machine.execStepScan sid s
  | .stepComplete => Sys2Proof.Machine.execStepComplete s
  | .lockoutAcknowledgement sid out => Sys2Proof.Machine.execLockoutAcknowledgement sid out s
  | .isolationAcknowledgement sid grp => Sys2Proof.Machine.execIsolationAcknowledgement sid grp s
  | .learn sid ch cyc => Sys2Proof.Machine.execLearn sid ch cyc s
  | .calibrate sid ch => Sys2Proof.Machine.execCalibrate sid ch s
  | .calibrateAbort sid ch => Sys2Proof.Machine.execCalibrateAbort sid ch s
  | .softReset sid blk => Sys2Proof.Machine.execSoftReset sid blk s
  | .gateCloseWrite sid value => Sys2Proof.Machine.execGateCloseWrite sid value s
  | .gateOpenWrite sid value => Sys2Proof.Machine.execGateOpenWrite sid value s
  | .bistRequest sid grp => Sys2Proof.Machine.execBistRequest sid grp s
  | .bistAbort sid => Sys2Proof.Machine.execBistAbort sid s
  | .keyburn sid => Sys2Proof.Machine.execKeyburn sid s
  | .post sid => Sys2Proof.Machine.execPost sid s
  | .cancel sid e => Sys2Proof.Machine.execCancel sid e s
  | .receiveAcknowledgement sid => Sys2Proof.Machine.execReceiveAcknowledgement sid s
  | .entryRelease sid e => Sys2Proof.Machine.execEntryRelease sid e s
  | .busoffRecoveryRequest sid c => Sys2Proof.Machine.execBusoffRecoveryRequest sid c s
  | .oldest sid => Sys2Proof.Machine.execOldest sid s
  | .newest sid => Sys2Proof.Machine.execNewest sid s
  | .nextRec sid => Sys2Proof.Machine.execNextRec sid s
  | .prevRec sid => Sys2Proof.Machine.execPrevRec sid s
  | .seek sid => Sys2Proof.Machine.execSeek sid s
  | .freeze sid => Sys2Proof.Machine.execFreeze sid s
  | .unfreeze sid => Sys2Proof.Machine.execUnfreeze sid s
  | .legHiRead => Sys2Proof.Machine.execLegHiRead s
  | .legkeyWrite sid key => Sys2Proof.Machine.execLegkeyWrite sid key s
  | .updOpen sid => Sys2Proof.Machine.execUpdOpen sid s
  | .block sid => Sys2Proof.Machine.execBlock sid s
  | .finish sid => Sys2Proof.Machine.execFinish sid s
  | .abort sid => Sys2Proof.Machine.execAbort sid s
  | .release sid => Sys2Proof.Machine.execRelease sid s
  | .activate sid => Sys2Proof.Machine.execActivate sid s
  | .handover sid dropf => Sys2Proof.Machine.execHandover sid dropf s
  | .online sid => Sys2Proof.Machine.execOnline sid s
  | .force sid => Sys2Proof.Machine.execForce sid s
  | .unforce sid => Sys2Proof.Machine.execUnforce sid s
  | .reload sid => Sys2Proof.Machine.execReload sid s
  | .blkWrite sid value => Sys2Proof.Machine.execBlkWrite sid value s
  | .bdataWrite sid value => Sys2Proof.Machine.execBdataWrite sid value s
  | .pfailRise => Sys2Proof.Machine.execPfailRise s
  | .railAbove r => Sys2Proof.Machine.execRailAbove r s

end Sys2Proof.Machine
end

