-- ==== Sys2Proof/Machine/Step.lean ====
section
/-! DEFINITION. One step: the command at the front of the queue, or one tick of D11 on an empty queue. -/

namespace Sys2Proof.Machine

/-- The clock moves on by one tick of D11 (R51, R544): 10 ns. -/
def State.tick (s : State) : State := { s with pins.now := s.pins.now + 10 }

/-- Take the command at the front of the queue and run it with the queue's rest. On an empty queue time passes
(assumption log, entry 8). -/
def step (s : State) : Host.Outcome State Fault Refusal :=
  match s.pending with
  | [] => .next s.tick
  | c :: rest => exec c { s with pending := rest }

/-- The state with the command that a word spells at the front of its queue; unchanged where it spells none. -/
def State.withFetchWord (s : State) (nbits w : Nat) : State :=
  match decodeTableWord nbits w with
  | none => s
  | some c => { s with pending := c :: s.pending }

end Sys2Proof.Machine
end

