-- ==== Sys2Proof/Machine/Balls.lean ====
section
/-! DEFINITION. The output balls as the state sets them (R22, R38, R207, R216, R243, R397, R431, R473, R602, R603, R624, R632).
Nothing here is state of its own: a ball shows what the units hold. -/

namespace Sys2Proof.Machine

/-- The level of an output ball; none is high-impedance. -/
abbrev Ball := Option Bool

/-- A ball that is high-impedance while the rails are off and has this level otherwise (R624). -/
def State.driven (s : State) (level : Bool) : Ball := if s.pins.powered then some level else none

/-- The lane is in LOAD or in a later state. -/
def State.fromLoad (s : State) : Bool := decide (4 ≤ stCode s.lane.st)

/-- SAFE_N (R38, R624). -/
def State.safeBall (s : State) : Ball := s.driven s.safeN

/-- STAT3:0 (R473, R602); none is high-impedance. -/
def State.statBalls (s : State) : Option Nat :=
  if !s.pins.powered then none
  else if s.lane.safeLatch then some 0xA
  else some (match s.lane.st with
    | .load => bitNat (decide (s.lane.sfault ≠ 0))
    | .integrate => 2
    | .prove => 3
    | .run => 4 + roleCode s.lane.role
    | .stop => 8
    | .hold => 9
    | .safe => 0xA
    | x => if s.lane.sfault = 0 then stCode x else 0xF)

/-- MAP_IRQ (R603, R624): low before LOAD. -/
def State.mapIrq (s : State) : Ball := s.driven (s.fromLoad && decide (s.attnBits &&& s.lane.attnEn.toNat ≠ 0))

/-- A logic BIST run on the I/O group is in progress: its output balls are held at their de-energised levels (R563). -/
def State.ioBist (s : State) : Bool :=
  match s.crt.test with
  | some t => decide (t.unit = .io) && decide (t.startAt ≤ s.pins.now)
  | none => false

/-- The line is in the high half of a period of its wave (R216, R243): a period begins high, at its rising edge. -/
def Wave.high (now phase period : Nat) (w : Wave) : Bool :=
  match w.stop, w.edge now phase period with
  | some x, some e => decide (now < x) && decide (now < e + period / 2)
  | none, some e => decide (now < e + period / 2)
  | _, none => false

/-- VOUTn (R216, R218): the wave of 10 kHz while the output is energised, static low otherwise, and from the SAFE latch on at once
(R35). -/
def State.voutBall (s : State) (n : Nat) : Ball :=
  s.driven (s.drives && !s.ioBist && (s.vout n).wave.high s.pins.now s.voutPhase 100000)

/-- LDRVn (R243): the lamp wave of 50 kHz while the channel is driven, static low otherwise, and from the SAFE latch on at once
(R35). -/
def State.ldrvBall (s : State) (n : Nat) : Ball :=
  s.driven (s.drives && !s.ioBist && (s.lamp n).wave.high s.pins.now s.lampPhase 20000)

/-- XOUTk (R22, R24): the wave of 10 MHz while consent is given, static low otherwise. The spec gives it no phase; here it is
that of the lane's clock (entry 63). -/
def State.xoutBall (s : State) (k : Nat) : Ball := s.driven (s.consentOut k && decide (s.pins.now % 100 < 50))

/-- TPO0 to TPO3 at `t` ns after the start of a frame (R207): low for 3 units, then one sub-pulse in each of 16 slots, at the
place that the node number gives. The four lines carry the same pattern. -/
def State.tpoFrame (s : State) (t : Nat) : Bool :=
  !(decide (t < 3 * s.tpu) ||
    (List.range 16).any fun j => decide (s.ownPulse j ≤ t) && decide (t < s.ownPulse j + s.tpw))

/-- TPO0 to TPO3 (R207, R563, R624): high-impedance until the end of CLOCK, the frame while the frame sequence runs, static
high otherwise, and during a run on VIO. -/
def State.tpoBall (s : State) : Ball :=
  if s.pins.powered && decide (3 ≤ stCode s.lane.st) then
    some (if s.vio.tpoAct && s.tae.timev && s.blockLive 6 && !s.ioBist then s.tpoFrame (s.ct - s.vio.frame * s.tpp) else true)
  else none

/-- CLKMON (R632): the D8 clock of 10 MHz from the release of the dividers, at PLL lock (R545), and low before. Its phase is that
of the lane's clock (entry 63). -/
def State.clkmonBall (s : State) : Ball := s.driven (s.crt.lock && decide (s.pins.now % 100 < 50))

/-- PHYRST0_N and PHYRST1_N (R397, R624): low until SUP releases them. -/
def State.phyResetBall (s : State) : Ball := s.driven s.fld.phyOut

/-- CANSTBc (R431, R624): high, which is standby, until the end of LOAD, with the controller disabled, or with CAB's clock
gated. -/
def State.canStandbyBall (s : State) (c : Nat) : Ball :=
  s.driven (s.img.isNone || !canEn s.station c || !s.crt.gate.getLsbD 11)

end Sys2Proof.Machine
end

