-- ==== Sys2Proof/Safety.lean ====
section
/-! DEFINITION. The terms that claims use: what it is for a command to complete, who may send an authorised command, what a
reset keeps, and when the lane is held safe. -/

namespace Sys2Proof.Safety

open Sys2Proof Sys2Proof.Machine

/-- The command completes in `s`, in a state of which `P` holds. -/
def Answers (i : Instr) (s : State) (P : State → Prop) : Prop := ∃ t, exec i s = .next t ∧ P t

/-- Session `sid` may write `value` to the CMD register at `addr` of this level (R4, R598, R599): SUP serves, the session is open
at the level and holds the token of this write, and the block answers. -/
def Authorised (s : State) (sid : BitVec 16) (addr value level : Nat) : Prop :=
  ∃ x, s.session sid.toNat = some x ∧ s.supServes = true ∧ x.holds level = true ∧ s.tokenOk x addr value = true ∧
    s.absent addr = false ∧ s.gated addr = false

/-- Session `sid` may write the RW or W1C register at `addr` (R4, R599). -/
def MayWrite (s : State) (sid : BitVec 16) (addr level : Nat) : Prop :=
  ∃ x, s.session sid.toNat = some x ∧ s.supServes = true ∧ x.holds level = true ∧ s.absent addr = false ∧ s.gated addr = false

/-- The session's next write request has consumed its token (R598), and counts as activity (R590). -/
abbrev TokenSpent (s : State) (sid : BitVec 16) : State := s.useToken sid.toNat

/-- What every reset of the whole lane keeps (R559): the fuses, the recorder memory, the flash. -/
abbrev LastingKept (s t : State) : Prop :=
  t.crt.ikd = s.crt.ikd ∧ t.crt.sv = s.crt.sv ∧ t.crt.devid = s.crt.devid ∧ t.crt.rpr = s.crt.rpr ∧
  t.rcd.pages = s.rcd.pages ∧ t.rcd.ctlA = s.rcd.ctlA ∧ t.rcd.ctlB = s.rcd.ctlB ∧
  t.upd.slot0 = s.upd.slot0 ∧ t.upd.slot1 = s.upd.slot1 ∧ t.pending = s.pending

/-- What such a reset clears (R559): every vital unit, the SAFE latch, the sessions, the loaded image, and the records that no
flush has saved. -/
abbrev VolatileCleared (t : State) : Prop :=
  t.lge = State.reset.lge ∧ t.grd = State.reset.grd ∧ t.vio = State.reset.vio ∧ t.lmp = State.reset.lmp ∧
  t.mea = State.reset.mea ∧ t.tae = State.reset.tae ∧ t.lnb = State.reset.lnb ∧ t.fld = State.reset.fld ∧
  t.cab = State.reset.cab ∧ t.inp = State.reset.inp ∧ t.img = none ∧ t.lane.safeLatch = false ∧ t.lane.role = .holding ∧
  t.sup.sessions = [Session.fresh 0 none] ∧ t.rcd.buf = []

/-- Every table whose entries the commands change one by one has its canonical form, so that an entry reads as it was last
written. -/
abbrev TablesWf (s : State) : Prop :=
  tabWf (fun _ => vin0) s.vio.vin = true ∧ tabWf (fun _ => vout0) s.vio.vout = true ∧
  tabWf (fun _ => lamp0) s.lmp.lamp = true ∧ tabWf (fun _ => aspect0) s.lmp.group = true ∧
  tabWf (fun _ => mea0) s.mea.chan = true ∧ tabWf (fun _ => node0) s.lnb.node = true ∧
  tabWf (fun _ => port0) s.fld.port = true ∧ tabWf (fun _ => conn0) s.fld.conn = true ∧
  tabWf (fun _ => can0) s.cab.ctl = true ∧ tabWf (fun _ => tx0) s.cab.txq = true ∧
  tabWf (fun _ => map0) s.cab.map = true ∧ tabWf (fun _ => path0) s.sup.paths = true ∧
  tabWf (fun _ => 0) s.upd.staged = true

/-- The SAFE latch is set and the lane is in SAFE (R34, R607). -/
abbrev HeldSafe (s : State) : Prop := s.lane.safeLatch = true ∧ s.lane.st = .safe

/-! ### Maintenance -/

/-- What a cursor command finds: the record `r` with the status that `stat` gives it, or none. -/
abbrev CursorAt (s t : State) (sid : BitVec 16) (r : Option Record) (stat : Record → Nat) : Prop :=
  t.rcd = s.rcd ∧ t.lane = s.lane ∧ ∃ x, t.session sid.toNat = some x ∧
    (∀ y, r = some y → x.cursor = some y.seq ∧ x.win = recWindow y ∧ x.curStat = stat y) ∧ (r = none → x.curStat = 4)

/-- The register write that a command of a session names: the session, the address and the value (R604, R513, R139 and the register
tables of the blocks). -/
def asWrite : Instr → Option (BitVec 16 × BitVec 24 × Word)
  | .makesafe sid => some (sid, 0x28, 1)
  | .restart sid => some (sid, 0x28, 2)
  | .stop sid => some (sid, 0x28, 3)
  | .hold sid => some (sid, 0x28, 4)
  | .leavehold sid => some (sid, 0x28, 5)
  | .resume sid => some (sid, 0x28, 6)
  | .switchover sid => some (sid, 0x28, 7)
  | .abortsw sid => some (sid, 0x28, 8)
  | .gateCloseWrite sid v => some (sid, 0x010004, v)
  | .gateOpenWrite sid v => some (sid, 0x010004, v)
  | .softReset sid b => some (sid, 0x010010, b.setWidth 32)
  | .bistRequest sid g => some (sid, 0x010020, BitVec.ofNat 32 (16 * g.val + 1))
  | .bistAbort sid => some (sid, 0x010020, 2)
  | .keyburn sid => some (sid, 0x010034, 1)
  | .wallTimeSet sid hi => some (sid, 0x03002C, hi.setWidth 32)
  | .capture sid => some (sid, 0x040018, 1)
  | .stepRung sid => some (sid, 0x040018, 2)
  | .stepRegion sid => some (sid, 0x040018, 3)
  | .stepScan sid => some (sid, 0x040018, 4)
  | .fallbackExitCommand sid => some (sid, 0x050034, 1)
  | .lockoutAcknowledgement sid n => some (sid, 0x060034, BitVec.ofNat 32 n.val)
  | .isolationAcknowledgement sid g => some (sid, 0x070014, BitVec.ofNat 32 g.val)
  | .learn sid c n => some (sid, 0x07001C, BitVec.ofNat 32 (256 * n.toNat + c.val))
  | .calibrate sid c => some (sid, 0x080028, BitVec.ofNat 32 (64 + c.toNat))
  | .calibrateAbort sid c => some (sid, 0x080028, BitVec.ofNat 32 (128 + c.toNat))
  | .post sid => some (sid, 0x0B0004, 1)
  | .cancel sid e => some (sid, 0x0B0008, BitVec.ofNat 32 e.val)
  | .receiveAcknowledgement sid => some (sid, 0x0B0010, 1)
  | .busoffRecoveryRequest sid c => some (sid, BitVec.ofNat 24 (0x0B002C + 64 * c.val), 0x80000000)
  | .entryRelease sid e => some (sid, BitVec.ofNat 24 (0x0B0200 + 4 * e.val), 0x80000000)
  | .oldest sid => some (sid, 0x0C0020, 1)
  | .newest sid => some (sid, 0x0C0020, 2)
  | .nextRec sid => some (sid, 0x0C0020, 3)
  | .prevRec sid => some (sid, 0x0C0020, 4)
  | .seek sid => some (sid, 0x0C0020, 5)
  | .freeze sid => some (sid, 0x0C0060, 1)
  | .unfreeze sid => some (sid, 0x0C0060, 2)
  | .legkeyWrite sid k => some (sid, 0x0C0088, k.setWidth 32)
  | .updOpen sid => some (sid, 0x0D0000, 1)
  | .block sid => some (sid, 0x0D0000, 2)
  | .finish sid => some (sid, 0x0D0000, 3)
  | .abort sid => some (sid, 0x0D0000, 4)
  | .release sid => some (sid, 0x0D0000, 5)
  | .activate sid => some (sid, 0x0D0000, 6)
  | .handover sid d => some (sid, 0x0D0000, if d then 0x107 else 7)
  | .online sid => some (sid, 0x0D0000, 8)
  | .force sid => some (sid, 0x0D0000, 9)
  | .unforce sid => some (sid, 0x0D0000, 10)
  | .reload sid => some (sid, 0x0D0000, 11)
  | .blkWrite sid v => some (sid, 0x0D000C, v)
  | .bdataWrite sid v => some (sid, 0x0D0010, v)
  | _ => none

/-- A request on MAP in whole bytes: CMD, the address, the data, and the CRC-8 (R586). -/
def mapBytes (cmd : Byte) (a : BitVec 24) (data : List Byte) : List Byte :=
  let b := cmd :: beBytes 3 a.toNat ++ data
  b ++ [crc8 b]

/-- A request on FMP in an open session, with its TAG (R591). -/
def fmpRequest (x : Session) (seq : Word) (cmd : Byte) (a : BitVec 24) (data : List Byte) : List Byte :=
  let b := [0x01#8, 0x01#8] ++ beBytes 2 x.num ++ beBytes 4 seq.toNat ++ [cmd] ++ beBytes 3 a.toNat ++ data
  b ++ fmpTag x b

/-- The session's activity at this instant (R590, R592). -/
abbrev Active (s : State) (n : Nat) : State := s.updSession n fun x => { x with lastAt := s.pins.now }

/-! ### What every step keeps -/

/-- Families of commands, for the frame of each. -/
inductive Family where
  | logic | laneBus | can | field | measurement | lamp | vital | recorder | angle | other
  deriving DecidableEq, Repr

/-- The family of a command. -/
def familyOf : Instr → Family
  | .ld .. | .ldc .. | .andOpen .. | .andOpenNoOperand .. | .blockClose .. | .st .. | .set .. | .rst .. | .ton .. | .tof ..
  | .ldte .. | .ldtr .. | .edgr .. | .edgf .. | .ldeq .. | .ldne .. | .ldlt .. | .ldle .. | .ldgt .. | .ldge .. | .wstk ..
  | .khi .. | .fence .. | .endScan .. | .reservedOpcode .. => .logic
  | .statusFrame .. | .inputFrame .. | .outputFrame .. | .fetchRequest .. | .fetchReply .. | .mirrorFrame ..
  | .stateTransferFrame .. | .guardianCutoff .. | .loneNode .. | .carrierInvalid .. | .listenTimeout .. | .waitExpire ..
  | .clusterFormed .. | .integrationCheckPassed .. | .passiveReturn .. | .coldStartFrame .. | .swarmReadback ..
  | .clockCorrection .. | .attemptFailed .. | .syncLost .. => .laneBus
  | .canAckError .. | .canError .. | .canFrameReceived .. | .canTxComplete .. | .canFrameStart .. | .referenceMessageDue ..
  | .busoffRecovered .. | .post .. | .cancel .. | .receiveAcknowledgement .. | .entryRelease .. | .busoffRecoveryRequest .. => .can
  | .ethernetFrame .. | .mimanTelegram .. | .phyPoll .. | .portSingle .. | .arpRequest .. | .icmpEchoRequest .. => .field
  | .fastSample .. | .fineSample .. | .rotationStart .. | .rotationPhaseEnd .. | .rotationPathSwitch ..
  | .rotationCommit .. | .stabilityReset .. | .startCalibrationEnd .. | .calstale .. | .refReady .. | .refLost .. => .measurement
  | .darkPulseEnd .. | .blankingEnd .. | .inrushEnd .. | .learnEnd .. | .provingOutvoted .. | .lampLiveExpire .. => .lamp
  | .vinFilterChange .. | .voutLiveExpire .. | .tpoFrameStart .. | .tpoReadbackFault .. | .vfbFilterChange ..
  | .monitorBoundElapsed .. | .lockoutOutvoted .. | .voutDriveFault .. => .vital
  | .recordCreate .. | .recFlush .. | .flushPeriod .. | .freezeStart .. | .freezeCommit .. | .legkeyTimeout ..
  | .legHiRead .. => .recorder
  | .zeroCrossing .. | .crossingMissing .. | .slewEnd .. => .angle
  | _ => .other

/-- The SAFE latch and SAFE go together; outside RUN no role and no drives; drives only in the role HOLDING (R34, R15, R606). -/
abbrev LaneRules (s : State) : Prop :=
  (s.lane.safeLatch = true ↔ s.lane.st = .safe) ∧ (s.lane.role ≠ .holding → s.lane.st = .run) ∧
  (s.lane.driving = true → s.lane.st = .run ∧ s.lane.role = .holding)

/-- The rate correction is within ±200,000 ppb, and no offset correction is past ±32 ns (R383). -/
abbrev RateRules (s : State) : Prop :=
  s.lnb.rho.natAbs ≤ 200000 ∧ s.tae.ctRate.natAbs ≤ 200000 ∧ ∀ e ∈ s.tae.ctSlew, e.2.natAbs ≤ 32

/-- Both replicas of the state image have their canonical form. -/
abbrev ReplicasWf (s : State) : Prop := s.lge.rep0.wf s.station = true ∧ s.lge.rep1.wf s.station = true

/-! ### Frames of the lane bus -/

/-- Both channels carry the copy `c` of a frame of this use, in its place of the schedule, and judge it `v` (R346, R349). -/
abbrev FrameJudged (s : State) (use : Nat) (f : RxFrame) (c : Copy) (v : Verdict) : Prop :=
  s.rxLive = true ∧ s.busTime = true ∧ s.lnb.arbSkip = none ∧ f.x = some c ∧ f.y = some c ∧
  placeFid s.station f.win.val f.rank.val = some (hFid c.hdr) ∧ fidUse s.station (hFid c.hdr) = use ∧
  winPresent s.station s.ccl f.win.val s.lnb.m = true ∧
  (s.advance (frameEnd f)).verdict use (winArb s.station f.win.val) (some (hFid c.hdr))
    ((s.advance (frameEnd f)).expectedStart f.win.val f.rank.val) c = v

/-- The frame that a node sends under a FID now: a null frame, or one of these words (R335, R341, R342). -/
def sentFrame (s : State) (fid : Nat) (null mirror : Bool) (payload : List Word) : Sent :=
  .lane fid (frameHdr fid s.node s.cyc payload.length null false false mirror) payload
    (frameCrc (frameHdr fid s.node s.cyc payload.length null false false mirror) payload)

/-- Window `w` is an exclusive one of this node, present now, and the node may send in it (R341, R348). -/
abbrev MaySend (s : State) (w : Fin 512) : Prop :=
  s.lnb.bstate = .active ∧ winEn s.station w.val = true ∧ winArb s.station w.val = false ∧
  winOwner s.station w.val = s.node ∧ winPresent s.station s.ccl w.val s.lnb.m = true ∧ s.listener = false ∧
  s.lnb.guardOff = false ∧ s.rxLive = true ∧ fidEn s.station (winList s.station w.val % 1024) = true ∧
  s.ct ≤ s.slotStart w.val ∧ s.lnb.arbTx ≠ some (w.val, s.lnb.m, 0)

/-- `s` with the clock at the start of window `w`, and at the start of the window's current round (R341, R343). -/
abbrev AtSlot (s : State) (w : Fin 512) : State := s.advanceCt (s.slotStart w.val)

@[inherit_doc AtSlot]
abbrev AtRound (s : State) (w : Fin 512) : State := s.advanceCt (s.placeStart w.val 0)

/-! ### Slots -/

/-- No slot is enabled but angle slot `a` and time slot `k`. -/
abbrev NoOtherSlot (s : State) (a k : Nat) : Prop :=
  (∀ j : Fin 256, j.val ≠ a → s.aslotEn j.val = false) ∧ (∀ j : Fin 64, j.val ≠ k → bit (s.tslotCtl j.val) 31 = false)

/-! ### Logic instructions -/

/-- An instruction executes on one half: LGE runs, no half-split, no store buffer over its 1,536 entries. -/
abbrev LogicReady (s : State) : Prop :=
  s.lgeRuns = true ∧ s.lge.split = false ∧ bufCount s.lge.buf0 ≤ 1536 ∧ bufCount s.lge.buf1 ≤ 1536

/-- The state after an instruction that leaves rung context `r` and stores nothing. -/
abbrev RungNext (s : State) (r : Rung) : State := { s with lge.rung0 := r, lge.pc := s.lge.pc + 1 }

/-- The state after one that also stores `c` to cell `a`: held in the store buffer, tagged with its program address (R109, R117). -/
abbrev RungStores (s : State) (r : Rung) (a : Nat) (c : Cell) : State :=
  { s with lge.rung0 := r, lge.pc := s.lge.pc + 1, lge.buf0 := s.lge.buf0 ++ [{ tag := s.lge.pc, addr := a, content := c }] }

/-- The quality of a cell's content. -/
def qOf : Cell → Bool
  | .bit _ q | .word _ q | .timer _ _ _ q | .edge _ q => q

/-- The cell that an instruction's read port shows. -/
def Operand (s : State) (a : Nat) : Cell := s.lge.rep0.get s.station a

/-- A rung context with this accumulator and stack, and no prefix. -/
def rungWith (acc : Option Bool) (stack : List BlockEntry) : Rung := { acc := acc, stack := stack, prefixKH := none }

/-- What a combine mode makes of the accumulator and the operand (R145, R149). -/
def combined : Combine → Bool → Bool → Bool
  | .load, _, y => y
  | .and, x, y => x && y
  | .or, x, y => x || y

/-- A test instruction of the state: as a load at a rung start, and combined with a defined accumulator elsewhere. -/
def TestMeans (i : Bool → Combine → Instr) (s : State) (y : Bool) : Prop :=
  (s.lge.rung0.stack = [] → Answers (i true .load) s fun t => t = RungNext s (rungWith (some y) [])) ∧
  (∀ (m : Combine) (x : Bool), s.lge.rung0.acc = some x →
    Answers (i false m) s fun t => t = RungNext s (rungWith (some (combined m x y)) s.lge.rung0.stack))

/-- A compare: the signed value of the word cell against K (R163). -/
def CompareMeans (i : Ecc → Bool → Combine → BitVec 14 → BitVec 7 → Instr) (test : Int → Int → Bool) : Prop :=
  ∀ (w : BitVec 14) (kl : BitVec 7) (s : State), LogicReady s → wordOk w.toNat = true →
    TestMeans (fun rs m => i .none rs m w kl) s
      (test (readWord s.station (0x40000 + w.toNat) (Operand s (0x40000 + w.toNat))).toInt (constK s.lge.rung0 kl).toInt)

end Sys2Proof.Safety
end

