-- ==== Sys2Proof/Certificates/Slice0/Obligations.lean ====
section
/-! DEFINITION. The statements for the provers, by the chapters of the spec. -/

open Sys2Proof Sys2Proof.Machine Sys2Proof.Safety

/-! ### The queue -/

/-- With a command at the front of the queue, a step is exec of that command on the state with the queue's rest. -/
def Obligations.StepRunsTheFrontCommand : Prop :=
  ∀ (c : Instr) (rest : List Instr) (s : State), s.pending = c :: rest → step s = exec c { s with pending := rest }

/-- On an empty queue a step is one tick of D11 and nothing else: the model's choice (log entry 8). -/
def Obligations.EmptyQueueTicks : Prop :=
  ∀ s : State, s.pending = [] → ∃ t, step s = .next t ∧ t = { s with pins.now := s.pins.now + 10 }

/-- Every command that a sender can form completes in every state, and leaves the commands that wait as they are; one that no
sender can form stops as illFormed and nothing else does. -/
def Obligations.EveryCommandCompletes : Prop :=
  ∀ (i : Instr) (s : State),
    (i.wellFormed = true → ∃ t, exec i s = .next t ∧ t.pending = s.pending) ∧
    (i.wellFormed = false → exec i s = .fault .illFormed)

/-! ### Power, RESET_N and straps -/

/-- Power-up, RESET_N low and a rail below its threshold put the lane in RESET with every unit at its reset values, and keep the
fuses, the recorder memory and the flash; loss of power takes it to OFF (R559, R474, R623). MONO starts at zero at power-up and
is kept by the others. The rise of a rail and of PFAIL_N end a hold in RESET and change nothing else (R623, R627). The straps
are accepted when three samples of every strap agree, and the lane passes to CLOCK with an attempt at validation under way;
disagreeing samples count, and the sixteenth holds start fault 0x01 in RESET (R454, R474). While RESET_N, a rail or PFAIL_N
(strapped PFEN) holds the lane, nothing is sampled (R623, R627). The node number that the straps give follows the table of R13.
The instant to which the clock moves is the model's (log entry 10). -/
def Obligations.ResetsAndStraps : Prop :=
  (∀ (p r : Bool) (s : State), s.pins.powered = false → Answers (.powerOn p r) s fun t =>
    t.lane.st = .reset ∧ t.pins.powered = true ∧ t.pins.resetN = false ∧ t.pins.now = 0 ∧ t.lane.startCause = .powerUp ∧
    LastingKept s t ∧ VolatileCleared t) ∧
  (∀ s : State, s.pins.powered = true → Answers .lossOfPower s fun t =>
    t.lane.st = .off ∧ t.pins.powered = false ∧ LastingKept s t ∧ VolatileCleared t) ∧
  (∀ s : State, s.pins.powered = true → Answers .resetNLow s fun t =>
    t.lane.st = .reset ∧ t.pins.resetN = false ∧ t.pins.now = s.pins.now ∧ LastingKept s t ∧ VolatileCleared t) ∧
  (∀ (r : Rail) (s : State), s.pins.powered = true → Answers (.railBelow r) s fun t =>
    t.lane.st = .reset ∧ r ∈ t.pins.lowRails ∧ t.pins.resetN = s.pins.resetN ∧ t.pins.now = s.pins.now ∧
    LastingKept s t ∧ VolatileCleared t) ∧
  (∀ (r : Rail) (s : State), s.pins.powered = true → Answers (.railAbove r) s fun t =>
    r ∉ t.pins.lowRails ∧ (∀ x, x ≠ r → (x ∈ t.pins.lowRails ↔ x ∈ s.pins.lowRails)) ∧
    t = { s with pins.lowRails := t.pins.lowRails }) ∧
  (∀ s : State, s.pins.powered = true → Answers .pfailRise s fun t => t = { s with pins.pfailHigh := true }) ∧
  (∀ (s0 s1 s2 : BitVec 14) (s : State), s.pins.powered = true → s.pins.resetN = false → s.lane.st = .reset →
    (s.pins.lowRails = [] → (s0.getLsbD 11 = true → s.pins.pfailHigh = true) →
      Answers (.resetNRise s0 s1 s2) s fun t =>
        if s0 = s1 ∧ s1 = s2 then
          t.lane.st = .clock ∧ t.lane.strapAcc = true ∧ t.lane.pin = s0 ∧ t.lane.eff = s0 ∧ t.crt.attempt = true
        else
          t.lane.st = .reset ∧ t.lane.strapAcc = s.lane.strapAcc ∧ t.lane.pin = s.lane.pin ∧ t.lane.eff = s.lane.eff ∧
          t.lane.strapTry = s.lane.strapTry + 1 ∧
          t.lane.sfault = if 16 ≤ s.lane.strapTry + 1 then 1 else s.lane.sfault) ∧
    (s.pins.lowRails ≠ [] ∨ (s0.getLsbD 11 = true ∧ s.pins.pfailHigh = false) →
      Answers (.resetNRise s0 s1 s2) s fun t => t = { s with pins.resetN := true })) ∧
  (∀ (s0 s1 s2 : BitVec 14) (s : State), s.pins.powered = true → s.pins.resetN = true → s.lane.st = .reset →
    s.lane.strapAcc = false → 1 ≤ s.lane.strapTry → s.lane.strapTry < 16 → s.pins.lowRails = [] →
    (s0.getLsbD 11 = true → s.pins.pfailHigh = true) →
      Answers (.strapResample s0 s1 s2) s fun t =>
        s.pins.now + 1000000 ≤ t.pins.now ∧
        if s0 = s1 ∧ s1 = s2 then t.lane.st = .clock ∧ t.lane.strapAcc = true ∧ t.lane.pin = s0 ∧ t.lane.eff = s0
        else
          t.lane.st = .reset ∧ t.lane.strapAcc = false ∧ t.lane.pin = s.lane.pin ∧ t.lane.strapTry = s.lane.strapTry + 1 ∧
          t.lane.sfault = if 16 ≤ s.lane.strapTry + 1 then 1 else s.lane.sfault) ∧
  (∀ s : State, s.node = match s.lane.pin.getLsbD 2, s.lane.pin.getLsbD 1, s.lane.pin.getLsbD 0 with
    | false, false, false => 0
    | false, false, true => 1
    | false, true, false => 2
    | true, false, false => 3
    | true, false, true => 4
    | true, true, false => 5
    | false, true, true => 6
    | true, true, true => 7)

/-! ### Clocks -/

/-- The reference is validated at the end of the first 1,024 consecutive good windows, each within ±15 % of nominal and within
0.1 % of the one before; a window that fails restarts the series (R548). Amplitude within 20 ms of the attempt's start starts
the windows (R549); an attempt without amplitude by then, or without validation 200 ms after the amplitude, fails, and is
followed by a new one 100 ms after its start (R550). The root PLL's lock takes the lane from CLOCK to TEST and starts the
recorder (R474, R520, R549); where the clock had been lost, SUP resumes unless a lockstep mismatch halted it, and the lane stays
in its state (R555, R556). ALIGN lets a held rise of TIMEV take place (R546). The instant to which the clock moves is the
model's (log entry 10). -/
def Obligations.ClockStart : Prop :=
  (∀ s : State, s.crt.attempt = true → s.crt.amp = false → s.crtRuns = true → s.pins.now ≤ s.crt.attemptAt + 20000000 →
    Answers .amplitudeDetected s fun t =>
      t = { s with crt.amp := true, crt.ampAt := s.pins.now, crt.winGood := 0, crt.winLast := none }) ∧
  (∀ (n : Nat) (s : State), s.crt.attempt = true → s.crt.amp = true → s.crtRuns = true →
    s.pins.now + 32000 ≤ s.crt.ampAt + 200000000 →
    Answers (.validationWindow n) s fun t =>
      t.crt.winLast = some n ∧ t.lane = s.lane ∧ t.pins.now = s.pins.now + 32000 ∧
      (if 100 * ((n : Int) - s.nominalCount).natAbs ≤ 15 * s.nominalCount ∧
          (∀ p, s.crt.winLast = some p → 1000 * ((n : Int) - p).natAbs ≤ p) then
        t.crt.winGood = s.crt.winGood + 1 ∧
        (t.crt.xval = if 1024 ≤ s.crt.winGood + 1 then true else s.crt.xval) ∧
        (t.crt.attempt = decide (s.crt.winGood + 1 < 1024))
      else t.crt.winGood = 0 ∧ t.crt.attempt = true ∧ t.crt.xval = s.crt.xval)) ∧
  (∀ s : State, s.crt.attempt = true → s.crtRuns = true →
    Answers .validationAttemptTimeout s fun t =>
      t.crt.attempt = false ∧ t.lane.st = s.lane.st ∧ t.crt.xval = s.crt.xval ∧
      t.lane.sfault = (if s.lane.st = .clock ∧ s.lane.sfault = 0 then 2 else s.lane.sfault) ∧
      t.pins.now = max s.pins.now (if s.crt.amp then s.crt.ampAt + 200000000 else s.crt.attemptAt + 20000000)) ∧
  (∀ s : State, s.crt.attempt = false → s.crt.xval = false → s.crtRuns = true →
    Answers .validationRetry s fun t =>
      t.crt.attempt = true ∧ t.crt.winGood = 0 ∧ t.crt.winLast = none ∧ t.lane = s.lane ∧
      t.pins.now = max s.pins.now (s.crt.attemptAt + 100000000) ∧ t.crt.attemptAt = t.pins.now) ∧
  (∀ (d : Option Nat) (s : State), s.crt.xval = true → s.crtRuns = true → s.lane.st = .clock → s.crt.lock = false →
    Answers (.pllLock d) s fun t =>
      t.lane.st = .test ∧ t.crt.lock = true ∧ t.lane.sfault = 0 ∧ t.rcd.accepting = true ∧ t.img = s.img) ∧
  (∀ (d : Option Nat) (s : State), s.crt.xval = true → s.crtRuns = true → (s.lane.st ≠ .clock ∨ s.crt.lock = true) →
    s.crt.rootLost = true →
    Answers (.pllLock d) s fun t =>
      t.lane.st = s.lane.st ∧ t.crt.lock = true ∧ t.crt.rootLost = false ∧ t.crt.rootsel = false ∧
      t.lane.supHalted = s.crt.monst.getLsbD 18 ∧ t.rcd.late = []) ∧
  (∀ s : State, s.tae.ctOff.isSome = true → s.crt.align = false → s.crt.lock = true →
    Answers .alignReached s fun t => t.crt.align = true ∧ t.lane.st = s.lane.st ∧
      (s.crt.timevHeld = false → t = { s with crt.align := true }) ∧ (s.crt.timevHeld = true → t.tae.timev = true))

/-! ### The safe state -/

/-- Consent lost on both XIN in RUN, a PFAIL_N fall with PFEN in effect, a lockstep mismatch of any of its three kinds, and the
authorised make-safe command set the SAFE latch with their causes 0x02, 0x04, 0x06 and 0x07 (R34, R36): the lane is in SAFE, its
elements are static and its logic engine is halted (R37). Consent lost on one XIN alone, or in a lane that is neither in RUN nor
has entered SAFE from it, changes that one declaration and nothing else (R23, R25). Consent that is declared present again
changes its own declaration alone (R23). RUN is entered at a boundary of a logic cycle only, by a lane that declares consent
present on at least one XIN (R25). -/
def Obligations.SafeCausesAndConsent : Prop :=
  (∀ (k : Fin 2) (s : State), s.pins.powered = true → s.lane.safeLatch = false → s.lane.st = .run →
    (if k = 0 then s.lane.cons1 else s.lane.cons0) = false →
    Answers (.consentLost k) s fun t => HeldSafe t ∧ t.lane.scause = 2 ∧ t.lane.driving = false ∧ t.lge.scan = false) ∧
  (∀ (k : Fin 2) (s : State), s.pins.powered = true →
    ((s.lane.st ≠ .run ∧ (s.lane.safeLatch && s.lane.safeRun) = false) ∨ (if k = 0 then s.lane.cons1 else s.lane.cons0) = true) →
    Answers (.consentLost k) s fun t =>
      t = if k = 0 then { s with lane.cons0 := false } else { s with lane.cons1 := false }) ∧
  (∀ s : State, s.pins.powered = true → s.lane.safeLatch = false → s.pfen = true → s.crtRuns = true → s.crt.rootLost = false →
    Answers .pfailFall s fun t => HeldSafe t ∧ t.lane.scause = 4 ∧ t.lane.driving = false ∧ t.lge.scan = false ∧
      t.pins.pfailHigh = false ∧ t.rcd.closed = true) ∧
  (∀ s : State, s.pins.powered = true → s.pfen = false →
    Answers .pfailFall s fun t => t = { s with pins.pfailHigh := false }) ∧
  (∀ (k : LockstepKind) (d : Word) (s : State), s.crt.lock = true → s.lane.supHalted = false → s.lane.safeLatch = false →
    Answers (.lockstepMismatch k d) s fun t => HeldSafe t ∧ t.lane.scause = 6 ∧ t.lane.supHalted = true ∧
      t.crt.monst = putBit s.crt.monst 18 true ∧ t.lane.driving = false) ∧
  (∀ (d : Word) (s : State), s.crt.lock = true → s.lane.supHalted = false → s.lane.safeLatch = false →
    Answers (.supWatchdogTimeout d) s fun t => HeldSafe t ∧ t.lane.scause = 6 ∧ t.lane.supHalted = true ∧
      t.crt.monst = putBit s.crt.monst 18 true ∧ t.lane.driving = false) ∧
  (∀ (sid : BitVec 16) (s : State), Authorised s sid 0x28 1 2 → s.lane.st ≠ .safe → s.lane.safeLatch = false →
    s.ctlRuns = false →
    Answers (.makesafe sid) s fun t => HeldSafe t ∧ t.lane.scause = 7 ∧ t.lane.driving = false ∧ t.lane.ctl = .completed) ∧
  (∀ (i : Instr) (s t : State), exec i s = .next t → t.lane.st = .run → s.lane.st ≠ .run →
    (∃ n, i = .logicCycleBoundary n) ∧ (s.lane.cons0 = true ∨ s.lane.cons1 = true)) ∧
  (∀ (k : Fin 2) (s : State), s.pins.powered = true →
    Answers (.consentPresent k) s fun t =>
      t.lane.cons0 = (decide (k = 0) || s.lane.cons0) ∧
      t.lane.cons1 = (decide (k = 1) || s.lane.cons1) ∧ t.lane.st = s.lane.st ∧
      t = { s with pins.now := t.pins.now, lane.cons0 := t.lane.cons0, lane.cons1 := t.lane.cons1 })

/-- A restart command in SAFE arms the window of 60 s, unless the latch holds cause 0x04 (R40, R626). A filtered low that has
lasted qualifies (R41); the rise after it restarts the lane inside the window, which clears the SAFE latch and leaves the lane
in RESET or, with its straps agreeing, in CLOCK (R42). A window that expires reports FAILED and the lane stays in SAFE. The
instant to which the clock moves is the model's (log entry 10). -/
def Obligations.RestartFromSafe : Prop :=
  (∀ (sid : BitVec 16) (s : State), Authorised s sid 0x28 2 2 → s.lane.st = .safe → s.ctlRuns = false →
    Answers (.restart sid) s fun t =>
      (s.lane.smask.testBit 3 = false → t.lane.window = true ∧ t.lane.windowAt = s.pins.now ∧ t.lane.st = .safe) ∧
      (s.lane.smask.testBit 3 = true → t.lane.window = s.lane.window ∧ t.lane.ctl = .refused ∧ t.lane.st = .safe)) ∧
  (∀ s : State, s.pins.powered = true → s.pins.restartLvl = false → s.pins.restartQual = false →
    Answers .restartQualified s fun t => t.pins.restartQual = true ∧ t.lane = s.lane ∧
      t.pins.now = max s.pins.now (s.pins.restartAt + 550000000)) ∧
  (∀ (s0 s1 s2 : BitVec 14) (s : State), s.pins.powered = true → s.pins.restartLvl = false → s.pins.restartQual = true →
    s.lane.window = true → HeldSafe s → s.lane.supHalted = false → s.pins.now ≤ s.lane.windowAt + 60000000000 →
    Answers (.restartFilteredChange true s0 s1 s2) s fun t =>
      t.lane.safeLatch = false ∧ t.lane.window = false ∧ (t.lane.st = .reset ∨ (s0 = s1 ∧ s1 = s2 ∧ t.lane.st = .clock)) ∧
      t.lane.startCause = .restart ∧ t.img = none ∧ t.crt.ikd = s.crt.ikd ∧ t.crt.sv = s.crt.sv) ∧
  (∀ s : State, s.lane.window = true →
    Answers .restartWindowExpire s fun t => t.lane.window = false ∧ t.lane.ctl = .failed ∧ t.lane.st = s.lane.st ∧
      t.lane.safeLatch = s.lane.safeLatch ∧ t.pins.now = max s.pins.now (s.lane.windowAt + 60000000000))

/-- Only the restart of R42, RESET_N (with what has its effect) and loss of power end SAFE (R555, R556, R40): every other
command leaves the latch set and the lane in SAFE. -/
def Obligations.OnlyResetsEndSafe : Prop :=
  ∀ (i : Instr) (s t : State), HeldSafe s → s.pins.powered = true → exec i s = .next t →
    HeldSafe t ∨ i = .lossOfPower ∨ i = .resetNLow ∨ (∃ r, i = .railBelow r) ∨
    (∃ s0 s1 s2, i = .restartFilteredChange true s0 s1 s2 ∧ s.lane.window = true ∧ s.pins.restartQual = true ∧
      s.lane.supHalted = false)

/-! ### Fuses -/

/-- The fuses are one-time programmable: no step of the lane changes DEVID or the repair records, none changes IKD once it is
burned, and none lowers the security version (R571, R572). Only the end of LOAD and the resets of the whole lane change the
loaded image (R470, R559). -/
def Obligations.FusesAndImage : Prop :=
  (∀ s t : State, step s = .next t →
    t.crt.devid = s.crt.devid ∧ t.crt.rpr = s.crt.rpr ∧ (∀ d, s.crt.ikd = some d → t.crt.ikd = some d) ∧ s.crt.sv ≤ t.crt.sv) ∧
  (∀ (i : Instr) (s t : State), exec i s = .next t →
    t.img = s.img ∨ (∃ st, i = .loadEnd st) ∨ (∃ p r, i = .powerOn p r) ∨ i = .lossOfPower ∨ i = .resetNLow ∨
    (∃ r, i = .railBelow r) ∨ (∃ s0 s1 s2, i = .restartFilteredChange true s0 s1 s2))

/-- KEYBURN burns the digest of PUBK of the block 0 that SUP last read, once, in MODE Commissioning or Factory with VFUSE
present (R571); security-version steps are burned one at a time, and one that does not read back sets BURNF (R572). VFOK follows
the VFUSE monitor (R622). -/
def Obligations.FuseBurning : Prop :=
  (∀ (sid : BitVec 16) (s : State) (h : Header), Authorised s sid 0x010034 1 3 → s.upd.hdr = some h → s.crt.ikd = none →
    (s.mode = 1 ∨ s.mode = 3) → s.vfok = true →
    Answers (.keyburn sid) s fun t => t.crt.ikd = some (Config.sha256 h.pubk) ∧ t.crt.fcmd = .completed ∧ t.crt.sv = s.crt.sv) ∧
  (∀ (sid : BitVec 16) (s : State), Authorised s sid 0x010034 1 3 → (s.crt.ikd.isSome ∨ s.vfok = false ∨ s.upd.hdr = none) →
    Answers (.keyburn sid) s fun t => t.crt.ikd = s.crt.ikd ∧ t.crt.fcmd = .refused) ∧
  (∀ (ok : Bool) (s : State) (g : Nat), s.crt.svTarget = some g → s.fuseReady = true → s.crt.sv < g → s.crt.sv < 255 →
    Answers (.svBurnStep ok) s fun t =>
      t.crt.sv = (if ok then s.crt.sv + 1 else s.crt.sv) ∧ t.crt.burnf = (if ok then s.crt.burnf else true) ∧
      t.crt.ikd = s.crt.ikd) ∧
  (∀ (b : Bool) (s : State), Answers (.vfuseChange b) s fun t => t = { s with crt.vfuse := b })

/-! ### Clock monitors -/

/-- The reactions of R554 to a trip of XMON and RMON: a trip on the reference in use switches the root to the other one where
that is validated, and sets SAFE with cause 0x05 where it is not; a trip on the other reference starts a validation attempt or
revokes the admission. PMON, DMON and AMON set SAFE. The root switches to a validated reference only, without a step (R551); the
watch oscillator's reading is shown, and one outside 28.8 MHz to 35.2 MHz withdraws a voting lane with a lasting fault (R547).
-/
def Obligations.ClockMonitors : Prop :=
  (∀ s : State, s.crt.lock = true → s.crtRuns = true → s.crt.xval = true → s.crt.rootsel = false → s.crt.rval = true →
    Answers (.monitorTrip .xmon) s fun t => t.crt.rootsel = true ∧ t.crt.xval = false ∧ t.crt.attempt = true ∧
      t.lane.st = s.lane.st ∧ t.lane.safeLatch = s.lane.safeLatch) ∧
  (∀ s : State, s.crt.lock = true → s.crtRuns = true → s.crt.xval = true → s.crt.rootsel = false → s.crt.rval = false →
    s.lane.safeLatch = false →
    Answers (.monitorTrip .xmon) s fun t => HeldSafe t ∧ t.lane.scause = 5 ∧ t.crt.lock = false ∧ t.lane.supHalted = true) ∧
  (∀ s : State, s.crt.lock = true → s.crtRuns = true → s.crt.xval = true → s.crt.rootsel = true →
    Answers (.monitorTrip .xmon) s fun t => t.crt.rootsel = true ∧ t.crt.attempt = true ∧ t.lane.st = s.lane.st) ∧
  (∀ s : State, s.crt.lock = true → s.crtRuns = true → s.crt.rval = true → s.crt.rootsel = true → s.crt.xval = true →
    s.lnb.recadm = true →
    Answers (.monitorTrip .rmon) s fun t => t.crt.rootsel = false ∧ t.crt.rval = false ∧ t.lane.st = s.lane.st) ∧
  (∀ (m : Monitor) (s : State), m ≠ .xmon → m ≠ .rmon → s.crt.lock = true → s.crtRuns = true → s.lane.safeLatch = false →
    Answers (.monitorTrip m) s fun t => HeldSafe t ∧ t.lane.scause = 5 ∧ t.crt.lock = false) ∧
  (∀ (b : Bool) (s : State), s.crt.lock = true → s.crtRuns = true → s.crt.rootsel = !b →
    Answers (.referenceSwitch b) s fun t =>
      t.crt.rootsel = (if (if b then s.crt.rval else s.crt.xval && !s.crt.rval) = true then b else !b) ∧ t.lane.st = s.lane.st ∧
      t.lge = s.lge ∧ t.vio = s.vio) ∧
  (∀ (khz : Nat) (s : State), s.crt.lock = true → s.crtRuns = true →
    Answers (.watchOscMeasure khz) s fun t =>
      t.crt.wosc = min 65535 khz ∧ t.lane.st = s.lane.st ∧
      (28800 ≤ khz → khz ≤ 35200 → t.lane = s.lane ∧ t.crt.monst = s.crt.monst) ∧
      ((khz < 28800 ∨ 35200 < khz) → t.crt.monst = putBit s.crt.monst 17 true ∧
        (s.voting = true → t.lane.role = .excluded ∧ t.lane.driving = false ∧ t.lane.lasting = true) ∧
        (s.voting = false → s.grd.gmode ≠ .fallback → t.lane.lasting = true)))

/-! ### TEST and LOAD -/

/-- TEST ends in LOAD with every block soft-reset and the reference buffer of MEA enabled, or stays in TEST with start fault
0x03 or 0x04 (R566, R472, R471 step 4). A block that a NOR delivers is taken when its CRC-32C and, above block 0, its DIGT entry
agree; otherwise it is left to the other NOR and a record is due (R463, R468). Nothing else of the lane changes but the
recorder. LOAD ends in INTEGRATE only when every check of R469 has passed, with the image's content in place; a first failing
check holds the lane in LOAD with its start fault, unless the slot was in SHADOW or TRIAL, which is RETIRED (R462, R469, R470,
R471). -/
def Obligations.TestAndLoad : Prop :=
  (∀ (f m l a b : Bool) (s : State), s.lane.st = .test → s.lane.sfault = 0 →
    Answers (.testEnd f m l a b) s fun t =>
      if f = false ∨ m = false then t.lane.st = .test ∧ t.lane.sfault = 3
      else if l = false then t.lane.st = .test ∧ t.lane.sfault = 4
      else t.lane.st = .load ∧ t.mea.bufon = true ∧ t.img = s.img ∧ t.crt.sv = s.crt.sv ∧ t.crt.ikd = s.crt.ikd) ∧
  (∀ (chip : Chip) (k : Fin 255) (data : List Byte) (h : Header) (s : State), data.length = 65536 → s.lane.st = .load →
    s.lane.sfault = 0 → s.upd.runSlot.isSome = true → (s.nvw = true → chip = .norA) → s.upd.hdr = some h → k.val < h.nblk →
    1 ≤ k.val → s.blockQueued chip k.val = true →
    Answers (.norBlockRead chip k data) s fun t =>
      t.lane.st = .load ∧ t.img = s.img ∧ t.upd.hdr = some h ∧ t.crt = s.crt ∧
      (if (crc32c (data.take 65532)).toNat = leNat (data.drop 65532) ∧ h.digt[k.val - 1]? = some (Config.sha256 data) then
        k.val ∈ t.upd.blocksOk ∧ t.upd.badA = s.upd.badA ∧ t.upd.badB = s.upd.badB
      else t.upd.blocksOk = s.upd.blocksOk ∧ (if chip = .norA then k.val ∈ t.upd.badA else k.val ∈ t.upd.badB))) ∧
  (∀ (st : Station) (s : State), s.lane.st = .load → s.lane.sfault = 0 → s.upd.runSlot.isSome = true →
    s.loadChecks st = .pass → s.upd.fromShadow = false →
    Answers (.loadEnd st) s fun t => t.lane.st = .integrate ∧ t.img.isSome = true ∧ t.fld.phyOut = true ∧
      t.crt.ikd = s.crt.ikd ∧ t.crt.sv = s.crt.sv) ∧
  (∀ (st : Station) (c : Nat) (m : List Nat) (s : State), s.lane.st = .load → s.lane.sfault = 0 →
    s.upd.runSlot.isSome = true → s.loadChecks st = .fails c m → s.upd.fromShadow = false → s.upd.fromTrial = false →
    Answers (.loadEnd st) s fun t => t.lane.st = .load ∧ t.lane.sfault = c ∧ t.img = s.img ∧ t.upd.slot0 = s.upd.slot0 ∧
      t.upd.slot1 = s.upd.slot1) ∧
  (∀ (st : Station) (c : Nat) (m : List Nat) (s : State), s.lane.st = .load → s.lane.sfault = 0 →
    s.upd.runSlot = some false → s.loadChecks st = .fails c m → s.upd.fromShadow = true →
    Answers (.loadEnd st) s fun t => t.lane.st = .load ∧ t.slotState false = .retired ∧ t.img = s.img)

/-! ### Image writes -/

/-- OPEN takes the update lock for the session and starts the erase of the pending slot; while the lock is held, another
session's operation is answered BUSY and changes no slot; a reader of the status sees it running (R482, R483). The end of an
operation reports its final status: OPEN leaves the slot WRITING; a BLOCK that fails leaves it unwritten and, for block 0, ends
the write with FAILED; FINISH with every block in place ends the write COMPLETED (R483, R484, R485). The session that holds the
lock stages data through BLK and BDATA (R513), starts BLOCK and FINISH (R483), and ends the write with ABORT or RELEASE, which
leaves the slot RETIRED and the lock free (R482, R485). -/
def Obligations.UpdateLock : Prop :=
  (∀ (sid : BitVec 16) (s : State), Authorised s sid 0x0D0000 1 3 → s.upd.lock = none → s.updRuns = false →
    s.writeAllowed = true →
    Answers (.updOpen sid) s fun t => t.upd.lock = some sid.toNat ∧ t.upd.op = some .open ∧ t.upd.cmd = .running ∧
      t.slot s.pendingSlot = Slot.erased ∧ t.slot (!s.pendingSlot) = s.slot (!s.pendingSlot) ∧ t.lane = s.lane) ∧
  (∀ (sid : BitVec 16) (n : Nat) (s : State), Authorised s sid 0x0D0000 1 3 → s.upd.lock = some n → n ≠ sid.toNat →
    Answers (.updOpen sid) s fun t => t.upd.cmd = .busy ∧ t.upd.lock = some n ∧ t.upd.slot0 = s.upd.slot0 ∧
      t.upd.slot1 = s.upd.slot1 ∧ t.upd.write = s.upd.write) ∧
  (∀ (sid : BitVec 16) (n : Nat) (s : State), Authorised s sid 0x0D0000 2 3 → s.upd.lock = some n → n ≠ sid.toNat →
    Answers (.block sid) s fun t => t.upd.cmd = .busy ∧ t.upd.lock = some n ∧ t.upd.write = s.upd.write) ∧
  (∀ (sid : BitVec 16) (n : Nat) (s : State), Authorised s sid 0x0D0000 3 3 → s.upd.lock = some n → n ≠ sid.toNat →
    Answers (.finish sid) s fun t => t.upd.cmd = .busy ∧ t.upd.lock = some n ∧ t.upd.write = s.upd.write) ∧
  (∀ (w : ImageWrite) (s : State), s.upd.op = some .open → s.upd.write = some w →
    Answers (.writeOperationDone true) s fun t => t.upd.cmd = .completed ∧ t.upd.op = none ∧ t.upd.write = some w ∧
      t.upd.lock = s.upd.lock) ∧
  (∀ (w : ImageWrite) (s : State), s.upd.op = some .block → s.upd.write = some w → 1 ≤ w.cur →
    Answers (.writeOperationDone false) s fun t => t.upd.cmd = .failed ∧ t.upd.op = none ∧ t.upd.lock = s.upd.lock ∧
      t.upd.write = some { w with written := w.written.filter fun k => decide (k ≠ w.cur) }) ∧
  (∀ (w : ImageWrite) (s : State), s.upd.op = some .block → s.upd.write = some w → w.cur = 0 →
    Answers (.writeOperationDone false) s fun t => t.upd.cmd = .failed ∧ t.upd.op = none ∧ t.upd.lock = none ∧ t.upd.write = none) ∧
  (∀ (w : ImageWrite) (h : Header) (s : State), s.upd.op = some .finish → s.upd.write = some w → w.hdr = some h →
    (∀ k, 1 ≤ k → k < h.nblk → k ∈ w.written) →
    Answers (.writeOperationDone true) s fun t => t.upd.cmd = .completed ∧ t.upd.lock = none ∧ t.upd.write = none) ∧
  (∀ (sid : BitVec 16) (v : Word) (s : State), MayWrite s sid 0x0D000C 2 → s.upd.lock = some sid.toNat →
    Answers (.blkWrite sid v) s fun t => t.upd.blk = v.toNat % 256 ∧ t.upd.ptr = 0 ∧ t.upd.staged = s.upd.staged ∧ t.lane = s.lane) ∧
  (∀ (sid : BitVec 16) (v : Word) (s : State), TablesWf s → MayWrite s sid 0x0D0010 2 → s.upd.lock = some sid.toNat →
    s.upd.ptr < 65536 →
    Answers (.bdataWrite sid v) s fun t => t.upd.ptr = s.upd.ptr + 4 ∧ tabGet 0 (s.upd.ptr / 4) t.upd.staged = v ∧ t.lane = s.lane) ∧
  (∀ (sid : BitVec 16) (w : ImageWrite) (s : State), Authorised s sid 0x0D0000 2 3 → s.upd.lock = some sid.toNat →
    s.updRuns = false → s.upd.write = some w → (w.hdr.isSome = true ∨ s.upd.blk = 0) →
    Answers (.block sid) s fun t => t.upd.op = some .block ∧ t.upd.cmd = .running ∧
      t.upd.write = some { w with cur := s.upd.blk, buf := s.upd.staged }) ∧
  (∀ (sid : BitVec 16) (w : ImageWrite) (s : State), Authorised s sid 0x0D0000 3 3 → s.upd.lock = some sid.toNat →
    s.updRuns = false → s.upd.write = some w →
    Answers (.finish sid) s fun t => t.upd.op = some .finish ∧ t.upd.cmd = .running) ∧
  (∀ (sid : BitVec 16) (w : ImageWrite) (s : State), Authorised s sid 0x0D0000 4 3 → s.ownSwitch true = false →
    s.upd.lock = some sid.toNat → s.upd.write = some w →
    Answers (.abort sid) s fun t => t.upd.cmd = .aborted ∧ t.upd.lock = none ∧ t.upd.write = none ∧ t.lane.st = s.lane.st) ∧
  (∀ (sid : BitVec 16) (w : ImageWrite) (s : State), Authorised s sid 0x0D0000 5 3 → s.updRuns = false →
    s.upd.lock = some sid.toNat → s.upd.write = some w →
    Answers (.release sid) s fun t => t.upd.cmd = .aborted ∧ t.upd.lock = none ∧ t.upd.write = none ∧ t.lane.st = s.lane.st)

/-- ACTIVATE sets SAFE with cause 0x07 and arms the restart window (R491). RELOAD runs the slot selection again after start
fault 0x1D or 0x1E (R492). A lane loaded from SHADOW that fails the digest vote is in SAFE with cause 0x07 (R493). At the end of
the confirmation period the lane's period is over (R501). HANDOVER is distributed by a voting lane of the holding set to a
SHADOW set that has been healthy, and refused where the lane holds a force and DROPF is not given (R497). ONLINE takes a change
for its cycle (R504); FORCE holds the value of FVAL for the cell of FADDR and UNFORCE releases it (R506, R507); each is refused
where its conditions do not hold. -/
def Obligations.ActivationAndOnline : Prop :=
  (∀ (sid : BitVec 16) (s : State), Authorised s sid 0x0D0000 6 3 → s.updRuns = false → s.activateOk sid.toNat = true →
    s.lane.safeLatch = false →
    Answers (.activate sid) s fun t => HeldSafe t ∧ t.lane.scause = 7 ∧ t.lane.window = true ∧ t.upd.cmd = .completed ∧
      t.lane.driving = false) ∧
  (∀ (sid : BitVec 16) (s : State), Authorised s sid 0x0D0000 11 2 → s.updRuns = false → s.lane.st = .load →
    (s.lane.sfault = 0x1D ∨ s.lane.sfault = 0x1E) →
    Answers (.reload sid) s fun t => t.upd.cmd = .completed ∧ t.lane.st = .load ∧ (t.lane.sfault = 0 ∨ t.lane.sfault = 0x13)) ∧
  (∀ s : State, s.lane.st = .integrate → s.lane.digestDue = true → s.tae.timev = true → s.digestReady = true →
    Answers .digestVote s fun t => t.lane.digestDue = false ∧
      (s.digestPasses = true → t = { s with lane.digestDue := false }) ∧
      (s.digestPasses = false → s.lane.safeLatch = false → HeldSafe t ∧ t.lane.scause = 7)) ∧
  (∀ (e : Nat) (s : State), s.upd.confEnd = some e → s.upd.conf = true → s.upd.confNew = true →
    Answers .confirmationEnd s fun t => t.upd.conf = false ∧ t.lane.st = s.lane.st) ∧
  (∀ (sid : BitVec 16) (d : Bool) (s : State), Authorised s sid 0x0D0000 (7 + 256 * bitNat d) 3 → s.updRuns = false →
    Answers (.handover sid d) s fun t =>
      t.upd.cmd = (if s.handoverOk d then .running else .refused) ∧
      (s.upd.forces ≠ [] → d = false → t.upd.cmd = .refused ∧ t.lnb = s.lnb) ∧
      t.upd.forces = s.upd.forces ∧ t.lane.role = s.lane.role) ∧
  (∀ (sid : BitVec 16) (s : State), Authorised s sid 0x0D0000 8 3 → s.updRuns = false →
    Answers (.online sid) s fun t =>
      (s.onlineOk = true → t.upd.cmd = .completed ∧
        t.upd.online = s.upd.online ++ [{ sym := s.upd.olsym, value := s.upd.olval, cycle := s.onlineCycle }]) ∧
      (s.onlineOk = false → t.upd.cmd = .refused ∧ t.upd.online = s.upd.online) ∧ t.lge = s.lge) ∧
  (∀ (sid : BitVec 16) (s : State), Authorised s sid 0x0D0000 9 3 → s.updRuns = false →
    Answers (.force sid) s fun t =>
      (s.forceOk = true → t.upd.cmd = .completed ∧ (s.upd.faddr, s.upd.fval) ∈ t.upd.forces) ∧
      (s.forceOk = false → t.upd.cmd = .refused ∧ t.upd.forces = s.upd.forces) ∧ t.lge = s.lge) ∧
  (∀ (sid : BitVec 16) (s : State), Authorised s sid 0x0D0000 10 3 → s.updRuns = false →
    Answers (.unforce sid) s fun t =>
      (s.forced s.upd.faddr = true → s.upd.faddr ∉ s.upd.unforce → t.upd.cmd = .completed ∧ s.upd.faddr ∈ t.upd.unforce) ∧
      (s.forced s.upd.faddr = false → t.upd.cmd = .refused ∧ t.upd.unforce = s.upd.unforce) ∧
      t.upd.forces = s.upd.forces ∧ t.lge = s.lge)

/-! ### Logic instructions -/

/-- Loads and tests (R149, R155, R161): a bit cell, a constant, a timer's elapsed test or its running flag, inverted by N, is
loaded into the accumulator at a rung start and combined with it by M elsewhere. Nothing is stored and nothing but the rung
context and the program address changes. The compares (R163): the signed test of the word cell against K decides the operand.
The block stack (R152, R154): an open pushes the accumulator and mode, loading the operand or leaving the accumulator undefined;
a close pops them and combines. A 17th open, a close of an empty stack and the use of an undefined accumulator abort the scan
with STKF. -/
def Obligations.ProgramOperands : Prop :=
  (∀ (n : Bool) (a : BitVec 20) (s : State), LogicReady s → cellKind a.toNat = some .bit →
    TestMeans (fun rs m => .ld .none rs n m a) s (xor (readBit s.station a.toNat (Operand s a.toNat)) n)) ∧
  (∀ (rs n : Bool) (s : State), LogicReady s → (rs = true → s.lge.rung0.stack = []) →
    Answers (.ldc .none rs n) s fun t => t = RungNext s (rungWith (some !n) s.lge.rung0.stack)) ∧
  (∀ (n : Bool) (a : BitVec 20) (s : State), LogicReady s → cellKind a.toNat = some .timer →
    TestMeans (fun rs m => .ldte .none rs n m a) s
      (xor (readElapsed (t0Cells s.station (Operand s)) (Operand s a.toNat)) n)) ∧
  (∀ (n : Bool) (a : BitVec 20) (s : State), LogicReady s → cellKind a.toNat = some .timer →
    TestMeans (fun rs m => .ldtr .none rs n m a) s (xor (readRunning (Operand s a.toNat)) n)) ∧
  (CompareMeans .ldeq (fun x k => x == k) ∧ CompareMeans .ldne (fun x k => x != k) ∧
  CompareMeans .ldlt (fun x k => decide (x < k)) ∧ CompareMeans .ldle (fun x k => decide (x ≤ k)) ∧
  CompareMeans .ldgt (fun x k => decide (x > k)) ∧ CompareMeans .ldge (fun x k => decide (x ≥ k))) ∧
  (∀ (n x : Bool) (op : BlockOp) (a : BitVec 20) (s : State), LogicReady s → cellKind a.toNat = some .bit →
    s.lge.rung0.acc = some x → s.lge.rung0.stack.length < 16 →
    Answers (.andOpen .none n op a) s fun t =>
      t = RungNext s (rungWith (some (xor (readBit s.station a.toNat (Operand s a.toNat)) n))
        ({ saved := some x, op := op } :: s.lge.rung0.stack))) ∧
  (∀ (x : Bool) (op : BlockOp) (s : State), LogicReady s → s.lge.rung0.acc = some x → s.lge.rung0.stack.length < 16 →
    Answers (.andOpenNoOperand .none op) s fun t =>
      t = RungNext s (rungWith none ({ saved := some x, op := op } :: s.lge.rung0.stack))) ∧
  (∀ (n x y : Bool) (op : BlockOp) (l : List BlockEntry) (s : State), LogicReady s → s.lge.rung0.acc = some x →
    s.lge.rung0.stack = { saved := some y, op := op } :: l →
    Answers (.blockClose .none n) s fun t =>
      t = RungNext s (rungWith (some (match op with | .and => y && xor x n | .or => y || xor x n)) l)) ∧
  (∀ (n : Bool) (s : State), LogicReady s → (s.lge.rung0.acc = none ∨ s.lge.rung0.stack = []) →
    Answers (.blockClose .none n) s fun t => t.lge.scan = false ∧ t.lge.aborted = true ∧ t.lge.evt.getLsbD 4 = true ∧
      t.lge.rep0 = s.lge.rep0 ∧ t.lge.rep1 = s.lge.rep1) ∧
  (∀ (op : BlockOp) (s : State), LogicReady s → 16 ≤ s.lge.rung0.stack.length →
    Answers (.andOpenNoOperand .none op) s fun t => t.lge.scan = false ∧ t.lge.aborted = true ∧ t.lge.evt.getLsbD 4 = true ∧
      t.lge.rep0 = s.lge.rep0 ∧ t.lge.rep1 = s.lge.rep1)

/-- Stores (R156, R164, R105): ST and STN store the accumulator or its inverse, SET a 1 and RST a 0 where it is 1, WSTK the
constant K where it is 1, always with Q = 1; the accumulator stays. A store to a cell that the logic may not write is dropped
with ROWR (R101). Every store waits in the store buffer with Q = 1, whatever logic command made it, and a drained content is
what a read of the cell gives (R105). -/
def Obligations.Stores : Prop :=
  (∀ (n x : Bool) (a : BitVec 20) (s : State), LogicReady s → bufCount s.lge.buf0 < 1536 → cellKind a.toNat = some .bit →
    s.lge.rung0.acc = some x → storable s.station a.toNat = true →
    Answers (.st .none n a) s fun t =>
      t = RungStores s { s.lge.rung0 with prefixKH := none } a.toNat (.bit (xor x n) true)) ∧
  (∀ (n x : Bool) (a : BitVec 20) (s : State), LogicReady s → cellKind a.toNat = some .bit → s.lge.rung0.acc = some x →
    storable s.station a.toNat = false →
    Answers (.st .none n a) s fun t => t.lge.buf0 = s.lge.buf0 ∧ t.lge.evt = putBit s.lge.evt 6 true ∧
      t.lge.rung0.acc = some x ∧ t.lge.pc = s.lge.pc + 1 ∧ t.lge.rep0 = s.lge.rep0) ∧
  (∀ (a : BitVec 20) (s : State), LogicReady s → bufCount s.lge.buf0 < 1536 → cellKind a.toNat = some .bit →
    storable s.station a.toNat = true →
    (s.lge.rung0.acc = some true →
      (Answers (.set .none a) s fun t =>
        t = RungStores s { s.lge.rung0 with prefixKH := none } a.toNat (.bit true true)) ∧
      (Answers (.rst .none a) s fun t =>
        t = RungStores s { s.lge.rung0 with prefixKH := none } a.toNat (.bit false true))) ∧
    (s.lge.rung0.acc = some false →
      (Answers (.set .none a) s fun t => t = RungNext s { s.lge.rung0 with prefixKH := none }) ∧
      (Answers (.rst .none a) s fun t => t = RungNext s { s.lge.rung0 with prefixKH := none }))) ∧
  (∀ (w : BitVec 14) (kl : BitVec 7) (s : State), LogicReady s → bufCount s.lge.buf0 < 1536 → wordOk w.toNat = true →
    storable s.station (0x40000 + w.toNat) = true →
    (s.lge.rung0.acc = some true →
      Answers (.wstk .none w kl) s fun t =>
        t = RungStores s { s.lge.rung0 with prefixKH := none } (0x40000 + w.toNat) (.word (constK s.lge.rung0 kl) true)) ∧
    (s.lge.rung0.acc = some false →
      Answers (.wstk .none w kl) s fun t => t = RungNext s { s.lge.rung0 with prefixKH := none })) ∧
  (∀ (i : Instr) (e : StoreEntry) (s t : State), exec i s = .next t → familyOf i = .logic → e ∈ t.lge.buf0 ++ t.lge.buf1 →
    e ∈ s.lge.buf0 ++ s.lge.buf1 ∨ qOf e.content = true) ∧
  (∀ (st : Station) (r : Replica) (a : Nat) (v : Bool) (w : Word), r.wf st = true →
    readBit st a ((r.put st a (.bit v true)).get st a) = v ∧ readWord st a ((r.put st a (.word w true)).get st a) = w)

/-- On-delay and off-delay timers (R159, R160), as a truth table over the input and the cell: start at T0(n), stop with the
preset kept, report elapsed. The elapsed test is true when the timer runs with Q = 1 and T0(n) less its start instant has
reached the preset (R113). Edges (R162): a rise or fall against a memory with Q = 1 is reported, and the input is always stored
into the memory. -/
def Obligations.TimersAndEdges : Prop :=
  (∀ (x : Bool) (a : BitVec 20) (p : Word) (start : W64) (run q : Bool) (s : State), LogicReady s →
    bufCount s.lge.buf0 ≤ 1534 → cellKind a.toNat = some .timer → storable s.station a.toNat = true →
    s.lge.rung0.acc = some x → Operand s a.toNat = .timer p start run q →
    Answers (.ton .none a) s fun t =>
      (x = true → run && q → t = RungNext s (rungWith (some (readElapsed (t0Cells s.station (Operand s)) (.timer p start run q)))
        s.lge.rung0.stack)) ∧
      (x = true → (run && q) = false → t = RungStores s (rungWith (some false) s.lge.rung0.stack) a.toNat
        (.timer p (t0Cells s.station (Operand s)) true true)) ∧
      (x = false → (run || !q) = true → t = RungStores s (rungWith (some false) s.lge.rung0.stack) a.toNat
        (.timer p start false true)) ∧
      (x = false → run = false → q = true → t = RungNext s (rungWith (some false) s.lge.rung0.stack))) ∧
  (∀ (x : Bool) (a : BitVec 20) (p : Word) (start : W64) (run q : Bool) (s : State), LogicReady s →
    bufCount s.lge.buf0 ≤ 1534 → cellKind a.toNat = some .timer → storable s.station a.toNat = true →
    s.lge.rung0.acc = some x → Operand s a.toNat = .timer p start run q →
    Answers (.tof .none a) s fun t =>
      (x = true → t = RungStores s (rungWith (some true) s.lge.rung0.stack) a.toNat
        (.timer p (t0Cells s.station (Operand s)) true true)) ∧
      (x = false → run && q → readElapsed (t0Cells s.station (Operand s)) (.timer p start run q) = true →
        t = RungStores s (rungWith (some false) s.lge.rung0.stack) a.toNat (.timer p start false true)) ∧
      (x = false → run && q → readElapsed (t0Cells s.station (Operand s)) (.timer p start run q) = false →
        t = RungNext s (rungWith (some true) s.lge.rung0.stack)) ∧
      (x = false → (run && q) = false → t = RungNext s (rungWith (some false) s.lge.rung0.stack))) ∧
  (∀ (x m q : Bool) (a : BitVec 20) (s : State), LogicReady s → bufCount s.lge.buf0 < 1536 → cellKind a.toNat = some .edge →
    storable s.station a.toNat = true → s.lge.rung0.acc = some x → Operand s a.toNat = .edge m q →
    (Answers (.edgr .none a) s fun t =>
      t = RungStores s (rungWith (some (x && !m && q)) s.lge.rung0.stack) a.toNat (.edge x true)) ∧
    (Answers (.edgf .none a) s fun t =>
      t = RungStores s (rungWith (some (!x && m && q)) s.lge.rung0.stack) a.toNat (.edge x true))) ∧
  (∀ (t0 start : W64) (p : Word) (run q : Bool), readElapsed t0 (.timer p start run q) =
    (run && q && decide ((p.toNat * 1000000 : Int) ≤ (t0.toNat : Int) - start.toNat)))

/-- KHI supplies the high bits of the next constant and passes the accumulator (R146, R147). FENCE and END close the region and
leave a drain due (R165). A word that is no instruction of the table (R144, R149, R150) and an uncorrectable program error set
PUNC and abort the scan (R131). A corrected program error is counted and the instruction takes effect. A drain takes the stores
of the region into both replicas, and with several stores to a cell the one of the highest tag wins; the next region may then
issue (R118, R109). At END the candidate image stands with its digest (R121). That an event whose conditions do not hold changes
nothing is the model's (log entry 9). -/
def Obligations.ControlAndDrains : Prop :=
  (∀ (kh : BitVec 25) (s : State), LogicReady s →
    Answers (.khi .none kh) s fun t => t = RungNext s { s.lge.rung0 with prefixKH := some kh } ∧
      ∀ kl, constK t.lge.rung0 kl = kh ++ kl) ∧
  (∀ s : State, LogicReady s → s.lge.rung0.stack = [] →
    (Answers (.fence .none) s fun t => t.lge.drain = some false ∧ t.lge.pc = s.lge.pc + 1 ∧ t.lge.rung0 = Rung.empty ∧
      t.lge.buf0 = s.lge.buf0 ∧ t.lge.rep0 = s.lge.rep0) ∧
    (Answers (.endScan .none) s fun t => t.lge.drain = some true ∧ t.lge.pc = s.lge.pc + 1 ∧ t.lge.rung0 = Rung.empty ∧
      t.lge.buf0 = s.lge.buf0 ∧ t.lge.rep0 = s.lge.rep0)) ∧
  (∀ (w : Word) (i : Instr) (s : State), insDecode w = some i → Answers (.reservedOpcode w) s fun t => t = s) ∧
  (∀ (w : Word) (s : State), s.lgeRuns = true → insDecode w = none →
    Answers (.reservedOpcode w) s fun t => t.lge.scan = false ∧ t.lge.aborted = true ∧ t.lge.evt = putBit s.lge.evt 2 true ∧
      t.lge.buf0 = [] ∧ t.lge.rep0 = s.lge.rep0 ∧
      (s.voting = true → t.lane.role = .excluded ∧ t.lane.driving = false ∧ t.lane.implicated = some .lge)) ∧
  (∀ (n : Bool) (s : State), s.lgeRuns = true →
    Answers (.ldc .uncProgram false n) s fun t => t.lge.scan = false ∧ t.lge.aborted = true ∧
      t.lge.evt = putBit s.lge.evt 2 true ∧ t.lge.rep0 = s.lge.rep0) ∧
  (∀ (n : Bool) (s : State), LogicReady s →
    Answers (.ldc .corrProgram false n) s fun t => t.lge.rung0 = rungWith (some !n) s.lge.rung0.stack ∧
      t.lge.pcorr = satInc 65535 s.lge.pcorr ∧ t.lge.evt = putBit s.lge.evt 0 true) ∧
  (∀ s : State, s.lge.drain = some false → s.lge.split = false →
    Answers .regionDrainEnd s fun t => t.lge.drain = none ∧ t.lge.region = s.lge.region + 1 ∧ t.lge.buf0 = [] ∧
      t.lge.rep0 = drainInto s.station s.lge.rep0 s.lge.buf0 ∧ t.lge.rep1 = drainInto s.station s.lge.rep1 s.lge.buf0 ∧
      t.lane = s.lane) ∧
  (∀ (e : StoreEntry) (s : State), s.lge.rep0.wf s.station = true → s.lge.buf0 = [e] → s.lge.split = false →
    s.lge.drain = some false →
    Answers .regionDrainEnd s fun t => t.lge.rep0.get s.station e.addr = e.content) ∧
  (∀ (e f : StoreEntry) (s : State), s.lge.rep0.wf s.station = true → s.lge.buf0 = [e, f] → e.addr = f.addr →
    e.tag < f.tag → s.lge.split = false → s.lge.drain = some false →
    Answers .regionDrainEnd s fun t => t.lge.rep0.get s.station e.addr = f.content) ∧
  (∀ s : State, s.lge.drain = some true → s.lge.split = false →
    Answers .scanEnd s fun t => t.lge.scan = false ∧ t.lge.drain = none ∧ t.lge.candidate = true ∧
      t.lge.odig = outputDigest (outputImage s.station t.lge.rep0) ∧ t.lge.oimg = outputImage s.station t.lge.rep0 ∧
      t.lane = s.lane)

/-! ### The Guardian -/

/-- The candidate guard image is gathered from replica 1: the 32 cells of an enabled entry are the bit cells of its block, those
of any other entry read V = 0, Q = 0, and entry 511 reads V = 0, Q = 1 (R170, R171, R178). A pass that finds nothing marks the
candidate as checked and changes nothing else (R178). A candidate or committed output that is active while a literal of its term
reads 0, two active members of an exclusion group, and a stalled Guardian are vetoes: SAFE with cause 0x01, nothing commits
(R172, R176, R177, R183, R184). While SUP masks the veto, it only shows. That an event whose conditions do not hold changes
nothing is the model's (log entry 9). -/
def Obligations.GatherAndVetoes : Prop :=
  (∀ s : State, s.lge.candidate = true → s.grdRuns = true → s.lge.split = false →
    (s.lane.st = .prove ∨ s.lane.st = .run ∨ s.lane.st = .hold) →
    Answers .gatherEnd s fun t => ∃ g, t = { s with grd.cand := some g, grd.chkok := false } ∧
      ∀ e i, i < 32 →
        (e < 511 → gatherEn s.station e = true →
          guardGet g (32 * e + i) = cellVQ (s.lge.rep1.get s.station (gatherBase s.station e + i))) ∧
        (e < 511 → gatherEn s.station e = false → guardGet g (32 * e + i) = (false, false)) ∧
        (e = 511 → guardGet g (32 * e + i) = (false, true))) ∧
  (∀ s : State, s.lge.candidate = false → Answers .gatherEnd s fun t => t = s) ∧
  (∀ (k : Nat) (s : State), s.grdRuns = true → (s.advanceCt (1000 * k)).passViolations = [] →
    Answers (.guardianPass k .none) s fun t =>
      t = { s.advanceCt (1000 * k) with
              grd.passcnt := (s.grd.passcnt + 1) % 4294967296, grd.chkok := s.grd.cand.isSome || s.grd.chkok,
              grd.decAt := (s.advanceCt (1000 * k)).pins.now + 1064,
              lnb.outReady := if s.grd.cand.isSome ∧ s.grd.chkok = false then (s.advanceCt (1000 * k)).pins.now + 1064
                              else s.lnb.outReady }) ∧
  (∀ (k o : Nat) (g : GuardImage) (s : State), s.grdRuns = true → (s.grd.cand = some g ∨ s.grd.comm = g) →
    o ∈ guardedOutputs s.station → guardActive s.station g o = true → (termFails s.station g o).isSome = true →
    s.grd.masked = false → s.lane.safeLatch = false →
    Answers (.guardianPass k .none) s fun t => HeldSafe t ∧ t.lane.scause = 1 ∧ t.lane.driving = false ∧ t.grd.veto = true ∧
      t.grd.vcnt = satInc 65535 s.grd.vcnt ∧ t.grd.chkok = s.grd.chkok ∧ t.grd.comm = s.grd.comm) ∧
  (∀ (k x o p : Nat) (g : GuardImage) (s : State), s.grdRuns = true → s.grd.cand = some g →
    x ∈ exclusionGroups s.station → o ∈ grpMembers s.station x → p ∈ grpMembers s.station x → o ≠ p →
    guardActive s.station g o = true → guardActive s.station g p = true → s.grd.masked = false → s.lane.safeLatch = false →
    Answers (.guardianPass k .none) s fun t => HeldSafe t ∧ t.lane.scause = 1 ∧ t.grd.chkok = s.grd.chkok) ∧
  (∀ s : State, s.grd.armed = true → s.crt.inReset.getLsbD 5 = false → s.crt.test = none → s.grd.masked = false →
    s.lane.safeLatch = false →
    Answers .guardianStall s fun t => HeldSafe t ∧ t.lane.scause = 1 ∧ t.lane.driving = false ∧ t.grd.veto = true) ∧
  (∀ s : State, s.grd.armed = true → s.crt.inReset.getLsbD 5 = false → s.crt.test = none → s.grd.masked = true →
    Answers .guardianStall s fun t => t.lane.st = s.lane.st ∧ t.lane.safeLatch = s.lane.safeLatch ∧ t.grd.veto = true)

/-- A Guardian fault takes a voting lane out of the vote with GRD implicated, or into fall-back where every condition of R191
holds and no check is open: the veto is masked, the logic splits at the next scan and the pipeline is under test (R186, R187,
R191). A table CRC and a committed image that agree are no fault; the check is due every 100 ms (R186). That an event whose
conditions do not hold changes nothing is the model's (log entry 9). -/
def Obligations.GuardianFaults : Prop :=
  (∀ (k : Nat) (s : State), s.grdRuns = true → s.grd.gmode = .checking → s.voting = true →
    (s.checking = true ∨ s.fallbackUnmet ≠ 0) →
    Answers (.guardianPass k .uncorrectable) s fun t =>
      t.lane.driving = false ∧ t.lane.implicated = some .grd ∧ t.grd.gmode = .faultExcluded ∧ t.grd.evt.getLsbD 6 = true ∧
      (HeldSafe t ∨ (t.lane.st = .run ∧ t.lane.role = .excluded))) ∧
  (∀ (l : List (Nat × Word)) (s : State), s.grd.gmode = .checking → s.grdLive = true →
    grdCrc s.station l ≠ grdTcrc s.station → (s.advance s.grd.crcAt).checking = false →
    (s.advance s.grd.crcAt).fallbackUnmet = 0 →
    Answers (.tableCrcCheck l) s fun t =>
      t.grd.gmode = .fallback ∧ t.grd.masked = true ∧ t.grd.armed = false ∧ t.lge.splitWant = some true ∧
      t.grd.tcrc = grdCrc s.station l ∧ t.crt.test = some (grdTest (max s.pins.now s.grd.crcAt) false true) ∧
      t.lane.role = s.lane.role ∧ t.lane.driving = s.lane.driving ∧ t.lane.st = s.lane.st) ∧
  (∀ (l : List (Nat × Word)) (s : State), s.grd.gmode ≠ .notLoaded → s.grdLive = true →
    grdCrc s.station l = grdTcrc s.station →
    Answers (.tableCrcCheck l) s fun t =>
      t = { s.advance s.grd.crcAt with grd.tcrc := grdTcrc s.station, grd.crcAt := s.grd.crcAt + 100000000 }) ∧
  (∀ s : State, s.grdRuns = true → s.grd.commFrom = true → s.afterCommit = true → gatherImage s.station s.lge.rep1 = s.grd.comm →
    Answers .regatherCheck s fun t => t = s) ∧
  (∀ s : State, s.grdRuns = true → s.grd.gmode = .checking → s.grd.commFrom = true → s.afterCommit = true →
    gatherImage s.station s.lge.rep1 ≠ s.grd.comm → s.voting = true → (s.checking = true ∨ s.fallbackUnmet ≠ 0) →
    Answers .regatherCheck s fun t => t.lane.role = .excluded ∧ t.lane.implicated = some .grd ∧ t.lane.implicatedMem = true ∧
      t.grd.gmode = .faultExcluded ∧ t.grd.evt.getLsbD 7 = true) ∧
  (∀ (sid : BitVec 16) (s : State), Authorised s sid 0x050034 1 2 →
    (s.grd.gmode = .fallback → s.voting = true →
      Answers (.fallbackExitCommand sid) s fun t => t.grd.fbcmd = .completed ∧ t.lane.role = .excluded ∧
        t.lane.lasting = true ∧ t.grd.gmode = .faultExcluded ∧ t.lane.driving = false) ∧
    (s.grd.gmode ≠ .fallback →
      Answers (.fallbackExitCommand sid) s fun t => t.grd.fbcmd = .refused ∧ t.lane = s.lane ∧ t.grd.gmode = s.grd.gmode))

/-! ### The logic cycle -/

/-- What takes effect at T0 of logic cycle n (R53, R72): a lane in RUN captures its inputs and begins the cycle; one that waits
for PROVE and has TIMEV enters it with no guard image, latch or set angle (R106, R179, R251); one that is proven and has consent
enters RUN, without drives (R25, R478); one with HOLD or RESUME pending takes its step (R124, R479). T_IA applies the agreed
image and starts the one scan of the cycle on empty store buffers (R71, R111, R122). Of three valid reports of a word that lie
within the tolerance the median is agreed, of two the mean, and of one none (R74). The instant to which the clock moves is the
model's (log entry 10). That an event whose conditions do not hold changes nothing is the model's (log entry 9). -/
def Obligations.CycleStartAndAgreement : Prop :=
  (∀ (n : Nat) (s : State), s.hasCt = true → s.ct ≤ n * s.logicNs →
    (s.lane.st = .run → s.lane.holdPend = false →
      Answers (.logicCycleBoundary n) s fun t => t.lane.st = .run ∧ t.lane.role = s.lane.role ∧ t.tae.phase = 1 ∧
        t.inp.t0 = n * s.logicNs ∧ t.tae.cycnum = n % 4294967296 ∧ t.lane.commitOk = false ∧ t.lge.candidate = false ∧
        t.lane.driving = s.lane.driving) ∧
    (s.lane.st = .run → s.lane.holdPend = true →
      Answers (.logicCycleBoundary n) s fun t => t.lane.st = .hold ∧ t.lane.holdPend = false ∧ t.lane.wasHold = true ∧
        t.lane.driving = false ∧ t.lge.scan = false ∧ t.lane.ctl = .completed ∧ t.inp.t0 = s.inp.t0) ∧
    (s.lane.st = .stop → s.lane.resumePend = true →
      Answers (.logicCycleBoundary n) s fun t => t.lane.st = .integrate ∧ t.lane.resumePend = false ∧ t.lane.ctl = .completed) ∧
    (∀ m, s.lane.st = .integrate → s.lane.proveFrom = some m → m ≤ n * s.cycL → s.tae.timev = true → s.node < 6 →
      Answers (.logicCycleBoundary n) s fun t => t.lane.st = .prove ∧ t.lane.proveCnt = 0 ∧ t.lane.proved = false ∧
        t.grd.comm = [] ∧ t.grd.cand = none ∧ t.lmp.iso = 0 ∧ t.tae.samSet = false ∧ t.inp.t0 = n * s.logicNs) ∧
    (s.lane.st = .prove → s.lane.proved = true → (s.lane.cons0 || s.lane.cons1) = true → s.tae.timev = true →
      Answers (.logicCycleBoundary n) s fun t => t.lane.st = .run ∧ t.lane.driving = false ∧ t.lane.firstCycle = true ∧
        (s.lane.joining = true → t.lane.role = .excluded ∧ t.lane.reintReq = true) ∧
        (s.lane.joining = false → t.lane.role ≠ .excluded) ∧ t.tae.phase = 1)) ∧
  (∀ (n : Nat) (s : State), (s.hasCt = false ∨ n * s.logicNs < s.ct) →
    Answers (.logicCycleBoundary n) s fun t => t = s) ∧
  (∀ s : State, s.hasCt = true → s.beforeScan = true → s.lge.scan = false → s.blockLive 4 = true → s.crt.test = none →
    Answers .agreedImageApply s fun t => t.lge.scan = true ∧ t.lge.pc = 0 ∧ t.lge.region = 0 ∧ t.lge.rung0 = Rung.empty ∧
      t.lge.drain = none ∧ t.lge.buf0 = [] ∧ t.lge.buf1 = [] ∧ t.lge.candidate = false ∧ t.lge.aborted = false ∧
      t.pins.now = s.pins.now) ∧
  (∀ s : State, s.hasCt = true → s.beforeScan = true → s.lge.scan = false → s.lane.reintReq = false →
    Answers .agreedImageApply s fun t => t.inp.agreed = capturePut [] s.agreedCells) ∧
  (∀ s : State, (s.hasCt = false ∨ s.beforeScan = false ∨ s.lge.scan = true) →
    Answers .agreedImageApply s fun t => t = s) ∧
  (∀ (tol : Nat) (a b c : Word), (∀ x ∈ [a, b, c], ∀ y ∈ [a, b, c], x.toInt - y.toInt ≤ (tol : Int)) →
    ∃ m ∈ [a, b, c], agreeWord tol [(a, true), (b, true), (c, true)] = .word m true ∧
      2 ≤ ([a, b, c].filter fun x => decide (x.toInt ≤ m.toInt)).length ∧
      2 ≤ ([a, b, c].filter fun x => decide (m.toInt ≤ x.toInt)).length) ∧
  (∀ (tol : Nat) (a b c : Word), agreeWord tol [(a, true), (b, false), (c, false)] = .word 0 false ∧
    (b.toInt - a.toInt ≤ (tol : Int) → a.toInt - b.toInt ≤ (tol : Int) →
      agreeWord tol [(a, true), (b, true), (c, false)] = .word (BitVec.ofInt 32 ((a.toInt + b.toInt) / 2)) true))

/-- Output agreement of a voting lane (R26): with both peers voting, an image equal to one of theirs is enough, and the lane
that differs is reported; an image equal to neither withdraws the lane. With one voting peer an image that is not equal to its
image, or missing, sets SAFE with cause 0x03, and consent is withdrawn. The third report in a row, and a lockout, fall-back or
proving difference that the others outvote, withdraw the lane (R28, R224, R257, R291). -/
def Obligations.OutputVote : Prop :=
  (∀ (a b : Nat) (s : State), s.lane.st = .run → s.lane.role = .holding → s.tae.phase = 8 → s.grd.fbExit = none →
    s.votingPeers = [a, b] → s.outputReady = true →
    (s.imageClass a = .equal → s.imageClass b = .equal →
      Answers .outputAgreement s fun t => t.lane.commitOk = true ∧ t.lane.role = .holding ∧ t.tae.phase = 9 ∧
        t.lnb.entries = s.lnb.entries) ∧
    (s.imageClass a = .equal → s.imageClass b ≠ .equal →
      Answers .outputAgreement s fun t => t.lane.commitOk = true ∧ t.lane.role = .holding ∧ t.lnb.entries = s.lnb.entries ++
        [[BitVec.ofNat 32 ((if s.imageClass b = .missing then 0x01000100 else 0x01000000) + b)]]) ∧
    (s.imageClass a ≠ .equal → s.imageClass b = .equal →
      Answers .outputAgreement s fun t => t.lane.commitOk = true ∧ t.lane.role = .holding ∧ t.lnb.entries = s.lnb.entries ++
        [[BitVec.ofNat 32 ((if s.imageClass a = .missing then 0x01000100 else 0x01000000) + a)]]) ∧
    (s.imageClass a ≠ .equal → s.imageClass b ≠ .equal →
      Answers .outputAgreement s fun t => t.lane.commitOk = false ∧ t.lane.role = .excluded ∧ t.lane.driving = false ∧
        t.lane.implicated = some .lge)) ∧
  (∀ (a : Nat) (s : State), s.lane.st = .run → s.lane.role = .holding → s.tae.phase = 8 → s.grd.fbExit = none →
    s.votingPeers = [a] → s.outputReady = true →
    (s.imageClass a = .equal → Answers .outputAgreement s fun t => t.lane.commitOk = true ∧ t.lane.role = .holding) ∧
    (s.imageClass a ≠ .equal → s.lane.safeLatch = false →
      Answers .outputAgreement s fun t => HeldSafe t ∧ t.lane.scause = 3)) ∧
  (∀ s : State, s.voting = true → 3 ≤ s.lane.reportCnt →
    Answers .reportLimit s fun t => t.lane.role = .excluded ∧ t.lane.reportCnt = 0 ∧ t.lane.implicated = some .lge) ∧
  (∀ (n : Fin 32) (s : State), s.voting = true → 3 ≤ (s.vout n.val).outvoted →
    Answers (.lockoutOutvoted n) s fun t => t.lane.role = .excluded ∧ t.lane.implicated = some .io ∧
      t.vio.evt.getLsbD 4 = true) ∧
  (∀ (g : Fin 16) (s : State), s.voting = true → 3 ≤ (s.group g.val).outvoted →
    Answers (.fallbackOutvoted g) s fun t => t.lane.role = .excluded ∧ t.lane.implicated = some .io ∧
      t.lmp.evt.getLsbD 2 = true) ∧
  (∀ (ch : Fin 32) (k : Fin 4) (s : State), s.voting = true → 8 ≤ (s.lamp ch.val).mis.getD k.val 0 →
    Answers (.provingOutvoted ch k) s fun t => t.lane.role = .excluded ∧ t.lane.implicated = some .io ∧
      t.lmp.pevt.getLsbD 5 = true)

/-- T_commit (R71, R179, R217): the candidate guard image becomes the committed one. Where output agreement let the lane commit,
every enabled output that is neither locked out nor cut off takes its command from the output image, and a holding lane in MODE
Normal or Commissioning drives; where it did not, no output, telegram or drive changes. A set that is not the preferred one, and
that reached RUN at one T0 with a set that holds, takes the role of a set that does not hold before it drives anything (R16,
R494; that this happens here is the model's choice, entry 64). PROVE is complete after its cycles (R477, R478). An excluded lane
that has computed equal images for long enough is admitted in the role of its set: it drives where the set holds, its consent is
restored, and its lockout latches take the agreed cells (R32, R224). The instant to which the clock moves is the model's (log
entry 10). That an event whose conditions do not hold changes nothing is the model's (log entry 9). -/
def Obligations.CommitAndAdmission : Prop :=
  (∀ (n t0 : Nat) (s : State), s.hasCt = true → s.img.isSome = true → s.lane.st = .run → s.lane.role = .holding →
    s.commitOf = some t0 → t0 + s.cycC * s.basicNs ≠ s.inp.t0 → NoOtherSlot s 256 64 →
    s.grd.fbExit = none → s.lane.commitOk = true → s.yields = false → s.blockLive 6 = true → TablesWf s → n < 32 →
    Answers .outputCommit s fun t =>
      t.grd.comm = s.grd.cand.getD [] ∧ t.grd.cand = none ∧ t.grd.chkok = false ∧ t.tae.phase = 10 ∧
      t.pins.now = max s.pins.now (s.clockAt (t0 + s.cycC * s.basicNs)) ∧
      t.lane.driving = (!s.lane.safeLatch && decide (s.mode < 2)) ∧
      (t.vout n).committed = imageBit s.station s.lge.oimg (0x3F080 + n) ∧
      (t.vout n).effective = (imageBit s.station s.lge.oimg (0x3F080 + n) && !(s.vout n).lockout && s.voutEn n &&
        !({ s with lmp.isoHold := 0 } : State).feedCut n)) ∧
  (∀ (t0 : Nat) (s : State), s.hasCt = true → s.img.isSome = true → s.lane.st = .run → s.commitOf = some t0 →
    t0 + s.cycC * s.basicNs ≠ s.inp.t0 → s.grd.fbExit = none → (s.advanceCt (t0 + s.cycC * s.basicNs)).yields = true →
    Answers .outputCommit s fun t => t.lane.role = (if s.otherImgdDiffers then .shadow else .standby) ∧ t.tae.phase = 10) ∧
  (∀ (t0 : Nat) (s : State), s.hasCt = true → s.img.isSome = true → s.lane.st = .run → s.lane.role ≠ .excluded →
    s.commitOf = some t0 → t0 + s.cycC * s.basicNs ≠ s.inp.t0 → NoOtherSlot s 256 64 → s.yields = false →
    s.grd.fbExit = none → s.lane.commitOk = false → s.lane.computing = false →
    Answers .outputCommit s fun t => t.vio = s.vio ∧ t.fld = s.fld ∧ t.lane.driving = s.lane.driving ∧
      t.grd.comm = s.grd.cand.getD [] ∧ t.tae.phase = 10) ∧
  (∀ s : State, s.commitOf = none → Answers .outputCommit s fun t => t = s) ∧
  (∀ s : State, s.lane.st = .prove → s.lane.proved = false → s.hasCt = true → s.lane.commitDue = some s.inp.t0 →
    s.inp.t0 + 10 ≤ s.ct → (s.lane.joining = true ∨ s.prvcyc ≤ s.lane.proveCnt) →
    Answers .proveComplete s fun t =>
      t = { s.advanceCt (s.inp.t0 + s.cycC * s.basicNs) with lane.proved := true }) ∧
  (∀ (n : Nat) (s : State), s.lane.st = .run → s.lane.role = .excluded → s.lane.computing = true →
    s.confirmCycles ≤ s.lane.confirmCnt → 2 ≤ s.votingPeers.length → s.setRoleShown ≠ .excluded → s.crt.test = none →
    s.tae.timev = true → TablesWf s → n < 32 →
    Answers .admission s fun t => t.lane.st = .run ∧ t.lane.role = s.setRoleShown ∧ t.lane.computing = false ∧
      t.lane.driving = decide (s.setRoleShown = .holding) ∧ t.lane.withdrawn0 = false ∧ t.lane.withdrawn1 = false ∧
      t.lane.implicated = none ∧ (t.vout n).lockout = s.bitRead (0x3F0C0 + n) ∧ t.lge = s.lge)

/-- A basic cycle starts (R337): a peer that owned a window of the ended cycle and was not heard counts as silent once more
(R30), and the guardian's compare decides whether frames may be sent (R348). A peer silent for two cycles loses this lane's
consent (R30). Switchovers (R49, R498): a standby set that has been healthy takes over by itself once fewer than two lanes hold;
a commanded one gives the role HOLDING and the drives to the set that it names one basic cycle after T_commit, and one basic
cycle later takes both from the other. The instant to which the clock moves is the model's (log entry 10). That an event whose
conditions do not hold changes nothing is the model's (log entry 9). -/
def Obligations.BasicCyclesAndSwitchovers : Prop :=
  (∀ (m d : Nat) (s : State), s.busTime = true → s.blockLive 9 = true → m = s.lnb.m + 1 →
    Answers (.basicCycleBoundary m d) s fun t => t.lnb.m = m ∧ t.lnb.guardOff = decide (10 < d) ∧
      (10 < d → t.lnb.evt.getLsbD 7 = true) ∧ t.pins.now = max s.pins.now (s.clockAt (m * s.basicNs)) ∧
      (∀ c, s.lnb.corrNow = some c → s.lnb.bstate = .active → 3 < c.natAbs →
        t.tae.timev = false ∧ (s.tae.timev = true → s.voting = true → t.lane.role = .excluded))) ∧
  (∀ (m d n : Nat) (s : State), s.busTime = true → s.blockLive 9 = true → m = s.lnb.m + 1 → TablesWf s → n < 8 →
    Answers (.basicCycleBoundary m d) s fun t =>
      (t.nodeView n).silent = (if s.ownsWindow s.lnb.m n then (if (s.nodeView n).rxNow then 0 else satInc 255 (s.nodeView n).silent)
        else (s.nodeView n).silent) ∧
      (t.nodeView n).rxNow = false ∧ (t.nodeView n).rxLast = (s.nodeView n).rxNow) ∧
  (∀ (m d : Nat) (s : State), (s.busTime = false ∨ m ≠ s.lnb.m + 1) → Answers (.basicCycleBoundary m d) s fun t => t = s) ∧
  (∀ (k : Fin 2) (s : State), s.voting = true → 2 ≤ (s.nodeView (s.peer k.val)).silent →
    Answers (.peerSilent k) s fun t =>
      t.lane = (if k = 0 then { s.lane with withdrawn0 := true } else { s.lane with withdrawn1 := true }) ∧
      t.vio = s.vio ∧ t.lge = s.lge ∧ t.grd = s.grd) ∧
  (∀ s : State, s.lane.st = .run → (s.lane.role = .standby ∨ s.lane.role = .shadow) → 2 ≤ s.lane.holdersMissing →
    s.tenSeconds s.lane.ownHealthy = true →
    Answers .automaticSwitchover s fun t => t.lane.role = .holding ∧ t.lane.driving = false ∧ t.lane.switch = none ∧
      t.lane.st = .run ∧ t.vio = s.vio) ∧
  (∀ s : State, s.lane.role = .holding → Answers .automaticSwitchover s fun t => t = s) ∧
  (∀ (x : Switch) (n : Nat) (s : State), s.lane.switch = some x → x.cycle = some n → x.committed = false → s.hasCt = true →
    x.program = false → s.voting = true →
    Answers .switchoverCommit s fun t =>
      t.lane.switch = some { x with committed := true, back := false } ∧ t.lane.st = .run ∧
      t.pins.now = max s.pins.now (s.clockAt (s.commitAt n + s.basicNs)) ∧
      (x.toSet = s.sid → t.lane.role = .holding ∧ t.lane.driving = true) ∧
      (x.toSet ≠ s.sid → t.lane.role = s.lane.role ∧ t.lane.driving = s.lane.driving)) ∧
  (∀ (x : Switch) (n : Nat) (s : State), s.lane.switch = some x → x.cycle = some n → x.committed = true → s.hasCt = true →
    s.voting = true → x.back = false →
    Answers .switchoverRelease s fun t => t.lane.switch = none ∧ t.lane.st = .run ∧
      (x.toSet ≠ s.sid → t.lane.driving = false ∧ t.lane.role = (if x.program then .shadow else .standby)) ∧
      (x.toSet = s.sid → t.lane.driving = s.lane.driving ∧ t.lane.role = s.lane.role) ∧
      (x.own = true → x.program = false → t.lane.ctl = .completed))

/-! ### Lane commands -/

/-- STOP takes a lane out of RUN at once, without drives, and leaves its scan running (R123). HOLD waits for the next T0 in RUN
and is at once in STOP, and only in MODE Bench or Commissioning (R124). LEAVEHOLD discards what a step stored (R127), RESUME
waits for T0 (R479). SWITCHOVER is distributed as an entry that names the other set (R49), and ABORTSW before the commit as one
that names this set (R500). A command whose conditions do not hold is REFUSED and changes nothing of the lane but CTLSTAT (R604,
R612). STOP withdraws consent from both peers (R24), lets the running logic work on, takes no drive back at its commit, and
applies the agreed image no more. -/
def Obligations.LaneCommands : Prop :=
  (∀ (sid : BitVec 16) (s : State), Authorised s sid 0x28 3 2 → s.ctlRuns = false →
    (s.lane.st = .run → Answers (.stop sid) s fun t => t.lane.st = .stop ∧ t.lane.driving = false ∧ t.lane.commitOk = false ∧
      t.lane.ctl = .completed ∧ t.lge.scan = s.lge.scan ∧ t.lgeRuns = s.lgeRuns ∧ t.lge.rep0 = s.lge.rep0 ∧
      t.consentOut 0 = false ∧ t.consentOut 1 = false) ∧
    (s.lane.st ≠ .run → Answers (.stop sid) s fun t => t = { s.useToken sid.toNat with lane.ctl := .refused })) ∧
  (∀ (sid : BitVec 16) (s : State), Authorised s sid 0x28 4 3 → s.ctlRuns = false →
    (s.lane.st = .run → (s.mode = 1 ∨ s.mode = 2) →
      Answers (.hold sid) s fun t => t.lane.st = .run ∧ t.lane.holdPend = true ∧ t.lane.ctl = .waiting ∧
        t.lane.driving = s.lane.driving ∧ t.lge = s.lge) ∧
    (s.lane.st = .stop → (s.mode = 1 ∨ s.mode = 2) →
      Answers (.hold sid) s fun t => t.lane.st = .hold ∧ t.lane.wasHold = true ∧ t.lane.ctl = .completed ∧ t.lge.scan = false) ∧
    (s.mode ≠ 1 → s.mode ≠ 2 → Answers (.hold sid) s fun t => t = { s.useToken sid.toNat with lane.ctl := .refused })) ∧
  (∀ (sid : BitVec 16) (s : State), Authorised s sid 0x28 5 3 → s.ctlRuns = false → s.lane.st = .hold →
    Answers (.leavehold sid) s fun t => t.lane.st = .stop ∧ t.lane.ctl = .completed ∧ t.lge.scan = false ∧ t.lge.buf0 = [] ∧
      t.lge.buf1 = [] ∧ t.lge.rep0 = s.lge.rep0) ∧
  (∀ (sid : BitVec 16) (s : State), Authorised s sid 0x28 6 2 → s.ctlRuns = false → s.lane.st = .stop →
    Answers (.resume sid) s fun t => t.lane.st = .stop ∧ t.lane.resumePend = true ∧ t.lane.ctl = .waiting) ∧
  (∀ (sid : BitVec 16) (s : State), Authorised s sid 0x28 7 3 → s.ctlRuns = false →
    (s.switchoverOk = true → Answers (.switchover sid) s fun t => t.lane.ctl = .running ∧ t.lane.role = s.lane.role ∧
      t.lnb.entries = s.lnb.entries ++ [[BitVec.ofNat 32 (0x06000000 + bitNat !s.sid)]]) ∧
    (s.switchoverOk = false → Answers (.switchover sid) s fun t => t = { s.useToken sid.toNat with lane.ctl := .refused })) ∧
  (∀ (sid : BitVec 16) (x : Switch) (s : State), Authorised s sid 0x28 8 3 → s.lane.switch = some x → x.own = true →
    x.program = false →
    (x.committed = false → Answers (.abortsw sid) s fun t => t.lane.ctl = s.lane.ctl ∧
      t.lnb.entries = s.lnb.entries ++ [[BitVec.ofNat 32 (0x06000000 + bitNat s.sid)]]) ∧
    (x.committed = true → Answers (.abortsw sid) s fun t => t.lane.ctl = .completed ∧ t.lnb.entries = s.lnb.entries)) ∧
  (∀ s : State, s.lane.st = .stop → s.hasCt = true → s.img.isSome = true →
    Answers .outputCommit s fun t => t.vio = s.vio ∧ t.lmp = s.lmp ∧ t.lane.st = .stop) ∧
  (∀ s : State, s.lane.st = .stop → Answers .agreedImageApply s fun t => t.lge.scan = s.lge.scan ∧ t.lane.st = .stop)

/-- In HOLD the step commands start a rung, a region or a scan from where the program stands, and CAPTURE at the start of a
region takes this lane's inputs as of the last boundary of a logic cycle (R125); outside HOLD they are REFUSED. A step that has
done its work reports COMPLETED, and with BRKHIT where a scan stopped at the breakpoint. -/
def Obligations.HoldSteps : Prop :=
  (∀ (sid : BitVec 16) (s : State), Authorised s sid 0x040018 1 3 → s.lge.stepKind = none →
    (s.lane.st = .hold → s.atRegion s.lge.pc = true →
      Answers (.capture sid) s fun t => t.lge.step = .completed ∧ t.lane.st = .hold ∧ t.lge.pc = s.lge.pc ∧
        t.inp.t0 = s.ct / s.logicNs * s.logicNs) ∧
    (s.lane.st ≠ .hold → Answers (.capture sid) s fun t => t = { s.useToken sid.toNat with lge.step := .refused })) ∧
  (∀ (sid : BitVec 16) (s : State), Authorised s sid 0x040018 2 3 → s.lge.stepKind = none → s.lane.st = .hold →
    Answers (.stepRung sid) s fun t => t = { s.useToken sid.toNat with
      lge.step := .running, lge.stepKind := some .rung, lge.candidate := false, lge.stepPc := s.lge.pc + s.fencesAt s.lge.pc }) ∧
  (∀ (sid : BitVec 16) (s : State), Authorised s sid 0x040018 3 3 → s.lge.stepKind = none → s.lane.st = .hold →
    Answers (.stepRegion sid) s fun t => t = { s.useToken sid.toNat with
      lge.step := .running, lge.stepKind := some .region, lge.candidate := false, lge.stepPc := s.lge.pc }) ∧
  (∀ (sid : BitVec 16) (s : State), Authorised s sid 0x040018 4 3 → s.lge.stepKind = none → s.lane.st = .hold →
    Answers (.stepScan sid) s fun t => t = { s.useToken sid.toNat with
      lge.step := .running, lge.stepKind := some .scan, lge.candidate := false, lge.stepPc := s.lge.pc }) ∧
  (∀ s : State, s.lane.st = .hold → s.lge.stepKind.isSome = true → s.lge.drain = none → s.stepEnded = true →
    Answers .stepComplete s fun t => t.lge.step = .completed ∧ t.lge.stepKind = none ∧ t.lge.rep0 = s.lge.rep0 ∧
      t.lge.pc = s.lge.pc ∧ t.lane.st = .hold ∧
      (s.lge.stepKind = some .scan → s.lge.candidate = false → t.lge.evt.getLsbD 9 = true))

/-! ### Supply angle, slots and time -/

/-- A crossing of the reference channel, read from two fast samples with the span's delay taken off (R58), while the angle is
valid and where one is expected, sets the frequency and lets the angle follow without a step (R58, R61); the eighth good
crossing in a row locks a lost angle, and the phase difference is then slewed (R60, R61). A fourth missing crossing in a row
loses the angle, which runs on at the last valid frequency (R61). A crossing of the other channel only counts. A read of CTLO
latches the high word of cluster time (R84). A wall-time set is taken while TIMEV is 1 and no own one is pending, and goes out
with the next status frame; otherwise it is REFUSED (R56, R87). The instant to which the clock moves is the model's (log entry
10). -/
def Obligations.AngleAndTime : Prop :=
  (∀ (ch : Fin 2) (x : Nat) (up : Bool) (c : Crossings) (s : State), s.angleLoops = true →
    s.crossingOf ch.val = some (x, up) → tabGet { ts := [], pos := false } ch.val s.tae.lastX = c → c.ts.headD 0 < x →
    (ch.val ≠ s.refChan → Answers (.zeroCrossing ch x up) s fun t =>
      tabGet { ts := [], pos := false } ch.val t.tae.lastX = c.add x up ∧ t.tae.angv = s.tae.angv ∧ t.tae.freq = s.tae.freq ∧
      t.tae.angle = s.tae.angle ∧ t.lmp = s.lmp) ∧
    (∀ (x1 x2 : Nat) (l : List Nat), ch.val = s.refChan → s.tae.angv = true → c.ts = x1 :: x2 :: l → x ≤ x2 + 3 * s.halfNs →
      s.crossingExpected x x1 = true → s.inFreqWindow (halvesFreq 2 (x - x2)) = true →
      Answers (.zeroCrossing ch x up) s fun t => t.tae.freq = halvesFreq 2 (x - x2) ∧ t.tae.runFreq = halvesFreq 2 (x - x2) ∧
        t.ownAngle = s.ownAngle ∧ t.tae.angv = true ∧ t.tae.missX = 0 ∧ t.tae.outWin = 0 ∧ t.pins.now = s.pins.now) ∧
    (∀ (x1 x2 : Nat) (l : List Nat), ch.val = s.refChan → s.tae.angv = false → c.ts = x1 :: x2 :: l → x ≤ x2 + 3 * s.halfNs →
      s.goodCrossing x up c = true → 7 ≤ tabGet 0 ch.val s.tae.goodX →
      Answers (.zeroCrossing ch x up) s fun t => t.tae.angv = true ∧ t.tae.freq = halvesFreq 2 (x - x2) ∧
        t.ownAngle = s.ownAngle ∧ t.tae.evt.getLsbD 1 = true ∧ t.tae.slew = decide (t.tae.slewLeft ≠ 0)) ∧
    (ch.val = s.refChan → s.tae.angv = false → s.goodCrossing x up c = false →
      Answers (.zeroCrossing ch x up) s fun t => t.tae.angv = false ∧ t.tae.freq = s.tae.freq ∧ t.tae.runFreq = s.tae.runFreq)) ∧
  (∀ (ch : Fin 2) (x : Nat) (l : List Nat) (s : State), s.angleLoops = true → ch.val = s.refChan → s.tae.angv = true →
    (tabGet { ts := [], pos := false } ch.val s.tae.lastX).ts = x :: l →
    (s.tae.missX < 3 → Answers (.crossingMissing ch) s fun t =>
      t = { s.advance (s.missingAt x s.tae.missX) with
              tae.goodX := tabSet 0 ch.val 0 s.tae.goodX, tae.missX := s.tae.missX + 1 }) ∧
    (3 ≤ s.tae.missX → Answers (.crossingMissing ch) s fun t => t.tae.angv = false ∧ t.tae.runFreq = s.tae.runFreq ∧
      t.tae.loss = satInc 255 s.tae.loss ∧ t.tae.evt.getLsbD 0 = true ∧ t.lane.role = s.lane.role ∧ t.lane.st = s.lane.st)) ∧
  (∀ s : State, s.angleLoops = true → s.tae.slew = true → 0 < s.tae.runFreq →
    Answers .slewEnd s fun t => t.tae.slew = false ∧ t.tae.slewLeft = 0 ∧ t.tae.runFreq = s.tae.runFreq ∧
      t.pins.now = max s.pins.now s.slewDone ∧ t.tae.angle = s.ownAngleAt t.pins.now) ∧
  (∀ s : State, s.blockLive 3 = true →
    Answers .ctloRead s fun t => t = { s with tae.cthi := BitVec.ofNat 32 (s.ct / 4294967296) }) ∧
  (∀ (sid hi : BitVec 16) (s : State), Authorised s sid 0x03002C hi.toNat 2 →
    (s.tae.timev = true → s.wallOwn = false → Answers (.wallTimeSet sid hi) s fun t => t = { s.useToken sid.toNat with
      tae.wset := .waiting,
      tae.wpend := s.tae.wpend ++ [{ value := hi.toNat * 4294967296 + s.tae.wsetlo.toNat, cycle := none, node := s.node }],
      lnb.entries := s.lnb.entries ++ [[0x02000000, s.tae.wsetlo, BitVec.ofNat 32 hi.toNat]] }) ∧
    ((s.tae.timev = false ∨ s.wallOwn = true) →
      Answers (.wallTimeSet sid hi) s fun t => t = { s.useToken sid.toNat with tae.wset := .refused }))

/-- A slot fires at the instant that its angle or its offset names, and does what its action says, with the "angle invalid" flag
where the angle is not valid (R65 to R68): a proving window opens and closes (R282); at a switching firing the lamps of a DIRECT
group take their committed commands (R250), and a group in ASPECT mode starts a sequence to a new aspect with the lamps outside
it off (R248). Said for an edge on which no other slot fires and no commit falls (R69). The instant to which the clock moves is
the model's (log entry 10). -/
def Obligations.SlotsAct : Prop :=
  (∀ (n : Fin 256) (a : Nat) (s : State), s.aslotOn n.val = true → firedNow s.pins.now n.val s.tae.aFired = false →
    s.aslotRef n.val = false → s.blockLive 7 = true → TablesWf s → NoOtherSlot s n.val 64 →
    s.ownReach (s.aslotAng n.val) (s.slotFrom n.val s.tae.aFired) = a → (s.advance a).commitEdge = false →
    (s.aslotAct n.val = 0x11 → Answers (.angleSlotFire n) s fun t => (t.lamp (s.aslotTgt n.val)).window = true ∧
      t.tae.delivered = some (0x11, s.aslotTgt n.val, !s.angv) ∧
      t.pins.now = max s.pins.now a ∧ t.lane = s.lane ∧ t.vio = s.vio ∧ t.mea = s.mea) ∧
    (s.aslotAct n.val = 0x12 → Answers (.angleSlotFire n) s fun t => (t.lamp (s.aslotTgt n.val)).window = false ∧
      t.pins.now = max s.pins.now a ∧ t.lane = s.lane ∧ t.vio = s.vio ∧ t.mea = s.mea)) ∧
  (∀ (n : Fin 256) (m g a : Nat) (s : State), s.aslotOn n.val = true → firedNow s.pins.now n.val s.tae.aFired = false →
    s.aslotRef n.val = true → s.lmpActs = true → TablesWf s → NoOtherSlot s n.val 64 → s.aslotAct n.val = 0x10 →
    s.aslotTgt n.val = g → agEn s.station g = true → m ∈ agLamps s.station g →
    s.setReach (s.aslotAng n.val) (s.slotFrom n.val s.tae.aFired) = a → (s.advance a).commitEdge = false →
    (agDirect s.station g = true → Answers (.angleSlotFire n) s fun t =>
      (t.lamp m).drive = (s.group g).cmdLit.getLsbD m ∧
      (t.lamp m).flash = ((s.group g).cmdLit.getLsbD m && (s.group g).cmdFlash.getLsbD m) ∧
      t.pins.now = max s.pins.now a ∧ t.vio = s.vio) ∧
    (∀ b, agDirect s.station g = false → (∀ k ∈ agLamps s.station g, (s.lamp k).report = false) → (s.group g).seq = none →
      (s.group g).latch = none → (s.group g).request = some b → (s.group g).shown ≠ some b → agDark s.station g ≠ 0 →
      Answers (.angleSlotFire n) s fun t => (t.group g).shown = some b ∧
        (t.group g).seq = some { target := some b, tsw := t.pins.now } ∧
        (bit (aspLit s.station g b) m = false → (t.lamp m).drive = false) ∧
        (bit (aspLit s.station g b) m = true → (t.lamp m).drive = (s.lamp m).drive))) ∧
  (∀ (n : Fin 64) (a : Nat) (s : State), s.tslotOn n.val = true → firedNow s.pins.now n.val s.tae.tFired = false →
    s.blockLive 7 = true → bits (s.tslotCtl n.val) 8 8 = 0x11 → TablesWf s → NoOtherSlot s 256 n.val →
    s.clockAt (nextAt (s.ctAt (s.slotFrom n.val s.tae.tFired)) (s.tslotBase n.val) (s.tslotOffset n.val)) = a →
    (s.advance a).commitEdge = false →
    Answers (.timeSlotFire n) s fun t => (t.lamp (bits (s.tslotCtl n.val) 0 8)).window = true ∧ t.vio = s.vio ∧
      t.pins.now = max s.pins.now a)

/-! ### Lamps -/

/-- The judgement of a dark-proving pulse (R286), the end of blanking and of inrush (R280, R281), and what reading back the lamp
wave shows (R246): a channel whose wave has stopped is no longer live 25 µs after its last rising edge; a wave missing or
unwanted is an I/O fault and withdraws a voting lane. LEARN records a channel over CYC, at least 16, supply periods in MODE
Bench or Commissioning, and ends COMPLETED (R293, R295). An isolation acknowledgement waits for the next status frame while its
latch is set and no own one is pending, and clears nothing by itself (R259, R267). The instant to which the clock moves is the
model's (log entry 10). -/
def Obligations.LampsAndLearning : Prop :=
  (∀ (ch : Fin 32) (p : Nat) (s : State), TablesWf s → (s.lamp ch.val).pulse = some p → (s.lamp ch.val).suspended = false →
    ((s.lamp ch.val).pulseHit = true → Answers (.darkPulseEnd ch) s fun t => (t.lamp ch.val).dpok = true ∧
      (t.lamp ch.val).dpFails = 0 ∧ (t.lamp ch.val).pulse = none ∧
      t.pins.now = max s.pins.now (p + dpWidth s.station + 47500) ∧ t.lane = s.lane) ∧
    ((s.lamp ch.val).pulseHit = false → (s.lamp ch.val).dpFails = 0 → Answers (.darkPulseEnd ch) s fun t =>
      (t.lamp ch.val).dpok = false ∧ (t.lamp ch.val).dpFails = 1 ∧ (t.lamp ch.val).oob = (s.lamp ch.val).oob ∧
      t.lmp.pevt.getLsbD 3 = true) ∧
    ((s.lamp ch.val).pulseHit = false → (s.lamp ch.val).dpFails = 1 → Answers (.darkPulseEnd ch) s fun t =>
      (t.lamp ch.val).dpok = false ∧ (t.lamp ch.val).dpFails = 2 ∧ (t.lamp ch.val).oob = true ∧ (t.lamp ch.val).pd = false ∧
      t.lmp.pevt.getLsbD 3 = true ∧ t.lmp.pevt.getLsbD 2 = true)) ∧
  (∀ (ch : Fin 32) (e : Nat) (s : State), (s.lamp ch.val).blankTo = some e →
    Answers (.blankingEnd ch) s fun t => t = s.advance (e + 1) ∧ blankAt (t.lamp ch.val).blankTo t.pins.now = false) ∧
  (∀ (ch : Fin 32) (e : Nat) (s : State), (s.lamp ch.val).inrushTo = some e →
    Answers (.inrushEnd ch) s fun t => t = s.advance e ∧ inrushAt (t.lamp ch.val).inrushTo t.pins.now = false) ∧
  (∀ (ch : Fin 32) (x e : Nat) (s : State), (s.lamp ch.val).wave.ball = .asDriven → (s.lamp ch.val).wave.stop = some x →
    x ≤ s.pins.now → (s.lamp ch.val).wave.lastRise s.pins.now s.lampPhase 20000 = some e →
    Answers (.lampLiveExpire ch) s fun t => t = s.advance (e + 25000) ∧ (e ≤ s.pins.now → t.lampLive ch.val = false)) ∧
  (∀ (ch : Fin 32) (s : State), TablesWf s → (s.lamp ch.val).wave.ball = .asDriven → (s.lamp ch.val).wave.stop = none →
    Answers (.lampLiveExpire ch) s fun t => t.lampLive ch.val = false ∧ (t.lamp ch.val).drive = (s.lamp ch.val).drive ∧
      (∀ m, m ≠ ch.val → t.lamp m = s.lamp m) ∧ t.pins = s.pins ∧ t.lane = s.lane ∧ t.vio = s.vio ∧ t.lmp.group = s.lmp.group) ∧
  (∀ (ch : Fin 32) (s : State), TablesWf s → s.img.isSome = true → s.blockLive 7 = true → s.voting = true →
    Answers (.lampDriveFault ch) s fun t => t.lane.role = .excluded ∧ t.lane.implicated = some .io ∧ t.lane.driving = false ∧
      (t.lamp ch.val).wave.ball = (if (s.lamp ch.val).wave.stop = none then .absent else .persists) ∧
      t.lmp.evt.getLsbD 0 = true) ∧
  (∀ (sid : BitVec 16) (ch : Fin 32) (cyc : BitVec 8) (s : State), Authorised s sid 0x07001C (256 * cyc.toNat + ch.val) 3 →
    ((s.mode = 1 ∨ s.mode = 2) → chEn s.station ch.val = true → s.lmp.learn = none → 16 ≤ cyc.toNat →
      Answers (.learn sid ch cyc) s fun t => t = { s.useToken sid.toNat with
        lmp.lrn := .running, lmp.learn := some { chan := ch.val, periods := cyc.toNat, startAt := s.pins.now }, lmp.lrndat := [] }) ∧
    ((s.mode ≠ 1 ∧ s.mode ≠ 2) ∨ chEn s.station ch.val = false ∨ s.lmp.learn.isSome = true ∨ cyc.toNat < 16 →
      Answers (.learn sid ch cyc) s fun t => t = { s.useToken sid.toNat with lmp.lrn := .refused })) ∧
  (∀ (r : LearnRun) (s : State), s.lmp.learn = some r →
    Answers .learnEnd s fun t => t.lmp.lrn = .completed ∧ t.lmp.learn = none ∧ t.lmp.lrndat = s.lmp.lrndat ∧
      t.pins.now = max s.pins.now (r.startAt + r.periods * s.supplyNs) ∧
      t.lmp.pevt.getLsbD 6 = true ∧ t.lane.st = s.lane.st ∧ t.vio = s.vio) ∧
  (∀ (sid : BitVec 16) (g : Fin 8) (s : State), Authorised s sid 0x070014 g.val 2 →
    (s.lmp.iso.getLsbD g.val = true → (s.lmp.acks.any fun a => a.own) = false →
      Answers (.isolationAcknowledgement sid g) s fun t => t.lmp.isoack = .waiting ∧ t.lmp.iso = s.lmp.iso ∧
        t.lmp.acks = s.lmp.acks ++ [{ item := g.val, cycle := none, own := true }] ∧
        t.lnb.entries = s.lnb.entries ++ [[BitVec.ofNat 32 (0x04000000 + g.val)]]) ∧
    ((s.lmp.iso.getLsbD g.val = false ∨ (s.lmp.acks.any fun a => a.own) = true) →
      Answers (.isolationAcknowledgement sid g) s fun t => t = { s.useToken sid.toNat with lmp.isoack := .refused }))

/-! ### Measurement -/

/-- A sample is corrected by the coefficients of the modulator that serves the channel and clamped to the range of its path
(R309, R310); it is valid with the reference ready, the start calibration done and the filter span clear of any disturbance
(R301, R302). The reference becomes ready, and its loss ends every rotation at once (R302, R303). The start calibration takes
coefficients that pass and declares a channel invalid whose do not (R315, R317, R318). A commanded calibration waits for a
stand-in, and an abort of one that still waits ends it ABORTED (R319, R327). The instant to which the clock moves is the model's
(log entry 10). -/
def Obligations.SamplesAndCalibration : Prop :=
  (∀ (ch : Fin 50) (raw : BitVec 17) (x : Nat) (s : State), TablesWf s → s.img.isSome = true → meaEn s.station ch.val = true →
    s.blockLive 8 = true →
    Answers (.fastSample ch raw x) s fun t =>
      (t.meaOf ch.val).fast = max (-32768) (min 32767
        ((256 * raw.toInt - (s.coefOf ch.val).1) * ((s.coefOf ch.val).2 : Int) / 1073741824)) ∧
      (t.meaOf ch.val).fastQ = (s.meaValid ch.val && decide ((s.meaOf ch.val).fastFrom ≤ x)) ∧
      t.pins.now = max s.pins.now x ∧ (t.meaOf ch.val).off = (s.meaOf ch.val).off ∧ t.vio = s.vio) ∧
  (∀ (ch : Fin 50) (raw : BitVec 25) (x : Nat) (s : State), TablesWf s → s.img.isSome = true → meaEn s.station ch.val = true →
    s.blockLive 8 = true →
    Answers (.fineSample ch raw x) s fun t =>
      (t.meaOf ch.val).fine = max (-8388608) (min 8388607
        ((raw.toInt - (s.coefOf ch.val).1) * ((s.coefOf ch.val).2 : Int) / 4194304)) ∧
      (t.meaOf ch.val).fineQ = (s.meaValid ch.val && decide ((s.meaOf ch.val).fineFrom ≤ x)) ∧
      t.pins.now = max s.pins.now x ∧ t.vio = s.vio ∧ t.lmp = s.lmp) ∧
  (∀ (ch : Fin 50) (s : State), TablesWf s → s.img.isSome = true → meaEn s.station ch.val = true → s.blockLive 8 = true →
    Answers (.stabilityReset ch) s fun t => (t.meaOf ch.val).fastFrom = s.pins.now + 75000 ∧
      (t.meaOf ch.val).fineFrom = s.pins.now + 14425000 ∧ (t.meaOf ch.val).episode = true ∧ t.mea.evt.getLsbD 2 = true ∧
      (t.meaOf ch.val).off = (s.meaOf ch.val).off ∧ t.lane.st = s.lane.st) ∧
  (∀ s : State, s.mea.bufon = true → s.mea.rdy = false → s.blockLive 8 = true →
    Answers .refReady s fun t => t.mea.rdy = true ∧ t.mea.monok = true ∧ t.mea.calDone = s.mea.calDone ∧ t.lane = s.lane ∧
      t.pins.now = max s.pins.now (s.mea.refFrom + 22000000)) ∧
  (∀ s : State, s.mea.bufon = true → s.mea.rdy = true → s.blockLive 8 = true →
    Answers .refLost s fun t => t.mea.rdy = false ∧ t.mea.refloss = satInc 255 s.mea.refloss ∧ t.mea.evt.getLsbD 0 = true ∧
      (t.si 0).busy = false ∧ (t.si 1).busy = false ∧ t.lane.role = s.lane.role) ∧
  (∀ (r : CalResult) (s : State), TablesWf s → s.mea.rdy = true → s.mea.calDone = false → s.blockLive 8 = true →
    (calPass r.off r.gain = true → Answers (.startCalibrationEnd [r]) s fun t => t.mea.calDone = true ∧
      (t.meaOf r.chan.val).off = r.off ∧ (t.meaOf r.chan.val).gain = r.gain ∧ (t.meaOf r.chan.val).stale = false) ∧
    (calPass r.off r.gain = false → Answers (.startCalibrationEnd [r]) s fun t => t.mea.calDone = true ∧
      (t.meaOf r.chan.val).inv = true ∧ (t.meaOf r.chan.val).off = (s.meaOf r.chan.val).off ∧
      (s.voting = true → t.lane.role = .excluded))) ∧
  (∀ (sid : BitVec 16) (ch : BitVec 6) (s : State), Authorised s sid 0x080028 (64 + ch.toNat) 2 →
    (ch.toNat < 48 → meaEn s.station ch.toNat = true → (s.si 0).busy = false → (s.si 1).busy = false → s.mea.calWait = none →
      Answers (.calibrate sid ch) s fun t =>
        t = { s.useToken sid.toNat with mea.calcmd := .waiting, mea.calWait := some ch.toNat }) ∧
    ((48 ≤ ch.toNat ∨ meaEn s.station ch.toNat = false ∨ s.mea.calWait.isSome = true) →
      Answers (.calibrate sid ch) s fun t => t = { s.useToken sid.toNat with mea.calcmd := .refused })) ∧
  (∀ (sid : BitVec 16) (ch : BitVec 6) (s : State), Authorised s sid 0x080028 (128 + ch.toNat) 2 →
    s.mea.calWait = some ch.toNat →
    Answers (.calibrateAbort sid ch) s fun t => t.mea.calWait = none ∧ t.mea.calcmd = .aborted ∧ t.mea.chan = s.mea.chan)

/-- Rotation (R314 to R317): a stand-in calibrates itself, runs beside the channel, serves it from a path switch on, and at the
commit the channel takes its new coefficients on its own modulator. A stand-in that fails its own calibration is out of service
(R316). A channel whose calibration is older than 600 s is stale (R320). The instant to which the clock moves is the model's
(log entry 10). -/
def Obligations.Rotation : Prop :=
  (∀ (k : Fin 2) (n : Nat) (c r : Bool) (s : State), meaRoten s.station = true → s.mea.rdy = true → s.mea.calDone = true →
    (s.si k.val).phase = .idle → s.img.isSome = true → s.blockLive 8 = true → s.rotationChan k.val = some (n, c, r) →
    Answers (.rotationStart k) s fun t => (t.si k.val).phase = .selfCal ∧ (t.si k.val).chan = n ∧ (t.si k.val).commanded = c ∧
      t.mea.lastRot = n ∧ t.mea.chan = s.mea.chan ∧ t.si (1 - k.val) = s.si (1 - k.val)) ∧
  (∀ (k : Fin 2) (off diff : Int) (gain : Nat) (s : State), TablesWf s → s.blockLive 8 = true → (s.si k.val).switchDue = false →
    ((s.si k.val).phase = .selfCal → calPass off gain = true → Answers (.rotationPhaseEnd k off gain diff) s fun t =>
      (t.si k.val).phase = .parallel ∧ (t.meaOf (48 + k.val)).off = off ∧ (t.meaOf (48 + k.val)).gain = gain) ∧
    ((s.si k.val).phase = .selfCal → calPass off gain = false → Answers (.rotationPhaseEnd k off gain diff) s fun t =>
      (t.si k.val).phase = .outOfService ∧ t.mea.evt.getLsbD 5 = true) ∧
    ((s.si k.val).phase = .parallel → matchPass (meaTol s.station) diff = true → s.mea.retry = [] →
      Answers (.rotationPhaseEnd k off gain diff) s fun t => (t.si k.val).switchDue = true ∧
        (t.si k.val).phase = .parallel ∧ t.mea.chan = s.mea.chan) ∧
    ((s.si k.val).phase = .serving → calPass off gain = true → Answers (.rotationPhaseEnd k off gain diff) s fun t =>
      (t.si k.val).phase = .returning ∧ (t.si k.val).newOff = off ∧ (t.si k.val).newGain = gain ∧ t.mea.chan = s.mea.chan) ∧
    ((s.si k.val).phase = .returning → matchPass (meaTol s.station) diff = true →
      Answers (.rotationPhaseEnd k off gain diff) s fun t => (t.si k.val).switchDue = true ∧
        (t.si k.val).phase = .returning ∧ t.mea.chan = s.mea.chan)) ∧
  (∀ (k : Fin 2) (s : State), (s.si k.val).switchDue = true → s.blockLive 8 = true →
    (s.si k.val).back = false → (s.si k.val).phase = .parallel →
    Answers (.rotationPathSwitch k) s fun t => (t.meaOf (s.si k.val).chan).srv = some k ∧ (t.si k.val).phase = .serving ∧
      (t.si k.val).switchDue = false ∧ t.lane = s.lane ∧ t.pins.now = max s.pins.now (s.d11Clock s.switchAt)) ∧
  (∀ (k : Fin 2) (s : State), TablesWf s → (s.si k.val).switchDue = true → s.blockLive 8 = true →
    (s.si k.val).back = false → (s.si k.val).phase = .returning →
    Answers (.rotationCommit k) s fun t => (t.meaOf (s.si k.val).chan).off = (s.si k.val).newOff ∧
      (t.meaOf (s.si k.val).chan).gain = (s.si k.val).newGain ∧ (t.meaOf (s.si k.val).chan).srv = none ∧
      (t.meaOf (s.si k.val).chan).stale = false ∧ (t.si k.val).phase = .idle ∧
      ((s.si k.val).commanded = true → t.mea.calcmd = .completed)) ∧
  (∀ (ch : Fin 48) (s : State), s.img.isSome = true → meaEn s.station ch.val = true → s.mea.calDone = true →
    (s.meaOf ch.val).stale = false → s.blockLive 8 = true →
    Answers (.calstale ch) s fun t => (t.meaOf ch.val).stale = true ∧ t.mea.calstale = true ∧
      t.pins.now = max s.pins.now ((s.meaOf ch.val).calAt + 601000000000) ∧
      (s.mea.calstale = false → t.mea.evt.getLsbD 7 = true))

/-! ### Vital inputs and outputs -/

/-- Vital inputs (R206 to R212): a level passes the filter with its FT-th unmasked sample while the frame runs; the first frame
sets every enabled input VALID at 0; an input that misses its dark slot in the third judged frame in a row is in FAULT, and a
readback fault of a line puts its 16 inputs there at once. What is reported of an input in FAULT has Q = 0 (R211, R214). Dynamic
outputs and their monitors (R218 to R225): an output whose wave has stopped is no longer live 120 µs after its last rising edge;
a wave missing or unwanted withdraws a voting lane; a contactor that shows picked while it should be dropped, or does not follow
in time, locks its output out; the acknowledgement waits for the next status frame, and is REFUSED while the latch is clear or
another is pending. The instant to which the clock moves is the model's (log entry 10). That an event whose conditions do not
hold changes nothing is the model's (log entry 9). -/
def Obligations.VitalInputsAndOutputs : Prop :=
  (∀ (n : Fin 64) (b : Bool) (x : Nat) (s : State), TablesWf s → s.vio.tpoAct = true → s.vinEn n.val = true →
    s.blockLive 6 = true → (s.vin n.val).filtered = !b →
    Answers (.vinFilterChange n ⟨b, x⟩) s fun t => (t.vin n.val).filtered = b ∧
      t.pins.now = max s.pins.now (s.clockAt (s.filterAt n.val x)) ∧ (∀ m, m ≠ n.val → t.vin m = s.vin m) ∧
      t.lane = s.lane ∧ t.vio.vout = s.vio.vout) ∧
  (∀ (obs : List FrameObs) (n : Fin 64) (s : State), TablesWf s → s.tae.timev = true → s.img.isSome = true →
    s.listener = false → s.blockLive 6 = true → s.vinEn n.val = true →
    (s.vio.tpoAct = false → Answers (.tpoFrameStart s.nextFrame obs) s fun t => t.vio.tpoAct = true ∧ t.vio.frame = s.nextFrame ∧
      (t.vin n.val).pat = .valid ∧ (t.vin n.val).filtered = false) ∧
    (s.vio.tpoAct = true → (s.vin n.val).highAll = true → (s.vin n.val).pat = .valid → (s.vin n.val).bad = 2 →
      s.ownDark n.val (lowsOf obs n.val) = false →
      Answers (.tpoFrameStart s.nextFrame obs) s fun t => (t.vin n.val).pat = .fault ∧ t.vio.evt.getLsbD 0 = true ∧
        (t.vinReport n.val).2 = false) ∧
    (s.vio.tpoAct = true → (s.vin n.val).highAll = true → (s.vin n.val).pat = .valid →
      s.ownDark n.val (lowsOf obs n.val) = true → s.foreignDark n.val (lowsOf obs n.val) = false →
      Answers (.tpoFrameStart s.nextFrame obs) s fun t => (t.vin n.val).pat = .valid ∧ (t.vin n.val).bad = 0)) ∧
  (∀ (k : Fin 4) (j : Fin 16) (s : State), TablesWf s → s.img.isSome = true → s.blockLive 6 = true →
    s.vinEn (16 * k.val + j.val) = true →
    Answers (.tpoReadbackFault k) s fun t => (t.vin (16 * k.val + j.val)).pat = .fault ∧ t.vio.evt.getLsbD 1 = true ∧
      t.vio.tpof.getLsbD k.val = true ∧ (t.vinReport (16 * k.val + j.val)).2 = false) ∧
  (∀ (n : Fin 32) (x e : Nat) (s : State), (s.vout n.val).wave.ball = .asDriven → (s.vout n.val).wave.stop = some x →
    x ≤ s.pins.now → (s.vout n.val).wave.lastRise s.pins.now s.voutPhase 100000 = some e →
    Answers (.voutLiveExpire n) s fun t => t = s.advance (e + 120000) ∧ (e ≤ s.pins.now → t.voutLive n.val = false)) ∧
  (∀ (n : Fin 32) (s : State), TablesWf s → (s.vout n.val).wave.ball = .asDriven → (s.vout n.val).wave.stop = none →
    Answers (.voutLiveExpire n) s fun t => t.voutLive n.val = false ∧ (t.vout n.val).effective = (s.vout n.val).effective ∧
      (∀ m, m ≠ n.val → t.vout m = s.vout m) ∧ t.pins = s.pins ∧ t.lane = s.lane ∧ t.lmp = s.lmp) ∧
  (∀ (n : Fin 32) (s : State), TablesWf s → s.img.isSome = true → s.blockLive 6 = true → s.voting = true →
    Answers (.voutDriveFault n) s fun t => t.lane.role = .excluded ∧ t.lane.implicated = some .io ∧
      (t.vout n.val).wave.ball = (if (s.vout n.val).wave.stop = none then .absent else .persists) ∧
      t.vio.evt.getLsbD 2 = true) ∧
  (∀ (m n : Fin 32) (b : Bool) (x : Nat) (s : State), s.vio.vfb.getLsbD m.val = !b → s.img.isSome = true → s.blockLive 6 = true → s.monEn n.val = true →
    s.monSel n.val = m.val → (s.vout n.val).mon = .dropped → (b != s.monPol n.val) = true → TablesWf s →
    Answers (.vfbFilterChange m ⟨b, x⟩) s fun t => t.vio.vfb = putBit s.vio.vfb m.val b ∧ (t.vout n.val).mon = .locked ∧
      (t.vout n.val).lockout = true ∧ t.vio.evt.getLsbD 3 = true) ∧
  (∀ (n : Fin 32) (s : State), s.monEn n.val = true →
    (((s.vout n.val).mon = .picking ∨ (s.vout n.val).mon = .dropping) →
      Answers (.monitorBoundElapsed n) s fun t => (t.vout n.val).mon = .locked ∧ (t.vout n.val).lockout = true ∧
        (∀ b c, s.monDue n.val = some (b, c) → t.pins.now = max s.pins.now (s.d11Clock b)) ∧
        t.vio.evt.getLsbD 3 = true ∧ t.lane.st = s.lane.st ∧ t.lane.role = s.lane.role) ∧
    (((s.vout n.val).mon = .picked ∨ (s.vout n.val).mon = .dropped ∨ (s.vout n.val).mon = .locked) →
      Answers (.monitorBoundElapsed n) s fun t => t = s)) ∧
  (∀ (sid : BitVec 16) (n : Fin 32) (s : State), Authorised s sid 0x060034 n.val 2 →
    ((s.vout n.val).lockout = true → (s.monEn n.val && s.picked n.val) = false → ackPending s.vio.acks = false →
      Answers (.lockoutAcknowledgement sid n) s fun t => t.vio.lockack = .waiting ∧ t.vio.vout = s.vio.vout ∧
        t.vio.acks = s.vio.acks ++ [{ item := n.val, cycle := none, own := true }] ∧
        t.lnb.entries = s.lnb.entries ++ [[BitVec.ofNat 32 (0x03000000 + n.val)]]) ∧
    (((s.vout n.val).lockout = false ∨ ackPending s.vio.acks = true) →
      Answers (.lockoutAcknowledgement sid n) s fun t => t = { s.useToken sid.toNat with vio.lockack := .refused }))

/-! ### Lane bus -/

/-- In its exclusive window a node sends the frame that it has ready 2 us before, and a null frame where it has none (R341,
R342); a voting lane whose output image is not ready by then withdraws itself with OVRUN (R79). In SAFE the status frame is null
and carries the health word, otherwise it begins with the health word (R47, R342, R351). In an arbitrating window the lowest
rank with a ready frame sends, unless a carrier was there before (R343). The guardian's cut-off is counted (R348). That an event
whose conditions do not hold changes nothing is the model's (log entry 9). -/
def Obligations.LaneBusSending : Prop :=
  (∀ (w : Fin 512) (s : State), MaySend s w → fidUse s.station (winList s.station w.val % 1024) = 4 →
    (∀ p, s.outputReady = true → (AtSlot s w).framePending (winList s.station w.val % 1024) = some p →
      (p.at_ + 2000 ≤ (AtSlot s w).pins.now → Answers (.transmitFrame w) s fun t =>
        t.pins.sent = sentFrame s (winList s.station w.val % 1024) false false p.payload :: s.pins.sent ∧
        winList s.station w.val % 1024 ∈ t.lnb.sentNow ∧ t.lane = s.lane ∧ t.vio = s.vio) ∧
      ((AtSlot s w).pins.now < p.at_ + 2000 → Answers (.transmitFrame w) s fun t =>
        t.pins.sent = sentFrame s (winList s.station w.val % 1024) true false [] :: s.pins.sent ∧
        t.lnb.evt.getLsbD 9 = true ∧ t.lane.role = s.lane.role)) ∧
    (s.outputReady = false → s.voting = true → Answers (.transmitFrame w) s fun t =>
      t.lane.role = .excluded ∧ t.lane.driving = false ∧ t.tae.evt.getLsbD 4 = true ∧
      t.pins.sent = sentFrame s (winList s.station w.val % 1024) true false [] :: s.pins.sent)) ∧
  (∀ (w : Fin 512) (s : State), MaySend s w → fidUse s.station (winList s.station w.val % 1024) = 1 →
    ((AtSlot s w).framePending (winList s.station w.val % 1024) = none → Answers (.transmitFrame w) s fun t =>
      t.lane = s.lane ∧ t.pins.sent = sentFrame s (winList s.station w.val % 1024) true false [] :: s.pins.sent) ∧
    (∀ p, (AtSlot s w).framePending (winList s.station w.val % 1024) = some p → p.at_ + 2000 ≤ (AtSlot s w).pins.now →
      Answers (.transmitFrame w) s fun t => t.lane = s.lane ∧
        t.pins.sent = sentFrame s (winList s.station w.val % 1024) false false p.payload :: s.pins.sent)) ∧
  (∀ (w : Fin 512) (s : State), MaySend s w → fidUse s.station (winList s.station w.val % 1024) = 0 →
    (s.lane.st = .safe → Answers (.transmitFrame w) s fun t =>
      t.pins.sent = sentFrame s (winList s.station w.val % 1024) true false (AtSlot s w).healthWords :: s.pins.sent) ∧
    (s.lane.st ≠ .safe → Answers (.transmitFrame w) s fun t => ∃ h body crc,
      t.pins.sent = .lane (winList s.station w.val % 1024) h ((AtSlot s w).healthWords ++ body) crc :: s.pins.sent ∧
      hNull h = false)) ∧
  (∀ (w : Fin 512) (s : State), winOwner s.station w.val ≠ s.node → Answers (.transmitFrame w) s fun t => t = s) ∧
  (∀ (w : Fin 512) (s : State), winEn s.station w.val = true → winArb s.station w.val = true →
    winPresent s.station s.ccl w.val s.lnb.m = true → s.busDrives = true → s.lnb.arbSkip ≠ some w.val →
    (s.voting = true → s.outputReady = true) →
    (∀ j p, (AtRound s w).roundRank w.val = some (j, p) → (AtRound s w).roundRoom w.val j p.payload.length = true →
      p.at_ + 2000 ≤ (AtRound s w).clockAt (s.placeStart w.val 0) →
      (Answers (.arbRoundStart w (s.roundStart w.val) false) s fun t => t.lane = s.lane ∧
        t.pins.sent = sentFrame s p.fid false p.mirror p.payload :: s.pins.sent)) ∧
    (Answers (.arbRoundStart w (s.roundStart w.val) true) s fun t => t = AtRound s w)) ∧
  (∀ (f : BitVec 10) (s : State), s.busDrives = true → fidEn s.station f.toNat = true → fidOwner s.station f.toNat = s.node →
    Answers (.guardianCutoff f) s fun t => t.lnb.gcut = satInc 65535 s.lnb.gcut ∧ t.lnb.evt.getLsbD 6 = true ∧
      t.lane.role = s.lane.role ∧ t.lane.st = s.lane.st)

/-- What a received frame brings, where both channels carry it and it is right: a status frame its sender's health word (R47),
an input or output frame the words of that image in order (R352), a fetch request the replies of a holder and a fetch reply the
telegram (R78, R353), a mirror frame and a state-transfer frame the words of their streams (R31, R44). A copy with a wrong CRC
is counted on its channel and brings nothing (R346, R347). -/
def Obligations.LaneBusReceiving : Prop :=
  (∀ (f : RxFrame) (c : Copy) (s : State), TablesWf s → FrameJudged s 0 f c .valid → hNode c.hdr ≠ s.node →
    Answers (.statusFrame f) s fun t =>
      (t.nodeView (hNode c.hdr)).health = some (c.payload.getD 1 0 ++ c.payload.getD 0 0, s.lnb.m) ∧
      (t.nodeView (hNode c.hdr)).rxNow = true ∧ t.lnb.m = s.lnb.m ∧ t.lnb.failX = s.lnb.failX) ∧
  (∀ (f : RxFrame) (c : Copy) (n : Nat) (s : State), TablesWf s → winArb s.station f.win.val = false →
    FrameJudged s 0 f c .crcf →
    Answers (.statusFrame f) s fun t => t.lnb.failX = satInc 65535 s.lnb.failX ∧ t.lnb.failY = satInc 65535 s.lnb.failY ∧
      t.lnb.evt.getLsbD 2 = true ∧ t.nodeView n = s.nodeView n ∧ t.lane.role = s.lane.role) ∧
  (∀ (f : RxFrame) (c : Copy) (s : State), TablesWf s → FrameJudged s 1 f c .valid → hNull c.hdr = false →
    (s.advance (frameEnd f)).fidIndex (hNode c.hdr) 1 (hFid c.hdr) = (s.nodeView (hNode c.hdr)).inNext →
    ((s.nodeView (hNode c.hdr)).inValid = true ∨ (s.nodeView (hNode c.hdr)).inNext = 0) →
    Answers (.inputFrame f) s fun t => (t.nodeView (hNode c.hdr)).inWords = (s.nodeView (hNode c.hdr)).inWords ++ c.payload ∧
      (t.nodeView (hNode c.hdr)).inValid = true ∧
      (t.nodeView (hNode c.hdr)).inNext = (s.nodeView (hNode c.hdr)).inNext + 1 ∧ t.lane = s.lane ∧ t.inp = s.inp) ∧
  (∀ (f : RxFrame) (c : Copy) (s : State), TablesWf s → FrameJudged s 4 f c .valid → hNull c.hdr = false →
    ((s.advance (frameEnd f)).fidIndex (hNode c.hdr) 4 (hFid c.hdr) = (s.nodeView (hNode c.hdr)).outNext →
      ((s.nodeView (hNode c.hdr)).outValid = true ∨ (s.nodeView (hNode c.hdr)).outNext = 0) →
      Answers (.outputFrame f) s fun t =>
        (t.nodeView (hNode c.hdr)).outWords = (s.nodeView (hNode c.hdr)).outWords ++ c.payload ∧
        (t.nodeView (hNode c.hdr)).outValid = true ∧ t.lane = s.lane) ∧
    ((s.advance (frameEnd f)).fidIndex (hNode c.hdr) 4 (hFid c.hdr) ≠ (s.nodeView (hNode c.hdr)).outNext →
      Answers (.outputFrame f) s fun t => (t.nodeView (hNode c.hdr)).outValid = false ∧ t.lane = s.lane)) ∧
  (∀ (f : RxFrame) (c : Copy) (w0 w1 : Word) (tg : Telegram) (fid i : Nat) (s : State), FrameJudged s 2 f c .valid →
    hNode c.hdr ≠ s.node → s.voting = true → c.payload = [w0, w1] → s.holdsTelegrams = [tg] → tg.conn = w0.toNat →
    tg.seq = w1.toNat → (fidsOf s.station s.node 3).head? = some fid → connOf s.station w0.toNat = some i →
    Answers (.fetchRequest f) s fun t => ∃ l, l ≠ [] ∧ t.lnb.pendTx = s.lnb.pendTx ++ l ∧
      ∀ e ∈ l, e.fid = fid ∧ e.payload.getD 0 0 = w0 ∧ e.payload.getD 1 0 = w1 ∧ e.at_ = t.pins.now) ∧
  (∀ (f : RxFrame) (c : Copy) (tg : Telegram) (s : State), TablesWf s → FrameJudged s 3 f c .valid → hNode c.hdr ≠ s.node →
    tg = telegramRead (c.payload.getD 3 0 ++ c.payload.getD 2 0)
      ((wordsToBytes (c.payload.drop 5)).take (bits (c.payload.getD 4 0).toNat 16 16)) →
    bits (c.payload.getD 4 0).toNat 0 16 = 0 →
    bits (c.payload.getD 4 0).toNat 16 16 ≤ (wordsToBytes (c.payload.drop 5)).length →
    s.codeMatches (c.payload.getD 0 0).toNat (c.payload.getD 3 0 ++ c.payload.getD 2 0)
      ((wordsToBytes (c.payload.drop 5)).take (bits (c.payload.getD 4 0).toNat 16 16)) = true →
    tg.conn = (c.payload.getD 0 0).toNat → tg.seq = (c.payload.getD 1 0).toNat → tg.digest ∈ s.lackingNow →
    s.lnb.fetchPart = [] →
    Answers (.fetchReply f) s fun t => t.lnb.fetched = s.lnb.fetched ++ [tg]) ∧
  (∀ (f : RxFrame) (c : Copy) (s : State), FrameJudged s 5 f c .valid → winArb s.station f.win.val = true →
    hNode c.hdr ∈ s.otherNodes →
    Answers (.mirrorFrame f) s fun t => t.lnb.mirCyc = t.cycleNow ∧ t.lnb.mirFrom = hNode c.hdr ∧ t.lge = s.lge ∧
      t.lnb.mirRx = (if s.lnb.mirCyc = t.cycleNow ∧ s.lnb.mirFrom = hNode c.hdr then s.lnb.mirRx ++ c.payload else c.payload)) ∧
  (∀ (f : RxFrame) (c : Copy) (s : State), FrameJudged s 6 f c .valid → (s.peerIndex (hNode c.hdr)).isSome = true →
    Answers (.stateTransferFrame f) s fun t => t.lge = s.lge ∧
      t.lnb.xferRx = (if s.lane.reintReq then s.lnb.xferRx ++ c.payload else s.lnb.xferRx))

/-- Cold start (R370 to R378): a listening sync node sends its cold-start frame at the timeout, leads if it reads it back clean
and listens again if not; in SAFE it sends none (R37). A node that hears one follows; a carrier restarts the timeout. Two
formers make the cluster, whose time starts at zero; an attempt without them fails, and a node that has failed 16 times rests.
The instant to which the clock moves is the model's (log entry 10). That an event whose conditions do not hold changes nothing
is the model's (log entry 9). -/
def Obligations.ColdStart : Prop :=
  (∀ s : State, s.lnb.bstate = .listen → s.blockLive 9 = true →
    (s.syncNode = true → s.lane.st ≠ .safe → Answers (.listenTimeout false) s fun t =>
      t.lnb.bstate = .swarm ∧ t.lnb.att = satInc 255 s.lnb.att ∧
      t.pins.now = max s.pins.now (s.lnb.listenAt + s.lnb.listenLen) ∧
      ((fidsOf s.station s.node 7) ≠ [] → t.pins.sent.length = s.pins.sent.length + 1)) ∧
    (s.lane.st = .safe → Answers (.listenTimeout false) s fun t => t.lnb.bstate = .listen ∧ t.pins.sent = s.pins.sent) ∧
    (Answers (.listenTimeout true) s fun t => t.lnb.bstate = .listen ∧ t.lnb.listenAt = t.pins.now ∧ t.lnb.att = s.lnb.att ∧
      t.pins.sent = s.pins.sent)) ∧
  (∀ s : State, s.lnb.bstate = .wait → s.blockLive 9 = true →
    (s.syncNode = true → s.lane.st ≠ .safe → Answers (.waitExpire false) s fun t =>
      t.lnb.bstate = .swarm ∧ t.lnb.att = satInc 255 s.lnb.att ∧
      t.pins.now = max s.pins.now (s.lnb.listenAt + 1000000000)) ∧
    (Answers (.waitExpire true) s fun t => t.lnb.bstate = .wait ∧ t.lnb.listenAt = t.pins.now ∧ t.pins.sent = s.pins.sent)) ∧
  (∀ s : State, s.lnb.bstate = .swarm → s.blockLive 9 = true →
    (Answers (.swarmReadback true) s fun t => t.lnb.bstate = .lead ∧ t.lnb.m = 0 ∧ t.lnb.leader = s.node ∧
      t.tae.ctOff = some (-(s.lnb.listenAt : Int))) ∧
    (Answers (.swarmReadback false) s fun t => t.lnb.bstate = .listen ∧ t.lnb.collcnt = satInc 65535 s.lnb.collcnt ∧
      t.lnb.sevt.getLsbD 0 = true ∧ t.tae.ctOff = none)) ∧
  (∀ (f : RxFrame) (c : Copy) (s : State), s.rxLive = true → s.coldCopy f = some c → hNode c.hdr ≠ s.node →
    ((s.lnb.bstate = .listen ∨ s.lnb.bstate = .wait) → Answers (.coldStartFrame f) s fun t =>
      t.lnb.bstate = .follow ∧ t.lnb.leader = hNode c.hdr ∧ t.lnb.m = 0 ∧ t.lnb.att = 0 ∧
      t.tae.ctOff = some (((160 + s.dly (hNode c.hdr) : Nat) : Int) - c.start)) ∧
    (s.lnb.bstate = .lead → Answers (.coldStartFrame f) s fun t => t.lnb.bstate = .listen ∧ t.tae.ctOff = none)) ∧
  (∀ s : State, s.rxLive = true →
    (s.lnb.bstate = .listen → Answers .carrierInvalid s fun t => t = { s with lnb.listenAt := s.pins.now }) ∧
    (∀ k, s.busTime = true → s.windowAt s.ct = some k →
      (winArb s.station k = true → Answers .carrierInvalid s fun t => t.lnb.evt.getLsbD 8 = true ∧ t.lnb.arbSkip = some k ∧
        t.lnb.bstate = s.lnb.bstate) ∧
      (winArb s.station k = false → Answers .carrierInvalid s fun t => t = s))) ∧
  (∀ s : State, (s.lnb.bstate = .lead ∨ s.lnb.bstate = .follow) → 2 ≤ s.formers.length → s.blockLive 9 = true →
    (Answers .clusterFormed s fun t => t.lnb.bstate = .active ∧ t.lnb.m = 0 ∧ t.lnb.sevt.getLsbD 1 = true ∧
      t.tae.ctOff = s.tae.ctOff.map (fun o : Int => o - ((s.lnb.m + 1) * s.basicNs : Nat)) ∧ t.lane.st = s.lane.st) ∧
    (Answers .attemptFailed s fun t => t = s)) ∧
  (∀ s : State, s.lnb.bstate = .lead → 7 ≤ s.lnb.m → s.formers.length < 2 → s.blockLive 9 = true →
    Answers .attemptFailed s fun t => t.lnb.bstate = .listen ∧ t.tae.ctOff = none ∧ t.lnb.listenLen = s.listenShort) ∧
  (∀ s : State, s.lnb.bstate = .follow → (7 ≤ s.lnb.m ∨ 2 ≤ s.leaderMissed) → s.formers.length < 2 → s.blockLive 9 = true →
    Answers .attemptFailed s fun t => t.lnb.bstate = .listen ∧ t.tae.ctOff = none ∧ t.lnb.listenLen = s.listenR370) ∧
  (∀ s : State, s.lnb.bstate = .listen → 16 ≤ s.lnb.att → s.syncNode = true → s.blockLive 9 = true →
    Answers .loneNode s fun t => t.lnb.bstate = .wait ∧ t.lnb.listenAt = s.pins.now ∧
      (s.lnb.att = 16 → t.lnb.sevt.getLsbD 3 = true))

/-- Clock synchronisation (R381 to R389): the correction is the deviation's, at most 32 ns, and is spread over the start of the
next basic cycle; two precise cycles give TIMEV back. Integration ends in ACTIVE, two coarse cycles demote to PASSIVE and take a
voting lane out of the vote, and four cycles without SYNC lose the time. The single-channel limit and the recovered clock are
declared once; a revocation while it is the root, with no validated crystal, is a loss of the clock (entry 82). That an event
whose conditions do not hold changes nothing is the model's (log entry 9). -/
def Obligations.Synchronisation : Prop :=
  (∀ (c : Int) (s : State), s.lnb.bstate = .active → s.syncNode = true → s.lnb.corrNow = none → s.blockLive 9 = true →
    offsetCorrection (s.lnb.devs ++ [0]) = some c →
    Answers .clockCorrection s fun t => t.lnb.corrNow = some c ∧ t.lnb.offs = c ∧
      t.tae.ctRate = rateAfter s.lnb.rho c s.basicNs ∧ t.lnb.rho = t.tae.ctRate ∧
      (∃ l a, t.tae.ctSlew = l ++ [(a, max (-32) (min 32 c))]) ∧
      t.lnb.precise = (if c.natAbs ≤ 3 then s.lnb.precise + 1 else 0) ∧
      t.lnb.coarse = (if 32 < c.natAbs then s.lnb.coarse + 1 else 0) ∧
      (32 < c.natAbs → t.lnb.sevt.getLsbD 4 = true) ∧ t.lane.role = s.lane.role) ∧
  (∀ s : State, s.lnb.bstate = .active → s.tae.timev = false → 2 ≤ s.lnb.precise → s.blockLive 9 = true →
    (s.crt.align = true → Answers .timevRestored s fun t => t.tae.timev = true ∧ t.tae.timevAt = t.pins.now) ∧
    (s.crt.align = false → Answers .timevRestored s fun t => t = { s.cycleEnd with crt.timevHeld := true })) ∧
  (∀ s : State, s.lnb.bstate = .integrating → 2 ≤ s.lnb.goodRun → s.blockLive 9 = true →
    Answers .integrationCheckPassed s fun t => t.lnb.bstate = .active ∧ t.lnb.sevt.getLsbD 2 = true ∧
      (s.crt.align = true → t.tae.timev = true)) ∧
  (∀ s : State, s.lnb.bstate = .passive → 8 ≤ s.lnb.goodRun → s.blockLive 9 = true →
    Answers .passiveReturn s fun t => t.lnb.bstate = .active ∧ t.lnb.sevt.getLsbD 2 = true ∧ t.lane.role = s.lane.role) ∧
  (∀ s : State, s.lnb.bstate = .active → (2 ≤ s.lnb.coarse ∨ 2 ≤ s.lnb.bndRun) → s.blockLive 9 = true →
    Answers .demotion s fun t => t.lnb.bstate = .passive ∧ t.lnb.demcnt = satInc 65535 s.lnb.demcnt ∧ t.tae.timev = false ∧
      t.lnb.sevt.getLsbD 5 = true ∧ (s.tae.timev = true → s.voting = true → t.lane.role = .excluded)) ∧
  (∀ s : State, (s.lnb.bstate = .integrating ∨ s.lnb.bstate = .active ∨ s.lnb.bstate = .passive) → 4 ≤ s.lnb.noSync →
    s.blockLive 9 = true →
    Answers .syncLost s fun t => t.lnb.bstate = .listen ∧ t.tae.timev = false ∧ t.tae.ctOff = none ∧
      t.lnb.listenLen = s.listenR370 ∧ t.lnb.sevt.getLsbD 6 = true) ∧
  (∀ (n : Fin 8) (s : State), (s.nodeView n.val).scRejected = true → (s.nodeView n.val).scDeclared = false → s.rxLive = true →
    Answers (.singleChannelLimit n) s fun t => t.nodeView n.val = { s.nodeView n.val with scDeclared := true } ∧
      t.lnb.evt.getLsbD 5 = true ∧ t.lane.role = s.lane.role) ∧
  (∀ (r : Nat) (s : State), s.lnb.rref = some r → s.lnb.bstate = .active → r ≠ s.node → s.lnb.recadm = false →
    64 ≤ s.lnb.recRun → s.blockLive 9 = true →
    Answers .recoveredClockAdmitted s fun t => t.lnb.recadm = true ∧ t.lnb.recRef = r ∧ t.crt.rval = true ∧
      t.lnb.sevt.getLsbD 7 = true) ∧
  (∀ (k : Fin 4) (s : State),
    (s.lnb.recadm = true →
      (if k = 3 then s.lnb.bstate ≠ .active else s.lnb.bstate = .active ∧ (k = 2 ↔ s.lnb.rref ≠ some s.lnb.recRef)) →
      ((s.crt.rootsel = false ∨ s.crt.xval = true) → Answers (.recoveredClockRevoked k) s fun t =>
        t.lnb.recadm = false ∧ t.crt.rval = false ∧ t.lnb.sevt.getLsbD 8 = true ∧ t.lane.st = s.lane.st) ∧
      (s.crt.rootsel = true → s.crt.xval = false → s.lane.safeLatch = false → Answers (.recoveredClockRevoked k) s fun t =>
        t.lnb.recadm = false ∧ t.crt.rval = false ∧ t.crt.rootLost = true ∧ t.lane.safeLatch = true ∧ t.lane.st = .safe)) ∧
    (s.lnb.recadm = false → Answers (.recoveredClockRevoked k) s fun t => t = s))

/-- Cluster time never decreases (R51, R383): every step keeps the rate correction within ±200,000 ppb and each offset
correction within ±32 ns; while that holds and no more than a thousand corrections are being spread, a later instant of the
lane's clock never has a smaller cluster time; a correction does not move cluster time at the instant at which it is taken; and
no command that leaves TIMEV = 1 and the bus state as they were lowers cluster time. That the spread begins at the next boundary
of the lane's own time is the model's reading (log entry 29). -/
def Obligations.ClusterTimeNeverDecreases : Prop :=
  (∀ s t : State, RateRules s → step s = .next t → RateRules t) ∧
  (∀ (x y : Nat) (s : State), RateRules s → s.tae.ctOff.isSome = true → s.tae.ctSlew.length ≤ 1000 → x ≤ y →
    s.ctAt x ≤ s.ctAt y) ∧
  (∀ (a rho : Int) (s : State), s.tae.ctOff.isSome = true → (s.ctCorrect a rho).ct = s.ct) ∧
  (∀ (i : Instr) (s t : State), RateRules s → s.tae.ctSlew.length ≤ 1000 → exec i s = .next t → s.tae.timev = true →
    t.tae.timev = true → t.lnb.bstate = s.lnb.bstate → s.ct ≤ t.ct)

/-! ### Field network -/

/-- The field ports (R396, R397, R400, R410): a changed link is shown; a frame that fails a check is dropped and counted; ARP
and ICMP for the port's own address are answered, ICMP at most ten times a second; and a port that accepts nothing while the
other one does is declared once. That an event whose conditions do not hold changes nothing is the model's (log entry 9). -/
def Obligations.FieldPorts : Prop :=
  (∀ (p : Fin 2) (l : LinkState) (s : State), TablesWf s → s.fldRuns = true → s.fld.phyOut = true → portEn s.station p.val = true →
    Answers (.phyPoll p l) s fun t => (t.port p.val).link = l ∧
      (linkCode l ≠ linkCode (s.port p.val).link → t.fld.evt.getLsbD 0 = true) ∧
      (l = .half → (s.port p.val).link ≠ .half → t.fld.evt.getLsbD 1 = true) ∧ t.lane.role = s.lane.role) ∧
  (∀ (p : Fin 2) (ok : Bool) (b : List Byte) (s : State), TablesWf s → s.portUp p.val = true →
    ((ok = false ∨ b.length < 60 ∨ 1518 < b.length ∨
        (beNat (slice 0 6 b) ≠ portMac s.station p.val ∧ beNat (slice 0 6 b) ≠ 0xFFFFFFFFFFFF)) →
      Answers (.ethernetFrame p ok b) s fun t =>
        t.port p.val = { s.port p.val with drop := satInc 65535 (s.port p.val).drop } ∧ t.fld.held = s.fld.held ∧
        t.lane = s.lane) ∧
    (ethJudge s.station p.val (fmpPort s.station) (fmpOn s.station p.val) ok b ≠ .drop →
      Answers (.ethernetFrame p ok b) s fun t => t = s)) ∧
  (∀ (p : Fin 2) (ip : Word) (s : State), s.portUp p.val = true → fldArp s.station = true →
    (ip.toNat = portIp s.station p.val → Answers (.arpRequest p ip) s fun t =>
      t = { s with pins.sent := .arpReply p.val ip :: s.pins.sent }) ∧
    (ip.toNat ≠ portIp s.station p.val → Answers (.arpRequest p ip) s fun t => t = s)) ∧
  (∀ (p : Fin 2) (ip : Word) (s : State), s.portUp p.val = true → fldIcmp s.station = true → ip.toNat = portIp s.station p.val →
    (((s.port p.val).icmpSecond ≠ s.pins.now / 1000000000 ∨ (s.port p.val).icmpCount < 10) →
      Answers (.icmpEchoRequest p ip) s fun t => t.pins.sent = .icmpReply p.val :: s.pins.sent ∧ t.lane = s.lane) ∧
    ((s.port p.val).icmpSecond = s.pins.now / 1000000000 → 10 ≤ (s.port p.val).icmpCount →
      Answers (.icmpEchoRequest p ip) s fun t => t = s)) ∧
  (∀ (p : Fin 2) (x : Nat) (s : State), s.fldRuns = true → portEn s.station p.val = true → (s.port p.val).acceptedAt = none →
    (s.port p.val).singleAt = none → (s.port (1 - p.val)).acceptedAt = some x → s.pins.now < x + 1000000000 →
    Answers (.portSingle p) s fun t => (t.port p.val).singleAt = some s.pins.now ∧ t.fld.evt.getLsbD 2 = true ∧
      t.lane.role = s.lane.role)

/-- The checks of a Miman telegram in their order (R401, R407 to R409): one that names no connection, one copy too many, one
outside the sequence window and one with a wrong safety code are dropped with their counts and events; one that passes is held
for the next capture. -/
def Obligations.MimanChecks : Prop :=
  (∀ (p : Fin 2) (ip : Word) (b : List Byte) (s : State), s.portUp p.val = true → s.judgesCopies = true → TablesWf s →
    mimanConn s.station ip.toNat b = none →
    Answers (.mimanTelegram p ip b) s fun t => (t.port p.val).drop = satInc 65535 (s.port p.val).drop ∧
      t.fld.evt.getLsbD 3 = true ∧ t.fld.held = s.fld.held ∧ t.lane.role = s.lane.role) ∧
  (∀ (p : Fin 2) (ip : Word) (b : List Byte) (c : Nat) (s : State), s.portUp p.val = true → s.judgesCopies = true → TablesWf s →
    mimanConn s.station ip.toNat b = some c →
    (connRxcop s.station c ≤ (s.conn c).copies → Answers (.mimanTelegram p ip b) s fun t =>
      (t.conn c).copies = (s.conn c).copies + 1 ∧ t.fld.evt.getLsbD 9 = true ∧ t.fld.held = s.fld.held) ∧
    ((s.conn c).copies < connRxcop s.station c → s.connSt c = 2 →
      connSeqwin s.station c < sub32 (telegramRead 0 b).seq (s.connEsWord c 2) →
      Answers (.mimanTelegram p ip b) s fun t => (t.conn c).seqErr = satInc 255 (s.conn c).seqErr ∧ t.fld.evt.getLsbD 5 = true ∧
        t.fld.held = s.fld.held) ∧
    ((s.conn c).copies < connRxcop s.station c → s.connSt c ≠ 2 → s.fld.held = [] →
      (Config.cmac (tabGet 0#128 c s.fld.keys) (b.take (b.length - 8)) = BitVec.ofNat 64 (beNat (b.drop (b.length - 8))) →
        Answers (.mimanTelegram p ip b) s fun t => (t.port p.val).rxok = satInc 65535 (s.port p.val).rxok ∧
          t.fld.held = [{ tg := telegramRead (BitVec.ofNat 64 (beNat (b.drop (b.length - 8)))) (b.take (b.length - 8)),
                          reported := false, deferred := false }]) ∧
      (Config.cmac (tabGet 0#128 c s.fld.keys) (b.take (b.length - 8)) ≠ BitVec.ofNat 64 (beNat (b.drop (b.length - 8))) →
        Answers (.mimanTelegram p ip b) s fun t => (t.port p.val).cmacf = satInc 65535 (s.port p.val).cmacf ∧
          (t.conn c).cmacf = satInc 255 (s.conn c).cmacf ∧ t.fld.evt.getLsbD 4 = true ∧ t.fld.held = [])))

/-! ### Cabinet bus -/

/-- A start of frame commits the offer that comes first in arbitration (R437, R439); its completion, its missing acknowledgement
and a bus error move the error counters and end or retry it (R432, R433, R440); bus-off fails every started entry. In SAFE
nothing is offered. The instant to which the clock moves is the model's (log entry 10). That an event whose conditions do not
hold changes nothing is the model's (log entry 9). -/
def Obligations.CanSending : Prop :=
  (∀ (c : Fin 2) (sof : Nat) (s : State), s.canWorks c.val = true → (s.can c.val).onWire = none → s.offers c.val ≠ [] →
    Answers (.canFrameStart c sof) s fun t => ∃ o ∈ s.offers c.val, (t.can c.val).onWire = some o ∧
      (∀ p ∈ s.offers c.val, (s.offerKey c.val o).1 ≤ (s.offerKey c.val p).1) ∧
      t.pins.sent = .can c.val (s.offerFrame c.val o) :: s.pins.sent ∧ t.pins.now = max s.pins.now sof) ∧
  (∀ (c : Fin 2) (sof e : Nat) (s : State), TablesWf s → s.canWorks c.val = true → (s.can c.val).onWire = none →
    s.offers c.val = [.queue e] →
    Answers (.canFrameStart c sof) s fun t => (t.txEntry e).st = .started ∧
      (t.txEntry e).att = satInc 255 (s.txEntry e).att ∧ (∀ d, d ≠ e → t.txEntry d = s.txEntry d)) ∧
  (∀ (c : Fin 2) (sof : Nat) (s : State), s.lane.st = .safe → Answers (.canFrameStart c sof) s fun t => t = s) ∧
  (∀ (c : Fin 2) (e : Nat) (s : State), TablesWf s → s.canWorks c.val = true → (s.can c.val).onWire = some (.queue e) →
    (s.txEntry e).st = .started →
    (Answers (.canTxComplete c) s fun t => (t.txEntry e).st = .completed ∧ (t.can c.val).onWire = none ∧
      (t.can c.val).tecN = (s.can c.val).tecN - 1 ∧ t.cab.evt.getLsbD 2 = true) ∧
    ((s.can c.val).estate = .active → Answers (.canAckError c) s fun t => (t.can c.val).tecN = (s.can c.val).tecN + 8 ∧
      (t.can c.val).onWire = none ∧ (t.txEntry e).ack = satInc 255 (s.txEntry e).ack ∧
      (t.txEntry e).st = (if canNoack s.station c.val ≠ 0 ∧ canNoack s.station c.val ≤ satInc 255 (s.txEntry e).ack then .failed
        else .started))) ∧
  (∀ (c : Fin 2) (tec rec : Nat) (s : State), TablesWf s → s.canWorks c.val = true →
    (tec < 256 → Answers (.canError c tec rec) s fun t => (t.can c.val).tecN = tec ∧ (t.can c.val).recN = min 255 rec ∧
      (t.can c.val).estate = (if tec < 128 ∧ rec < 128 then .active else .passive) ∧ (t.can c.val).onWire = none) ∧
    (256 ≤ tec → Answers (.canError c tec rec) s fun t => (t.can c.val).estate = .busoff ∧ t.cab.evt.getLsbD 4 = true ∧
      ∀ e, (s.txEntry e).st = .started → (s.txEntry e).ctrl = c.val → (t.txEntry e).st = .failed ∧ (t.txEntry e).cause = 2)) ∧
  (∀ (c : Fin 2) (s : State), TablesWf s → s.img.isSome = true → s.blockLive 11 = true → (s.can c.val).estate = .busoff →
    (s.can c.val).recovering = true →
    Answers (.busoffRecovered c) s fun t => (t.can c.val).estate = .active ∧ (t.can c.val).tecN = 0 ∧ (t.can c.val).recN = 0 ∧
      t.cab.txq = s.cab.txq ∧ t.lane = s.lane) ∧
  (∀ (c : Fin 2) (s : State), s.img.isSome = true → s.blockLive 11 = true → canEn s.station c.val = true →
    canTmen s.station c.val = true → s.tae.timev = true →
    (s.lane.st ≠ .safe → Answers (.referenceMessageDue c) s fun t => (t.can c.val).refPending = true ∧ t.lane = s.lane) ∧
    (s.lane.st = .safe → Answers (.referenceMessageDue c) s fun t => t = s))

/-- A frame that a map entry names fills its payload (R435); one that a filter takes enters the receive queue with its time
stamp, or is dropped and counted with 64 entries held (R441, R442). Nothing but the cabinet bus changes. The queue registers of
the cabinet bus (R432, R438, R439, R442): a post takes the lowest free entry, a cancel aborts an entry that has not started, a
release frees one that has ended, and an acknowledgement drops the head of the receive queue. The instant to which the clock
moves is the model's (log entry 10). That an event whose conditions do not hold changes nothing is the model's (log entry 9). -/
def Obligations.CanReceivingAndQueue : Prop :=
  (∀ (c : Fin 2) (f : CanFrame) (sof : Nat) (s : State), f.wellFormed = true → s.canWorks c.val = true →
    (f.fdf && f.rtr) = false → (f.brs && !f.fdf) = false → (canFden s.station c.val || !f.fdf) = true →
    (∀ m, rxMaps s.station = [m] → mapCtrl s.station m = c.val → mapIde s.station m = f.ide → mapFdf s.station m = f.fdf →
      f.rtr = false → mapId s.station m = canId f.ide f.ident.toNat → 8 * f.data.length = (mapCells s.station m).2 →
      Answers (.canFrameReceived c f sof) s fun t => (t.mapSt m).payload = f.data ∧ (t.mapSt m).at_ = some t.pins.now ∧
        t.pins.now = max s.pins.now sof ∧ t.cab.rxq = s.cab.rxq) ∧
    ((∀ m ∈ rxMaps s.station, mapId s.station m ≠ canId f.ide f.ident.toNat) → filterTakes s.station c.val f = true →
      s.cab.rxq.length < 64 →
      Answers (.canFrameReceived c f sof) s fun t => (∃ x, t.cab.rxq = s.cab.rxq ++ [x] ∧ x.ctrl = c.val ∧ x.frame = f ∧
          ∀ o, s.tae.ctOff = some o → x.sof = ((sof : Int) + o).toNat / 25 * 25) ∧
        t.cab.evt.getLsbD 0 = true ∧ t.lane.role = s.lane.role ∧ t.lane.st = s.lane.st ∧ t.vio = s.vio) ∧
    ((∀ m ∈ rxMaps s.station, mapId s.station m ≠ canId f.ide f.ident.toNat) → filterTakes s.station c.val f = true →
      64 ≤ s.cab.rxq.length →
      Answers (.canFrameReceived c f sof) s fun t => t.cab.rxq = s.cab.rxq ∧ t.cab.ovf = satInc 65535 s.cab.ovf ∧
        t.cab.evt.getLsbD 1 = true)) ∧
  (∀ (c : Fin 2) (f : CanFrame) (sof : Nat) (s : State), f.wellFormed = true → s.canWorks c.val = false →
    Answers (.canFrameReceived c f sof) s fun t => t = s) ∧
  (∀ (sid : BitVec 16) (s : State), MayWrite s sid 0x0B0004 2 →
    (∀ e, s.freeEntry = some e → canAllowed s.stagedFrame = true → Answers (.post sid) s fun t =>
      t.txEntry e = { st := .pending, cause := 0, att := 0, ack := 0, ctrl := bitNat (s.cab.txhdr0.getLsbD 31),
                      frame := s.stagedFrame, order := s.cab.txOrder } ∧
      t.cab.postRef = false ∧ t.cab.postEntry = e ∧ t.cab.txOrder = s.cab.txOrder + 1 ∧ t.lane = s.lane) ∧
    (s.freeEntry = none → Answers (.post sid) s fun t => t = { s.useToken sid.toNat with cab.postRef := true })) ∧
  (∀ (sid : BitVec 16) (e : Fin 32) (s : State), MayWrite s sid 0x0B0008 2 →
    ((s.txEntry e.val).st = .pending → Answers (.cancel sid e) s fun t => (t.txEntry e.val).st = .aborted ∧
      t.cab.cancelAns = 1 ∧ t.cab.evt.getLsbD 2 = true) ∧
    ((s.txEntry e.val).st = .started → Answers (.cancel sid e) s fun t =>
      t = { s.useToken sid.toNat with cab.cancelAns := 2 }) ∧
    ((s.txEntry e.val).st = .free → Answers (.cancel sid e) s fun t =>
      t = { s.useToken sid.toNat with cab.cancelAns := 4 })) ∧
  (∀ (sid : BitVec 16) (e : Fin 32) (s : State), TablesWf s → MayWrite s sid (0x0B0200 + 4 * e.val) 2 →
    ((s.txEntry e.val).st = .completed → Answers (.entryRelease sid e) s fun t => t.txEntry e.val = tx0 ∧
      ∀ d, d ≠ e.val → t.txEntry d = s.txEntry d) ∧
    ((s.txEntry e.val).st = .pending → Answers (.entryRelease sid e) s fun t => t = s.useToken sid.toNat)) ∧
  (∀ (sid : BitVec 16) (s : State), MayWrite s sid 0x0B0010 2 →
    Answers (.receiveAcknowledgement sid) s fun t => t = { s.useToken sid.toNat with cab.rxq := s.cab.rxq.drop 1 }) ∧
  (∀ (sid : BitVec 16) (c : Fin 2) (s : State), MayWrite s sid (0x0B002C + 64 * c.val) 2 →
    ((s.can c.val).estate = .busoff → Answers (.busoffRecoveryRequest sid c) s fun t => (t.can c.val).recovering = true ∧
      t.cab.txq = s.cab.txq ∧ t.lane = s.lane) ∧
    ((s.can c.val).estate ≠ .busoff → Answers (.busoffRecoveryRequest sid c) s fun t => t = s.useToken sid.toNat))

/-! ### The event recorder -/

/-- A record carries SEQ, MONO, wall time and what its writer gives, and joins the buffer; severity 4 or more, or 4,096 records,
ask for a flush (R517, R518, R520). Below MINSEV none is created; with the buffer full the newest of the lowest severity is
dropped and counted (R520, R528). Every 100 ms of MONO a flush is asked for; a flush copies the buffer to memory and both
control-area copies (R520, R523, R524); a failed one is a recorder memory fault and leaves the memory (R519). A freeze ends 10 s
after its start (R531); that the model's clock moves on to the instant of a period or of a deadline is the model's own (entry
10). That an event whose conditions do not hold changes nothing is the model's (log entry 9). -/
def Obligations.RecordsAndFlushes : Prop :=
  (∀ (sev : Fin 6) (src code : BitVec 16) (data : List Byte) (s : State), data.length = 8 → s.crt.rootLost = false →
    s.recOpen = true → s.cfgField 0x0C0000 1 0 4 ≤ sev.val → s.rcd.frozen = false →
    (s.rcd.buf.length < 8192 → Answers (.recordCreate sev src code data) s fun t => ∃ r, t.rcd.buf = s.rcd.buf ++ [r] ∧
      r.seq = s.rcd.seqNext ∧ r.mono = s.mono ∧ r.wall = s.wall ∧ r.sev = sev.val ∧ r.src = src.toNat ∧ r.code = code.toNat ∧
      r.data = data ∧ t.rcd.seqNext = (s.rcd.seqNext + 1) % 4294967296 ∧
      ((4 ≤ sev.val ∨ 4096 ≤ s.rcd.buf.length + 1) → t.rcd.flush = true) ∧
      t.rcd.pages = s.rcd.pages ∧ t.lane.st = s.lane.st ∧ t.lane.role = s.lane.role) ∧
    (8192 ≤ s.rcd.buf.length → Answers (.recordCreate sev src code data) s fun t =>
      t.rcd.lostcnt = satInc 4294967295 s.rcd.lostcnt ∧ t.rcd.buf.length = s.rcd.buf.length ∧ t.rcd.evt.getLsbD 1 = true)) ∧
  (∀ (sev : Fin 6) (src code : BitVec 16) (data : List Byte) (s : State), data.length = 8 →
    sev.val < s.cfgField 0x0C0000 1 0 4 → Answers (.recordCreate sev src code data) s fun t => t = s) ∧
  (∀ (sev : Fin 6) (src code : BitVec 16) (data : List Byte) (s : State), data.length = 8 →
    s.cfgField 0x0C0000 1 0 4 ≤ sev.val → s.crt.rootLost = true →
    Answers (.recordCreate sev src code data) s fun t =>
      t = { s with rcd.late := s.rcd.late ++ [(sev.val, src.toNat, code.toNat, data.map BitVec.toNat)] }) ∧
  (∀ s : State, s.recRuns = true → s.rcd.frozen = false →
    Answers .flushPeriod s fun t => t =
      { s with pins.now := (s.pins.now / 100000000 + 1) * 100000000, rcd.flush := true }) ∧
  (∀ s : State, s.rcd.flush = true → s.rcd.frozen = false → s.recRuns = true → 1 ≤ s.rcd.msize → s.rcd.pages = [] →
    s.rcd.buf ≠ [] → s.rcd.buf.length ≤ 128 → s.rcd.drops = [] →
    Answers (.recFlush true) s fun t => t.rcd.pages = [{ recs := s.rcd.buf }] ∧ t.rcd.buf = [] ∧ t.rcd.flush = false ∧
      t.rcd.ctlA.valid = true ∧ t.rcd.ctlA.nextSeq = s.rcd.seqNext ∧ t.rcd.ctlB = t.rcd.ctlA ∧ t.lane = s.lane) ∧
  (∀ s : State, s.rcd.flush = true → s.rcd.frozen = false → s.recRuns = true → 1 ≤ s.rcd.msize →
    Answers (.recFlush false) s fun t => t.rcd.pages = s.rcd.pages ∧ t.rcd.ctlA = s.rcd.ctlA ∧ t.rcd.ctlB = s.rcd.ctlB ∧
      t.rcd.evt.getLsbD 0 = true) ∧
  (∀ (ok : Bool) (s : State), s.rcd.flush = false → Answers (.recFlush ok) s fun t => t = s) ∧
  (∀ s : State, s.rcd.frozen = true → s.recRuns = true →
    Answers .freezeCommit s fun t => t.pins.now = max s.pins.now (s.rcd.frzAt + 10000000000))

/-- A freeze is asked for, starts once the flush before it has ended, holds the records from then on, and ends at FREEZE_COMMIT
or at UNFREEZE (R529, R531). At most 4,096 records are held: with 4,096 held already, the newest of the lowest severity, the new
one included, is dropped (R530). -/
def Obligations.Freezes : Prop :=
  (∀ (sid : BitVec 16) (s : State), Authorised s sid 0x0C0060 1 2 →
    (s.rcd.frozen = false → s.rcd.frzWait = false → s.rcd.legStat ≠ 1 → Answers (.freeze sid) s fun t =>
      t = { s.useToken sid.toNat with rcd.frz := .waiting, rcd.frzWait := true, rcd.frzSess := sid.toNat, rcd.flush := true }) ∧
    ((s.rcd.frozen = true ∨ s.rcd.frzWait = true ∨ s.rcd.legStat = 1) → Answers (.freeze sid) s fun t =>
      t = { s.useToken sid.toNat with rcd.frz := .refused })) ∧
  (∀ s : State, s.rcd.frzWait = true → s.rcd.flush = false → s.recRuns = true →
    Answers .freezeStart s fun t => t.rcd.frozen = true ∧ t.rcd.frzWait = false ∧ t.rcd.frzFirst = s.rcd.seqNext ∧
      t.rcd.frz = .running ∧ t.rcd.frzAt = s.pins.now ∧ t.rcd.pages = s.rcd.pages) ∧
  (∀ s : State, s.rcd.frozen = true → s.recRuns = true →
    Answers .freezeCommit s fun t => t.rcd.frozen = false ∧ t.rcd.frz = .completed ∧ t.rcd.evt.getLsbD 2 = true) ∧
  (∀ (sid : BitVec 16) (s : State), Authorised s sid 0x0C0060 2 2 →
    (s.rcd.frozen = true → Answers (.unfreeze sid) s fun t => t.rcd.frozen = false ∧ t.rcd.frz = .aborted) ∧
    (s.rcd.frozen = false → s.rcd.frzWait = true → Answers (.unfreeze sid) s fun t =>
      t.rcd.frzWait = false ∧ t.rcd.frz = .aborted ∧ t.rcd.pages = s.rcd.pages) ∧
    (s.rcd.frozen = false → s.rcd.frzWait = false → Answers (.unfreeze sid) s fun t => t = s.useToken sid.toNat)) ∧
  (∀ (sev : Fin 6) (src code : BitVec 16) (data : List Byte) (s : State), data.length = 8 → s.crt.rootLost = false →
    s.recOpen = true → s.cfgField 0x0C0000 1 0 4 ≤ sev.val → s.rcd.frozen = true → s.heldRecs.length = 4096 →
    s.rcd.frzFirst ≤ s.rcd.seqNext →
    Answers (.recordCreate sev src code data) s fun t => t.heldRecs.length = 4096 ∧
      ∃ r k, r.seq = s.rcd.seqNext ∧ r.sev = sev.val ∧ r.code = code.toNat ∧ r.data = data ∧
        t.heldRecs = (s.heldRecs ++ [r]).eraseIdx k ∧
        ∃ d, (s.heldRecs ++ [r])[k]? = some d ∧ (∀ x ∈ s.heldRecs ++ [r], d.sev ≤ x.sev) ∧
          ∀ x ∈ (s.heldRecs ++ [r]).drop (k + 1), d.sev < x.sev)

/-- The cursor commands of a session move its cursor over the records that a reader can reach: to the oldest, the newest, the
next and the previous one and the first from SEQ on; a gap is shown (R525, R540). The legacy access, with CMPT in effect (R532
to R535): a read of LEG_HI latches LEG_LO and moves on; the two keys within a second clear the recorder, with the CLEAR record;
a wrong key, or a second without the second key, makes the sequence void. The instant to which the clock moves is the model's
(log entry 10). That an event whose conditions do not hold changes nothing is the model's (log entry 9). -/
def Obligations.CursorsAndLegacyAccess : Prop :=
  (∀ (sid : BitVec 16) (s : State), MayWrite s sid 0x0C0020 1 →
    (Answers (.oldest sid) s fun t => CursorAt s t sid (lowestRec s.recVisible) fun _ => 2) ∧
    (Answers (.newest sid) s fun t => CursorAt s t sid (highestRec s.recVisible) fun _ => 2) ∧
    (∀ c, s.cursorOf sid.toNat = some c →
      (Answers (.nextRec sid) s fun t => CursorAt s t sid (lowestRec (s.recVisible.filter fun r => decide (c < r.seq)))
        fun r => if r.seq = c + 1 then 2 else 3) ∧
      (Answers (.prevRec sid) s fun t => CursorAt s t sid (highestRec (s.recVisible.filter fun r => decide (r.seq < c)))
        fun r => if r.seq = c - 1 then 2 else 3)) ∧
    (∀ x, s.session sid.toNat = some x →
      Answers (.seek sid) s fun t => CursorAt s t sid
        (lowestRec (s.recVisible.filter fun r => decide (x.cseq.toNat ≤ r.seq))) fun r => if r.seq = x.cseq.toNat then 2 else 3)) ∧
  (∀ (l : List Record) (r : Record), lowestRec l = some r → r ∈ l ∧ ∀ x ∈ l, r.seq ≤ x.seq) ∧
  (∀ (l : List Record) (r : Record), highestRec l = some r → r ∈ l ∧ ∀ x ∈ l, x.seq ≤ r.seq) ∧
  (∀ (r : Record) (s : State), s.legServes = true → s.legRecord = some r →
    Answers .legHiRead s fun t => t.rcd.legLo = BitVec.ofNat 32 (leNat (r.data.take 4)) ∧ t.rcd.buf = s.rcd.buf ∧
      t.rcd.pages = s.rcd.pages ∧ t.lane = s.lane ∧
      ∀ n, lowestRec (s.recVisible.filter fun x => decide (r.seq < x.seq)) = some n → t.rcd.legCur = n.seq) ∧
  (∀ s : State, s.legServes = false → Answers .legHiRead s fun t => t = s) ∧
  (∀ (sid key : BitVec 16) (s : State), MayWrite s sid 0x0C0088 2 → s.cmpt = true → s.rcd.frozen = false →
    (s.rcd.legStat ≠ 1 → key.toNat = 0x5A5A → Answers (.legkeyWrite sid key) s fun t => t = { s.useToken sid.toNat with
      rcd.legStat := 1, rcd.legSess := some sid.toNat, rcd.legAt := s.pins.now }) ∧
    (s.rcd.legStat = 1 → key.toNat = 0xA5A5 → s.rcd.legSess = some sid.toNat → s.pins.now ≤ s.rcd.legAt + 1000000000 →
      Answers (.legkeyWrite sid key) s fun t => t.rcd.legStat = 2 ∧ t.rcd.lostcnt = 0 ∧ t.rcd.evt.getLsbD 4 = true ∧
        (t.rcd.buf ++ t.rcd.pages.flatMap Page.recs).length ≤ 1) ∧
    (s.rcd.legStat = 1 → key.toNat ≠ 0xA5A5 → Answers (.legkeyWrite sid key) s fun t =>
      t = { s.useToken sid.toNat with rcd.legStat := 3, rcd.legSess := none })) ∧
  (∀ s : State, s.rcd.legStat = 1 → Answers .legkeyTimeout s fun t => t.rcd.legStat = 3 ∧ t.rcd.legSess = none ∧
    t.pins.now = max s.pins.now (s.rcd.legAt + 1000000000) ∧ t.rcd.pages = s.rcd.pages ∧ t.rcd.buf = s.rcd.buf)

/-! ### Self-test, soft reset and gates -/

/-- Memory tests and the targeted self-test (R102, R564 to R568): a chunk that passes changes nothing of the vote, a failed one
withdraws the lane or halts SUP; a run that ends well is a transient, counted and followed by a reintegration request, and a
failed one, or the fourth transient, is lasting. A transient leaves its count after 24 h. Planned logic BIST (R569, R570): asked
for in STOP it starts at once, in RUN it waits for its T_commit, at which the lane leaves the vote; an abort before it has
started ends it ABORTED. The instant to which the clock moves is the model's (log entry 10). That an event whose conditions do
not hold changes nothing is the model's (log entry 9). -/
def Obligations.SelfAndPlannedTests : Prop :=
  (∀ (m : BistMemory) (s : State), s.idleTime = true → s.crt.lock = true → s.bgmt = true →
    (s.lge.marchDue = false → Answers (.mbistChunk m true) s fun t => t.lane = s.lane ∧ t.crt = s.crt ∧ t.grd = s.grd ∧
      t.lge = s.lge) ∧
    (m = .lgeProgram ∨ m = .lgeState → s.voting = true → Answers (.mbistChunk m false) s fun t => t.lane.role = .excluded ∧
      t.lane.implicated = some .lge) ∧
    (m = .supSram → s.lane.safeLatch = false → Answers (.mbistChunk m false) s fun t => HeldSafe t ∧ t.lane.scause = 6 ∧
      t.lane.supHalted = true)) ∧
  (∀ s : State, s.idleTime = true → s.bgmt = true → s.lge.split = false → s.blockLive 4 = true →
    (Answers (.replicaCompare true) s fun t => t = s) ∧
    (s.voting = true → Answers (.replicaCompare false) s fun t => t.lane.role = .excluded ∧ t.lane.implicated = some .lge ∧
      t.lge.evt.getLsbD 8 = true)) ∧
  (∀ (x : SelfTest) (d : Nat) (s : State), s.crt.test = some x → x.planned = false → x.second = false → x.thenMem = false →
    s.lane.st = .run → s.lane.role = .excluded → s.grd.gmode = .checking →
    ((s.advance (x.startAt + d * 100000)).transOf x.unit < 3 → Answers (.selftestEnd true d) s fun t => t.crt.test = none ∧ t.lane.reintReq = true ∧
      t.lane.lasting = s.lane.lasting ∧ t.lane.implicated = none ∧ t.crt.trans.length = s.crt.trans.length + 1 ∧
      t.crt.evt.getLsbD 5 = true ∧ t.lane.role = .excluded) ∧
    (Answers (.selftestEnd false d) s fun t => t.crt.test = none ∧ t.lane.lasting = true ∧ t.lane.implicated = some x.unit ∧
      t.crt.trans = s.crt.trans ∧ t.lane.role = .excluded) ∧
    (3 ≤ (s.advance (x.startAt + d * 100000)).transOf x.unit → Answers (.selftestEnd true d) s fun t => t.crt.test = none ∧ t.lane.lasting = true)) ∧
  (∀ (u : Fin 5) (x : Transient) (s : State), (s.crt.trans.find? fun y => decide (y.unit = faultUnitOf u)) = some x →
    Answers (.transientAgeOut u) s fun t => t.crt.trans = s.crt.trans.erase x ∧ t.lane = s.lane ∧
      t.pins.now = max s.pins.now ((x.at_ + 86400000000) * 1000)) ∧
  (∀ (sid : BitVec 16) (g : Fin 3) (s : State), Authorised s sid 0x010020 (16 * g.val + 1) 2 → s.crt.test = none →
    s.crt.bistWait = false →
    (s.lane.st = .run → Answers (.bistRequest sid g) s fun t =>
      t = { s.useToken sid.toNat with crt.bist := .waiting, crt.bistGrp := g.val, crt.bistWait := true }) ∧
    (s.lane.st = .stop → Answers (.bistRequest sid g) s fun t => t.crt.bist = .running ∧ t.crt.bistGrp = g.val ∧
      t.lane = s.lane ∧ ∃ x, t.crt.test = some x ∧ x.unit = groupUnit g.val ∧ x.planned = true ∧ x.startAt = s.pins.now) ∧
    (s.lane.st ≠ .run → s.lane.st ≠ .stop → Answers (.bistRequest sid g) s fun t =>
      t = { s.useToken sid.toNat with crt.bist := .refused })) ∧
  (∀ (sid : BitVec 16) (s : State), Authorised s sid 0x010020 2 2 → s.crt.bistWait = true →
    Answers (.bistAbort sid) s fun t => t.crt.bist = .aborted ∧ t.crt.bistWait = false ∧ t.crt.test = s.crt.test ∧
      t.lane.role = s.lane.role) ∧
  (∀ (sid : BitVec 16) (g : Fin 3) (s : State), Authorised s sid 0x010020 (16 * g.val + 1) 2 →
    (s.crt.bistWait = true ∨ s.crt.test.isSome = true) → Answers (.bistRequest sid g) s fun t =>
      t = { s.useToken sid.toNat with crt.bist := .refused }) ∧
  (∀ s : State, s.bistper ≠ 0 → s.crtRuns = true → s.img.isSome = true → s.crt.bistWait = false → s.crt.test = none →
    s.lane.st = .run →
    Answers .bistperExpire s fun t => t = { s.advance (s.crt.bistAt + s.bistper * 3600000000000) with
      crt.bistAt := max s.pins.now (s.crt.bistAt + s.bistper * 3600000000000), crt.bist := .waiting, crt.bistWait := true,
      crt.bistGrp := s.crt.bistNext, crt.bistNext := (s.crt.bistNext + 1) % 3 }) ∧
  (∀ (n : Nat) (s : State), s.crt.bistWait = true → s.crt.test = none → s.voting = true → s.commitNow = some n →
    n % 3 = s.lid →
    (s.setNodes.all fun k => match s.heard (n * s.cycL + s.cycC - 1) k with
      | some h => hPlanned h | none => false) = true →
    Answers .plannedBistStart s fun t => t.lane.role = .excluded ∧ t.lane.planned = true ∧ t.lane.driving = false ∧
      t.crt.bist = .running ∧ ∃ x, t.crt.test = some x ∧ x.planned = true ∧ x.unit = groupUnit s.crt.bistGrp ∧
        x.startAt = s.pins.now + 10)

/-- A soft reset of a block is accepted in the states of R560 and ends after its comparison (R561); REC keeps its buffer and its
memory. A gate that is closed makes its block answer ABSENT until it is closed; in PROVE and RUN the gates of the vital blocks
stay open (R557, R558). -/
def Obligations.SoftResetsAndGates : Prop :=
  (∀ (sid : BitVec 16) (k : BitVec 4) (s : State), Authorised s sid 0x010010 k.toNat 3 →
    (s.srstState k.toNat = true → s.crt.gate.getLsbD k.toNat = true → s.crt.inReset = 0 → s.crt.stuck = 0 →
      Answers (.softReset sid k) s fun t => t.crt.srst = .running ∧ t.crt.srstBlk = k.toNat ∧
        t.crt.inReset.getLsbD k.toNat = true ∧ t.blockLive k.toNat = false ∧ t.rcd.pages = s.rcd.pages ∧ t.img = s.img ∧
        (k = 6 → t.vio.vout = [] ∧ t.vio.vin = []) ∧ (k = 7 → t.lmp = Lmp.reset)) ∧
    (s.srstState k.toNat = false → Answers (.softReset sid k) s fun t =>
      t = { s.useToken sid.toNat with crt.srst := .refused })) ∧
  (∀ (k : Nat) (s : State), s.srstNext = some k → s.crt.srst = .running → s.crt.srstBlk = k → s.crt.clken.getLsbD k = true →
    (Answers (.softResetDone true) s fun t => t.crt.srst = .completed ∧ t.crt.inReset.getLsbD k = false ∧
      t.crt.evt.getLsbD 4 = true ∧ t.lane.role = s.lane.role) ∧
    (Answers (.softResetDone false) s fun t => t.crt.srst = .failed ∧ t.crt.stuck.getLsbD k = true ∧
      t.crt.inReset = s.crt.inReset ∧ (s.voting = true → t.lane.role = .excluded))) ∧
  (∀ (sid : BitVec 16) (v : Word) (k : Nat) (s : State), Authorised s sid 0x010004 v.toNat 3 → 3 ≤ k → k ≤ 12 →
    (v.getLsbD k = false → s.crt.clken.getLsbD k = true → s.crt.inReset.getLsbD k = false → s.lane.st = .stop →
      Answers (.gateCloseWrite sid v) s fun t => t.crt.clken.getLsbD k = false ∧ t.crt.closing.getLsbD k = true ∧
        t.blockLive k = false ∧ t.lane.st = .stop) ∧
    (k ∈ [3, 5, 6, 7, 9] → s.crt.clken.getLsbD k = true → (s.lane.st = .run ∨ s.lane.st = .prove) →
      Answers (.gateCloseWrite sid v) s fun t => t.crt.clken.getLsbD k = true) ∧
    (v.getLsbD k = true → s.crt.clken.getLsbD k = false → s.crt.inReset.getLsbD k = false →
      Answers (.gateOpenWrite sid v) s fun t => t.crt.clken.getLsbD k = true ∧ t.crt.gate.getLsbD k = true ∧
        t.crt.inReset.getLsbD k = true)) ∧
  (∀ (k : Fin 13) (s : State), s.crt.closing.getLsbD k.val = true →
    Answers (.gateClosed k) s fun t => t.crt.closing.getLsbD k.val = false ∧ t.crt.gate.getLsbD k.val = false ∧
      t.lane = s.lane ∧ t.rcd = s.rcd)

/-! ### Maintenance access -/

/-- OPEN draws a challenge into the session's copy where its level is permitted and its path is not locked out; on FMP it takes
a free session of its source (R596). A right response opens the session at the level asked for, with TCNT 1; a wrong one ends
the exchange and locks the path out; one later than 10 s ends the exchange. A challenge expires after 10 s, a lock-out after 1 s
or 60 s, a token after 1 s (R596, R598). A session ends at CLOSE and after 100 ms on MAP or 10 s on FMP without a request
(R597): its update lock and its freeze go with it. TOKHI presents the token, and TCNT rises. The instant to which the clock
moves is the model's (log entry 10). That an event whose conditions do not hold changes nothing is the model's (log entry 9). -/
def Obligations.Sessions : Prop :=
  (∀ (level : BitVec 4) (s : State) (x : Session), s.supServes = true → s.session 0 = some x →
    (s.levelAllowed level.toNat = true → s.lockedOut 0 = false → Answers (.sessionOpen none level) s fun t =>
      t.sup.drawn = s.sup.drawn + 1 ∧ ∃ y, t.session 0 = some y ∧ y.st = .challenged ∧ y.reqLevel = level.toNat ∧
        y.chal = Config.challenge s.sup.drawn ∧ y.chalAt = s.pins.now ∧ y.tok = none) ∧
    ((s.levelAllowed level.toNat = false ∨ s.lockedOut 0 = true) → Answers (.sessionOpen none level) s fun t =>
      ∃ y, t.session 0 = some y ∧ y.st = .none)) ∧
  (∀ (p : Peer) (level : BitVec 4) (s : State), s.fmpReach p.port.val = true →
    (s.fmpOpens p level.toNat = true → s.session s.freeSession = none → Answers (.sessionOpen (some p) level) s fun t =>
      t.lane = s.lane ∧ ∃ y, t.session s.freeSession = some y ∧ y.src = some p ∧ y.st = .challenged ∧ y.reqLevel = level.toNat ∧
        y.chal = Config.challenge s.sup.drawn ∧ y.chalAt = s.pins.now) ∧
    (s.fmpOpens p level.toNat = false → Answers (.sessionOpen (some p) level) s fun t => t = s)) ∧
  (∀ (sid : BitVec 16) (hi : Word) (x : Session) (s : State), TablesWf s → s.supServes = true → s.session sid.toNat = some x →
    x.st = .challenged →
    (s.pins.now ≤ x.chalAt + 10000000000 → s.respRight x (hi ++ x.respLo) = true →
      Answers (.responseSubmit sid hi) s fun t =>
        (tabGet path0 x.path t.sup.paths).failures = 0 ∧ (tabGet path0 x.path t.sup.paths).locked = false ∧
        ∃ y, t.session sid.toNat = some y ∧ y.st = .opened ∧ y.level = x.reqLevel ∧ y.tcnt = 1 ∧ y.tok = none ∧ y.src = x.src) ∧
    (s.pins.now ≤ x.chalAt + 10000000000 → s.respRight x (hi ++ x.respLo) = false →
      Answers (.responseSubmit sid hi) s fun t =>
        (tabGet path0 x.path t.sup.paths).failures = (tabGet path0 x.path s.sup.paths).failures + 1 ∧
        (tabGet path0 x.path t.sup.paths).locked = true ∧ (tabGet path0 x.path t.sup.paths).since = s.pins.now ∧
        ∀ y, t.session sid.toNat = some y → y.st = .none) ∧
    (x.chalAt + 10000000000 < s.pins.now → Answers (.responseSubmit sid hi) s fun t =>
      t.sup.paths = s.sup.paths ∧ t.lane = s.lane ∧ ∀ y, t.session sid.toNat = some y → y.st = .none)) ∧
  (∀ (sid : BitVec 16) (x : Session) (s : State), s.session sid.toNat = some x → x.st = .challenged →
    Answers (.challengeExpire sid) s fun t => t.pins.now = max s.pins.now (x.chalAt + 10000000000) ∧ t.lane = s.lane ∧
      t.sup.paths = s.sup.paths ∧ ∀ y, t.session sid.toNat = some y → y.st = .none) ∧
  (∀ (k : Fin 3) (s : State), TablesWf s → (tabGet path0 k.val s.sup.paths).locked = true →
    Answers (.lockoutExpire k) s fun t => (tabGet path0 k.val t.sup.paths).locked = false ∧ t.lane = s.lane ∧
      (tabGet path0 k.val t.sup.paths).failures = (tabGet path0 k.val s.sup.paths).failures ∧
      t.pins.now = max s.pins.now ((tabGet path0 k.val s.sup.paths).since +
        if 8 ≤ (tabGet path0 k.val s.sup.paths).failures then 60000000000 else 1000000000)) ∧
  (∀ (sid : BitVec 16) (x : Session) (s : State), s.session sid.toNat = some x → x.st = .opened →
    (s.supServes = true → Answers (.close sid) s fun t =>
      (∀ y, t.session sid.toNat = some y → y.st = .none) ∧ t.upd.lock ≠ some sid.toNat ∧
      (s.rcd.frozen = true → s.rcd.frzSess = sid.toNat → t.rcd.frozen = false) ∧ t.lane.role = s.lane.role ∧ t.img = s.img) ∧
    (Answers (.sessionTimeout sid) s fun t =>
      (∀ y, t.session sid.toNat = some y → y.st = .none) ∧ t.upd.lock ≠ some sid.toNat ∧ t.lane.attn.getLsbD 6 = true ∧
      (s.rcd.frozen = true → s.rcd.frzSess = sid.toNat → t.rcd.frozen = false) ∧ t.lane.role = s.lane.role ∧ t.img = s.img ∧
      t.pins.now = max s.pins.now (x.lastAt + if x.src.isSome then 10000000000 else 100000000)) ∧
    (∀ hi : Word, s.supServes = true → Answers (.tokenPresent sid hi) s fun t => t.lane = s.lane ∧
      ∃ y, t.session sid.toNat = some y ∧ y.tok = some { value := hi ++ x.tokLo, tcnt := x.tcnt, at_ := s.pins.now } ∧
        y.tcnt = (x.tcnt + 1) % 4294967296 ∧ y.level = x.level)) ∧
  (∀ (sid : BitVec 16) (x : Session) (k : TokenArm) (s : State), s.session sid.toNat = some x → x.tok = some k →
    Answers (.tokenExpire sid) s fun t => t.pins.now = max s.pins.now (k.at_ + 1000000000) ∧ t.lane = s.lane ∧
      ∃ y, t.session sid.toNat = some y ∧ y = { x with tok := none })

/-- A write of a register by its address is the command that the register carries (R601, R604, R513): every command of a session
that names such a write, and the exchange of R596 over SESSCMD and RESPHI. Writes to other registers (R4, R6, R599): a flag of
an event register clears where a 1 is written, an RW register of a block takes the value, a read-only one and an address that is
no multiple of 4 change nothing of the lane. A write to a CMD register without an open session of its level, a token of this
very write, or a block that answers, has no effect on the lane: it consumes the token, and a block that is ABSENT is reported in
CRT.EVT (R4, R598, R562). That an event whose conditions do not hold changes nothing is the model's (log entry 9). -/
def Obligations.RegistersWritten : Prop :=
  (∀ (i : Instr) (sid : BitVec 16) (a : BitVec 24) (v : Word) (s : State), asWrite i = some (sid, a, v) →
    exec (.registerWrite sid a v) s = exec i s) ∧
  (∀ (level : BitVec 4) (s : State),
    exec (.registerWrite 0 0x40 (BitVec.ofNat 32 (256 * level.toNat + 1))) s = exec (.sessionOpen none level) s) ∧
  (∀ (sid : BitVec 16) (hi : Word) (s : State), exec (.registerWrite sid 0x58 hi) s = exec (.responseSubmit sid hi) s) ∧
  (∀ (sid : BitVec 16) (v : Word) (s : State),
    (MayWrite s sid 0x01000C 2 → Answers (.registerWrite sid 0x01000C v) s fun t =>
      t = { TokenSpent s sid with crt.evt := s.crt.evt &&& ~~~(v.setWidth _) }) ∧
    (MayWrite s sid 0x030008 2 → Answers (.registerWrite sid 0x030008 v) s fun t =>
      t = { TokenSpent s sid with tae.evt := s.tae.evt &&& ~~~(v.setWidth _) }) ∧
    (MayWrite s sid 0x040008 2 → Answers (.registerWrite sid 0x040008 v) s fun t =>
      t = { TokenSpent s sid with lge.evt := s.lge.evt &&& ~~~(v.setWidth _) }) ∧
    (MayWrite s sid 0x090050 2 → Answers (.registerWrite sid 0x090050 v) s fun t =>
      t = { TokenSpent s sid with lnb.sevt := s.lnb.sevt &&& ~~~(v.setWidth _) }) ∧
    (MayWrite s sid 0x0C0008 2 → Answers (.registerWrite sid 0x0C0008 v) s fun t =>
      t = { TokenSpent s sid with rcd.evt := s.rcd.evt &&& ~~~(v.setWidth _) }) ∧
    (MayWrite s sid 0x030028 2 → Answers (.registerWrite sid 0x030028 v) s fun t =>
      t = { TokenSpent s sid with tae.wsetlo := v }) ∧
    (MayWrite s sid 0x0D0040 2 → Answers (.registerWrite sid 0x0D0040 v) s fun t =>
      t = { TokenSpent s sid with upd.olsym := v }) ∧
    (MayWrite s sid 0x0D0050 2 → Answers (.registerWrite sid 0x0D0050 v) s fun t =>
      t = { TokenSpent s sid with upd.faddr := v.toNat % 1048576 }) ∧
    (s.supServes = true → Answers (.registerWrite sid 0x04 v) s fun t => t = TokenSpent s sid) ∧
    (s.supServes = false → Answers (.registerWrite sid 0x04 v) s fun t => t = s)) ∧
  (∀ (v : Word) (s : State), MayWrite s 0 0x10 1 → Answers (.registerWrite 0 0x10 v) s fun t =>
    t = { TokenSpent s 0 with lane.attn := s.lane.attn &&& ~~~((v &&& 0x7E).setWidth _) }) ∧
  (∀ (sid : BitVec 16) (a : BitVec 24) (v : Word) (s : State), a.toNat % 4 ≠ 0 →
    Answers (.registerWrite sid a v) s fun t => t = s) ∧
  (∀ (i : Instr) (sid : BitVec 16) (a : BitVec 24) (v : Word) (l : Nat) (s : State), asWrite i = some (sid, a, v) →
    cmdLevel a.toNat v.toNat = some l → ¬ Authorised s sid a.toNat v.toNat l →
    Answers i s fun t =>
      { t with sup.sessions := s.sup.sessions, crt.evt := s.crt.evt, lane.attn := s.lane.attn } = s ∧
      (t.sup.sessions = s.sup.sessions ∨ t.sup = (TokenSpent s sid).sup))

/-- A request on MAP (R586 to R589): with a wrong CRC it is answered 0x81 and does nothing else; a read of one register is
answered 0x80 with its value, or 0x83 outside GLB without Observer; a write of one register is answered 0x83 without its level,
0x84 without its token, and is executed and answered 0x80 otherwise. The CRC-8 of a request is that of its polynomial over the
bits, most significant first (R586). That an event whose conditions do not hold changes nothing is the model's (log entry 9). -/
def Obligations.MapRequests : Prop :=
  (∀ bs : List Byte, crc8 bs = (bs.flatMap fun b => (List.range 8).map fun i => b.getLsbD (7 - i)).foldl
    (fun (r : Byte) b => if xor (r.getLsbD 7) b then (r <<< 1) ^^^ 0x07#8 else r <<< 1) 0x00#8) ∧
  (∀ (bytes : List Byte) (s : State), s.supServes = true → mapLen (bytes.headD 0).toNat ≤ bytes.length →
    crc8 (bytes.take (mapLen (bytes.headD 0).toNat - 1)) ≠ bytes.getD (mapLen (bytes.headD 0).toNat - 1) 0 →
    Answers (.mapRequest bytes) s fun t => t = s.send (.map [0x81#8, crc8 [0x81#8]])) ∧
  (∀ (bytes : List Byte) (s : State), (s.supServes = false ∨ bytes.length < mapLen (bytes.headD 0).toNat) →
    Answers (.mapRequest bytes) s fun t => t = s) ∧
  (∀ (a : BitVec 24) (x : Session) (s : State), s.supServes = true → s.session 0 = some x → a.toNat % 4 = 0 →
    ((a.toNat < 0x10000 ∨ x.holds 1 = true) → s.absent a.toNat = false →
      Answers (.mapRequest (mapBytes 0 a [])) s fun t => t.lane = s.lane ∧ ∃ r, t.pins.sent = .map (r ++ [crc8 r]) :: s.pins.sent ∧
        r = 0x80#8 :: beBytes 4 ((Active s 0).readReg { x with lastAt := s.pins.now } a.toNat).toNat) ∧
    (0x10000 ≤ a.toNat → x.holds 1 = false → Answers (.mapRequest (mapBytes 0 a [])) s fun t =>
      t = (Active s 0).send (.map [0x83#8, crc8 [0x83#8]]))) ∧
  (∀ (a : BitVec 24) (v : Word) (x : Session) (s : State), s.supServes = true → s.session 0 = some x → a.toNat % 4 = 0 →
    ((writeNeed 0 a.toNat v.toNat).met x = false → Answers (.mapRequest (mapBytes 0x40 a (beBytes 4 v.toNat))) s fun t =>
      t = (TokenSpent (Active s 0) 0).send (.map [0x83#8, crc8 [0x83#8]])) ∧
    (∀ l, writeNeed 0 a.toNat v.toNat = .cmd l → x.holds l = true → s.tokenOk x a.toNat v.toNat = false →
      Answers (.mapRequest (mapBytes 0x40 a (beBytes 4 v.toNat))) s fun t =>
        t = (TokenSpent (Active s 0) 0).send (.map [0x84#8, crc8 [0x84#8]])) ∧
    ((writeNeed 0 a.toNat v.toNat).met x = true → (∀ l, writeNeed 0 a.toNat v.toNat = .cmd l → s.tokenOk x a.toNat v.toNat = true) →
      s.absent a.toNat = false → s.gated a.toNat = false →
      Answers (.mapRequest (mapBytes 0x40 a (beBytes 4 v.toNat))) s fun t =>
        t = ((TokenSpent (Active s 0) 0).regWrite 0 a.toNat v).send (.map [0x80#8, crc8 [0x80#8]])))

/-- A datagram on FMP (R591 to R593): dropped where the port does not serve, at its limit of 1,000 in a second, in a wrong form,
from another source or with a wrong TAG; in an open session the next SEQ is executed and its response kept, the last SEQ gets
the kept response again. That an event whose conditions do not hold changes nothing is the model's (log entry 9). -/
def Obligations.FmpDatagrams : Prop :=
  (∀ (p : Peer) (bytes : List Byte) (s : State), (s.fmpReach p.port.val = false ∨ s.fmpFull p.port.val = true) →
    Answers (.fmpDatagram p bytes) s fun t => t = s) ∧
  (∀ (p : Peer) (bytes : List Byte) (s : State), s.fmpReach p.port.val = true → s.fmpFull p.port.val = false →
    (bytes.length ≠ fmpLen (beNat (slice 8 1 bytes)) ∨ slice 0 2 bytes ≠ [0x01#8, 0x01#8]) →
    Answers (.fmpDatagram p bytes) s fun t => t = s.fmpTaken p.port.val) ∧
  (∀ (p : Peer) (bytes : List Byte) (x : Session) (s : State), s.fmpReach p.port.val = true → s.fmpFull p.port.val = false →
    beNat (slice 2 2 bytes) ≠ 0 → s.session (beNat (slice 2 2 bytes)) = some x →
    (x.src ≠ some p ∨ (x.st = .opened ∧ bytes.drop (bytes.length - 8) ≠ fmpTag x (bytes.take (bytes.length - 8)))) →
    Answers (.fmpDatagram p bytes) s fun t => t = s.fmpTaken p.port.val) ∧
  (∀ (p : Peer) (x : Session) (seq : Word) (a : BitVec 24) (s : State), s.fmpReach p.port.val = true →
    s.fmpFull p.port.val = false → s.session x.num = some x → x.num ≠ 0 → x.num < 65536 → x.src = some p → x.st = .opened →
    (seq.toNat = (x.seq + 1) % 4294967296 → a.toNat % 4 = 0 → s.absent a.toNat = false →
      (a.toNat < 0x10000 ∨ x.holds 1 = true) →
      Answers (.fmpDatagram p (fmpRequest x seq 0 a [])) s fun t => t.lane = s.lane ∧
        ∃ b y w, t.pins.sent = .fmp p b :: s.pins.sent ∧ t.session x.num = some y ∧ y.seq = seq.toNat ∧ y.cached = b ∧
          b = fmpBody x.num seq.toNat 0x80 a.toNat [w] ++ fmpTag x (fmpBody x.num seq.toNat 0x80 a.toNat [w])) ∧
    (seq.toNat = x.seq → x.cached ≠ [] → x.seq < 4294967296 →
      Answers (.fmpDatagram p (fmpRequest x seq 0 a [])) s fun t => t = (s.fmpTaken p.port.val).send (.fmp p x.cached)) ∧
    (seq.toNat ≠ (x.seq + 1) % 4294967296 → seq.toNat ≠ x.seq →
      Answers (.fmpDatagram p (fmpRequest x seq 0 a [])) s fun t => t = s.fmpTaken p.port.val))

/-! ### The whole machine -/

/-- After reset (R559, R564, R606 and the reset columns of the register tables): the lane is in OFF without a fault, its
registers read zero or their reset values, and the invariants below hold. -/
def Obligations.ResetValues : Prop :=
  State.reset.lane.st = .off ∧ State.reset.lane.safeLatch = false ∧ State.reset.lane.sfault = 0 ∧
  State.reset.lane.attnSev = 4 ∧ State.reset.lane.attnEn = 1 ∧ State.reset.crt.gate = 0x1FFE ∧
  State.reset.crt.clken = 0x1FFE ∧ State.reset.grd.gmode = .notLoaded ∧ State.reset.img = none ∧ State.reset.pending = [] ∧
  State.reset.lge.rep0 = Replica.reset ∧ State.reset.lge.rep1 = Replica.reset ∧ State.reset.lane.driving = false ∧
  LaneRules State.reset ∧ RateRules State.reset ∧ TablesWf State.reset ∧ ReplicasWf State.reset

/-- Every step keeps the rules of the lane state: the SAFE latch and SAFE go together, a role other than HOLDING exists in RUN
only, and only a lane in RUN with the role HOLDING drives (R15, R34, R606). Under these rules a powered lane with the SAFE latch
set shows SAFE on its balls: SAFE_N low, code 0xA on STAT3:0, static low on XOUT, VOUT and LDRV, and MAP_IRQ high where its
enable is set (R37, R38, R602, R603); and wherever a VOUT or an LDRV is high, SAFE_N is high. -/
def Obligations.EveryStepKeepsLaneRules : Prop :=
  (∀ s t : State, LaneRules s → step s = .next t → LaneRules t) ∧
  (∀ s : State, LaneRules s → s.lane.safeLatch = true → s.pins.powered = true →
    s.safeBall = some false ∧ s.statBalls = some 0xA ∧ s.xoutBall 0 = some false ∧ s.xoutBall 1 = some false ∧
    ∀ n : Nat, s.voutBall n = some false ∧ s.ldrvBall n = some false) ∧
  (∀ s : State, LaneRules s → s.lane.safeLatch = true → s.pins.powered = true → s.lane.attnEn.getLsbD 0 = true →
    s.mapIrq = some true) ∧
  (∀ (n : Nat) (s : State), (s.voutBall n = some true ∨ s.ldrvBall n = some true) → s.safeBall = some true)

/-- Every step keeps the canonical form of the tables of channels, nodes, ports, connections, controllers, queue entries, paths
and staged words: an entry reads as it was last written. Every step keeps the canonical form of both replicas of the state
image, but for the LOAD_END that installs another image. -/
def Obligations.EveryStepKeepsTheCanonicalForm : Prop :=
  (∀ s t : State, TablesWf s → step s = .next t → TablesWf t) ∧
  (∀ s t : State, ReplicasWf s → (∀ st rest, s.pending ≠ .loadEnd st :: rest) → step s = .next t → ReplicasWf t)

/-- The frame of each family (what its commands leave as it is when they complete): an instruction of the program leaves the
outputs, the lamps, the measurement, the buses, the time and the sessions; a frame of the lane bus the field, the cabinet, the
image and the sessions; the field ports, the cabinet bus, the samples, the lamp events, the vital events, the recorder and the
supply angle leave the units that are not their own. Where a fault takes the lane out of the vote, its waves end with it (R15).
-/
def Obligations.FamilyFrames : Prop :=
  ∀ (i : Instr) (s t : State), exec i s = .next t →
    (familyOf i = .logic → t.cab = s.cab ∧ t.crt = s.crt ∧ t.fld = s.fld ∧ t.img = s.img ∧ t.inp = s.inp ∧ t.lnb = s.lnb ∧
      t.mea = s.mea ∧ t.sup = s.sup ∧ t.tae = s.tae) ∧
    (familyOf i = .logic → t.lane.role = s.lane.role → t.lmp = s.lmp ∧ t.vio = s.vio) ∧
    (familyOf i = .laneBus → t.cab = s.cab ∧ t.fld = s.fld ∧ t.img = s.img ∧ t.inp = s.inp ∧ t.sup = s.sup) ∧
    (familyOf i = .can → t.fld = s.fld ∧ t.img = s.img ∧ t.inp = s.inp ∧ t.lge = s.lge ∧ t.lmp = s.lmp ∧ t.lnb = s.lnb ∧
      t.mea = s.mea ∧ t.tae = s.tae ∧ t.upd = s.upd ∧ t.vio = s.vio) ∧
    (familyOf i = .field → t.cab = s.cab ∧ t.crt = s.crt ∧ t.img = s.img ∧ t.inp = s.inp ∧ t.lge = s.lge ∧ t.lmp = s.lmp ∧
      t.lnb = s.lnb ∧ t.mea = s.mea ∧ t.sup = s.sup ∧ t.tae = s.tae ∧ t.upd = s.upd ∧ t.vio = s.vio) ∧
    (familyOf i = .measurement → t.cab = s.cab ∧ t.crt = s.crt ∧ t.fld = s.fld ∧ t.img = s.img ∧ t.inp = s.inp ∧
      t.sup = s.sup ∧ t.tae = s.tae) ∧
    (familyOf i = .measurement → t.lane.role = s.lane.role → t.lge = s.lge ∧ t.vio = s.vio) ∧
    (familyOf i = .lamp → t.cab = s.cab ∧ t.crt = s.crt ∧ t.fld = s.fld ∧ t.img = s.img ∧ t.inp = s.inp ∧
      t.mea = s.mea ∧ t.sup = s.sup ∧ t.tae = s.tae) ∧
    (familyOf i = .lamp → t.lane.role = s.lane.role → t.lge = s.lge ∧ t.vio = s.vio) ∧
    (familyOf i = .vital → t.cab = s.cab ∧ t.crt = s.crt ∧ t.fld = s.fld ∧ t.img = s.img ∧ t.inp = s.inp ∧
      t.lnb = s.lnb ∧ t.mea = s.mea ∧ t.sup = s.sup ∧ t.tae = s.tae) ∧
    (familyOf i = .vital → t.lane.role = s.lane.role → t.grd = s.grd ∧ t.lge = s.lge ∧ t.lmp = s.lmp) ∧
    (familyOf i = .recorder → t.cab = s.cab ∧ t.crt = s.crt ∧ t.fld = s.fld ∧ t.grd = s.grd ∧ t.img = s.img ∧
      t.inp = s.inp ∧ t.lge = s.lge ∧ t.lmp = s.lmp ∧ t.lnb = s.lnb ∧ t.mea = s.mea ∧ t.sup = s.sup ∧ t.tae = s.tae ∧
      t.upd = s.upd ∧ t.vio = s.vio) ∧
    (familyOf i = .angle → t.cab = s.cab ∧ t.crt = s.crt ∧ t.fld = s.fld ∧ t.img = s.img ∧ t.inp = s.inp ∧ t.lge = s.lge ∧
      t.mea = s.mea ∧ t.sup = s.sup ∧ t.upd = s.upd ∧ t.vio = s.vio)

/-! ### Completion

Each command of the table, where the conditions of its rules hold, answers a next state with its own effect. -/

/-- The power, reset, clock, monitor, load and cycle commands complete: where the conditions that the rules set hold, each
answers a next state with its own effect. Named here, with the rule that says what it does: powerOn (R623), lossOfPower (R474),
railBelow (R623), resetNLow (R559), resetNRise (R454), strapResample (R454), amplitudeDetected (R549), validationWindow (R548),
validationAttemptTimeout (R550), validationRetry (R550), pllLock (R549), alignReached (R546), monitorTrip (R554),
referenceSwitch (R551), watchOscMeasure (R547), lockstepMismatch (R556), supWatchdogTimeout (R556), vfuseChange (R622), testEnd
(R566), norBlockRead (R468), loadEnd (R469), refReady (R302), refLost (R303), startCalibrationEnd (R318), logicCycleBoundary
(R53), agreedImageApply (R111), lockoutOutvoted (R224), fallbackOutvoted (R257), provingOutvoted (R291), pfailRise (R627),
railAbove (R623). The instant to which the clock moves is the model's (log entry 10). -/
def Obligations.PowerClockAndLoadComplete : Prop :=
  (∀ (p r : Bool) (s : State), s.pins.powered = false →
    ∃ t, exec (.powerOn p r) s = .next t ∧ t.lane.st = .reset ∧ t.pins.powered = true ∧ t.pins.now = 0) ∧
  (∀ s : State, s.pins.powered = true → ∃ t, exec .lossOfPower s = .next t ∧ t.lane.st = .off ∧ t.pins.powered = false) ∧
  (∀ (r : Rail) (s : State), s.pins.powered = true →
    ∃ t, exec (.railBelow r) s = .next t ∧ t.lane.st = .reset ∧ r ∈ t.pins.lowRails) ∧
  (∀ s : State, s.pins.powered = true → ∃ t, exec .resetNLow s = .next t ∧ t.lane.st = .reset ∧ t.pins.resetN = false) ∧
  (∀ (s0 s1 s2 : BitVec 14) (s : State), s.pins.powered = true → s.pins.resetN = false → s.lane.st = .reset → s.pins.lowRails =
    [] → (s0.getLsbD 11 = true → s.pins.pfailHigh = true) → s0 = s1 → s1 = s2 →
    ∃ t, exec (.resetNRise s0 s1 s2) s = .next t ∧ t.lane.st = .clock ∧ t.lane.strapAcc = true ∧ t.lane.eff = s0) ∧
  (∀ (s0 s1 s2 : BitVec 14) (s : State), s.pins.powered = true → s.pins.resetN = true → s.lane.st = .reset → s.lane.strapAcc =
    false → 1 ≤ s.lane.strapTry → s.lane.strapTry < 16 → s.pins.lowRails = [] → (s0.getLsbD 11 = true → s.pins.pfailHigh = true)
    → s0 = s1 → s1 = s2 →
    ∃ t, exec (.strapResample s0 s1 s2) s = .next t ∧ t.lane.st = .clock ∧ t.lane.strapAcc = true ∧ t.lane.eff = s0) ∧
  (∀ s : State, s.crt.attempt = true → s.crt.amp = false → s.crtRuns = true → s.pins.now ≤ s.crt.attemptAt + 20000000 →
    exec .amplitudeDetected s = .next
      { s with
        crt.amp := true, crt.ampAt := s.pins.now, crt.winGood := 0, crt.winLast := none }) ∧
  (∀ (n : Nat) (s : State), s.crt.attempt = true → s.crt.amp = true → s.crtRuns = true → s.pins.now + 32000 ≤ s.crt.ampAt +
    200000000 →
    ∃ t, exec (.validationWindow n) s = .next t ∧ t.crt.winLast = some n ∧ t.lane = s.lane ∧ t.pins.now = s.pins.now + 32000) ∧
  (∀ s : State, s.crt.attempt = true → s.crtRuns = true →
    ∃ t, exec .validationAttemptTimeout s = .next t ∧ t.crt.attempt = false ∧ t.crt.xval = s.crt.xval ∧ t.lane.st = s.lane.st) ∧
  (∀ s : State, s.crt.attempt = false → s.crt.xval = false → s.crtRuns = true →
    ∃ t, exec .validationRetry s = .next t ∧ t.crt.attempt = true ∧ t.crt.winGood = 0 ∧ t.crt.attemptAt = t.pins.now) ∧
  (∀ (d : Option Nat) (s : State), s.crt.xval = true → s.crtRuns = true → s.lane.st = .clock → s.crt.lock = false →
    ∃ t, exec (.pllLock d) s = .next t ∧ t.lane.st = .test ∧ t.crt.lock = true) ∧
  (∀ (d : Option Nat) (s : State), s.crt.xval = true → s.crtRuns = true → (s.lane.st ≠ .clock ∨ s.crt.lock = true) →
    s.crt.rootLost = true →
    ∃ t, exec (.pllLock d) s = .next t ∧ t.lane.st = s.lane.st ∧ t.crt.lock = true) ∧
  (∀ s : State, s.tae.ctOff.isSome = true → s.crt.align = false → s.crt.lock = true →
    ∃ t, exec .alignReached s = .next t ∧ t.crt.align = true ∧ t.lane.st = s.lane.st) ∧
  (∀ s : State, s.crt.lock = true → s.crtRuns = true → s.crt.xval = true → s.crt.rootsel = false → s.crt.rval = true →
    ∃ t, exec (.monitorTrip .xmon) s = .next t ∧ t.crt.rootsel = true ∧ t.crt.xval = false) ∧
  (∀ s : State, s.crt.lock = true → s.crtRuns = true → s.crt.rval = true → s.crt.rootsel = true → s.crt.xval = true →
    s.lnb.recadm = true →
    ∃ t, exec (.monitorTrip .rmon) s = .next t ∧ t.crt.rootsel = false ∧ t.crt.rval = false) ∧
  (∀ (m : Monitor) (s : State), m ≠ .xmon → m ≠ .rmon → s.crt.lock = true → s.crtRuns = true → s.lane.safeLatch = false →
    ∃ t, exec (.monitorTrip m) s = .next t ∧ HeldSafe t ∧ t.lane.scause = 5) ∧
  (∀ (b : Bool) (s : State), s.crt.lock = true → s.crtRuns = true → s.crt.rootsel = !b → (if b then s.crt.rval else s.crt.xval
    && !s.crt.rval) = true →
    ∃ t, exec (.referenceSwitch b) s = .next t ∧ t.crt.rootsel = b ∧ t.lane.st = s.lane.st) ∧
  (∀ (khz : Nat) (s : State), s.crt.lock = true → s.crtRuns = true →
    ∃ t, exec (.watchOscMeasure khz) s = .next t ∧ t.crt.wosc = min 65535 khz) ∧
  (∀ (k : LockstepKind) (d : Word) (s : State), s.crt.lock = true → s.lane.supHalted = false → s.lane.safeLatch = false →
    ∃ t, exec (.lockstepMismatch k d) s = .next t ∧ HeldSafe t ∧ t.lane.scause = 6) ∧
  (∀ (d : Word) (s : State), s.crt.lock = true → s.lane.supHalted = false → s.lane.safeLatch = false →
    ∃ t, exec (.supWatchdogTimeout d) s = .next t ∧ HeldSafe t ∧ t.lane.scause = 6) ∧
  (∀ (b : Bool) (s : State), exec (.vfuseChange b) s = .next { s with crt.vfuse := b }) ∧
  (∀ (f m l a b : Bool) (s : State), s.lane.st = .test → s.lane.sfault = 0 → f = true → m = true → l = true →
    ∃ t, exec (.testEnd f m l a b) s = .next t ∧ t.lane.st = .load ∧ t.mea.bufon = true) ∧
  (∀ (chip : Chip) (k : Fin 255) (data : List Byte) (h : Header) (s : State), data.length = 65536 → s.lane.st = .load →
    s.lane.sfault = 0 → s.upd.runSlot.isSome = true → (s.nvw = true → chip = .norA) → s.upd.hdr = some h → k.val < h.nblk → 1 ≤
    k.val → s.blockQueued chip k.val = true →
    ∃ t, exec (.norBlockRead chip k data) s = .next t ∧ if (crc32c (data.take 65532)).toNat = leNat (data.drop 65532) ∧
      h.digt[k.val - 1]? = some (Config.sha256 data) then k.val ∈ t.upd.blocksOk else (if chip = .norA then k.val ∈ t.upd.badA
      else k.val ∈ t.upd.badB)) ∧
  (∀ (st : Station) (s : State), s.lane.st = .load → s.lane.sfault = 0 → s.upd.runSlot.isSome = true → s.loadChecks st = .pass →
    s.upd.fromShadow = false →
    ∃ t, exec (.loadEnd st) s = .next t ∧ t.lane.st = .integrate ∧ t.img.isSome = true) ∧
  (∀ s : State, s.mea.bufon = true → s.mea.rdy = false → s.blockLive 8 = true →
    ∃ t, exec .refReady s = .next t ∧ t.mea.rdy = true ∧ t.mea.monok = true) ∧
  (∀ s : State, s.mea.bufon = true → s.mea.rdy = true → s.blockLive 8 = true →
    ∃ t, exec .refLost s = .next t ∧ t.mea.rdy = false ∧ t.mea.refloss = satInc 255 s.mea.refloss) ∧
  (∀ (r : CalResult) (s : State), TablesWf s → s.mea.rdy = true → s.mea.calDone = false → s.blockLive 8 = true → calPass r.off
    r.gain = true →
    ∃ t, exec (.startCalibrationEnd [r]) s = .next t ∧ t.mea.calDone = true ∧ (t.meaOf r.chan.val).off = r.off) ∧
  (∀ (n : Nat) (s : State), s.hasCt = true → s.ct ≤ n * s.logicNs → s.lane.st = .run → s.lane.holdPend = false →
    ∃ t, exec (.logicCycleBoundary n) s = .next t ∧ t.tae.phase = 1 ∧ t.inp.t0 = n * s.logicNs ∧ t.tae.cycnum = n % 4294967296) ∧
  (∀ s : State, s.hasCt = true → s.beforeScan = true → s.lge.scan = false → s.blockLive 4 = true → s.crt.test = none →
    ∃ t, exec .agreedImageApply s = .next t ∧ t.lge.scan = true ∧ t.lge.pc = 0) ∧
  (∀ (n : Fin 32) (s : State), s.voting = true → 3 ≤ (s.vout n.val).outvoted →
    ∃ t, exec (.lockoutOutvoted n) s = .next t ∧ t.lane.role = .excluded ∧ t.lane.implicated = some .io) ∧
  (∀ (g : Fin 16) (s : State), s.voting = true → 3 ≤ (s.group g.val).outvoted →
    ∃ t, exec (.fallbackOutvoted g) s = .next t ∧ t.lane.role = .excluded ∧ t.lane.implicated = some .io) ∧
  (∀ (ch : Fin 32) (k : Fin 4) (s : State), s.voting = true → 8 ≤ (s.lamp ch.val).mis.getD k.val 0 →
    ∃ t, exec (.provingOutvoted ch k) s = .next t ∧ t.lane.role = .excluded ∧ t.lane.implicated = some .io) ∧
  (∀ s : State, s.pins.powered = true → exec .pfailRise s = .next { s with pins.pfailHigh := true }) ∧
  (∀ (r : Rail) (s : State), s.pins.powered = true →
    ∃ t, exec (.railAbove r) s = .next t ∧ r ∉ t.pins.lowRails ∧ (∀ x, x ≠ r → (x ∈ t.pins.lowRails ↔ x ∈ s.pins.lowRails)))

/-- The instructions of the program and the ends of region and scan complete: where the conditions that the rules set hold, each
answers a next state with its own effect. Named here, with the rule that says what it does: ld (R149), ldc (R149), andOpen
(R152), andOpenNoOperand (R152), blockClose (R152), st (R156), set (R156), rst (R156), ton (R159), tof (R160), ldte (R161), ldtr
(R161), edgr (R162), edgf (R162), ldeq (R163), ldne (R163), ldlt (R163), ldle (R163), ldgt (R163), ldge (R163), wstk (R164), khi
(R146), fence (R165), endScan (R165), reservedOpcode (R150), regionDrainEnd (R118), scanEnd (R121). -/
def Obligations.ProgramInstructionsComplete : Prop :=
  (∀ (n : Bool) (a : BitVec 20) (s : State), LogicReady s → cellKind a.toNat = some .bit → s.lge.rung0.stack = [] →
    exec (.ld .none true n .load a) s =
      .next (RungNext s (rungWith (some (xor (readBit s.station a.toNat (Operand s a.toNat)) n)) []))) ∧
  (∀ (x n : Bool) (m : Combine) (a : BitVec 20) (s : State), LogicReady s → cellKind a.toNat = some .bit →
    s.lge.rung0.acc = some x → exec (.ld .none false n m a) s =
      .next (RungNext s (rungWith (some (combined m x (xor (readBit s.station a.toNat (Operand s a.toNat)) n)))
        s.lge.rung0.stack))) ∧
  (∀ (rs n : Bool) (s : State), LogicReady s → (rs = true → s.lge.rung0.stack = []) →
    exec (.ldc .none rs n) s = .next (RungNext s (rungWith (some !n) s.lge.rung0.stack))) ∧
  (∀ (n x : Bool) (op : BlockOp) (a : BitVec 20) (s : State), LogicReady s → cellKind a.toNat = some .bit → s.lge.rung0.acc =
    some x → s.lge.rung0.stack.length < 16 →
    exec (.andOpen .none n op a) s = .next (RungNext s (rungWith (some (xor (readBit s.station a.toNat (Operand s a.toNat)) n))
      ({ saved := some x, op := op } :: s.lge.rung0.stack)))) ∧
  (∀ (x : Bool) (op : BlockOp) (s : State), LogicReady s → s.lge.rung0.acc = some x → s.lge.rung0.stack.length < 16 →
    exec (.andOpenNoOperand .none op) s = .next (RungNext s (rungWith none ({ saved := some x, op := op } ::
      s.lge.rung0.stack)))) ∧
  (∀ (n x y : Bool) (op : BlockOp) (l : List BlockEntry) (s : State), LogicReady s → s.lge.rung0.acc = some x →
    s.lge.rung0.stack = { saved := some y, op := op } :: l →
    exec (.blockClose .none n) s = .next (RungNext s (rungWith (some
      (match op with | .and => y && xor x n | .or => y || xor x n)) l))) ∧
  (∀ (n x : Bool) (a : BitVec 20) (s : State), LogicReady s → bufCount s.lge.buf0 < 1536 → cellKind a.toNat = some .bit →
    s.lge.rung0.acc = some x → storable s.station a.toNat = true →
    exec (.st .none n a) s = .next (RungStores s { s.lge.rung0 with prefixKH := none } a.toNat (.bit (xor x n) true))) ∧
  (∀ (a : BitVec 20) (s : State), LogicReady s → bufCount s.lge.buf0 < 1536 → cellKind a.toNat = some .bit → storable s.station
    a.toNat = true → s.lge.rung0.acc = some true →
    exec (.set .none a) s = .next (RungStores s { s.lge.rung0 with prefixKH := none } a.toNat (.bit true true))) ∧
  (∀ (a : BitVec 20) (s : State), LogicReady s → bufCount s.lge.buf0 < 1536 → cellKind a.toNat = some .bit → storable s.station
    a.toNat = true → s.lge.rung0.acc = some true →
    exec (.rst .none a) s = .next (RungStores s { s.lge.rung0 with prefixKH := none } a.toNat (.bit false true))) ∧
  (∀ (x : Bool) (a : BitVec 20) (p : Word) (start : W64) (run q : Bool) (s : State), LogicReady s → bufCount s.lge.buf0 ≤ 1534 →
    cellKind a.toNat = some .timer → storable s.station a.toNat = true → s.lge.rung0.acc = some x → Operand s a.toNat = .timer p
    start run q →
    ∃ t, exec (.ton .none a) s = .next t ∧ t.lge.pc = s.lge.pc + 1 ∧ t.lge.rung0.acc = some (x && run && q && readElapsed
      (t0Cells s.station (Operand s)) (.timer p start run q))) ∧
  (∀ (x : Bool) (a : BitVec 20) (p : Word) (start : W64) (run q : Bool) (s : State), LogicReady s → bufCount s.lge.buf0 ≤ 1534 →
    cellKind a.toNat = some .timer → storable s.station a.toNat = true → s.lge.rung0.acc = some x → Operand s a.toNat = .timer p
    start run q →
    ∃ t, exec (.tof .none a) s = .next t ∧ t.lge.pc = s.lge.pc + 1 ∧ t.lge.rung0.acc = some (x || (run && q && !readElapsed
      (t0Cells s.station (Operand s)) (.timer p start run q)))) ∧
  (∀ (n : Bool) (a : BitVec 20) (s : State), LogicReady s → cellKind a.toNat = some .timer → s.lge.rung0.stack = [] →
    exec (.ldte .none true n .load a) s =
      .next (RungNext s (rungWith (some (xor (readElapsed (t0Cells s.station (Operand s)) (Operand s a.toNat)) n)) []))) ∧
  (∀ (x n : Bool) (m : Combine) (a : BitVec 20) (s : State), LogicReady s → cellKind a.toNat = some .timer →
    s.lge.rung0.acc = some x → exec (.ldte .none false n m a) s =
      .next (RungNext s (rungWith (some (combined m x (xor (readElapsed (t0Cells s.station (Operand s)) (Operand s a.toNat)) n)))
        s.lge.rung0.stack))) ∧
  (∀ (n : Bool) (a : BitVec 20) (s : State), LogicReady s → cellKind a.toNat = some .timer → s.lge.rung0.stack = [] →
    exec (.ldtr .none true n .load a) s =
      .next (RungNext s (rungWith (some (xor (readRunning (Operand s a.toNat)) n)) []))) ∧
  (∀ (x n : Bool) (m : Combine) (a : BitVec 20) (s : State), LogicReady s → cellKind a.toNat = some .timer →
    s.lge.rung0.acc = some x → exec (.ldtr .none false n m a) s =
      .next (RungNext s (rungWith (some (combined m x (xor (readRunning (Operand s a.toNat)) n)))
        s.lge.rung0.stack))) ∧
  (∀ (x m q : Bool) (a : BitVec 20) (s : State), LogicReady s → bufCount s.lge.buf0 < 1536 → cellKind a.toNat = some .edge →
    storable s.station a.toNat = true → s.lge.rung0.acc = some x → Operand s a.toNat = .edge m q →
    exec (.edgr .none a) s = .next (RungStores s (rungWith (some (x && !m && q)) s.lge.rung0.stack) a.toNat (.edge x true))) ∧
  (∀ (x m q : Bool) (a : BitVec 20) (s : State), LogicReady s → bufCount s.lge.buf0 < 1536 → cellKind a.toNat = some .edge →
    storable s.station a.toNat = true → s.lge.rung0.acc = some x → Operand s a.toNat = .edge m q →
    exec (.edgf .none a) s = .next (RungStores s (rungWith (some (!x && m && q)) s.lge.rung0.stack) a.toNat (.edge x true))) ∧
  (∀ (w : BitVec 14) (kl : BitVec 7) (s : State), LogicReady s → wordOk w.toNat = true → s.lge.rung0.stack = [] →
    exec (.ldeq .none true .load w kl) s = .next (RungNext s (rungWith (some (decide (
      (readWord s.station (0x40000 + w.toNat) (Operand s (0x40000 + w.toNat))).toInt =
        (constK s.lge.rung0 kl).toInt))) []))) ∧
  (∀ (x : Bool) (m : Combine) (w : BitVec 14) (kl : BitVec 7) (s : State), LogicReady s → wordOk w.toNat = true →
    s.lge.rung0.acc = some x →
    exec (.ldeq .none false m w kl) s = .next (RungNext s (rungWith (some (combined m x (decide (
      (readWord s.station (0x40000 + w.toNat) (Operand s (0x40000 + w.toNat))).toInt =
        (constK s.lge.rung0 kl).toInt)))) s.lge.rung0.stack))) ∧
  (∀ (w : BitVec 14) (kl : BitVec 7) (s : State), LogicReady s → wordOk w.toNat = true → s.lge.rung0.stack = [] →
    exec (.ldne .none true .load w kl) s = .next (RungNext s (rungWith (some (decide (
      (readWord s.station (0x40000 + w.toNat) (Operand s (0x40000 + w.toNat))).toInt ≠
        (constK s.lge.rung0 kl).toInt))) []))) ∧
  (∀ (x : Bool) (m : Combine) (w : BitVec 14) (kl : BitVec 7) (s : State), LogicReady s → wordOk w.toNat = true →
    s.lge.rung0.acc = some x →
    exec (.ldne .none false m w kl) s = .next (RungNext s (rungWith (some (combined m x (decide (
      (readWord s.station (0x40000 + w.toNat) (Operand s (0x40000 + w.toNat))).toInt ≠
        (constK s.lge.rung0 kl).toInt)))) s.lge.rung0.stack))) ∧
  (∀ (w : BitVec 14) (kl : BitVec 7) (s : State), LogicReady s → wordOk w.toNat = true → s.lge.rung0.stack = [] →
    exec (.ldlt .none true .load w kl) s = .next (RungNext s (rungWith (some (decide (
      (readWord s.station (0x40000 + w.toNat) (Operand s (0x40000 + w.toNat))).toInt <
        (constK s.lge.rung0 kl).toInt))) []))) ∧
  (∀ (x : Bool) (m : Combine) (w : BitVec 14) (kl : BitVec 7) (s : State), LogicReady s → wordOk w.toNat = true →
    s.lge.rung0.acc = some x →
    exec (.ldlt .none false m w kl) s = .next (RungNext s (rungWith (some (combined m x (decide (
      (readWord s.station (0x40000 + w.toNat) (Operand s (0x40000 + w.toNat))).toInt <
        (constK s.lge.rung0 kl).toInt)))) s.lge.rung0.stack))) ∧
  (∀ (w : BitVec 14) (kl : BitVec 7) (s : State), LogicReady s → wordOk w.toNat = true → s.lge.rung0.stack = [] →
    exec (.ldle .none true .load w kl) s = .next (RungNext s (rungWith (some (decide (
      (readWord s.station (0x40000 + w.toNat) (Operand s (0x40000 + w.toNat))).toInt ≤
        (constK s.lge.rung0 kl).toInt))) []))) ∧
  (∀ (x : Bool) (m : Combine) (w : BitVec 14) (kl : BitVec 7) (s : State), LogicReady s → wordOk w.toNat = true →
    s.lge.rung0.acc = some x →
    exec (.ldle .none false m w kl) s = .next (RungNext s (rungWith (some (combined m x (decide (
      (readWord s.station (0x40000 + w.toNat) (Operand s (0x40000 + w.toNat))).toInt ≤
        (constK s.lge.rung0 kl).toInt)))) s.lge.rung0.stack))) ∧
  (∀ (w : BitVec 14) (kl : BitVec 7) (s : State), LogicReady s → wordOk w.toNat = true → s.lge.rung0.stack = [] →
    exec (.ldgt .none true .load w kl) s = .next (RungNext s (rungWith (some (decide (
      (readWord s.station (0x40000 + w.toNat) (Operand s (0x40000 + w.toNat))).toInt >
        (constK s.lge.rung0 kl).toInt))) []))) ∧
  (∀ (x : Bool) (m : Combine) (w : BitVec 14) (kl : BitVec 7) (s : State), LogicReady s → wordOk w.toNat = true →
    s.lge.rung0.acc = some x →
    exec (.ldgt .none false m w kl) s = .next (RungNext s (rungWith (some (combined m x (decide (
      (readWord s.station (0x40000 + w.toNat) (Operand s (0x40000 + w.toNat))).toInt >
        (constK s.lge.rung0 kl).toInt)))) s.lge.rung0.stack))) ∧
  (∀ (w : BitVec 14) (kl : BitVec 7) (s : State), LogicReady s → wordOk w.toNat = true → s.lge.rung0.stack = [] →
    exec (.ldge .none true .load w kl) s = .next (RungNext s (rungWith (some (decide (
      (readWord s.station (0x40000 + w.toNat) (Operand s (0x40000 + w.toNat))).toInt ≥
        (constK s.lge.rung0 kl).toInt))) []))) ∧
  (∀ (x : Bool) (m : Combine) (w : BitVec 14) (kl : BitVec 7) (s : State), LogicReady s → wordOk w.toNat = true →
    s.lge.rung0.acc = some x →
    exec (.ldge .none false m w kl) s = .next (RungNext s (rungWith (some (combined m x (decide (
      (readWord s.station (0x40000 + w.toNat) (Operand s (0x40000 + w.toNat))).toInt ≥
        (constK s.lge.rung0 kl).toInt)))) s.lge.rung0.stack))) ∧
  (∀ (w : BitVec 14) (kl : BitVec 7) (s : State), LogicReady s → bufCount s.lge.buf0 < 1536 → wordOk w.toNat = true → storable
    s.station (0x40000 + w.toNat) = true → s.lge.rung0.acc = some true →
    exec (.wstk .none w kl) s = .next (RungStores s { s.lge.rung0 with prefixKH := none } (0x40000 + w.toNat) (.word (constK
      s.lge.rung0 kl) true))) ∧
  (∀ (kh : BitVec 25) (s : State), LogicReady s →
    exec (.khi .none kh) s = .next (RungNext s { s.lge.rung0 with prefixKH := some kh })) ∧
  (∀ s : State, LogicReady s → s.lge.rung0.stack = [] →
    ∃ t, exec (.fence .none) s = .next t ∧ t.lge.drain = some false ∧ t.lge.pc = s.lge.pc + 1) ∧
  (∀ s : State, LogicReady s → s.lge.rung0.stack = [] →
    ∃ t, exec (.endScan .none) s = .next t ∧ t.lge.drain = some true ∧ t.lge.pc = s.lge.pc + 1) ∧
  (∀ (w : Word) (s : State), s.lgeRuns = true → insDecode w = none →
    ∃ t, exec (.reservedOpcode w) s = .next t ∧ t.lge.scan = false ∧ t.lge.aborted = true) ∧
  (∀ s : State, s.lge.drain = some false → s.lge.split = false →
    ∃ t, exec .regionDrainEnd s = .next t ∧ t.lge.drain = none ∧ t.lge.region = s.lge.region + 1) ∧
  (∀ s : State, s.lge.drain = some true → s.lge.split = false →
    ∃ t, exec .scanEnd s = .next t ∧ t.lge.scan = false ∧ t.lge.candidate = true)

/-- The Guardian, the vote, the switchover, the angle, the slots, the lamps, the measurement, the vital inputs and outputs and
the consents complete: where the conditions that the rules set hold, each answers a next state with its own effect. Named here,
with the rule that says what it does: gatherEnd (R178), guardianPass (R177), guardianStall (R184), tableCrcCheck (R186),
regatherCheck (R186), fallbackExitCommand (R204), outputAgreement (R26), reportLimit (R28), outputCommit (R71), proveComplete
(R477), admission (R32), basicCycleBoundary (R337), peerSilent (R30), automaticSwitchover (R49), switchoverCommit (R49),
switchoverRelease (R49), zeroCrossing (R60), crossingMissing (R61), slewEnd (R61), angleSlotFire (R66), timeSlotFire (R67),
darkPulseEnd (R286), blankingEnd (R280), inrushEnd (R281), fastSample (R304), fineSample (R304), stabilityReset (R301),
rotationStart (R315), rotationPhaseEnd (R315), rotationPathSwitch (R314), rotationCommit (R315), calstale (R320),
vinFilterChange (R206), tpoFrameStart (R207), tpoReadbackFault (R212), voutLiveExpire (R218), voutDriveFault (R219),
vfbFilterChange (R220), monitorBoundElapsed (R221), restartFilteredChange (R227), restartQualified (R41), restartWindowExpire
(R42), lampLiveExpire (R246), lampDriveFault (R246), learnEnd (R293), consentLost (R23), consentPresent (R23), pfailFall (R626).
The instant to which the clock moves is the model's (log entry 10). -/
def Obligations.VoteAndInterfacesComplete : Prop :=
  (∀ s : State, s.lge.candidate = true → s.grdRuns = true → s.lge.split = false → (s.lane.st = .prove ∨ s.lane.st = .run ∨
    s.lane.st = .hold) →
    ∃ t, exec .gatherEnd s = .next t ∧ ∃ g, t = { s with grd.cand := some g, grd.chkok := false }) ∧
  (∀ (k : Nat) (s : State), s.grdRuns = true → (s.advanceCt (1000 * k)).passViolations = [] →
    exec (.guardianPass k .none) s = .next
      { s.advanceCt (1000 * k) with
        grd.passcnt := (s.grd.passcnt + 1) % 4294967296, grd.chkok := s.grd.cand.isSome || s.grd.chkok, grd.decAt :=
        (s.advanceCt (1000 * k)).pins.now + 1064, lnb.outReady := if s.grd.cand.isSome ∧ s.grd.chkok = false then (s.advanceCt
        (1000 * k)).pins.now + 1064 else s.lnb.outReady }) ∧
  (∀ s : State, s.grd.armed = true → s.crt.inReset.getLsbD 5 = false → s.crt.test = none → s.grd.masked = false →
    s.lane.safeLatch = false →
    ∃ t, exec .guardianStall s = .next t ∧ HeldSafe t ∧ t.lane.scause = 1) ∧
  (∀ (l : List (Nat × Word)) (s : State), s.grd.gmode ≠ .notLoaded → s.grdLive = true → grdCrc s.station l = grdTcrc s.station →
    exec (.tableCrcCheck l) s = .next
      { s.advance s.grd.crcAt with
        grd.tcrc := grdTcrc s.station, grd.crcAt := s.grd.crcAt + 100000000 }) ∧
  (∀ s : State, s.grdRuns = true → s.grd.commFrom = true → s.afterCommit = true → gatherImage s.station s.lge.rep1 = s.grd.comm
    →
    exec .regatherCheck s = .next s) ∧
  (∀ s : State, s.grdRuns = true → s.grd.gmode = .checking → s.grd.commFrom = true → s.afterCommit = true → gatherImage
    s.station s.lge.rep1 ≠ s.grd.comm → s.voting = true → (s.checking = true ∨ s.fallbackUnmet ≠ 0) →
    ∃ t, exec .regatherCheck s = .next t ∧ t.lane.role = .excluded ∧ t.lane.implicated = some .grd) ∧
  (∀ (sid : BitVec 16) (s : State), Authorised s sid 0x050034 1 2 → s.grd.gmode = .fallback → s.voting = true →
    ∃ t, exec (.fallbackExitCommand sid) s = .next t ∧ t.grd.fbcmd = .completed ∧ t.lane.role = .excluded) ∧
  (∀ (a b : Nat) (s : State), s.lane.st = .run → s.lane.role = .holding → s.tae.phase = 8 → s.grd.fbExit = none → s.votingPeers
    = [a, b] → s.outputReady = true → s.imageClass a = .equal → s.imageClass b = .equal →
    ∃ t, exec .outputAgreement s = .next t ∧ t.lane.commitOk = true ∧ t.lane.role = .holding) ∧
  (∀ s : State, s.voting = true → 3 ≤ s.lane.reportCnt →
    ∃ t, exec .reportLimit s = .next t ∧ t.lane.role = .excluded ∧ t.lane.reportCnt = 0) ∧
  (∀ (n t0 : Nat) (s : State), s.hasCt = true → s.img.isSome = true → s.lane.st = .run → s.lane.role = .holding → s.commitOf =
    some t0 → t0 + s.cycC * s.basicNs ≠ s.inp.t0 → NoOtherSlot s 256 64 → s.grd.fbExit = none → s.lane.commitOk = true →
    s.yields = false → s.blockLive 6 = true → TablesWf s → n < 32 →
    ∃ t, exec .outputCommit s = .next t ∧ t.grd.comm = s.grd.cand.getD [] ∧ t.grd.cand = none) ∧
  (∀ s : State, s.lane.st = .prove → s.lane.proved = false → s.hasCt = true → s.lane.commitDue = some s.inp.t0 → s.inp.t0 + 10 ≤
    s.ct → (s.lane.joining = true ∨ s.prvcyc ≤ s.lane.proveCnt) →
    exec .proveComplete s = .next { s.advanceCt (s.inp.t0 + s.cycC * s.basicNs) with lane.proved := true }) ∧
  (∀ (n : Nat) (s : State), s.lane.st = .run → s.lane.role = .excluded → s.lane.computing = true → s.confirmCycles ≤
    s.lane.confirmCnt → 2 ≤ s.votingPeers.length → s.setRoleShown ≠ .excluded → s.crt.test = none → s.tae.timev = true →
    TablesWf s → n < 32 →
    ∃ t, exec .admission s = .next t ∧ t.lane.st = .run ∧ t.lane.role = s.setRoleShown) ∧
  (∀ (m d : Nat) (s : State), s.busTime = true → s.blockLive 9 = true → m = s.lnb.m + 1 →
    ∃ t, exec (.basicCycleBoundary m d) s = .next t ∧ t.lnb.m = m ∧ t.lnb.guardOff = decide (10 < d)) ∧
  (∀ (k : Fin 2) (s : State), s.voting = true → 2 ≤ (s.nodeView (s.peer k.val)).silent →
    ∃ t, exec (.peerSilent k) s = .next t ∧ t.lane = (if k = 0 then { s.lane with withdrawn0 := true } else
      { s.lane with withdrawn1 := true })) ∧
  (∀ s : State, s.lane.st = .run → (s.lane.role = .standby ∨ s.lane.role = .shadow) → 2 ≤ s.lane.holdersMissing → s.tenSeconds
    s.lane.ownHealthy = true →
    ∃ t, exec .automaticSwitchover s = .next t ∧ t.lane.role = .holding ∧ t.lane.driving = false) ∧
  (∀ (x : Switch) (n : Nat) (s : State), s.lane.switch = some x → x.cycle = some n → x.committed = false → s.hasCt = true →
    x.program = false → s.voting = true →
    ∃ t, exec .switchoverCommit s = .next t ∧ t.lane.switch = some { x with committed := true, back := false }) ∧
  (∀ (x : Switch) (n : Nat) (s : State), s.lane.switch = some x → x.cycle = some n → x.committed = true → s.hasCt = true →
    s.voting = true → x.back = false →
    ∃ t, exec .switchoverRelease s = .next t ∧ t.lane.switch = none) ∧
  (∀ (ch : Fin 2) (x : Nat) (up : Bool) (c : Crossings) (s : State), s.angleLoops = true → s.crossingOf ch.val = some (x, up) →
    tabGet { ts := [], pos := false } ch.val s.tae.lastX = c → c.ts.headD 0 < x → ch.val ≠ s.refChan →
    ∃ t, exec (.zeroCrossing ch x up) s = .next t ∧ tabGet { ts := [], pos := false } ch.val t.tae.lastX = c.add x up) ∧
  (∀ (ch : Fin 2) (x : Nat) (l : List Nat) (s : State), s.angleLoops = true → ch.val = s.refChan → s.tae.angv = true → (tabGet
    { ts := [], pos := false } ch.val s.tae.lastX).ts = x :: l → s.tae.missX < 3 →
    exec (.crossingMissing ch) s = .next
      { s.advance (s.missingAt x s.tae.missX) with
        tae.goodX := tabSet 0 ch.val 0 s.tae.goodX, tae.missX := s.tae.missX + 1 }) ∧
  (∀ s : State, s.angleLoops = true → s.tae.slew = true → 0 < s.tae.runFreq →
    ∃ t, exec .slewEnd s = .next t ∧ t.tae.slew = false ∧ t.tae.slewLeft = 0) ∧
  (∀ (n : Fin 256) (a : Nat) (s : State), s.aslotOn n.val = true → firedNow s.pins.now n.val s.tae.aFired = false → s.aslotRef
    n.val = false → s.blockLive 7 = true → TablesWf s → NoOtherSlot s n.val 64 → s.ownReach (s.aslotAng n.val) (s.slotFrom n.val
    s.tae.aFired) = a → (s.advance a).commitEdge = false → s.aslotAct n.val = 0x11 →
    ∃ t, exec (.angleSlotFire n) s = .next t ∧ (t.lamp (s.aslotTgt n.val)).window = true) ∧
  (∀ (n : Fin 64) (a : Nat) (s : State), s.tslotOn n.val = true → firedNow s.pins.now n.val s.tae.tFired = false → s.blockLive 7
    = true → bits (s.tslotCtl n.val) 8 8 = 0x11 → TablesWf s → NoOtherSlot s 256 n.val → s.clockAt (nextAt (s.ctAt (s.slotFrom
    n.val s.tae.tFired)) (s.tslotBase n.val) (s.tslotOffset n.val)) = a → (s.advance a).commitEdge = false →
    ∃ t, exec (.timeSlotFire n) s = .next t ∧ (t.lamp (bits (s.tslotCtl n.val) 0 8)).window = true) ∧
  (∀ (ch : Fin 32) (p : Nat) (s : State), TablesWf s → (s.lamp ch.val).pulse = some p → (s.lamp ch.val).suspended = false →
    (s.lamp ch.val).pulseHit = true →
    ∃ t, exec (.darkPulseEnd ch) s = .next t ∧ (t.lamp ch.val).dpok = true ∧ (t.lamp ch.val).dpFails = 0) ∧
  (∀ (ch : Fin 32) (e : Nat) (s : State), (s.lamp ch.val).blankTo = some e →
    exec (.blankingEnd ch) s = .next (s.advance (e + 1))) ∧
  (∀ (ch : Fin 32) (e : Nat) (s : State), (s.lamp ch.val).inrushTo = some e → exec (.inrushEnd ch) s = .next (s.advance e)) ∧
  (∀ (ch : Fin 50) (raw : BitVec 17) (x : Nat) (s : State), TablesWf s → s.img.isSome = true → meaEn s.station ch.val = true →
    s.blockLive 8 = true →
    ∃ t, exec (.fastSample ch raw x) s = .next t ∧ (t.meaOf ch.val).fast = max (-32768) (min 32767 ((256 * raw.toInt - (s.coefOf
      ch.val).1) * ((s.coefOf ch.val).2 : Int) / 1073741824)) ∧ (t.meaOf ch.val).fastQ = (s.meaValid ch.val && decide ((s.meaOf
      ch.val).fastFrom ≤ x))) ∧
  (∀ (ch : Fin 50) (raw : BitVec 25) (x : Nat) (s : State), TablesWf s → s.img.isSome = true → meaEn s.station ch.val = true →
    s.blockLive 8 = true →
    ∃ t, exec (.fineSample ch raw x) s = .next t ∧ (t.meaOf ch.val).fine = max (-8388608) (min 8388607 ((raw.toInt - (s.coefOf
      ch.val).1) * ((s.coefOf ch.val).2 : Int) / 4194304)) ∧ (t.meaOf ch.val).fineQ = (s.meaValid ch.val && decide ((s.meaOf
      ch.val).fineFrom ≤ x))) ∧
  (∀ (ch : Fin 50) (s : State), TablesWf s → s.img.isSome = true → meaEn s.station ch.val = true → s.blockLive 8 = true →
    ∃ t, exec (.stabilityReset ch) s = .next t ∧ (t.meaOf ch.val).fastFrom = s.pins.now + 75000 ∧ (t.meaOf ch.val).fineFrom =
      s.pins.now + 14425000) ∧
  (∀ (k : Fin 2) (n : Nat) (c r : Bool) (s : State), meaRoten s.station = true → s.mea.rdy = true → s.mea.calDone = true → (s.si
    k.val).phase = .idle → s.img.isSome = true → s.blockLive 8 = true → s.rotationChan k.val = some (n, c, r) →
    ∃ t, exec (.rotationStart k) s = .next t ∧ (t.si k.val).phase = .selfCal ∧ (t.si k.val).chan = n) ∧
  (∀ (k : Fin 2) (off diff : Int) (gain : Nat) (s : State), TablesWf s → s.blockLive 8 = true → (s.si k.val).switchDue = false →
    (s.si k.val).phase = .selfCal → calPass off gain = true →
    ∃ t, exec (.rotationPhaseEnd k off gain diff) s = .next t ∧ (t.si k.val).phase = .parallel ∧ (t.meaOf (48 + k.val)).off =
      off) ∧
  (∀ (k : Fin 2) (s : State), (s.si k.val).switchDue = true → s.blockLive 8 = true → (s.si k.val).back = false → (s.si
    k.val).phase = .parallel →
    ∃ t, exec (.rotationPathSwitch k) s = .next t ∧ (t.meaOf (s.si k.val).chan).srv = some k ∧ (t.si k.val).phase = .serving) ∧
  (∀ (k : Fin 2) (s : State), TablesWf s → (s.si k.val).switchDue = true → s.blockLive 8 = true → (s.si k.val).back = false →
    (s.si k.val).phase = .returning →
    ∃ t, exec (.rotationCommit k) s = .next t ∧ (t.meaOf (s.si k.val).chan).off = (s.si k.val).newOff ∧ (t.meaOf (s.si
      k.val).chan).gain = (s.si k.val).newGain) ∧
  (∀ (ch : Fin 48) (s : State), s.img.isSome = true → meaEn s.station ch.val = true → s.mea.calDone = true → (s.meaOf
    ch.val).stale = false → s.blockLive 8 = true →
    ∃ t, exec (.calstale ch) s = .next t ∧ (t.meaOf ch.val).stale = true ∧ t.mea.calstale = true) ∧
  (∀ (n : Fin 64) (b : Bool) (x : Nat) (s : State), TablesWf s → s.vio.tpoAct = true → s.vinEn n.val = true → s.blockLive 6 =
    true → (s.vin n.val).filtered = !b →
    ∃ t, exec (.vinFilterChange n ⟨b, x⟩) s = .next t ∧ (t.vin n.val).filtered = b ∧ t.pins.now = max s.pins.now (s.clockAt
      (s.filterAt n.val x))) ∧
  (∀ (obs : List FrameObs) (n : Fin 64) (s : State), TablesWf s → s.tae.timev = true → s.img.isSome = true → s.listener = false
    → s.blockLive 6 = true → s.vinEn n.val = true → s.vio.tpoAct = false →
    ∃ t, exec (.tpoFrameStart s.nextFrame obs) s = .next t ∧ t.vio.tpoAct = true ∧ t.vio.frame = s.nextFrame) ∧
  (∀ (k : Fin 4) (j : Fin 16) (s : State), TablesWf s → s.img.isSome = true → s.blockLive 6 = true → s.vinEn (16 * k.val +
    j.val) = true →
    ∃ t, exec (.tpoReadbackFault k) s = .next t ∧ (t.vin (16 * k.val + j.val)).pat = .fault ∧ t.vio.evt.getLsbD 1 = true) ∧
  (∀ (n : Fin 32) (x e : Nat) (s : State), (s.vout n.val).wave.ball = .asDriven → (s.vout n.val).wave.stop = some x → x ≤
    s.pins.now → (s.vout n.val).wave.lastRise s.pins.now s.voutPhase 100000 = some e →
    exec (.voutLiveExpire n) s = .next (s.advance (e + 120000))) ∧
  (∀ (n : Fin 32) (s : State), TablesWf s → s.img.isSome = true → s.blockLive 6 = true → s.voting = true →
    ∃ t, exec (.voutDriveFault n) s = .next t ∧ t.lane.role = .excluded ∧ t.lane.implicated = some .io) ∧
  (∀ (m n : Fin 32) (b : Bool) (x : Nat) (s : State), s.vio.vfb.getLsbD m.val = !b → s.img.isSome = true → s.blockLive 6 = true
    → s.monEn n.val = true → s.monSel n.val = m.val → (s.vout n.val).mon = .dropped → (b != s.monPol n.val) = true → TablesWf s
    →
    ∃ t, exec (.vfbFilterChange m ⟨b, x⟩) s = .next t ∧ t.vio.vfb = putBit s.vio.vfb m.val b ∧ (t.vout n.val).mon = .locked) ∧
  (∀ (n : Fin 32) (s : State), s.monEn n.val = true → ((s.vout n.val).mon = .picking ∨ (s.vout n.val).mon = .dropping) →
    ∃ t, exec (.monitorBoundElapsed n) s = .next t ∧ (t.vout n.val).mon = .locked ∧ (t.vout n.val).lockout = true) ∧
  (∀ (s0 s1 s2 : BitVec 14) (s : State), s.pins.powered = true → s.pins.restartLvl = false → s.pins.restartQual = true →
    s.lane.window = true → HeldSafe s → s.lane.supHalted = false → s.pins.now ≤ s.lane.windowAt + 60000000000 →
    ∃ t, exec (.restartFilteredChange true s0 s1 s2) s = .next t ∧ t.lane.safeLatch = false ∧ t.lane.window = false) ∧
  (∀ s : State, s.pins.powered = true → s.pins.restartLvl = false → s.pins.restartQual = false →
    ∃ t, exec .restartQualified s = .next t ∧ t.pins.restartQual = true ∧ t.lane = s.lane) ∧
  (∀ s : State, s.lane.window = true →
    ∃ t, exec .restartWindowExpire s = .next t ∧ t.lane.window = false ∧ t.lane.ctl = .failed) ∧
  (∀ (ch : Fin 32) (x e : Nat) (s : State), (s.lamp ch.val).wave.ball = .asDriven → (s.lamp ch.val).wave.stop = some x → x ≤
    s.pins.now → (s.lamp ch.val).wave.lastRise s.pins.now s.lampPhase 20000 = some e →
    exec (.lampLiveExpire ch) s = .next (s.advance (e + 25000))) ∧
  (∀ (ch : Fin 32) (s : State), TablesWf s → s.img.isSome = true → s.blockLive 7 = true → s.voting = true →
    ∃ t, exec (.lampDriveFault ch) s = .next t ∧ t.lane.role = .excluded ∧ t.lane.implicated = some .io) ∧
  (∀ (r : LearnRun) (s : State), s.lmp.learn = some r →
    ∃ t, exec .learnEnd s = .next t ∧ t.lmp.lrn = .completed ∧ t.lmp.learn = none) ∧
  (∀ (k : Fin 2) (s : State), s.pins.powered = true → s.lane.safeLatch = false → s.lane.st = .run → (if k = 0 then s.lane.cons1
    else s.lane.cons0) = false →
    ∃ t, exec (.consentLost k) s = .next t ∧ HeldSafe t ∧ t.lane.scause = 2) ∧
  (∀ (k : Fin 2) (s : State), s.pins.powered = true →
    ∃ t, exec (.consentPresent k) s = .next t ∧ t.lane.cons0 = (decide (k = 0) || s.lane.cons0) ∧ t.lane.cons1 = (decide (k = 1)
      || s.lane.cons1)) ∧
  (∀ s : State, s.pins.powered = true → s.lane.safeLatch = false → s.pfen = true → s.crtRuns = true → s.crt.rootLost = false →
    ∃ t, exec .pfailFall s = .next t ∧ HeldSafe t ∧ t.lane.scause = 4)

/-- The commands of the lane bus, of the field ports and of the CAN controllers complete: where the conditions that the rules
set hold, each answers a next state with its own effect. Named here, with the rule that says what it does: transmitFrame (R341),
arbRoundStart (R343), guardianCutoff (R348), statusFrame (R351), inputFrame (R352), outputFrame (R352), fetchRequest (R353),
fetchReply (R353), mirrorFrame (R354), stateTransferFrame (R31), coldStartFrame (R373), carrierInvalid (R370), listenTimeout
(R370), swarmReadback (R372), waitExpire (R378), clockCorrection (R382), timevRestored (R384), clusterFormed (R377),
attemptFailed (R378), loneNode (R378), integrationCheckPassed (R379), demotion (R386), passiveReturn (R387), syncLost (R385),
singleChannelLimit (R350), recoveredClockAdmitted (R389), recoveredClockRevoked (R389), digestVote (R493), phyPoll (R397),
ethernetFrame (R400), arpRequest (R396), icmpEchoRequest (R396), mimanTelegram (R409), portSingle (R410), canFrameReceived
(R435), canFrameStart (R439), canTxComplete (R439), canAckError (R433), canError (R432), busoffRecovered (R432),
referenceMessageDue (R443). -/
def Obligations.BusCommandsComplete : Prop :=
  (∀ (w : Fin 512) (s : State) (p : PendFrame), MaySend s w → fidUse s.station (winList s.station w.val % 1024) = 4 →
    s.outputReady = true → (AtSlot s w).framePending (winList s.station w.val % 1024) = some p → p.at_ + 2000 ≤ (AtSlot s
    w).pins.now →
    ∃ t, exec (.transmitFrame w) s = .next t ∧ t.pins.sent = sentFrame s (winList s.station w.val % 1024) false false p.payload
      :: s.pins.sent) ∧
  (∀ (w : Fin 512) (s : State) (j : Nat) (p : PendFrame), winEn s.station w.val = true → winArb s.station w.val = true →
    winPresent s.station s.ccl w.val s.lnb.m = true → s.busDrives = true → s.lnb.arbSkip ≠ some w.val → (s.voting = true →
    s.outputReady = true) → (AtRound s w).roundRank w.val = some (j, p) → (AtRound s w).roundRoom w.val j p.payload.length =
    true → p.at_ + 2000 ≤ (AtRound s w).clockAt (s.placeStart w.val 0) →
    ∃ t, exec (.arbRoundStart w (s.roundStart w.val) false) s = .next t ∧ t.pins.sent = sentFrame s p.fid false p.mirror
      p.payload :: s.pins.sent) ∧
  (∀ (f : BitVec 10) (s : State), s.busDrives = true → fidEn s.station f.toNat = true → fidOwner s.station f.toNat = s.node →
    ∃ t, exec (.guardianCutoff f) s = .next t ∧ t.lnb.gcut = satInc 65535 s.lnb.gcut ∧ t.lnb.evt.getLsbD 6 = true) ∧
  (∀ (f : RxFrame) (c : Copy) (s : State), TablesWf s → FrameJudged s 0 f c .valid → hNode c.hdr ≠ s.node →
    ∃ t, exec (.statusFrame f) s = .next t ∧ (t.nodeView (hNode c.hdr)).rxNow = true) ∧
  (∀ (f : RxFrame) (c : Copy) (s : State), TablesWf s → FrameJudged s 1 f c .valid → hNull c.hdr = false → (s.advance (frameEnd
    f)).fidIndex (hNode c.hdr) 1 (hFid c.hdr) = (s.nodeView (hNode c.hdr)).inNext → ((s.nodeView (hNode c.hdr)).inValid = true ∨
    (s.nodeView (hNode c.hdr)).inNext = 0) →
    ∃ t, exec (.inputFrame f) s = .next t ∧ (t.nodeView (hNode c.hdr)).inWords = (s.nodeView (hNode c.hdr)).inWords ++ c.payload
      ∧ (t.nodeView (hNode c.hdr)).inValid = true) ∧
  (∀ (f : RxFrame) (c : Copy) (s : State), TablesWf s → FrameJudged s 4 f c .valid → hNull c.hdr = false → (s.advance (frameEnd
    f)).fidIndex (hNode c.hdr) 4 (hFid c.hdr) = (s.nodeView (hNode c.hdr)).outNext → ((s.nodeView (hNode c.hdr)).outValid = true
    ∨ (s.nodeView (hNode c.hdr)).outNext = 0) →
    ∃ t, exec (.outputFrame f) s = .next t ∧ (t.nodeView (hNode c.hdr)).outWords = (s.nodeView (hNode c.hdr)).outWords ++
      c.payload ∧ (t.nodeView (hNode c.hdr)).outValid = true) ∧
  (∀ (f : RxFrame) (c : Copy) (w0 w1 : Word) (tg : Telegram) (fid i : Nat) (s : State), FrameJudged s 2 f c .valid → hNode c.hdr
    ≠ s.node → s.voting = true → c.payload = [w0, w1] → s.holdsTelegrams = [tg] → tg.conn = w0.toNat → tg.seq = w1.toNat →
    (fidsOf s.station s.node 3).head? = some fid → connOf s.station w0.toNat = some i →
    ∃ t, exec (.fetchRequest f) s = .next t ∧ ∃ l, l ≠ [] ∧ t.lnb.pendTx = s.lnb.pendTx ++ l) ∧
  (∀ (f : RxFrame) (c : Copy) (tg : Telegram) (s : State), TablesWf s → FrameJudged s 3 f c .valid → hNode c.hdr ≠ s.node → tg =
    telegramRead (c.payload.getD 3 0 ++ c.payload.getD 2 0) ((wordsToBytes (c.payload.drop 5)).take (bits (c.payload.getD 4
    0).toNat 16 16)) → bits (c.payload.getD 4 0).toNat 0 16 = 0 → bits (c.payload.getD 4 0).toNat 16 16 ≤ (wordsToBytes
    (c.payload.drop 5)).length → s.codeMatches (c.payload.getD 0 0).toNat (c.payload.getD 3 0 ++ c.payload.getD 2 0)
    ((wordsToBytes (c.payload.drop 5)).take (bits (c.payload.getD 4 0).toNat 16 16)) = true → tg.conn = (c.payload.getD 0
    0).toNat → tg.seq = (c.payload.getD 1 0).toNat → tg.digest ∈ s.lackingNow → s.lnb.fetchPart = [] →
    ∃ t, exec (.fetchReply f) s = .next t ∧ t.lnb.fetched = s.lnb.fetched ++ [tg]) ∧
  (∀ (f : RxFrame) (c : Copy) (s : State), FrameJudged s 5 f c .valid → winArb s.station f.win.val = true → hNode c.hdr ∈
    s.otherNodes →
    ∃ t, exec (.mirrorFrame f) s = .next t ∧ t.lnb.mirCyc = t.cycleNow ∧ t.lnb.mirFrom = hNode c.hdr) ∧
  (∀ (f : RxFrame) (c : Copy) (s : State), FrameJudged s 6 f c .valid → (s.peerIndex (hNode c.hdr)).isSome = true →
    ∃ t, exec (.stateTransferFrame f) s = .next t ∧ t.lge = s.lge ∧ t.lnb.xferRx = (if s.lane.reintReq then s.lnb.xferRx ++
      c.payload else s.lnb.xferRx)) ∧
  (∀ (f : RxFrame) (c : Copy) (s : State), s.rxLive = true → s.coldCopy f = some c → hNode c.hdr ≠ s.node → (s.lnb.bstate =
    .listen ∨ s.lnb.bstate = .wait) →
    ∃ t, exec (.coldStartFrame f) s = .next t ∧ t.lnb.bstate = .follow ∧ t.lnb.leader = hNode c.hdr) ∧
  (∀ (s : State) (k : Nat), s.rxLive = true → s.busTime = true → s.windowAt s.ct = some k → winArb s.station k = true →
    ∃ t, exec .carrierInvalid s = .next t ∧ t.lnb.evt.getLsbD 8 = true ∧ t.lnb.arbSkip = some k) ∧
  (∀ s : State, s.rxLive = true → s.lnb.bstate = .listen →
    exec .carrierInvalid s = .next { s with lnb.listenAt := s.pins.now }) ∧
  (∀ s : State, s.lnb.bstate = .listen → s.blockLive 9 = true → s.syncNode = true → s.lane.st ≠ .safe →
    ∃ t, exec (.listenTimeout false) s = .next t ∧ t.lnb.bstate = .swarm ∧ t.lnb.att = satInc 255 s.lnb.att) ∧
  (∀ s : State, s.lnb.bstate = .swarm → s.blockLive 9 = true →
    ∃ t, exec (.swarmReadback true) s = .next t ∧ t.lnb.bstate = .lead ∧ t.lnb.m = 0) ∧
  (∀ s : State, s.lnb.bstate = .wait → s.blockLive 9 = true → s.syncNode = true → s.lane.st ≠ .safe →
    ∃ t, exec (.waitExpire false) s = .next t ∧ t.lnb.bstate = .swarm ∧ t.lnb.att = satInc 255 s.lnb.att) ∧
  (∀ (c : Int) (s : State), s.lnb.bstate = .active → s.syncNode = true → s.lnb.corrNow = none → s.blockLive 9 = true →
    offsetCorrection (s.lnb.devs ++ [0]) = some c →
    ∃ t, exec .clockCorrection s = .next t ∧ t.lnb.corrNow = some c ∧ t.lnb.offs = c) ∧
  (∀ s : State, s.lnb.bstate = .active → s.tae.timev = false → 2 ≤ s.lnb.precise → s.blockLive 9 = true → s.crt.align = true →
    ∃ t, exec .timevRestored s = .next t ∧ t.tae.timev = true ∧ t.tae.timevAt = t.pins.now) ∧
  (∀ s : State, (s.lnb.bstate = .lead ∨ s.lnb.bstate = .follow) → 2 ≤ s.formers.length → s.blockLive 9 = true →
    ∃ t, exec .clusterFormed s = .next t ∧ t.lnb.bstate = .active ∧ t.lnb.m = 0) ∧
  (∀ s : State, s.lnb.bstate = .lead → 7 ≤ s.lnb.m → s.formers.length < 2 → s.blockLive 9 = true →
    ∃ t, exec .attemptFailed s = .next t ∧ t.lnb.bstate = .listen ∧ t.tae.ctOff = none) ∧
  (∀ s : State, s.lnb.bstate = .listen → 16 ≤ s.lnb.att → s.syncNode = true → s.blockLive 9 = true →
    ∃ t, exec .loneNode s = .next t ∧ t.lnb.bstate = .wait ∧ t.lnb.listenAt = s.pins.now) ∧
  (∀ s : State, s.lnb.bstate = .integrating → 2 ≤ s.lnb.goodRun → s.blockLive 9 = true →
    ∃ t, exec .integrationCheckPassed s = .next t ∧ t.lnb.bstate = .active ∧ t.lnb.sevt.getLsbD 2 = true) ∧
  (∀ s : State, s.lnb.bstate = .active → (2 ≤ s.lnb.coarse ∨ 2 ≤ s.lnb.bndRun) → s.blockLive 9 = true →
    ∃ t, exec .demotion s = .next t ∧ t.lnb.bstate = .passive ∧ t.lnb.demcnt = satInc 65535 s.lnb.demcnt) ∧
  (∀ s : State, s.lnb.bstate = .passive → 8 ≤ s.lnb.goodRun → s.blockLive 9 = true →
    ∃ t, exec .passiveReturn s = .next t ∧ t.lnb.bstate = .active ∧ t.lnb.sevt.getLsbD 2 = true) ∧
  (∀ s : State, (s.lnb.bstate = .integrating ∨ s.lnb.bstate = .active ∨ s.lnb.bstate = .passive) → 4 ≤ s.lnb.noSync →
    s.blockLive 9 = true →
    ∃ t, exec .syncLost s = .next t ∧ t.lnb.bstate = .listen ∧ t.tae.timev = false) ∧
  (∀ (n : Fin 8) (s : State), (s.nodeView n.val).scRejected = true → (s.nodeView n.val).scDeclared = false → s.rxLive = true →
    ∃ t, exec (.singleChannelLimit n) s = .next t ∧ t.nodeView n.val = { s.nodeView n.val with scDeclared := true } ∧
      t.lnb.evt.getLsbD 5 = true) ∧
  (∀ (r : Nat) (s : State), s.lnb.rref = some r → s.lnb.bstate = .active → r ≠ s.node → s.lnb.recadm = false → 64 ≤ s.lnb.recRun
    → s.blockLive 9 = true →
    ∃ t, exec .recoveredClockAdmitted s = .next t ∧ t.lnb.recadm = true ∧ t.lnb.recRef = r) ∧
  (∀ (k : Fin 4) (s : State), s.lnb.recadm = true → (if k = 3 then s.lnb.bstate ≠ .active else s.lnb.bstate = .active ∧ (k = 2 ↔
    s.lnb.rref ≠ some s.lnb.recRef)) → (s.crt.rootsel = false ∨ s.crt.xval = true) →
    ∃ t, exec (.recoveredClockRevoked k) s = .next t ∧ t.lnb.recadm = false ∧ t.crt.rval = false) ∧
  (∀ s : State, s.lane.st = .integrate → s.lane.digestDue = true → s.tae.timev = true → s.digestReady = true → s.digestPasses =
    true →
    exec .digestVote s = .next { s with lane.digestDue := false }) ∧
  (∀ (p : Fin 2) (l : LinkState) (s : State), TablesWf s → s.fldRuns = true → s.fld.phyOut = true → portEn s.station p.val =
    true →
    ∃ t, exec (.phyPoll p l) s = .next t ∧ (t.port p.val).link = l) ∧
  (∀ (p : Fin 2) (ok : Bool) (b : List Byte) (s : State), TablesWf s → s.portUp p.val = true → (ok = false ∨ b.length < 60 ∨
    1518 < b.length ∨ (beNat (slice 0 6 b) ≠ portMac s.station p.val ∧ beNat (slice 0 6 b) ≠ 0xFFFFFFFFFFFF)) →
    ∃ t, exec (.ethernetFrame p ok b) s = .next t ∧ t.port p.val =
      { s.port p.val with drop := satInc 65535 (s.port p.val).drop } ∧ t.fld.held = s.fld.held) ∧
  (∀ (p : Fin 2) (ok : Bool) (b : List Byte) (s : State), TablesWf s → s.portUp p.val = true → ethJudge s.station p.val (fmpPort
    s.station) (fmpOn s.station p.val) ok b ≠ .drop →
    exec (.ethernetFrame p ok b) s = .next s) ∧
  (∀ (p : Fin 2) (ip : Word) (s : State), s.portUp p.val = true → fldArp s.station = true → ip.toNat = portIp s.station p.val →
    exec (.arpRequest p ip) s = .next { s with pins.sent := .arpReply p.val ip :: s.pins.sent }) ∧
  (∀ (p : Fin 2) (ip : Word) (s : State), s.portUp p.val = true → fldIcmp s.station = true → ip.toNat = portIp s.station p.val →
    ((s.port p.val).icmpSecond ≠ s.pins.now / 1000000000 ∨ (s.port p.val).icmpCount < 10) →
    ∃ t, exec (.icmpEchoRequest p ip) s = .next t ∧ t.pins.sent = .icmpReply p.val :: s.pins.sent) ∧
  (∀ (p : Fin 2) (ip : Word) (b : List Byte) (c : Nat) (s : State), s.portUp p.val = true → s.judgesCopies = true → TablesWf s →
    mimanConn s.station ip.toNat b = some c → (s.conn c).copies < connRxcop s.station c → s.connSt c ≠ 2 → s.fld.held = [] →
    Config.cmac (tabGet 0#128 c s.fld.keys) (b.take (b.length - 8)) = BitVec.ofNat 64 (beNat (b.drop (b.length - 8))) →
    ∃ t, exec (.mimanTelegram p ip b) s = .next t ∧ (t.port p.val).rxok = satInc 65535 (s.port p.val).rxok) ∧
  (∀ (p : Fin 2) (x : Nat) (s : State), s.fldRuns = true → portEn s.station p.val = true → (s.port p.val).acceptedAt = none →
    (s.port p.val).singleAt = none → (s.port (1 - p.val)).acceptedAt = some x → s.pins.now < x + 1000000000 →
    ∃ t, exec (.portSingle p) s = .next t ∧ (t.port p.val).singleAt = some s.pins.now ∧ t.fld.evt.getLsbD 2 = true) ∧
  (∀ (c : Fin 2) (f : CanFrame) (sof : Nat) (s : State) (m : Nat), f.wellFormed = true → s.canWorks c.val = true → (f.fdf &&
    f.rtr) = false → (f.brs && !f.fdf) = false → (canFden s.station c.val || !f.fdf) = true → rxMaps s.station = [m] → mapCtrl
    s.station m = c.val → mapIde s.station m = f.ide → mapFdf s.station m = f.fdf → f.rtr = false → mapId s.station m = canId
    f.ide f.ident.toNat → 8 * f.data.length = (mapCells s.station m).2 →
    ∃ t, exec (.canFrameReceived c f sof) s = .next t ∧ (t.mapSt m).payload = f.data ∧ (t.mapSt m).at_ = some t.pins.now) ∧
  (∀ (c : Fin 2) (sof : Nat) (s : State), s.canWorks c.val = true → (s.can c.val).onWire = none → s.offers c.val ≠ [] →
    ∃ t, exec (.canFrameStart c sof) s = .next t ∧ ∃ o ∈ s.offers c.val, (t.can c.val).onWire = some o) ∧
  (∀ (c : Fin 2) (e : Nat) (s : State), TablesWf s → s.canWorks c.val = true → (s.can c.val).onWire = some (.queue e) →
    (s.txEntry e).st = .started →
    ∃ t, exec (.canTxComplete c) s = .next t ∧ (t.txEntry e).st = .completed ∧ (t.can c.val).onWire = none) ∧
  (∀ (c : Fin 2) (e : Nat) (s : State), TablesWf s → s.canWorks c.val = true → (s.can c.val).onWire = some (.queue e) →
    (s.txEntry e).st = .started → (s.can c.val).estate = .active →
    ∃ t, exec (.canAckError c) s = .next t ∧ (t.can c.val).tecN = (s.can c.val).tecN + 8 ∧ (t.can c.val).onWire = none) ∧
  (∀ (c : Fin 2) (tec rec : Nat) (s : State), TablesWf s → s.canWorks c.val = true → tec < 256 →
    ∃ t, exec (.canError c tec rec) s = .next t ∧ (t.can c.val).tecN = tec ∧ (t.can c.val).recN = min 255 rec) ∧
  (∀ (c : Fin 2) (s : State), TablesWf s → s.img.isSome = true → s.blockLive 11 = true → (s.can c.val).estate = .busoff → (s.can
    c.val).recovering = true →
    ∃ t, exec (.busoffRecovered c) s = .next t ∧ (t.can c.val).estate = .active ∧ (t.can c.val).tecN = 0) ∧
  (∀ (c : Fin 2) (s : State), s.img.isSome = true → s.blockLive 11 = true → canEn s.station c.val = true → canTmen s.station
    c.val = true → s.tae.timev = true → s.lane.st ≠ .safe →
    ∃ t, exec (.referenceMessageDue c) s = .next t ∧ (t.can c.val).refPending = true ∧ t.lane = s.lane)

/-- The commands of the recorder, of the self-tests and of the sessions complete: where the conditions that the rules set hold,
each answers a next state with its own effect. Named here, with the rule that says what it does: recordCreate (R518),
flushPeriod (R520), recFlush (R520), freezeStart (R529), freezeCommit (R531), legkeyTimeout (R534), mbistChunk (R564),
replicaCompare (R102), bistperExpire (R569), plannedBistStart (R569), selftestEnd (R568), transientAgeOut (R568), gateClosed
(R558), softResetDone (R561), svBurnStep (R572), confirmationEnd (R501), writeOperationDone (R483), mapRequest (R590),
fmpDatagram (R591), registerWrite (R4), ctloRead (R84), sessionOpen (R596), close (R597), responseSubmit (R596), tokenPresent
(R598), tokenExpire (R598), challengeExpire (R596), lockoutExpire (R596), sessionTimeout (R597). The instant to which the clock
moves is the model's (log entry 10). -/
def Obligations.RecorderTestsAndSessionsComplete : Prop :=
  (∀ (sev : Fin 6) (src code : BitVec 16) (data : List Byte) (s : State), data.length = 8 → s.crt.rootLost = false → s.recOpen =
    true → s.cfgField 0x0C0000 1 0 4 ≤ sev.val → s.rcd.frozen = false → s.rcd.buf.length < 8192 →
    ∃ t, exec (.recordCreate sev src code data) s = .next t ∧ ∃ r, t.rcd.buf = s.rcd.buf ++ [r] ∧ r.seq = s.rcd.seqNext ∧ r.code
      = code.toNat ∧ r.data = data) ∧
  (∀ s : State, s.recRuns = true → s.rcd.frozen = false →
    exec .flushPeriod s = .next { s with pins.now := (s.pins.now / 100000000 + 1) * 100000000, rcd.flush := true }) ∧
  (∀ s : State, s.rcd.flush = true → s.rcd.frozen = false → s.recRuns = true → 1 ≤ s.rcd.msize → s.rcd.pages = [] → s.rcd.buf ≠
    [] → s.rcd.buf.length ≤ 128 → s.rcd.drops = [] →
    ∃ t, exec (.recFlush true) s = .next t ∧ t.rcd.pages = [{ recs := s.rcd.buf }] ∧ t.rcd.buf = []) ∧
  (∀ s : State, s.rcd.flush = true → s.rcd.frozen = false → s.recRuns = true → 1 ≤ s.rcd.msize →
    ∃ t, exec (.recFlush false) s = .next t ∧ t.rcd.pages = s.rcd.pages ∧ t.rcd.ctlA = s.rcd.ctlA) ∧
  (∀ s : State, s.rcd.frzWait = true → s.rcd.flush = false → s.recRuns = true →
    ∃ t, exec .freezeStart s = .next t ∧ t.rcd.frozen = true ∧ t.rcd.frzWait = false) ∧
  (∀ s : State, s.rcd.frozen = true → s.recRuns = true →
    ∃ t, exec .freezeCommit s = .next t ∧ t.rcd.frozen = false ∧ t.rcd.frz = .completed) ∧
  (∀ s : State, s.rcd.legStat = 1 → ∃ t, exec .legkeyTimeout s = .next t ∧ t.rcd.legStat = 3 ∧ t.rcd.legSess = none) ∧
  (∀ (m : BistMemory) (s : State), s.idleTime = true → s.crt.lock = true → s.bgmt = true → s.lge.marchDue = false →
    ∃ t, exec (.mbistChunk m true) s = .next t ∧ t.lane = s.lane ∧ t.crt = s.crt) ∧
  (∀ (m : BistMemory) (s : State), s.idleTime = true → s.crt.lock = true → s.bgmt = true → m = .lgeProgram ∨ m = .lgeState →
    s.voting = true →
    ∃ t, exec (.mbistChunk m false) s = .next t ∧ t.lane.role = .excluded ∧ t.lane.implicated = some .lge) ∧
  (∀ (m : BistMemory) (s : State), s.idleTime = true → s.crt.lock = true → s.bgmt = true → m = .supSram → s.lane.safeLatch =
    false →
    ∃ t, exec (.mbistChunk m false) s = .next t ∧ HeldSafe t ∧ t.lane.scause = 6) ∧
  (∀ s : State, s.idleTime = true → s.bgmt = true → s.lge.split = false → s.blockLive 4 = true →
    exec (.replicaCompare true) s = .next s) ∧
  (∀ s : State, s.idleTime = true → s.bgmt = true → s.lge.split = false → s.blockLive 4 = true → s.voting = true →
    ∃ t, exec (.replicaCompare false) s = .next t ∧ t.lane.role = .excluded ∧ t.lane.implicated = some .lge) ∧
  (∀ s : State, s.bistper ≠ 0 → s.crtRuns = true → s.img.isSome = true → s.crt.bistWait = false → s.crt.test = none → s.lane.st
    = .run →
    exec .bistperExpire s = .next
      { s.advance (s.crt.bistAt + s.bistper * 3600000000000) with
        crt.bistAt := max s.pins.now (s.crt.bistAt + s.bistper * 3600000000000), crt.bist := .waiting, crt.bistWait := true,
        crt.bistGrp := s.crt.bistNext, crt.bistNext := (s.crt.bistNext + 1) % 3 }) ∧
  (∀ (n : Nat) (s : State), s.crt.bistWait = true → s.crt.test = none → s.voting = true → s.commitNow = some n → n % 3 = s.lid →
    (s.setNodes.all fun k => match s.heard (n * s.cycL + s.cycC - 1) k with | some h => hPlanned h | none => false) = true →
    ∃ t, exec .plannedBistStart s = .next t ∧ t.lane.role = .excluded ∧ t.lane.planned = true) ∧
  (∀ (x : SelfTest) (d : Nat) (s : State), s.crt.test = some x → x.planned = false → x.second = false → x.thenMem = false →
    s.lane.st = .run → s.lane.role = .excluded → s.grd.gmode = .checking → (s.advance (x.startAt + d * 100000)).transOf x.unit <
    3 →
    ∃ t, exec (.selftestEnd true d) s = .next t ∧ t.crt.test = none ∧ t.lane.reintReq = true) ∧
  (∀ (u : Fin 5) (x : Transient) (s : State), (s.crt.trans.find? fun y => decide (y.unit = faultUnitOf u)) = some x →
    ∃ t, exec (.transientAgeOut u) s = .next t ∧ t.crt.trans = s.crt.trans.erase x ∧ t.lane = s.lane) ∧
  (∀ (k : Fin 13) (s : State), s.crt.closing.getLsbD k.val = true →
    ∃ t, exec (.gateClosed k) s = .next t ∧ t.crt.closing.getLsbD k.val = false ∧ t.crt.gate.getLsbD k.val = false) ∧
  (∀ (k : Nat) (s : State), s.srstNext = some k → s.crt.srst = .running → s.crt.srstBlk = k → s.crt.clken.getLsbD k = true →
    ∃ t, exec (.softResetDone true) s = .next t ∧ t.crt.srst = .completed ∧ t.crt.inReset.getLsbD k = false) ∧
  (∀ (ok : Bool) (s : State) (g : Nat), s.crt.svTarget = some g → s.fuseReady = true → s.crt.sv < g → s.crt.sv < 255 →
    ∃ t, exec (.svBurnStep ok) s = .next t ∧ t.crt.sv = (if ok then s.crt.sv + 1 else s.crt.sv) ∧ t.crt.burnf = (if ok then
      s.crt.burnf else true)) ∧
  (∀ (e : Nat) (s : State), s.upd.confEnd = some e → s.upd.conf = true → s.upd.confNew = true →
    ∃ t, exec .confirmationEnd s = .next t ∧ t.upd.conf = false ∧ t.lane.st = s.lane.st) ∧
  (∀ (w : ImageWrite) (s : State), s.upd.op = some .open → s.upd.write = some w →
    ∃ t, exec (.writeOperationDone true) s = .next t ∧ t.upd.cmd = .completed ∧ t.upd.op = none) ∧
  (∀ (a : BitVec 24) (v : Word) (x : Session) (s : State), s.supServes = true → s.session 0 = some x → a.toNat % 4 = 0 →
    (writeNeed 0 a.toNat v.toNat).met x = true → (∀ l, writeNeed 0 a.toNat v.toNat = .cmd l → s.tokenOk x a.toNat v.toNat =
    true) → s.absent a.toNat = false → s.gated a.toNat = false →
    exec (.mapRequest (mapBytes 0x40 a (beBytes 4 v.toNat))) s = .next (((TokenSpent (Active s 0) 0).regWrite 0 a.toNat v).send
      (.map [0x80#8, crc8 [0x80#8]]))) ∧
  (∀ (a : BitVec 24) (x : Session) (s : State), s.supServes = true → s.session 0 = some x → a.toNat % 4 = 0 → (a.toNat < 0x10000
    ∨ x.holds 1 = true) → s.absent a.toNat = false →
    ∃ t, exec (.mapRequest (mapBytes 0 a [])) s = .next t ∧ ∃ r, t.pins.sent = .map (r ++ [crc8 r]) :: s.pins.sent) ∧
  (∀ (p : Peer) (x : Session) (seq : Word) (a : BitVec 24) (s : State), s.fmpReach p.port.val = true → s.fmpFull p.port.val =
    false → s.session x.num = some x → x.num ≠ 0 → x.num < 65536 → x.src = some p → x.st = .opened → seq.toNat = (x.seq + 1) %
    4294967296 → a.toNat % 4 = 0 → s.absent a.toNat = false → (a.toNat < 0x10000 ∨ x.holds 1 = true) →
    ∃ t, exec (.fmpDatagram p (fmpRequest x seq 0 a [])) s = .next t ∧ ∃ b, t.pins.sent = .fmp p b :: s.pins.sent) ∧
  (∀ (sid : BitVec 16) (v : Word) (s : State), MayWrite s sid 0x01000C 2 →
    exec (.registerWrite sid 0x01000C v) s = .next { TokenSpent s sid with crt.evt := s.crt.evt &&& ~~~(v.setWidth _) }) ∧
  (∀ s : State, s.blockLive 3 = true → exec .ctloRead s = .next { s with tae.cthi := BitVec.ofNat 32 (s.ct / 4294967296) }) ∧
  (∀ (level : BitVec 4) (s : State) (x : Session), s.supServes = true → s.session 0 = some x → s.levelAllowed level.toNat = true
    → s.lockedOut 0 = false →
    ∃ t, exec (.sessionOpen none level) s = .next t ∧ t.sup.drawn = s.sup.drawn + 1 ∧ ∃ y, t.session 0 = some y ∧ y.st =
      .challenged) ∧
  (∀ (p : Peer) (level : BitVec 4) (s : State), s.fmpReach p.port.val = true → s.fmpOpens p level.toNat = true → s.session
    s.freeSession = none →
    ∃ t, exec (.sessionOpen (some p) level) s = .next t ∧ ∃ y, t.session s.freeSession = some y ∧ y.src = some p ∧ y.st =
      .challenged) ∧
  (∀ (sid : BitVec 16) (x : Session) (s : State), s.session sid.toNat = some x → x.st = .opened → s.supServes = true →
    ∃ t, exec (.close sid) s = .next t ∧ (∀ y, t.session sid.toNat = some y → y.st = .none) ∧ t.upd.lock ≠ some sid.toNat) ∧
  (∀ (sid : BitVec 16) (hi : Word) (x : Session) (s : State), TablesWf s → s.supServes = true → s.session sid.toNat = some x →
    x.st = .challenged → s.pins.now ≤ x.chalAt + 10000000000 → s.respRight x (hi ++ x.respLo) = true →
    ∃ t, exec (.responseSubmit sid hi) s = .next t ∧ (tabGet path0 x.path t.sup.paths).failures = 0 ∧ (tabGet path0 x.path
      t.sup.paths).locked = false) ∧
  (∀ (sid : BitVec 16) (x : Session) (s : State) (hi : Word), s.session sid.toNat = some x → x.st = .opened → s.supServes = true
    →
    ∃ t, exec (.tokenPresent sid hi) s = .next t ∧ ∃ y, t.session sid.toNat = some y ∧ y.tok = some
      { value := hi ++ x.tokLo, tcnt := x.tcnt, at_ := s.pins.now }) ∧
  (∀ (sid : BitVec 16) (x : Session) (k : TokenArm) (s : State), s.session sid.toNat = some x → x.tok = some k →
    ∃ t, exec (.tokenExpire sid) s = .next t ∧ t.pins.now = max s.pins.now (k.at_ + 1000000000) ∧ ∃ y, t.session sid.toNat =
      some y ∧ y = { x with tok := none }) ∧
  (∀ (sid : BitVec 16) (x : Session) (s : State), s.session sid.toNat = some x → x.st = .challenged →
    ∃ t, exec (.challengeExpire sid) s = .next t ∧ t.pins.now = max s.pins.now (x.chalAt + 10000000000) ∧ ∀ y, t.session
      sid.toNat = some y → y.st = .none) ∧
  (∀ (k : Fin 3) (s : State), TablesWf s → (tabGet path0 k.val s.sup.paths).locked = true →
    ∃ t, exec (.lockoutExpire k) s = .next t ∧ (tabGet path0 k.val t.sup.paths).locked = false ∧ t.lane = s.lane) ∧
  (∀ (sid : BitVec 16) (x : Session) (s : State), s.session sid.toNat = some x → x.st = .opened →
    ∃ t, exec (.sessionTimeout sid) s = .next t ∧ (∀ y, t.session sid.toNat = some y → y.st = .none) ∧ t.upd.lock ≠ some
      sid.toNat)

/-- The commands that a session writes complete: where the conditions that the rules set hold, each answers a next state with
its own effect. Named here, with the rule that says what it does: makesafe (R604), restart (R40), stop (R123), hold (R124),
leavehold (R127), resume (R479), switchover (R49), abortsw (R604), wallTimeSet (R56), capture (R125), stepRung (R125),
stepRegion (R125), stepScan (R125), stepComplete (R125), lockoutAcknowledgement (R225), isolationAcknowledgement (R259), learn
(R293), calibrate (R319), calibrateAbort (R319), softReset (R560), gateCloseWrite (R558), gateOpenWrite (R558), bistRequest
(R569), bistAbort (R570), keyburn (R571), post (R438), cancel (R439), receiveAcknowledgement (R442), entryRelease (R438),
busoffRecoveryRequest (R432), oldest (R525), newest (R525), nextRec (R525), prevRec (R525), seek (R525), freeze (R529), unfreeze
(R531), legHiRead (R532), legkeyWrite (R534), updOpen (R483), block (R484), finish (R485), abort (R500), release (R482),
activate (R491), handover (R497), online (R504), force (R506), unforce (R507), reload (R492), blkWrite (R513), bdataWrite
(R513). -/
def Obligations.CommandWritesComplete : Prop :=
  (∀ (sid : BitVec 16) (s : State), Authorised s sid 0x28 1 2 → s.lane.st ≠ .safe → s.lane.safeLatch = false → s.ctlRuns = false
    →
    ∃ t, exec (.makesafe sid) s = .next t ∧ HeldSafe t ∧ t.lane.scause = 7) ∧
  (∀ (sid : BitVec 16) (s : State), Authorised s sid 0x28 2 2 → s.lane.st = .safe → s.ctlRuns = false → s.lane.smask.testBit 3 =
    false →
    ∃ t, exec (.restart sid) s = .next t ∧ t.lane.window = true ∧ t.lane.windowAt = s.pins.now ∧ t.lane.st = .safe) ∧
  (∀ (sid : BitVec 16) (s : State), Authorised s sid 0x28 3 2 → s.ctlRuns = false → s.lane.st = .run →
    ∃ t, exec (.stop sid) s = .next t ∧ t.lane.st = .stop ∧ t.lane.driving = false) ∧
  (∀ (sid : BitVec 16) (s : State), Authorised s sid 0x28 4 3 → s.ctlRuns = false → s.lane.st = .run → (s.mode = 1 ∨ s.mode = 2)
    →
    ∃ t, exec (.hold sid) s = .next t ∧ t.lane.st = .run ∧ t.lane.holdPend = true) ∧
  (∀ (sid : BitVec 16) (s : State), Authorised s sid 0x28 5 3 → s.ctlRuns = false → s.lane.st = .hold →
    ∃ t, exec (.leavehold sid) s = .next t ∧ t.lane.st = .stop ∧ t.lane.ctl = .completed) ∧
  (∀ (sid : BitVec 16) (s : State), Authorised s sid 0x28 6 2 → s.ctlRuns = false → s.lane.st = .stop →
    ∃ t, exec (.resume sid) s = .next t ∧ t.lane.st = .stop ∧ t.lane.resumePend = true) ∧
  (∀ (sid : BitVec 16) (s : State), Authorised s sid 0x28 7 3 → s.ctlRuns = false → s.switchoverOk = true →
    ∃ t, exec (.switchover sid) s = .next t ∧ t.lane.ctl = .running) ∧
  (∀ (sid : BitVec 16) (x : Switch) (s : State), Authorised s sid 0x28 8 3 → s.lane.switch = some x → x.own = true → x.program =
    false → x.committed = false →
    ∃ t, exec (.abortsw sid) s = .next t ∧ t.lnb.entries = s.lnb.entries ++ [[BitVec.ofNat 32 (0x06000000 + bitNat s.sid)]]) ∧
  (∀ (sid hi : BitVec 16) (s : State), Authorised s sid 0x03002C hi.toNat 2 → s.tae.timev = true → s.wallOwn = false →
    exec (.wallTimeSet sid hi) s = .next
      { s.useToken sid.toNat with
        tae.wset := .waiting, tae.wpend := s.tae.wpend ++
        [{ value := hi.toNat * 4294967296 + s.tae.wsetlo.toNat, cycle := none, node := s.node }], lnb.entries := s.lnb.entries
        ++ [[0x02000000, s.tae.wsetlo, BitVec.ofNat 32 hi.toNat]] }) ∧
  (∀ (sid : BitVec 16) (s : State), Authorised s sid 0x040018 1 3 → s.lge.stepKind = none → s.lane.st = .hold → s.atRegion
    s.lge.pc = true →
    ∃ t, exec (.capture sid) s = .next t ∧ t.lge.step = .completed ∧ t.lane.st = .hold) ∧
  (∀ (sid : BitVec 16) (s : State), Authorised s sid 0x040018 2 3 → s.lge.stepKind = none → s.lane.st = .hold →
    exec (.stepRung sid) s = .next
      { s.useToken sid.toNat with
        lge.step := .running, lge.stepKind := some .rung, lge.candidate := false, lge.stepPc := s.lge.pc + s.fencesAt s.lge.pc }) ∧
  (∀ (sid : BitVec 16) (s : State), Authorised s sid 0x040018 3 3 → s.lge.stepKind = none → s.lane.st = .hold →
    exec (.stepRegion sid) s = .next
      { s.useToken sid.toNat with
        lge.step := .running, lge.stepKind := some .region, lge.candidate := false, lge.stepPc := s.lge.pc }) ∧
  (∀ (sid : BitVec 16) (s : State), Authorised s sid 0x040018 4 3 → s.lge.stepKind = none → s.lane.st = .hold →
    exec (.stepScan sid) s = .next
      { s.useToken sid.toNat with
        lge.step := .running, lge.stepKind := some .scan, lge.candidate := false, lge.stepPc := s.lge.pc }) ∧
  (∀ s : State, s.lane.st = .hold → s.lge.stepKind.isSome = true → s.lge.drain = none → s.stepEnded = true →
    ∃ t, exec .stepComplete s = .next t ∧ t.lge.step = .completed ∧ t.lge.stepKind = none) ∧
  (∀ (sid : BitVec 16) (n : Fin 32) (s : State), Authorised s sid 0x060034 n.val 2 → (s.vout n.val).lockout = true → (s.monEn
    n.val && s.picked n.val) = false → ackPending s.vio.acks = false →
    ∃ t, exec (.lockoutAcknowledgement sid n) s = .next t ∧ t.vio.lockack = .waiting) ∧
  (∀ (sid : BitVec 16) (g : Fin 8) (s : State), Authorised s sid 0x070014 g.val 2 → s.lmp.iso.getLsbD g.val = true →
    (s.lmp.acks.any fun a => a.own) = false →
    ∃ t, exec (.isolationAcknowledgement sid g) s = .next t ∧ t.lmp.isoack = .waiting) ∧
  (∀ (sid : BitVec 16) (ch : Fin 32) (cyc : BitVec 8) (s : State), Authorised s sid 0x07001C (256 * cyc.toNat + ch.val) 3 →
    (s.mode = 1 ∨ s.mode = 2) → chEn s.station ch.val = true → s.lmp.learn = none → 16 ≤ cyc.toNat →
    exec (.learn sid ch cyc) s = .next
      { s.useToken sid.toNat with
        lmp.lrn := .running, lmp.learn := some { chan := ch.val, periods := cyc.toNat, startAt := s.pins.now }, lmp.lrndat := [] }) ∧
  (∀ (sid : BitVec 16) (ch : BitVec 6) (s : State), Authorised s sid 0x080028 (64 + ch.toNat) 2 → ch.toNat < 48 → meaEn
    s.station ch.toNat = true → (s.si 0).busy = false → (s.si 1).busy = false → s.mea.calWait = none →
    exec (.calibrate sid ch) s = .next { s.useToken sid.toNat with mea.calcmd := .waiting, mea.calWait := some ch.toNat }) ∧
  (∀ (sid : BitVec 16) (ch : BitVec 6) (s : State), Authorised s sid 0x080028 (128 + ch.toNat) 2 → s.mea.calWait = some ch.toNat
    →
    ∃ t, exec (.calibrateAbort sid ch) s = .next t ∧ t.mea.calWait = none ∧ t.mea.calcmd = .aborted) ∧
  (∀ (sid : BitVec 16) (k : BitVec 4) (s : State), Authorised s sid 0x010010 k.toNat 3 → s.srstState k.toNat = true →
    s.crt.gate.getLsbD k.toNat = true → s.crt.inReset = 0 → s.crt.stuck = 0 →
    ∃ t, exec (.softReset sid k) s = .next t ∧ t.crt.srst = .running ∧ t.crt.srstBlk = k.toNat) ∧
  (∀ (sid : BitVec 16) (v : Word) (k : Nat) (s : State), Authorised s sid 0x010004 v.toNat 3 → 3 ≤ k → k ≤ 12 → v.getLsbD k =
    false → s.crt.clken.getLsbD k = true → s.crt.inReset.getLsbD k = false → s.lane.st = .stop →
    ∃ t, exec (.gateCloseWrite sid v) s = .next t ∧ t.crt.clken.getLsbD k = false ∧ t.crt.closing.getLsbD k = true) ∧
  (∀ (sid : BitVec 16) (v : Word) (k : Nat) (s : State), Authorised s sid 0x010004 v.toNat 3 → 3 ≤ k → k ≤ 12 → v.getLsbD k =
    true → s.crt.clken.getLsbD k = false → s.crt.inReset.getLsbD k = false →
    ∃ t, exec (.gateOpenWrite sid v) s = .next t ∧ t.crt.clken.getLsbD k = true ∧ t.crt.gate.getLsbD k = true) ∧
  (∀ (sid : BitVec 16) (g : Fin 3) (s : State), Authorised s sid 0x010020 (16 * g.val + 1) 2 → s.crt.test = none →
    s.crt.bistWait = false → s.lane.st = .stop →
    ∃ t, exec (.bistRequest sid g) s = .next t ∧ t.crt.bist = .running ∧ t.crt.bistGrp = g.val) ∧
  (∀ (sid : BitVec 16) (g : Fin 3) (s : State), Authorised s sid 0x010020 (16 * g.val + 1) 2 → s.crt.test = none →
    s.crt.bistWait = false → s.lane.st = .run →
    exec (.bistRequest sid g) s = .next
      { s.useToken sid.toNat with
        crt.bist := .waiting, crt.bistGrp := g.val, crt.bistWait := true }) ∧
  (∀ (sid : BitVec 16) (s : State), Authorised s sid 0x010020 2 2 → s.crt.bistWait = true →
    ∃ t, exec (.bistAbort sid) s = .next t ∧ t.crt.bist = .aborted ∧ t.crt.bistWait = false) ∧
  (∀ (sid : BitVec 16) (s : State) (h : Header), Authorised s sid 0x010034 1 3 → s.upd.hdr = some h → s.crt.ikd = none → (s.mode
    = 1 ∨ s.mode = 3) → s.vfok = true →
    ∃ t, exec (.keyburn sid) s = .next t ∧ t.crt.ikd = some (Config.sha256 h.pubk) ∧ t.crt.fcmd = .completed) ∧
  (∀ (sid : BitVec 16) (s : State) (e : Nat), MayWrite s sid 0x0B0004 2 → s.freeEntry = some e → canAllowed s.stagedFrame = true
    →
    ∃ t, exec (.post sid) s = .next t ∧ (t.txEntry e).st = .pending ∧ (t.txEntry e).frame = s.stagedFrame) ∧
  (∀ (sid : BitVec 16) (e : Fin 32) (s : State), MayWrite s sid 0x0B0008 2 → (s.txEntry e.val).st = .pending →
    ∃ t, exec (.cancel sid e) s = .next t ∧ (t.txEntry e.val).st = .aborted ∧ t.cab.cancelAns = 1) ∧
  (∀ (sid : BitVec 16) (s : State), MayWrite s sid 0x0B0010 2 →
    exec (.receiveAcknowledgement sid) s = .next { s.useToken sid.toNat with cab.rxq := s.cab.rxq.drop 1 }) ∧
  (∀ (sid : BitVec 16) (e : Fin 32) (s : State), TablesWf s → MayWrite s sid (0x0B0200 + 4 * e.val) 2 → (s.txEntry e.val).st =
    .completed →
    ∃ t, exec (.entryRelease sid e) s = .next t ∧ t.txEntry e.val = tx0 ∧ ∀ d, d ≠ e.val → t.txEntry d = s.txEntry d) ∧
  (∀ (sid : BitVec 16) (c : Fin 2) (s : State), MayWrite s sid (0x0B002C + 64 * c.val) 2 → (s.can c.val).estate = .busoff →
    ∃ t, exec (.busoffRecoveryRequest sid c) s = .next t ∧ (t.can c.val).recovering = true ∧ t.cab.txq = s.cab.txq) ∧
  (∀ (sid : BitVec 16) (s : State), MayWrite s sid 0x0C0020 1 →
    ∃ t, exec (.oldest sid) s = .next t ∧ CursorAt s t sid (lowestRec s.recVisible) fun _ => 2) ∧
  (∀ (sid : BitVec 16) (s : State), MayWrite s sid 0x0C0020 1 →
    ∃ t, exec (.newest sid) s = .next t ∧ CursorAt s t sid (highestRec s.recVisible) fun _ => 2) ∧
  (∀ (sid : BitVec 16) (s : State) (c : Nat), MayWrite s sid 0x0C0020 1 → s.cursorOf sid.toNat = some c →
    ∃ t, exec (.nextRec sid) s = .next t ∧ CursorAt s t sid (lowestRec (s.recVisible.filter fun r => decide (c < r.seq))) fun r
      => if r.seq = c + 1 then 2 else 3) ∧
  (∀ (sid : BitVec 16) (s : State) (c : Nat), MayWrite s sid 0x0C0020 1 → s.cursorOf sid.toNat = some c →
    ∃ t, exec (.prevRec sid) s = .next t ∧ CursorAt s t sid (highestRec (s.recVisible.filter fun r => decide (r.seq < c))) fun r
      => if r.seq = c - 1 then 2 else 3) ∧
  (∀ (sid : BitVec 16) (s : State) (x : Session), MayWrite s sid 0x0C0020 1 → s.session sid.toNat = some x →
    ∃ t, exec (.seek sid) s = .next t ∧ CursorAt s t sid (lowestRec (s.recVisible.filter fun r => decide (x.cseq.toNat ≤
      r.seq))) fun r => if r.seq = x.cseq.toNat then 2 else 3) ∧
  (∀ (sid : BitVec 16) (s : State), Authorised s sid 0x0C0060 1 2 → s.rcd.frozen = false → s.rcd.frzWait = false → s.rcd.legStat
    ≠ 1 →
    exec (.freeze sid) s = .next
      { s.useToken sid.toNat with
        rcd.frz := .waiting, rcd.frzWait := true, rcd.frzSess := sid.toNat, rcd.flush := true }) ∧
  (∀ (sid : BitVec 16) (s : State), Authorised s sid 0x0C0060 2 2 → s.rcd.frozen = true →
    ∃ t, exec (.unfreeze sid) s = .next t ∧ t.rcd.frozen = false ∧ t.rcd.frz = .aborted) ∧
  (∀ (r : Record) (s : State), s.legServes = true → s.legRecord = some r →
    ∃ t, exec .legHiRead s = .next t ∧ t.rcd.legLo = BitVec.ofNat 32 (leNat (r.data.take 4)) ∧ t.rcd.buf = s.rcd.buf) ∧
  (∀ (sid key : BitVec 16) (s : State), MayWrite s sid 0x0C0088 2 → s.cmpt = true → s.rcd.frozen = false → s.rcd.legStat ≠ 1 →
    key.toNat = 0x5A5A →
    exec (.legkeyWrite sid key) s = .next
      { s.useToken sid.toNat with
        rcd.legStat := 1, rcd.legSess := some sid.toNat, rcd.legAt := s.pins.now }) ∧
  (∀ (sid : BitVec 16) (s : State), Authorised s sid 0x0D0000 1 3 → s.upd.lock = none → s.updRuns = false → s.writeAllowed =
    true →
    ∃ t, exec (.updOpen sid) s = .next t ∧ t.upd.lock = some sid.toNat ∧ t.upd.op = some .open) ∧
  (∀ (sid : BitVec 16) (w : ImageWrite) (s : State), Authorised s sid 0x0D0000 2 3 → s.upd.lock = some sid.toNat → s.updRuns =
    false → s.upd.write = some w → (w.hdr.isSome = true ∨ s.upd.blk = 0) →
    ∃ t, exec (.block sid) s = .next t ∧ t.upd.op = some .block ∧ t.upd.cmd = .running) ∧
  (∀ (sid : BitVec 16) (w : ImageWrite) (s : State), Authorised s sid 0x0D0000 3 3 → s.upd.lock = some sid.toNat → s.updRuns =
    false → s.upd.write = some w →
    ∃ t, exec (.finish sid) s = .next t ∧ t.upd.op = some .finish ∧ t.upd.cmd = .running) ∧
  (∀ (sid : BitVec 16) (w : ImageWrite) (s : State), Authorised s sid 0x0D0000 4 3 → s.ownSwitch true = false → s.upd.lock =
    some sid.toNat → s.upd.write = some w →
    ∃ t, exec (.abort sid) s = .next t ∧ t.upd.cmd = .aborted ∧ t.upd.lock = none) ∧
  (∀ (sid : BitVec 16) (w : ImageWrite) (s : State), Authorised s sid 0x0D0000 5 3 → s.updRuns = false → s.upd.lock = some
    sid.toNat → s.upd.write = some w →
    ∃ t, exec (.release sid) s = .next t ∧ t.upd.cmd = .aborted ∧ t.upd.lock = none) ∧
  (∀ (sid : BitVec 16) (s : State), Authorised s sid 0x0D0000 6 3 → s.updRuns = false → s.activateOk sid.toNat = true →
    s.lane.safeLatch = false →
    ∃ t, exec (.activate sid) s = .next t ∧ HeldSafe t ∧ t.lane.scause = 7) ∧
  (∀ (sid : BitVec 16) (d : Bool) (s : State), Authorised s sid 0x0D0000 (7 + 256 * bitNat d) 3 → s.updRuns = false →
    s.handoverOk d = true →
    ∃ t, exec (.handover sid d) s = .next t ∧ t.upd.cmd = .running) ∧
  (∀ (sid : BitVec 16) (s : State), Authorised s sid 0x0D0000 8 3 → s.updRuns = false → s.onlineOk = true →
    ∃ t, exec (.online sid) s = .next t ∧ t.upd.cmd = .completed ∧ t.upd.online = s.upd.online ++
      [{ sym := s.upd.olsym, value := s.upd.olval, cycle := s.onlineCycle }]) ∧
  (∀ (sid : BitVec 16) (s : State), Authorised s sid 0x0D0000 9 3 → s.updRuns = false → s.forceOk = true →
    ∃ t, exec (.force sid) s = .next t ∧ t.upd.cmd = .completed ∧ (s.upd.faddr, s.upd.fval) ∈ t.upd.forces) ∧
  (∀ (sid : BitVec 16) (s : State), Authorised s sid 0x0D0000 10 3 → s.updRuns = false → s.forced s.upd.faddr = true →
    s.upd.faddr ∉ s.upd.unforce →
    ∃ t, exec (.unforce sid) s = .next t ∧ t.upd.cmd = .completed ∧ s.upd.faddr ∈ t.upd.unforce) ∧
  (∀ (sid : BitVec 16) (s : State), Authorised s sid 0x0D0000 11 2 → s.updRuns = false → s.lane.st = .load → (s.lane.sfault =
    0x1D ∨ s.lane.sfault = 0x1E) →
    ∃ t, exec (.reload sid) s = .next t ∧ t.upd.cmd = .completed ∧ t.lane.st = .load) ∧
  (∀ (sid : BitVec 16) (v : Word) (s : State), MayWrite s sid 0x0D000C 2 → s.upd.lock = some sid.toNat →
    ∃ t, exec (.blkWrite sid v) s = .next t ∧ t.upd.blk = v.toNat % 256 ∧ t.upd.ptr = 0) ∧
  (∀ (sid : BitVec 16) (v : Word) (s : State), TablesWf s → MayWrite s sid 0x0D0010 2 → s.upd.lock = some sid.toNat → s.upd.ptr
    < 65536 →
    ∃ t, exec (.bdataWrite sid v) s = .next t ∧ t.upd.ptr = s.upd.ptr + 4 ∧ tabGet 0 (s.upd.ptr / 4) t.upd.staged = v)
end

