-- ==== Sys2Proof/Laws/Bytes.lean ====
section
/-! SUPPORT. Numbers and their bytes: what is written as bytes is read back. -/

namespace Sys2Proof.Machine

@[simp] theorem length_leBytes : ∀ n v : Nat, (leBytes n v).length = n
  | 0, _ => rfl
  | n + 1, v => by simp [leBytes, length_leBytes n]

@[simp] theorem length_beBytes (n v : Nat) : (beBytes n v).length = n := by simp [beBytes]

/-- The bytes of a number give the number, modulo what they can hold. -/
theorem leNat_leBytes : ∀ n v : Nat, leNat (leBytes n v) = v % 256 ^ n
  | 0, v => by simp [leBytes, leNat, Nat.mod_one]
  | n + 1, v => by
    have h := leNat_leBytes n (v / 256)
    have p : v % 256 ^ (n + 1) = v % 256 + 256 * (v / 256 % 256 ^ n) := by
      rw [Nat.pow_succ, Nat.mul_comm, Nat.mod_mul]
    simp [leBytes, leNat, h, p]

theorem beNat_beBytes (n v : Nat) : beNat (beBytes n v) = v % 256 ^ n := by simp [beNat, beBytes, leNat_leBytes]

/-- A 64-bit code written as its eight bytes reads as itself. -/
theorem ofNat_beNat_beBytes (c : W64) : BitVec.ofNat 64 (beNat (beBytes 8 c.toNat)) = c := by
  have h : c.toNat % 256 ^ 8 = c.toNat := Nat.mod_eq_of_lt c.isLt
  rw [beNat_beBytes, h, BitVec.ofNat_toNat, BitVec.setWidth_eq]

theorem leBytes_leNat : ∀ l : List Byte, leBytes l.length (leNat l) = l
  | [] => rfl
  | b :: l => by
    have h := leBytes_leNat l
    have hb := b.isLt
    have q : (b.toNat + 256 * leNat l) / 256 = leNat l := by omega
    have e : BitVec.ofNat 8 (b.toNat + 256 * leNat l) = b := by
      apply BitVec.eq_of_toNat_eq
      rw [BitVec.toNat_ofNat]
      omega
    simp [leBytes, leNat, q, e, h]

theorem leNat_lt : ∀ l : List Byte, leNat l < 256 ^ l.length
  | [] => by simp [leNat]
  | b :: l => by
    have h := leNat_lt l
    have hb := b.isLt
    simp only [leNat, List.length_cons, Nat.pow_succ]
    omega

/-- A list of `4 * n` bytes cut into `n` words, and put together again. -/
theorem flatMap_quads : ∀ (n : Nat) (l : List Byte), l.length = 4 * n →
    ((List.range n).flatMap fun i => (l.drop (4 * i)).take 4) = l
  | 0, l, h => by
    have : l = [] := List.eq_nil_of_length_eq_zero (by omega)
    simp [this]
  | n + 1, l, h => by
    have ih := flatMap_quads n (l.drop 4) (by simp; omega)
    rw [List.range_succ_eq_map, List.flatMap_cons, List.flatMap_map]
    have e : ∀ i, (l.drop (4 * (i + 1))).take 4 = ((l.drop 4).drop (4 * i)).take 4 := by
      intro i
      rw [List.drop_drop]
      congr 2
      omega
    simp only [Nat.succ_eq_add_one, e, ih]
    simp

/-- Word `i` of a 256-bit digest as its 32 bytes stand in memory. -/
def digestWord (d : W256) (i : Nat) : Word := BitVec.ofNat 32 (leNat (((beBytes 32 d.toNat).drop (4 * i)).take 4))

theorem leBytes_digestWord (d : W256) (i : Nat) (h : i < 8) :
    leBytes 4 (digestWord d i).toNat = ((beBytes 32 d.toNat).drop (4 * i)).take 4 := by
  have len : (((beBytes 32 d.toNat).drop (4 * i)).take 4).length = 4 := by simp; omega
  have lt := leNat_lt (((beBytes 32 d.toNat).drop (4 * i)).take 4)
  rw [len] at lt
  have e := leBytes_leNat (((beBytes 32 d.toNat).drop (4 * i)).take 4)
  rw [len] at e
  unfold digestWord
  rw [BitVec.toNat_ofNat, Nat.mod_eq_of_lt (by simpa using lt), e]

/-- A digest in its eight words reads as itself. -/
theorem beNat_digestWords (d : W256) :
    BitVec.ofNat 256 (beNat ((List.range 8).flatMap fun i => leBytes 4 (digestWord d i).toNat)) = d := by
  have e : ((List.range 8).flatMap fun i => leBytes 4 (digestWord d i).toNat) = beBytes 32 d.toNat := by
    rw [← flatMap_quads 8 (beBytes 32 d.toNat) (by simp)]
    simp only [List.flatMap]
    congr 1
    apply List.map_congr_left
    intro i hi
    rw [leBytes_digestWord d i (by simpa using hi)]
  have h : d.toNat % 256 ^ 32 = d.toNat := Nat.mod_eq_of_lt (by have := d.isLt; omega)
  rw [e, beNat_beBytes, h, BitVec.ofNat_toNat, BitVec.setWidth_eq]

end Sys2Proof.Machine
end

