-- ==== Sys2Proof/Laws/Tables.lean ====
section
/-! SUPPORT. Tables in canonical form: an entry reads as it was last written, every operation keeps the form, and equal contents
are equal tables. The state image (R102) is such a table. -/

namespace Sys2Proof.Machine

theorem tabAbove_trans {α : Type} {k j : Nat} (h : k < j) : ∀ {t : Tab α}, tabAbove j t = true → tabAbove k t = true
  | [], _ => rfl
  | (i, _) :: t, ht => by
    simp only [tabAbove, Bool.and_eq_true, decide_eq_true_eq] at ht ⊢
    exact ⟨by omega, tabAbove_trans h ht.2⟩

/-- A key below every key of a table is not listed. -/
theorem tabGet_of_above {α : Type} (d : α) {k : Nat} : ∀ {t : Tab α}, tabAbove k t = true → tabGet d k t = d
  | [], _ => rfl
  | (i, w) :: t, ht => by
    simp only [tabAbove, Bool.and_eq_true, decide_eq_true_eq] at ht
    simp only [tabGet]
    rw [if_neg (by omega)]
    exact tabGet_of_above d ht.2

theorem tabAbove_tabSet {α : Type} [DecidableEq α] (d v : α) {i k : Nat} (hi : i < k) :
    ∀ {t : Tab α}, tabAbove i t = true → tabAbove i (tabSet d k v t) = true
  | [], _ => by
    simp only [tabSet]
    split <;> simp [tabAbove, hi]
  | (j, w) :: t, ht => by
    have ht' := ht
    simp only [tabAbove, Bool.and_eq_true, decide_eq_true_eq] at ht
    have ih := tabAbove_tabSet d v hi ht.2
    simp only [tabSet]
    split
    · split <;> simp [tabAbove, hi, ht]
    · split
      · split <;> simp [tabAbove, hi, ht]
      · simp [tabAbove, ht, ih]

/-- Writing an entry keeps the canonical form. -/
theorem tabWf_tabSet {α : Type} [DecidableEq α] (d : Nat → α) (k : Nat) (v : α) :
    ∀ {t : Tab α}, tabWf d t = true → tabWf d (tabSet (d k) k v t) = true
  | [], _ => by
    simp only [tabSet]
    split <;> simp [tabWf, tabAbove, *]
  | (j, w) :: t, ht => by
    have ht' := ht
    simp only [tabWf, Bool.and_eq_true, decide_eq_true_eq] at ht
    obtain ⟨⟨hw, ha⟩, hr⟩ := ht
    simp only [tabSet]
    split
    · rename_i hk
      split
      · exact ht'
      · rename_i hv
        simp [tabWf, tabAbove, hv, hk, hw, ha, hr, tabAbove_trans hk ha]
    · split
      · rename_i hk
        subst hk
        split
        · exact hr
        · rename_i hv
          simp [tabWf, hv, ha, hr]
      · simp [tabWf, hw, tabWf_tabSet d k v hr, tabAbove_tabSet (d k) v (show j < k by omega) ha]

/-- The entry that was written reads as written. -/
theorem tabGet_tabSet_self {α : Type} [DecidableEq α] (d : Nat → α) (k : Nat) (v : α) :
    ∀ {t : Tab α}, tabWf d t = true → tabGet (d k) k (tabSet (d k) k v t) = v
  | [], _ => by
    simp only [tabSet]
    split <;> simp [tabGet, *]
  | (j, w) :: t, ht => by
    simp only [tabWf, Bool.and_eq_true, decide_eq_true_eq] at ht
    obtain ⟨⟨hw, ha⟩, hr⟩ := ht
    simp only [tabSet]
    split
    · rename_i hk
      split
      · rename_i hv
        simp only [tabGet]
        rw [if_neg (by omega), tabGet_of_above (d k) (tabAbove_trans hk ha), hv]
      · simp [tabGet]
    · split
      · rename_i hk
        subst hk
        split
        · rename_i hv
          rw [tabGet_of_above (d k) ha, hv]
        · simp [tabGet]
      · rename_i hk
        simp only [tabGet, if_neg hk]
        exact tabGet_tabSet_self d k v hr

/-- Every other entry reads as before. -/
theorem tabGet_tabSet_ne {α : Type} [DecidableEq α] (d v e : α) {k i : Nat} (hi : i ≠ k) :
    ∀ t : Tab α, tabGet e i (tabSet d k v t) = tabGet e i t
  | [] => by
    simp only [tabSet]
    split <;> simp [tabGet, hi]
  | (j, w) :: t => by
    simp only [tabSet]
    split
    · split <;> simp [tabGet, hi]
    · split
      · rename_i hk
        subst hk
        split <;> simp [tabGet, hi]
      · simp only [tabGet, tabGet_tabSet_ne d v e hi t]

theorem tabWf_tabUpd {α : Type} [DecidableEq α] (d : Nat → α) (k : Nat) (f : α → α) {t : Tab α} (h : tabWf d t = true) :
    tabWf d (tabUpd (d k) k f t) = true := tabWf_tabSet d k _ h

theorem tabGet_tabUpd_self {α : Type} [DecidableEq α] (d : Nat → α) (k : Nat) (f : α → α) {t : Tab α} (h : tabWf d t = true) :
    tabGet (d k) k (tabUpd (d k) k f t) = f (tabGet (d k) k t) := tabGet_tabSet_self d k _ h

theorem tabGet_tabUpd_ne {α : Type} [DecidableEq α] (d e : α) {k i : Nat} (f : α → α) (hi : i ≠ k) (t : Tab α) :
    tabGet e i (tabUpd d k f t) = tabGet e i t := tabGet_tabSet_ne d _ e hi t

theorem tabAbove_map_filter {α : Type} (i : Nat) (f : Nat → α → α) (p : Nat × α → Bool) :
    ∀ {t : Tab α}, tabAbove i t = true → tabAbove i ((t.map fun e => (e.1, f e.1 e.2)).filter p) = true
  | [], _ => rfl
  | (j, w) :: t, ht => by
    simp only [tabAbove, Bool.and_eq_true, decide_eq_true_eq] at ht
    have ih := tabAbove_map_filter i f p ht.2
    simp only [List.map_cons, List.filter_cons]
    split
    · simp [tabAbove, ht.1, ih]
    · exact ih

/-- Changing every listed entry keeps the canonical form. -/
theorem tabWf_tabMap {α : Type} [DecidableEq α] (d : α) (f : Nat → α → α) :
    ∀ {t : Tab α}, tabWf (fun _ => d) t = true → tabWf (fun _ => d) (tabMap d f t) = true
  | [], _ => rfl
  | (j, w) :: t, ht => by
    simp only [tabWf, Bool.and_eq_true, decide_eq_true_eq] at ht
    have ih := tabWf_tabMap d f ht.2
    simp only [tabMap, List.map_cons, List.filter_cons] at ih ⊢
    split
    · rename_i h
      simp only [decide_eq_true_eq] at h
      simp only [tabWf, Bool.and_eq_true, decide_eq_true_eq]
      exact ⟨⟨h, tabAbove_map_filter j f _ ht.1.2⟩, ih⟩
    · exact ih

/-- Tables in canonical form that read alike are equal. -/
theorem tab_ext {α : Type} [DecidableEq α] (d : Nat → α) :
    ∀ {t u : Tab α}, tabWf d t = true → tabWf d u = true → (∀ k, tabGet (d k) k t = tabGet (d k) k u) → t = u
  | [], [], _, _, _ => rfl
  | [], (j, w) :: u, _, hu, h => by
    have := h j
    simp [tabGet, tabWf] at this hu
    exact absurd this.symm hu.1.1
  | (j, w) :: t, [], ht, _, h => by
    have := h j
    simp [tabGet, tabWf] at this ht
    exact absurd this ht.1.1
  | (i, v) :: t, (j, w) :: u, ht, hu, h => by
    have ht' := ht
    have hu' := hu
    simp only [tabWf, Bool.and_eq_true, decide_eq_true_eq] at ht hu
    rcases Nat.lt_trichotomy i j with hij | hij | hij
    · have := h i
      simp only [tabGet, if_true, if_neg (show i ≠ j by omega), tabGet_of_above (d i) (tabAbove_trans hij hu.1.2)] at this
      exact absurd this ht.1.1
    · subst hij
      have hv : v = w := by simpa [tabGet] using h i
      subst hv
      have : t = u := tab_ext d ht.2 hu.2 fun k => by
        by_cases hk : k = i
        · subst hk
          rw [tabGet_of_above _ ht.1.2, tabGet_of_above _ hu.1.2]
        · simpa [tabGet, hk] using h k
      rw [this]
    · have := h j
      simp only [tabGet, if_true, if_neg (show j ≠ i by omega), tabGet_of_above (d j) (tabAbove_trans hij ht.1.2)] at this
      exact absurd this.symm hu.1.1

/-! ### The state image -/

@[simp] theorem Replica.put_base (st : Station) (r : Replica) (a : Nat) (c : Cell) : (r.put st a c).base = r.base := rfl

/-- A write to the state image keeps its canonical form. -/
theorem Replica.wf_put (st : Station) (r : Replica) (a : Nat) (c : Cell) (h : r.wf st = true) : (r.put st a c).wf st = true :=
  tabWf_tabSet (baseCell st r.base) a c h

/-- A cell of the state image reads as it was last written. -/
theorem Replica.get_put_self (st : Station) (r : Replica) (a : Nat) (c : Cell) (h : r.wf st = true) :
    (r.put st a c).get st a = c := tabGet_tabSet_self (baseCell st r.base) a c h

/-- Every other cell reads as before. -/
theorem Replica.get_put_ne (st : Station) (r : Replica) {a b : Nat} (c : Cell) (h : b ≠ a) :
    (r.put st a c).get st b = r.get st b := tabGet_tabSet_ne _ c _ h r.cells

/-- The state image after power-on lists nothing. -/
theorem Replica.wf_reset (st : Station) : Replica.reset.wf st = true := rfl

/-- Replicas in canonical form that show the same cells are equal. -/
theorem Replica.ext_get (st : Station) {r u : Replica} (hb : r.base = u.base) (hr : r.wf st = true) (hu : u.wf st = true)
    (h : ∀ a, r.get st a = u.get st a) : r = u := by
  obtain ⟨b, t⟩ := r
  obtain ⟨b', t'⟩ := u
  simp only at hb
  subst hb
  exact congrArg (Replica.mk b) (tab_ext (baseCell st b) hr hu h)

end Sys2Proof.Machine
end

