-- ==== Sys2Proof/Laws/Image.lean ====
section
/-! SUPPORT. The writers of the state image keep the canonical form of both replicas (R102, R111). -/

namespace Sys2Proof.Machine

open Sys2Proof.Safety

@[simp] theorem State.putCell_img (s : State) (a : Nat) (c : Cell) : (s.putCell a c).img = s.img := rfl
@[simp] theorem State.putCell_lane (s : State) (a : Nat) (c : Cell) : (s.putCell a c).lane = s.lane := rfl
@[simp] theorem State.putCell_rcd (s : State) (a : Nat) (c : Cell) : (s.putCell a c).rcd = s.rcd := rfl
@[simp] theorem State.putCell_pending (s : State) (a : Nat) (c : Cell) : (s.putCell a c).pending = s.pending := rfl

/-- A cell written to both replicas. -/
theorem ReplicasWf.putCell {s : State} (h : ReplicasWf s) (a : Nat) (c : Cell) : ReplicasWf (s.putCell a c) :=
  ⟨Replica.wf_put _ _ _ _ h.1, Replica.wf_put _ _ _ _ h.2⟩

/-- The written cell of replica 0 reads as written. -/
theorem State.cell_putCell_self {s : State} (h : ReplicasWf s) (a : Nat) (c : Cell) : (s.putCell a c).cell a = c :=
  Replica.get_put_self _ _ a c h.1

theorem State.cell_putCell_ne (s : State) {a b : Nat} (c : Cell) (h : b ≠ a) : (s.putCell a c).cell b = s.cell b :=
  Replica.get_put_ne _ _ c h

/-- Cells written in order. -/
theorem ReplicasWf.putCells : ∀ (l : List (Nat × Cell)) {s : State}, ReplicasWf s → ReplicasWf (s.putCells l)
  | [], _, h => h
  | (a, c) :: t, _, h => ReplicasWf.putCells t (ReplicasWf.putCell h a c)

theorem State.cell_putCells_ne : ∀ (l : List (Nat × Cell)) (s : State) {b : Nat}, (∀ e ∈ l, b ≠ e.1) →
    (s.putCells l).cell b = s.cell b
  | [], _, _, _ => rfl
  | (a, c) :: t, s, b, h => by
    rw [State.putCells, State.cell_putCells_ne t _ fun e he => h e (List.mem_cons_of_mem _ he),
      State.cell_putCell_ne s c (h (a, c) List.mem_cons_self)]

/-- A drain of the store buffer (R109). -/
theorem Replica.wf_drainInto (st : Station) (r : Replica) (b : List StoreEntry) (h : r.wf st = true) :
    (drainInto st r b).wf st = true := by
  have fold (p : StoreEntry → Bool) : ∀ (l : List StoreEntry) (r : Replica), r.wf st = true →
      (l.foldl (fun r e => if p e then r.put st e.addr e.content else r) r).wf st = true := by
    intro l
    induction l with
    | nil => exact fun _ h => h
    | cons e l ih =>
      intro r h
      refine ih _ ?_
      dsimp only
      split
      · exact Replica.wf_put st r _ _ h
      · exact h
  exact fold _ b r h

/-- The machine after reset. -/
theorem reset_replicasWf : ReplicasWf State.reset := ⟨rfl, rfl⟩

end Sys2Proof.Machine
end

