-- ==== Sys2Proof/Laws/State.lean ====
section
/-! SUPPORT. What the plain updates of State change: one lemma for each field that an update leaves or sets. -/

namespace Sys2Proof.Machine

@[simp] theorem State.attn_pins (s : State) (k : Nat) : (s.attn k).pins = s.pins := rfl
@[simp] theorem State.attn_crt (s : State) (k : Nat) : (s.attn k).crt = s.crt := rfl
@[simp] theorem State.attn_sup (s : State) (k : Nat) : (s.attn k).sup = s.sup := rfl
@[simp] theorem State.attn_tae (s : State) (k : Nat) : (s.attn k).tae = s.tae := rfl
@[simp] theorem State.attn_lge (s : State) (k : Nat) : (s.attn k).lge = s.lge := rfl
@[simp] theorem State.attn_grd (s : State) (k : Nat) : (s.attn k).grd = s.grd := rfl
@[simp] theorem State.attn_vio (s : State) (k : Nat) : (s.attn k).vio = s.vio := rfl
@[simp] theorem State.attn_lmp (s : State) (k : Nat) : (s.attn k).lmp = s.lmp := rfl
@[simp] theorem State.attn_mea (s : State) (k : Nat) : (s.attn k).mea = s.mea := rfl
@[simp] theorem State.attn_lnb (s : State) (k : Nat) : (s.attn k).lnb = s.lnb := rfl
@[simp] theorem State.attn_fld (s : State) (k : Nat) : (s.attn k).fld = s.fld := rfl
@[simp] theorem State.attn_cab (s : State) (k : Nat) : (s.attn k).cab = s.cab := rfl
@[simp] theorem State.attn_rcd (s : State) (k : Nat) : (s.attn k).rcd = s.rcd := rfl
@[simp] theorem State.attn_upd (s : State) (k : Nat) : (s.attn k).upd = s.upd := rfl
@[simp] theorem State.attn_inp (s : State) (k : Nat) : (s.attn k).inp = s.inp := rfl
@[simp] theorem State.attn_img (s : State) (k : Nat) : (s.attn k).img = s.img := rfl
@[simp] theorem State.attn_pending (s : State) (k : Nat) : (s.attn k).pending = s.pending := rfl
@[simp] theorem State.attn_lane (s : State) (k : Nat) : (s.attn k).lane = { s.lane with attn := putBit s.lane.attn k true } := rfl
@[simp] theorem State.cmdEnd_pins (s : State)  : (s.cmdEnd ).pins = s.pins := rfl
@[simp] theorem State.cmdEnd_crt (s : State)  : (s.cmdEnd ).crt = s.crt := rfl
@[simp] theorem State.cmdEnd_sup (s : State)  : (s.cmdEnd ).sup = s.sup := rfl
@[simp] theorem State.cmdEnd_tae (s : State)  : (s.cmdEnd ).tae = s.tae := rfl
@[simp] theorem State.cmdEnd_lge (s : State)  : (s.cmdEnd ).lge = s.lge := rfl
@[simp] theorem State.cmdEnd_grd (s : State)  : (s.cmdEnd ).grd = s.grd := rfl
@[simp] theorem State.cmdEnd_vio (s : State)  : (s.cmdEnd ).vio = s.vio := rfl
@[simp] theorem State.cmdEnd_lmp (s : State)  : (s.cmdEnd ).lmp = s.lmp := rfl
@[simp] theorem State.cmdEnd_mea (s : State)  : (s.cmdEnd ).mea = s.mea := rfl
@[simp] theorem State.cmdEnd_lnb (s : State)  : (s.cmdEnd ).lnb = s.lnb := rfl
@[simp] theorem State.cmdEnd_fld (s : State)  : (s.cmdEnd ).fld = s.fld := rfl
@[simp] theorem State.cmdEnd_cab (s : State)  : (s.cmdEnd ).cab = s.cab := rfl
@[simp] theorem State.cmdEnd_rcd (s : State)  : (s.cmdEnd ).rcd = s.rcd := rfl
@[simp] theorem State.cmdEnd_upd (s : State)  : (s.cmdEnd ).upd = s.upd := rfl
@[simp] theorem State.cmdEnd_inp (s : State)  : (s.cmdEnd ).inp = s.inp := rfl
@[simp] theorem State.cmdEnd_img (s : State)  : (s.cmdEnd ).img = s.img := rfl
@[simp] theorem State.cmdEnd_pending (s : State)  : (s.cmdEnd ).pending = s.pending := rfl
@[simp] theorem State.cmdEnd_lane (s : State) : s.cmdEnd.lane = { s.lane with attn := putBit s.lane.attn 3 true } := rfl
@[simp] theorem State.attnEvt_pins (s : State) (q : Bool) : (s.attnEvt q).pins = s.pins := by cases q <;> rfl
@[simp] theorem State.attnEvt_crt (s : State) (q : Bool) : (s.attnEvt q).crt = s.crt := by cases q <;> rfl
@[simp] theorem State.attnEvt_sup (s : State) (q : Bool) : (s.attnEvt q).sup = s.sup := by cases q <;> rfl
@[simp] theorem State.attnEvt_tae (s : State) (q : Bool) : (s.attnEvt q).tae = s.tae := by cases q <;> rfl
@[simp] theorem State.attnEvt_lge (s : State) (q : Bool) : (s.attnEvt q).lge = s.lge := by cases q <;> rfl
@[simp] theorem State.attnEvt_grd (s : State) (q : Bool) : (s.attnEvt q).grd = s.grd := by cases q <;> rfl
@[simp] theorem State.attnEvt_vio (s : State) (q : Bool) : (s.attnEvt q).vio = s.vio := by cases q <;> rfl
@[simp] theorem State.attnEvt_lmp (s : State) (q : Bool) : (s.attnEvt q).lmp = s.lmp := by cases q <;> rfl
@[simp] theorem State.attnEvt_mea (s : State) (q : Bool) : (s.attnEvt q).mea = s.mea := by cases q <;> rfl
@[simp] theorem State.attnEvt_lnb (s : State) (q : Bool) : (s.attnEvt q).lnb = s.lnb := by cases q <;> rfl
@[simp] theorem State.attnEvt_fld (s : State) (q : Bool) : (s.attnEvt q).fld = s.fld := by cases q <;> rfl
@[simp] theorem State.attnEvt_cab (s : State) (q : Bool) : (s.attnEvt q).cab = s.cab := by cases q <;> rfl
@[simp] theorem State.attnEvt_rcd (s : State) (q : Bool) : (s.attnEvt q).rcd = s.rcd := by cases q <;> rfl
@[simp] theorem State.attnEvt_upd (s : State) (q : Bool) : (s.attnEvt q).upd = s.upd := by cases q <;> rfl
@[simp] theorem State.attnEvt_inp (s : State) (q : Bool) : (s.attnEvt q).inp = s.inp := by cases q <;> rfl
@[simp] theorem State.attnEvt_img (s : State) (q : Bool) : (s.attnEvt q).img = s.img := by cases q <;> rfl
@[simp] theorem State.attnEvt_pending (s : State) (q : Bool) : (s.attnEvt q).pending = s.pending := by cases q <;> rfl
@[simp] theorem State.attnEvt_lane (s : State) (q : Bool) : (s.attnEvt q).lane = { s.lane with attn := if q then putBit s.lane.attn 5 true else s.lane.attn } := by cases q <;> rfl
@[simp] theorem State.advance_lane (s : State) (n : Nat) : (s.advance n).lane = s.lane := rfl
@[simp] theorem State.advance_crt (s : State) (n : Nat) : (s.advance n).crt = s.crt := rfl
@[simp] theorem State.advance_sup (s : State) (n : Nat) : (s.advance n).sup = s.sup := rfl
@[simp] theorem State.advance_tae (s : State) (n : Nat) : (s.advance n).tae = s.tae := rfl
@[simp] theorem State.advance_lge (s : State) (n : Nat) : (s.advance n).lge = s.lge := rfl
@[simp] theorem State.advance_grd (s : State) (n : Nat) : (s.advance n).grd = s.grd := rfl
@[simp] theorem State.advance_vio (s : State) (n : Nat) : (s.advance n).vio = s.vio := rfl
@[simp] theorem State.advance_lmp (s : State) (n : Nat) : (s.advance n).lmp = s.lmp := rfl
@[simp] theorem State.advance_mea (s : State) (n : Nat) : (s.advance n).mea = s.mea := rfl
@[simp] theorem State.advance_lnb (s : State) (n : Nat) : (s.advance n).lnb = s.lnb := rfl
@[simp] theorem State.advance_fld (s : State) (n : Nat) : (s.advance n).fld = s.fld := rfl
@[simp] theorem State.advance_cab (s : State) (n : Nat) : (s.advance n).cab = s.cab := rfl
@[simp] theorem State.advance_rcd (s : State) (n : Nat) : (s.advance n).rcd = s.rcd := rfl
@[simp] theorem State.advance_upd (s : State) (n : Nat) : (s.advance n).upd = s.upd := rfl
@[simp] theorem State.advance_inp (s : State) (n : Nat) : (s.advance n).inp = s.inp := rfl
@[simp] theorem State.advance_img (s : State) (n : Nat) : (s.advance n).img = s.img := rfl
@[simp] theorem State.advance_pending (s : State) (n : Nat) : (s.advance n).pending = s.pending := rfl
@[simp] theorem State.advance_pins (s : State) (n : Nat) : (s.advance n).pins = { s.pins with now := max s.pins.now n } := rfl
@[simp] theorem State.send_lane (s : State) (x : Sent) : (s.send x).lane = s.lane := rfl
@[simp] theorem State.send_crt (s : State) (x : Sent) : (s.send x).crt = s.crt := rfl
@[simp] theorem State.send_sup (s : State) (x : Sent) : (s.send x).sup = s.sup := rfl
@[simp] theorem State.send_tae (s : State) (x : Sent) : (s.send x).tae = s.tae := rfl
@[simp] theorem State.send_lge (s : State) (x : Sent) : (s.send x).lge = s.lge := rfl
@[simp] theorem State.send_grd (s : State) (x : Sent) : (s.send x).grd = s.grd := rfl
@[simp] theorem State.send_vio (s : State) (x : Sent) : (s.send x).vio = s.vio := rfl
@[simp] theorem State.send_lmp (s : State) (x : Sent) : (s.send x).lmp = s.lmp := rfl
@[simp] theorem State.send_mea (s : State) (x : Sent) : (s.send x).mea = s.mea := rfl
@[simp] theorem State.send_lnb (s : State) (x : Sent) : (s.send x).lnb = s.lnb := rfl
@[simp] theorem State.send_fld (s : State) (x : Sent) : (s.send x).fld = s.fld := rfl
@[simp] theorem State.send_cab (s : State) (x : Sent) : (s.send x).cab = s.cab := rfl
@[simp] theorem State.send_rcd (s : State) (x : Sent) : (s.send x).rcd = s.rcd := rfl
@[simp] theorem State.send_upd (s : State) (x : Sent) : (s.send x).upd = s.upd := rfl
@[simp] theorem State.send_inp (s : State) (x : Sent) : (s.send x).inp = s.inp := rfl
@[simp] theorem State.send_img (s : State) (x : Sent) : (s.send x).img = s.img := rfl
@[simp] theorem State.send_pending (s : State) (x : Sent) : (s.send x).pending = s.pending := rfl
@[simp] theorem State.send_pins (s : State) (x : Sent) : (s.send x).pins = { s.pins with sent := x :: s.pins.sent } := rfl
@[simp] theorem State.freeUsed_lane (s : State)  : (s.freeUsed ).lane = s.lane := rfl
@[simp] theorem State.freeUsed_crt (s : State)  : (s.freeUsed ).crt = s.crt := rfl
@[simp] theorem State.freeUsed_sup (s : State)  : (s.freeUsed ).sup = s.sup := rfl
@[simp] theorem State.freeUsed_tae (s : State)  : (s.freeUsed ).tae = s.tae := rfl
@[simp] theorem State.freeUsed_lge (s : State)  : (s.freeUsed ).lge = s.lge := rfl
@[simp] theorem State.freeUsed_grd (s : State)  : (s.freeUsed ).grd = s.grd := rfl
@[simp] theorem State.freeUsed_vio (s : State)  : (s.freeUsed ).vio = s.vio := rfl
@[simp] theorem State.freeUsed_lmp (s : State)  : (s.freeUsed ).lmp = s.lmp := rfl
@[simp] theorem State.freeUsed_mea (s : State)  : (s.freeUsed ).mea = s.mea := rfl
@[simp] theorem State.freeUsed_lnb (s : State)  : (s.freeUsed ).lnb = s.lnb := rfl
@[simp] theorem State.freeUsed_fld (s : State)  : (s.freeUsed ).fld = s.fld := rfl
@[simp] theorem State.freeUsed_cab (s : State)  : (s.freeUsed ).cab = s.cab := rfl
@[simp] theorem State.freeUsed_rcd (s : State)  : (s.freeUsed ).rcd = s.rcd := rfl
@[simp] theorem State.freeUsed_upd (s : State)  : (s.freeUsed ).upd = s.upd := rfl
@[simp] theorem State.freeUsed_inp (s : State)  : (s.freeUsed ).inp = s.inp := rfl
@[simp] theorem State.freeUsed_img (s : State)  : (s.freeUsed ).img = s.img := rfl
@[simp] theorem State.freeUsed_pending (s : State)  : (s.freeUsed ).pending = s.pending := rfl
@[simp] theorem State.freeUsed_pins (s : State) : s.freeUsed.pins = { s.pins with free := s.pins.free + 1 } := rfl
@[simp] theorem State.evtCrt_pins (s : State) (k : Nat) : (s.evtCrt k).pins = s.pins := by simp [State.evtCrt]
@[simp] theorem State.evtCrt_sup (s : State) (k : Nat) : (s.evtCrt k).sup = s.sup := by simp [State.evtCrt]
@[simp] theorem State.evtCrt_tae (s : State) (k : Nat) : (s.evtCrt k).tae = s.tae := by simp [State.evtCrt]
@[simp] theorem State.evtCrt_lge (s : State) (k : Nat) : (s.evtCrt k).lge = s.lge := by simp [State.evtCrt]
@[simp] theorem State.evtCrt_grd (s : State) (k : Nat) : (s.evtCrt k).grd = s.grd := by simp [State.evtCrt]
@[simp] theorem State.evtCrt_vio (s : State) (k : Nat) : (s.evtCrt k).vio = s.vio := by simp [State.evtCrt]
@[simp] theorem State.evtCrt_lmp (s : State) (k : Nat) : (s.evtCrt k).lmp = s.lmp := by simp [State.evtCrt]
@[simp] theorem State.evtCrt_mea (s : State) (k : Nat) : (s.evtCrt k).mea = s.mea := by simp [State.evtCrt]
@[simp] theorem State.evtCrt_lnb (s : State) (k : Nat) : (s.evtCrt k).lnb = s.lnb := by simp [State.evtCrt]
@[simp] theorem State.evtCrt_fld (s : State) (k : Nat) : (s.evtCrt k).fld = s.fld := by simp [State.evtCrt]
@[simp] theorem State.evtCrt_cab (s : State) (k : Nat) : (s.evtCrt k).cab = s.cab := by simp [State.evtCrt]
@[simp] theorem State.evtCrt_rcd (s : State) (k : Nat) : (s.evtCrt k).rcd = s.rcd := by simp [State.evtCrt]
@[simp] theorem State.evtCrt_upd (s : State) (k : Nat) : (s.evtCrt k).upd = s.upd := by simp [State.evtCrt]
@[simp] theorem State.evtCrt_inp (s : State) (k : Nat) : (s.evtCrt k).inp = s.inp := by simp [State.evtCrt]
@[simp] theorem State.evtCrt_img (s : State) (k : Nat) : (s.evtCrt k).img = s.img := by simp [State.evtCrt]
@[simp] theorem State.evtCrt_pending (s : State) (k : Nat) : (s.evtCrt k).pending = s.pending := by simp [State.evtCrt]
@[simp] theorem State.evtCrt_crt (s : State) (k : Nat) : (s.evtCrt k).crt = { s.crt with evt := putBit s.crt.evt k true } := by simp [State.evtCrt]
@[simp] theorem State.evtCrt_lane (s : State) (k : Nat) : (s.evtCrt k).lane = { s.lane with attn := if decide (s.crt.evt = 0) then putBit s.lane.attn 5 true else s.lane.attn } := by simp [State.evtCrt]
@[simp] theorem State.evtTae_pins (s : State) (k : Nat) : (s.evtTae k).pins = s.pins := by simp [State.evtTae]
@[simp] theorem State.evtTae_crt (s : State) (k : Nat) : (s.evtTae k).crt = s.crt := by simp [State.evtTae]
@[simp] theorem State.evtTae_sup (s : State) (k : Nat) : (s.evtTae k).sup = s.sup := by simp [State.evtTae]
@[simp] theorem State.evtTae_lge (s : State) (k : Nat) : (s.evtTae k).lge = s.lge := by simp [State.evtTae]
@[simp] theorem State.evtTae_grd (s : State) (k : Nat) : (s.evtTae k).grd = s.grd := by simp [State.evtTae]
@[simp] theorem State.evtTae_vio (s : State) (k : Nat) : (s.evtTae k).vio = s.vio := by simp [State.evtTae]
@[simp] theorem State.evtTae_lmp (s : State) (k : Nat) : (s.evtTae k).lmp = s.lmp := by simp [State.evtTae]
@[simp] theorem State.evtTae_mea (s : State) (k : Nat) : (s.evtTae k).mea = s.mea := by simp [State.evtTae]
@[simp] theorem State.evtTae_lnb (s : State) (k : Nat) : (s.evtTae k).lnb = s.lnb := by simp [State.evtTae]
@[simp] theorem State.evtTae_fld (s : State) (k : Nat) : (s.evtTae k).fld = s.fld := by simp [State.evtTae]
@[simp] theorem State.evtTae_cab (s : State) (k : Nat) : (s.evtTae k).cab = s.cab := by simp [State.evtTae]
@[simp] theorem State.evtTae_rcd (s : State) (k : Nat) : (s.evtTae k).rcd = s.rcd := by simp [State.evtTae]
@[simp] theorem State.evtTae_upd (s : State) (k : Nat) : (s.evtTae k).upd = s.upd := by simp [State.evtTae]
@[simp] theorem State.evtTae_inp (s : State) (k : Nat) : (s.evtTae k).inp = s.inp := by simp [State.evtTae]
@[simp] theorem State.evtTae_img (s : State) (k : Nat) : (s.evtTae k).img = s.img := by simp [State.evtTae]
@[simp] theorem State.evtTae_pending (s : State) (k : Nat) : (s.evtTae k).pending = s.pending := by simp [State.evtTae]
@[simp] theorem State.evtTae_tae (s : State) (k : Nat) : (s.evtTae k).tae = { s.tae with evt := putBit s.tae.evt k true } := by simp [State.evtTae]
@[simp] theorem State.evtTae_lane (s : State) (k : Nat) : (s.evtTae k).lane = { s.lane with attn := if decide (s.tae.evt = 0) then putBit s.lane.attn 5 true else s.lane.attn } := by simp [State.evtTae]
@[simp] theorem State.evtLge_pins (s : State) (k : Nat) : (s.evtLge k).pins = s.pins := by simp [State.evtLge]
@[simp] theorem State.evtLge_crt (s : State) (k : Nat) : (s.evtLge k).crt = s.crt := by simp [State.evtLge]
@[simp] theorem State.evtLge_sup (s : State) (k : Nat) : (s.evtLge k).sup = s.sup := by simp [State.evtLge]
@[simp] theorem State.evtLge_tae (s : State) (k : Nat) : (s.evtLge k).tae = s.tae := by simp [State.evtLge]
@[simp] theorem State.evtLge_grd (s : State) (k : Nat) : (s.evtLge k).grd = s.grd := by simp [State.evtLge]
@[simp] theorem State.evtLge_vio (s : State) (k : Nat) : (s.evtLge k).vio = s.vio := by simp [State.evtLge]
@[simp] theorem State.evtLge_lmp (s : State) (k : Nat) : (s.evtLge k).lmp = s.lmp := by simp [State.evtLge]
@[simp] theorem State.evtLge_mea (s : State) (k : Nat) : (s.evtLge k).mea = s.mea := by simp [State.evtLge]
@[simp] theorem State.evtLge_lnb (s : State) (k : Nat) : (s.evtLge k).lnb = s.lnb := by simp [State.evtLge]
@[simp] theorem State.evtLge_fld (s : State) (k : Nat) : (s.evtLge k).fld = s.fld := by simp [State.evtLge]
@[simp] theorem State.evtLge_cab (s : State) (k : Nat) : (s.evtLge k).cab = s.cab := by simp [State.evtLge]
@[simp] theorem State.evtLge_rcd (s : State) (k : Nat) : (s.evtLge k).rcd = s.rcd := by simp [State.evtLge]
@[simp] theorem State.evtLge_upd (s : State) (k : Nat) : (s.evtLge k).upd = s.upd := by simp [State.evtLge]
@[simp] theorem State.evtLge_inp (s : State) (k : Nat) : (s.evtLge k).inp = s.inp := by simp [State.evtLge]
@[simp] theorem State.evtLge_img (s : State) (k : Nat) : (s.evtLge k).img = s.img := by simp [State.evtLge]
@[simp] theorem State.evtLge_pending (s : State) (k : Nat) : (s.evtLge k).pending = s.pending := by simp [State.evtLge]
@[simp] theorem State.evtLge_lge (s : State) (k : Nat) : (s.evtLge k).lge = { s.lge with evt := putBit s.lge.evt k true } := by simp [State.evtLge]
@[simp] theorem State.evtLge_lane (s : State) (k : Nat) : (s.evtLge k).lane = { s.lane with attn := if decide (s.lge.evt = 0) then putBit s.lane.attn 5 true else s.lane.attn } := by simp [State.evtLge]
@[simp] theorem State.evtGrd_pins (s : State) (k : Nat) : (s.evtGrd k).pins = s.pins := by simp [State.evtGrd]
@[simp] theorem State.evtGrd_crt (s : State) (k : Nat) : (s.evtGrd k).crt = s.crt := by simp [State.evtGrd]
@[simp] theorem State.evtGrd_sup (s : State) (k : Nat) : (s.evtGrd k).sup = s.sup := by simp [State.evtGrd]
@[simp] theorem State.evtGrd_tae (s : State) (k : Nat) : (s.evtGrd k).tae = s.tae := by simp [State.evtGrd]
@[simp] theorem State.evtGrd_lge (s : State) (k : Nat) : (s.evtGrd k).lge = s.lge := by simp [State.evtGrd]
@[simp] theorem State.evtGrd_vio (s : State) (k : Nat) : (s.evtGrd k).vio = s.vio := by simp [State.evtGrd]
@[simp] theorem State.evtGrd_lmp (s : State) (k : Nat) : (s.evtGrd k).lmp = s.lmp := by simp [State.evtGrd]
@[simp] theorem State.evtGrd_mea (s : State) (k : Nat) : (s.evtGrd k).mea = s.mea := by simp [State.evtGrd]
@[simp] theorem State.evtGrd_lnb (s : State) (k : Nat) : (s.evtGrd k).lnb = s.lnb := by simp [State.evtGrd]
@[simp] theorem State.evtGrd_fld (s : State) (k : Nat) : (s.evtGrd k).fld = s.fld := by simp [State.evtGrd]
@[simp] theorem State.evtGrd_cab (s : State) (k : Nat) : (s.evtGrd k).cab = s.cab := by simp [State.evtGrd]
@[simp] theorem State.evtGrd_rcd (s : State) (k : Nat) : (s.evtGrd k).rcd = s.rcd := by simp [State.evtGrd]
@[simp] theorem State.evtGrd_upd (s : State) (k : Nat) : (s.evtGrd k).upd = s.upd := by simp [State.evtGrd]
@[simp] theorem State.evtGrd_inp (s : State) (k : Nat) : (s.evtGrd k).inp = s.inp := by simp [State.evtGrd]
@[simp] theorem State.evtGrd_img (s : State) (k : Nat) : (s.evtGrd k).img = s.img := by simp [State.evtGrd]
@[simp] theorem State.evtGrd_pending (s : State) (k : Nat) : (s.evtGrd k).pending = s.pending := by simp [State.evtGrd]
@[simp] theorem State.evtGrd_grd (s : State) (k : Nat) : (s.evtGrd k).grd = { s.grd with evt := putBit s.grd.evt k true } := by simp [State.evtGrd]
@[simp] theorem State.evtGrd_lane (s : State) (k : Nat) : (s.evtGrd k).lane = { s.lane with attn := if decide (s.grd.evt = 0) then putBit s.lane.attn 5 true else s.lane.attn } := by simp [State.evtGrd]
@[simp] theorem State.evtVio_pins (s : State) (k : Nat) : (s.evtVio k).pins = s.pins := by simp [State.evtVio]
@[simp] theorem State.evtVio_crt (s : State) (k : Nat) : (s.evtVio k).crt = s.crt := by simp [State.evtVio]
@[simp] theorem State.evtVio_sup (s : State) (k : Nat) : (s.evtVio k).sup = s.sup := by simp [State.evtVio]
@[simp] theorem State.evtVio_tae (s : State) (k : Nat) : (s.evtVio k).tae = s.tae := by simp [State.evtVio]
@[simp] theorem State.evtVio_lge (s : State) (k : Nat) : (s.evtVio k).lge = s.lge := by simp [State.evtVio]
@[simp] theorem State.evtVio_grd (s : State) (k : Nat) : (s.evtVio k).grd = s.grd := by simp [State.evtVio]
@[simp] theorem State.evtVio_lmp (s : State) (k : Nat) : (s.evtVio k).lmp = s.lmp := by simp [State.evtVio]
@[simp] theorem State.evtVio_mea (s : State) (k : Nat) : (s.evtVio k).mea = s.mea := by simp [State.evtVio]
@[simp] theorem State.evtVio_lnb (s : State) (k : Nat) : (s.evtVio k).lnb = s.lnb := by simp [State.evtVio]
@[simp] theorem State.evtVio_fld (s : State) (k : Nat) : (s.evtVio k).fld = s.fld := by simp [State.evtVio]
@[simp] theorem State.evtVio_cab (s : State) (k : Nat) : (s.evtVio k).cab = s.cab := by simp [State.evtVio]
@[simp] theorem State.evtVio_rcd (s : State) (k : Nat) : (s.evtVio k).rcd = s.rcd := by simp [State.evtVio]
@[simp] theorem State.evtVio_upd (s : State) (k : Nat) : (s.evtVio k).upd = s.upd := by simp [State.evtVio]
@[simp] theorem State.evtVio_inp (s : State) (k : Nat) : (s.evtVio k).inp = s.inp := by simp [State.evtVio]
@[simp] theorem State.evtVio_img (s : State) (k : Nat) : (s.evtVio k).img = s.img := by simp [State.evtVio]
@[simp] theorem State.evtVio_pending (s : State) (k : Nat) : (s.evtVio k).pending = s.pending := by simp [State.evtVio]
@[simp] theorem State.evtVio_vio (s : State) (k : Nat) : (s.evtVio k).vio = { s.vio with evt := putBit s.vio.evt k true } := by simp [State.evtVio]
@[simp] theorem State.evtVio_lane (s : State) (k : Nat) : (s.evtVio k).lane = { s.lane with attn := if decide (s.vio.evt = 0) then putBit s.lane.attn 5 true else s.lane.attn } := by simp [State.evtVio]
@[simp] theorem State.evtLmp_pins (s : State) (k : Nat) : (s.evtLmp k).pins = s.pins := by simp [State.evtLmp]
@[simp] theorem State.evtLmp_crt (s : State) (k : Nat) : (s.evtLmp k).crt = s.crt := by simp [State.evtLmp]
@[simp] theorem State.evtLmp_sup (s : State) (k : Nat) : (s.evtLmp k).sup = s.sup := by simp [State.evtLmp]
@[simp] theorem State.evtLmp_tae (s : State) (k : Nat) : (s.evtLmp k).tae = s.tae := by simp [State.evtLmp]
@[simp] theorem State.evtLmp_lge (s : State) (k : Nat) : (s.evtLmp k).lge = s.lge := by simp [State.evtLmp]
@[simp] theorem State.evtLmp_grd (s : State) (k : Nat) : (s.evtLmp k).grd = s.grd := by simp [State.evtLmp]
@[simp] theorem State.evtLmp_vio (s : State) (k : Nat) : (s.evtLmp k).vio = s.vio := by simp [State.evtLmp]
@[simp] theorem State.evtLmp_mea (s : State) (k : Nat) : (s.evtLmp k).mea = s.mea := by simp [State.evtLmp]
@[simp] theorem State.evtLmp_lnb (s : State) (k : Nat) : (s.evtLmp k).lnb = s.lnb := by simp [State.evtLmp]
@[simp] theorem State.evtLmp_fld (s : State) (k : Nat) : (s.evtLmp k).fld = s.fld := by simp [State.evtLmp]
@[simp] theorem State.evtLmp_cab (s : State) (k : Nat) : (s.evtLmp k).cab = s.cab := by simp [State.evtLmp]
@[simp] theorem State.evtLmp_rcd (s : State) (k : Nat) : (s.evtLmp k).rcd = s.rcd := by simp [State.evtLmp]
@[simp] theorem State.evtLmp_upd (s : State) (k : Nat) : (s.evtLmp k).upd = s.upd := by simp [State.evtLmp]
@[simp] theorem State.evtLmp_inp (s : State) (k : Nat) : (s.evtLmp k).inp = s.inp := by simp [State.evtLmp]
@[simp] theorem State.evtLmp_img (s : State) (k : Nat) : (s.evtLmp k).img = s.img := by simp [State.evtLmp]
@[simp] theorem State.evtLmp_pending (s : State) (k : Nat) : (s.evtLmp k).pending = s.pending := by simp [State.evtLmp]
@[simp] theorem State.evtLmp_lmp (s : State) (k : Nat) : (s.evtLmp k).lmp = { s.lmp with evt := putBit s.lmp.evt k true } := by simp [State.evtLmp]
@[simp] theorem State.evtLmp_lane (s : State) (k : Nat) : (s.evtLmp k).lane = { s.lane with attn := if (decide (s.lmp.evt = 0) && decide (s.lmp.pevt = 0)) then putBit s.lane.attn 5 true else s.lane.attn } := by simp [State.evtLmp]
@[simp] theorem State.pevtLmp_pins (s : State) (k : Nat) : (s.pevtLmp k).pins = s.pins := by simp [State.pevtLmp]
@[simp] theorem State.pevtLmp_crt (s : State) (k : Nat) : (s.pevtLmp k).crt = s.crt := by simp [State.pevtLmp]
@[simp] theorem State.pevtLmp_sup (s : State) (k : Nat) : (s.pevtLmp k).sup = s.sup := by simp [State.pevtLmp]
@[simp] theorem State.pevtLmp_tae (s : State) (k : Nat) : (s.pevtLmp k).tae = s.tae := by simp [State.pevtLmp]
@[simp] theorem State.pevtLmp_lge (s : State) (k : Nat) : (s.pevtLmp k).lge = s.lge := by simp [State.pevtLmp]
@[simp] theorem State.pevtLmp_grd (s : State) (k : Nat) : (s.pevtLmp k).grd = s.grd := by simp [State.pevtLmp]
@[simp] theorem State.pevtLmp_vio (s : State) (k : Nat) : (s.pevtLmp k).vio = s.vio := by simp [State.pevtLmp]
@[simp] theorem State.pevtLmp_mea (s : State) (k : Nat) : (s.pevtLmp k).mea = s.mea := by simp [State.pevtLmp]
@[simp] theorem State.pevtLmp_lnb (s : State) (k : Nat) : (s.pevtLmp k).lnb = s.lnb := by simp [State.pevtLmp]
@[simp] theorem State.pevtLmp_fld (s : State) (k : Nat) : (s.pevtLmp k).fld = s.fld := by simp [State.pevtLmp]
@[simp] theorem State.pevtLmp_cab (s : State) (k : Nat) : (s.pevtLmp k).cab = s.cab := by simp [State.pevtLmp]
@[simp] theorem State.pevtLmp_rcd (s : State) (k : Nat) : (s.pevtLmp k).rcd = s.rcd := by simp [State.pevtLmp]
@[simp] theorem State.pevtLmp_upd (s : State) (k : Nat) : (s.pevtLmp k).upd = s.upd := by simp [State.pevtLmp]
@[simp] theorem State.pevtLmp_inp (s : State) (k : Nat) : (s.pevtLmp k).inp = s.inp := by simp [State.pevtLmp]
@[simp] theorem State.pevtLmp_img (s : State) (k : Nat) : (s.pevtLmp k).img = s.img := by simp [State.pevtLmp]
@[simp] theorem State.pevtLmp_pending (s : State) (k : Nat) : (s.pevtLmp k).pending = s.pending := by simp [State.pevtLmp]
@[simp] theorem State.pevtLmp_lmp (s : State) (k : Nat) : (s.pevtLmp k).lmp = { s.lmp with pevt := putBit s.lmp.pevt k true } := by simp [State.pevtLmp]
@[simp] theorem State.pevtLmp_lane (s : State) (k : Nat) : (s.pevtLmp k).lane = { s.lane with attn := if (decide (s.lmp.evt = 0) && decide (s.lmp.pevt = 0)) then putBit s.lane.attn 5 true else s.lane.attn } := by simp [State.pevtLmp]
@[simp] theorem State.evtMea_pins (s : State) (k : Nat) : (s.evtMea k).pins = s.pins := by simp [State.evtMea]
@[simp] theorem State.evtMea_crt (s : State) (k : Nat) : (s.evtMea k).crt = s.crt := by simp [State.evtMea]
@[simp] theorem State.evtMea_sup (s : State) (k : Nat) : (s.evtMea k).sup = s.sup := by simp [State.evtMea]
@[simp] theorem State.evtMea_tae (s : State) (k : Nat) : (s.evtMea k).tae = s.tae := by simp [State.evtMea]
@[simp] theorem State.evtMea_lge (s : State) (k : Nat) : (s.evtMea k).lge = s.lge := by simp [State.evtMea]
@[simp] theorem State.evtMea_grd (s : State) (k : Nat) : (s.evtMea k).grd = s.grd := by simp [State.evtMea]
@[simp] theorem State.evtMea_vio (s : State) (k : Nat) : (s.evtMea k).vio = s.vio := by simp [State.evtMea]
@[simp] theorem State.evtMea_lmp (s : State) (k : Nat) : (s.evtMea k).lmp = s.lmp := by simp [State.evtMea]
@[simp] theorem State.evtMea_lnb (s : State) (k : Nat) : (s.evtMea k).lnb = s.lnb := by simp [State.evtMea]
@[simp] theorem State.evtMea_fld (s : State) (k : Nat) : (s.evtMea k).fld = s.fld := by simp [State.evtMea]
@[simp] theorem State.evtMea_cab (s : State) (k : Nat) : (s.evtMea k).cab = s.cab := by simp [State.evtMea]
@[simp] theorem State.evtMea_rcd (s : State) (k : Nat) : (s.evtMea k).rcd = s.rcd := by simp [State.evtMea]
@[simp] theorem State.evtMea_upd (s : State) (k : Nat) : (s.evtMea k).upd = s.upd := by simp [State.evtMea]
@[simp] theorem State.evtMea_inp (s : State) (k : Nat) : (s.evtMea k).inp = s.inp := by simp [State.evtMea]
@[simp] theorem State.evtMea_img (s : State) (k : Nat) : (s.evtMea k).img = s.img := by simp [State.evtMea]
@[simp] theorem State.evtMea_pending (s : State) (k : Nat) : (s.evtMea k).pending = s.pending := by simp [State.evtMea]
@[simp] theorem State.evtMea_mea (s : State) (k : Nat) : (s.evtMea k).mea = { s.mea with evt := putBit s.mea.evt k true } := by simp [State.evtMea]
@[simp] theorem State.evtMea_lane (s : State) (k : Nat) : (s.evtMea k).lane = { s.lane with attn := if decide (s.mea.evt = 0) then putBit s.lane.attn 5 true else s.lane.attn } := by simp [State.evtMea]
@[simp] theorem State.evtLnb_pins (s : State) (k : Nat) : (s.evtLnb k).pins = s.pins := by simp [State.evtLnb]
@[simp] theorem State.evtLnb_crt (s : State) (k : Nat) : (s.evtLnb k).crt = s.crt := by simp [State.evtLnb]
@[simp] theorem State.evtLnb_sup (s : State) (k : Nat) : (s.evtLnb k).sup = s.sup := by simp [State.evtLnb]
@[simp] theorem State.evtLnb_tae (s : State) (k : Nat) : (s.evtLnb k).tae = s.tae := by simp [State.evtLnb]
@[simp] theorem State.evtLnb_lge (s : State) (k : Nat) : (s.evtLnb k).lge = s.lge := by simp [State.evtLnb]
@[simp] theorem State.evtLnb_grd (s : State) (k : Nat) : (s.evtLnb k).grd = s.grd := by simp [State.evtLnb]
@[simp] theorem State.evtLnb_vio (s : State) (k : Nat) : (s.evtLnb k).vio = s.vio := by simp [State.evtLnb]
@[simp] theorem State.evtLnb_lmp (s : State) (k : Nat) : (s.evtLnb k).lmp = s.lmp := by simp [State.evtLnb]
@[simp] theorem State.evtLnb_mea (s : State) (k : Nat) : (s.evtLnb k).mea = s.mea := by simp [State.evtLnb]
@[simp] theorem State.evtLnb_fld (s : State) (k : Nat) : (s.evtLnb k).fld = s.fld := by simp [State.evtLnb]
@[simp] theorem State.evtLnb_cab (s : State) (k : Nat) : (s.evtLnb k).cab = s.cab := by simp [State.evtLnb]
@[simp] theorem State.evtLnb_rcd (s : State) (k : Nat) : (s.evtLnb k).rcd = s.rcd := by simp [State.evtLnb]
@[simp] theorem State.evtLnb_upd (s : State) (k : Nat) : (s.evtLnb k).upd = s.upd := by simp [State.evtLnb]
@[simp] theorem State.evtLnb_inp (s : State) (k : Nat) : (s.evtLnb k).inp = s.inp := by simp [State.evtLnb]
@[simp] theorem State.evtLnb_img (s : State) (k : Nat) : (s.evtLnb k).img = s.img := by simp [State.evtLnb]
@[simp] theorem State.evtLnb_pending (s : State) (k : Nat) : (s.evtLnb k).pending = s.pending := by simp [State.evtLnb]
@[simp] theorem State.evtLnb_lnb (s : State) (k : Nat) : (s.evtLnb k).lnb = { s.lnb with evt := putBit s.lnb.evt k true } := by simp [State.evtLnb]
@[simp] theorem State.evtLnb_lane (s : State) (k : Nat) : (s.evtLnb k).lane = { s.lane with attn := if (decide (s.lnb.evt = 0) && decide (s.lnb.sevt = 0)) then putBit s.lane.attn 5 true else s.lane.attn } := by simp [State.evtLnb]
@[simp] theorem State.sevtLnb_pins (s : State) (k : Nat) : (s.sevtLnb k).pins = s.pins := by simp [State.sevtLnb]
@[simp] theorem State.sevtLnb_crt (s : State) (k : Nat) : (s.sevtLnb k).crt = s.crt := by simp [State.sevtLnb]
@[simp] theorem State.sevtLnb_sup (s : State) (k : Nat) : (s.sevtLnb k).sup = s.sup := by simp [State.sevtLnb]
@[simp] theorem State.sevtLnb_tae (s : State) (k : Nat) : (s.sevtLnb k).tae = s.tae := by simp [State.sevtLnb]
@[simp] theorem State.sevtLnb_lge (s : State) (k : Nat) : (s.sevtLnb k).lge = s.lge := by simp [State.sevtLnb]
@[simp] theorem State.sevtLnb_grd (s : State) (k : Nat) : (s.sevtLnb k).grd = s.grd := by simp [State.sevtLnb]
@[simp] theorem State.sevtLnb_vio (s : State) (k : Nat) : (s.sevtLnb k).vio = s.vio := by simp [State.sevtLnb]
@[simp] theorem State.sevtLnb_lmp (s : State) (k : Nat) : (s.sevtLnb k).lmp = s.lmp := by simp [State.sevtLnb]
@[simp] theorem State.sevtLnb_mea (s : State) (k : Nat) : (s.sevtLnb k).mea = s.mea := by simp [State.sevtLnb]
@[simp] theorem State.sevtLnb_fld (s : State) (k : Nat) : (s.sevtLnb k).fld = s.fld := by simp [State.sevtLnb]
@[simp] theorem State.sevtLnb_cab (s : State) (k : Nat) : (s.sevtLnb k).cab = s.cab := by simp [State.sevtLnb]
@[simp] theorem State.sevtLnb_rcd (s : State) (k : Nat) : (s.sevtLnb k).rcd = s.rcd := by simp [State.sevtLnb]
@[simp] theorem State.sevtLnb_upd (s : State) (k : Nat) : (s.sevtLnb k).upd = s.upd := by simp [State.sevtLnb]
@[simp] theorem State.sevtLnb_inp (s : State) (k : Nat) : (s.sevtLnb k).inp = s.inp := by simp [State.sevtLnb]
@[simp] theorem State.sevtLnb_img (s : State) (k : Nat) : (s.sevtLnb k).img = s.img := by simp [State.sevtLnb]
@[simp] theorem State.sevtLnb_pending (s : State) (k : Nat) : (s.sevtLnb k).pending = s.pending := by simp [State.sevtLnb]
@[simp] theorem State.sevtLnb_lnb (s : State) (k : Nat) : (s.sevtLnb k).lnb = { s.lnb with sevt := putBit s.lnb.sevt k true } := by simp [State.sevtLnb]
@[simp] theorem State.sevtLnb_lane (s : State) (k : Nat) : (s.sevtLnb k).lane = { s.lane with attn := if (decide (s.lnb.evt = 0) && decide (s.lnb.sevt = 0)) then putBit s.lane.attn 5 true else s.lane.attn } := by simp [State.sevtLnb]
@[simp] theorem State.evtFld_pins (s : State) (k : Nat) : (s.evtFld k).pins = s.pins := by simp [State.evtFld]
@[simp] theorem State.evtFld_crt (s : State) (k : Nat) : (s.evtFld k).crt = s.crt := by simp [State.evtFld]
@[simp] theorem State.evtFld_sup (s : State) (k : Nat) : (s.evtFld k).sup = s.sup := by simp [State.evtFld]
@[simp] theorem State.evtFld_tae (s : State) (k : Nat) : (s.evtFld k).tae = s.tae := by simp [State.evtFld]
@[simp] theorem State.evtFld_lge (s : State) (k : Nat) : (s.evtFld k).lge = s.lge := by simp [State.evtFld]
@[simp] theorem State.evtFld_grd (s : State) (k : Nat) : (s.evtFld k).grd = s.grd := by simp [State.evtFld]
@[simp] theorem State.evtFld_vio (s : State) (k : Nat) : (s.evtFld k).vio = s.vio := by simp [State.evtFld]
@[simp] theorem State.evtFld_lmp (s : State) (k : Nat) : (s.evtFld k).lmp = s.lmp := by simp [State.evtFld]
@[simp] theorem State.evtFld_mea (s : State) (k : Nat) : (s.evtFld k).mea = s.mea := by simp [State.evtFld]
@[simp] theorem State.evtFld_lnb (s : State) (k : Nat) : (s.evtFld k).lnb = s.lnb := by simp [State.evtFld]
@[simp] theorem State.evtFld_cab (s : State) (k : Nat) : (s.evtFld k).cab = s.cab := by simp [State.evtFld]
@[simp] theorem State.evtFld_rcd (s : State) (k : Nat) : (s.evtFld k).rcd = s.rcd := by simp [State.evtFld]
@[simp] theorem State.evtFld_upd (s : State) (k : Nat) : (s.evtFld k).upd = s.upd := by simp [State.evtFld]
@[simp] theorem State.evtFld_inp (s : State) (k : Nat) : (s.evtFld k).inp = s.inp := by simp [State.evtFld]
@[simp] theorem State.evtFld_img (s : State) (k : Nat) : (s.evtFld k).img = s.img := by simp [State.evtFld]
@[simp] theorem State.evtFld_pending (s : State) (k : Nat) : (s.evtFld k).pending = s.pending := by simp [State.evtFld]
@[simp] theorem State.evtFld_fld (s : State) (k : Nat) : (s.evtFld k).fld = { s.fld with evt := putBit s.fld.evt k true } := by simp [State.evtFld]
@[simp] theorem State.evtFld_lane (s : State) (k : Nat) : (s.evtFld k).lane = { s.lane with attn := if decide (s.fld.evt = 0) then putBit s.lane.attn 5 true else s.lane.attn } := by simp [State.evtFld]
@[simp] theorem State.evtCab_pins (s : State) (k : Nat) : (s.evtCab k).pins = s.pins := by simp [State.evtCab]
@[simp] theorem State.evtCab_crt (s : State) (k : Nat) : (s.evtCab k).crt = s.crt := by simp [State.evtCab]
@[simp] theorem State.evtCab_sup (s : State) (k : Nat) : (s.evtCab k).sup = s.sup := by simp [State.evtCab]
@[simp] theorem State.evtCab_tae (s : State) (k : Nat) : (s.evtCab k).tae = s.tae := by simp [State.evtCab]
@[simp] theorem State.evtCab_lge (s : State) (k : Nat) : (s.evtCab k).lge = s.lge := by simp [State.evtCab]
@[simp] theorem State.evtCab_grd (s : State) (k : Nat) : (s.evtCab k).grd = s.grd := by simp [State.evtCab]
@[simp] theorem State.evtCab_vio (s : State) (k : Nat) : (s.evtCab k).vio = s.vio := by simp [State.evtCab]
@[simp] theorem State.evtCab_lmp (s : State) (k : Nat) : (s.evtCab k).lmp = s.lmp := by simp [State.evtCab]
@[simp] theorem State.evtCab_mea (s : State) (k : Nat) : (s.evtCab k).mea = s.mea := by simp [State.evtCab]
@[simp] theorem State.evtCab_lnb (s : State) (k : Nat) : (s.evtCab k).lnb = s.lnb := by simp [State.evtCab]
@[simp] theorem State.evtCab_fld (s : State) (k : Nat) : (s.evtCab k).fld = s.fld := by simp [State.evtCab]
@[simp] theorem State.evtCab_rcd (s : State) (k : Nat) : (s.evtCab k).rcd = s.rcd := by simp [State.evtCab]
@[simp] theorem State.evtCab_upd (s : State) (k : Nat) : (s.evtCab k).upd = s.upd := by simp [State.evtCab]
@[simp] theorem State.evtCab_inp (s : State) (k : Nat) : (s.evtCab k).inp = s.inp := by simp [State.evtCab]
@[simp] theorem State.evtCab_img (s : State) (k : Nat) : (s.evtCab k).img = s.img := by simp [State.evtCab]
@[simp] theorem State.evtCab_pending (s : State) (k : Nat) : (s.evtCab k).pending = s.pending := by simp [State.evtCab]
@[simp] theorem State.evtCab_cab (s : State) (k : Nat) : (s.evtCab k).cab = { s.cab with evt := putBit s.cab.evt k true } := by simp [State.evtCab]
@[simp] theorem State.evtCab_lane (s : State) (k : Nat) : (s.evtCab k).lane = { s.lane with attn := if decide (s.cab.evt = 0) then putBit s.lane.attn 5 true else s.lane.attn } := by simp [State.evtCab]
@[simp] theorem State.evtRec_pins (s : State) (k : Nat) : (s.evtRec k).pins = s.pins := by simp [State.evtRec]
@[simp] theorem State.evtRec_crt (s : State) (k : Nat) : (s.evtRec k).crt = s.crt := by simp [State.evtRec]
@[simp] theorem State.evtRec_sup (s : State) (k : Nat) : (s.evtRec k).sup = s.sup := by simp [State.evtRec]
@[simp] theorem State.evtRec_tae (s : State) (k : Nat) : (s.evtRec k).tae = s.tae := by simp [State.evtRec]
@[simp] theorem State.evtRec_lge (s : State) (k : Nat) : (s.evtRec k).lge = s.lge := by simp [State.evtRec]
@[simp] theorem State.evtRec_grd (s : State) (k : Nat) : (s.evtRec k).grd = s.grd := by simp [State.evtRec]
@[simp] theorem State.evtRec_vio (s : State) (k : Nat) : (s.evtRec k).vio = s.vio := by simp [State.evtRec]
@[simp] theorem State.evtRec_lmp (s : State) (k : Nat) : (s.evtRec k).lmp = s.lmp := by simp [State.evtRec]
@[simp] theorem State.evtRec_mea (s : State) (k : Nat) : (s.evtRec k).mea = s.mea := by simp [State.evtRec]
@[simp] theorem State.evtRec_lnb (s : State) (k : Nat) : (s.evtRec k).lnb = s.lnb := by simp [State.evtRec]
@[simp] theorem State.evtRec_fld (s : State) (k : Nat) : (s.evtRec k).fld = s.fld := by simp [State.evtRec]
@[simp] theorem State.evtRec_cab (s : State) (k : Nat) : (s.evtRec k).cab = s.cab := by simp [State.evtRec]
@[simp] theorem State.evtRec_upd (s : State) (k : Nat) : (s.evtRec k).upd = s.upd := by simp [State.evtRec]
@[simp] theorem State.evtRec_inp (s : State) (k : Nat) : (s.evtRec k).inp = s.inp := by simp [State.evtRec]
@[simp] theorem State.evtRec_img (s : State) (k : Nat) : (s.evtRec k).img = s.img := by simp [State.evtRec]
@[simp] theorem State.evtRec_pending (s : State) (k : Nat) : (s.evtRec k).pending = s.pending := by simp [State.evtRec]
@[simp] theorem State.evtRec_rcd (s : State) (k : Nat) : (s.evtRec k).rcd = { s.rcd with evt := putBit s.rcd.evt k true } := by simp [State.evtRec]
@[simp] theorem State.evtRec_lane (s : State) (k : Nat) : (s.evtRec k).lane = { s.lane with attn := if decide (s.rcd.evt = 0) then putBit s.lane.attn 5 true else s.lane.attn } := by simp [State.evtRec]
@[simp] theorem State.evtUpd_pins (s : State) (k : Nat) : (s.evtUpd k).pins = s.pins := by simp [State.evtUpd]
@[simp] theorem State.evtUpd_crt (s : State) (k : Nat) : (s.evtUpd k).crt = s.crt := by simp [State.evtUpd]
@[simp] theorem State.evtUpd_sup (s : State) (k : Nat) : (s.evtUpd k).sup = s.sup := by simp [State.evtUpd]
@[simp] theorem State.evtUpd_tae (s : State) (k : Nat) : (s.evtUpd k).tae = s.tae := by simp [State.evtUpd]
@[simp] theorem State.evtUpd_lge (s : State) (k : Nat) : (s.evtUpd k).lge = s.lge := by simp [State.evtUpd]
@[simp] theorem State.evtUpd_grd (s : State) (k : Nat) : (s.evtUpd k).grd = s.grd := by simp [State.evtUpd]
@[simp] theorem State.evtUpd_vio (s : State) (k : Nat) : (s.evtUpd k).vio = s.vio := by simp [State.evtUpd]
@[simp] theorem State.evtUpd_lmp (s : State) (k : Nat) : (s.evtUpd k).lmp = s.lmp := by simp [State.evtUpd]
@[simp] theorem State.evtUpd_mea (s : State) (k : Nat) : (s.evtUpd k).mea = s.mea := by simp [State.evtUpd]
@[simp] theorem State.evtUpd_lnb (s : State) (k : Nat) : (s.evtUpd k).lnb = s.lnb := by simp [State.evtUpd]
@[simp] theorem State.evtUpd_fld (s : State) (k : Nat) : (s.evtUpd k).fld = s.fld := by simp [State.evtUpd]
@[simp] theorem State.evtUpd_cab (s : State) (k : Nat) : (s.evtUpd k).cab = s.cab := by simp [State.evtUpd]
@[simp] theorem State.evtUpd_rcd (s : State) (k : Nat) : (s.evtUpd k).rcd = s.rcd := by simp [State.evtUpd]
@[simp] theorem State.evtUpd_inp (s : State) (k : Nat) : (s.evtUpd k).inp = s.inp := by simp [State.evtUpd]
@[simp] theorem State.evtUpd_img (s : State) (k : Nat) : (s.evtUpd k).img = s.img := by simp [State.evtUpd]
@[simp] theorem State.evtUpd_pending (s : State) (k : Nat) : (s.evtUpd k).pending = s.pending := by simp [State.evtUpd]
@[simp] theorem State.evtUpd_upd (s : State) (k : Nat) : (s.evtUpd k).upd = { s.upd with evt := putBit s.upd.evt k true } := by simp [State.evtUpd]
@[simp] theorem State.evtUpd_lane (s : State) (k : Nat) : (s.evtUpd k).lane = { s.lane with attn := if decide (s.upd.evt = 0) then putBit s.lane.attn 5 true else s.lane.attn } := by simp [State.evtUpd]

end Sys2Proof.Machine
end

