-- ==== Sys2Proof/Laws/Ops.lean ====
section
/-! SUPPORT. What the shared operations of the lane can do: a record, a flush and the end of a freeze change the recorder and the
ATTN bits only; entry into SAFE and withdrawal say where the lane stands after them, and which units they leave. -/

namespace Sys2Proof.Machine

/-! ### The recorder -/

/-- `t` is `s` but for the recorder and the ATTN bits. -/
def RecorderOnly (s t : State) : Prop := ∃ r a, t = { s with rcd := r, lane.attn := a }

theorem RecorderOnly.refl (s : State) : RecorderOnly s s := ⟨s.rcd, s.lane.attn, rfl⟩

theorem RecorderOnly.trans {s t u : State} (h : RecorderOnly s t) (k : RecorderOnly t u) : RecorderOnly s u := by
  obtain ⟨r, a, rfl⟩ := h
  obtain ⟨r', a', rfl⟩ := k
  exact ⟨r', a', rfl⟩

theorem RecorderOnly.of_rcd (s : State) (r : Rec) : RecorderOnly s { s with rcd := r } := ⟨r, s.lane.attn, rfl⟩

theorem RecorderOnly.attn (s : State) (k : Nat) : RecorderOnly s (s.attn k) := ⟨s.rcd, putBit s.lane.attn k true, rfl⟩

theorem RecorderOnly.evtRec (s : State) (k : Nat) : RecorderOnly s (s.evtRec k) := by
  unfold State.evtRec State.attnEvt
  split
  · exact (RecorderOnly.of_rcd s _).trans (RecorderOnly.attn _ 5)
  · exact RecorderOnly.of_rcd s _

theorem RecorderOnly.recDrop (s : State) (c v : Nat) : RecorderOnly s (s.recDrop c v) :=
  (RecorderOnly.of_rcd s _).trans (RecorderOnly.evtRec _ 1)

theorem RecorderOnly.recPut (s : State) (r : Record) : RecorderOnly s (s.recPut r) := by
  unfold State.recPut
  dsimp only
  split
  · exact (RecorderOnly.of_rcd s _).trans (RecorderOnly.recDrop _ _ _)
  · split
    · exact (RecorderOnly.of_rcd s _).trans (RecorderOnly.recDrop _ _ _)
    · exact RecorderOnly.of_rcd s _

theorem RecorderOnly.ite {s t u : State} {c : Prop} [Decidable c] (h : RecorderOnly s t) (k : RecorderOnly s u) :
    RecorderOnly s (if c then t else u) := by
  split
  · exact h
  · exact k

theorem RecorderOnly.recMake (s : State) (sev src code : Nat) (data : List Nat) : RecorderOnly s (s.recMake sev src code data) :=
  have h := (RecorderOnly.of_rcd s _).trans (RecorderOnly.recPut _ _)
  have k := RecorderOnly.ite (h.trans (RecorderOnly.attn _ 2)) h
  RecorderOnly.ite (k.trans (RecorderOnly.of_rcd _ _)) k

/-- A record changes the recorder and the ATTN bits only. -/
theorem RecorderOnly.record (s : State) (sev src code : Nat) (data : List Nat) : RecorderOnly s (s.record sev src code data) := by
  unfold State.record
  split
  · exact RecorderOnly.refl s
  · split
    · exact RecorderOnly.of_rcd s _
    · split
      · exact RecorderOnly.recMake s _ _ _ _
      · exact RecorderOnly.refl s

theorem RecorderOnly.foldl {α : Type} (f : State → α → State) (h : ∀ s a, RecorderOnly s (f s a)) :
    ∀ (l : List α) (s : State), RecorderOnly s (l.foldl f s)
  | [], s => RecorderOnly.refl s
  | a :: l, s => (h s a).trans (RecorderOnly.foldl f h l (f s a))

theorem RecorderOnly.recordLate (s : State) : RecorderOnly s s.recordLate :=
  (RecorderOnly.of_rcd s _).trans (RecorderOnly.foldl _ (fun t _ => RecorderOnly.record t _ _ _ _) _ _)

theorem RecorderOnly.lostRecords (s : State) : RecorderOnly s s.lostRecords :=
  (RecorderOnly.of_rcd s _).trans (RecorderOnly.foldl _ (fun t _ => RecorderOnly.record t _ _ _ _) _ _)

theorem RecorderOnly.flushRecs : ∀ (l : List Record) (s : State), RecorderOnly s (s.flushRecs l)
  | [], s => RecorderOnly.refl s
  | r :: rs, s => by
    unfold State.flushRecs
    split
    · exact (RecorderOnly.of_rcd s _).trans (RecorderOnly.flushRecs rs _)
    · exact (RecorderOnly.recDrop s _ _).trans (RecorderOnly.flushRecs rs _)

theorem RecorderOnly.flushWrite (s : State) : RecorderOnly s s.flushWrite :=
  ((RecorderOnly.of_rcd s _).trans (RecorderOnly.flushRecs _ _)).trans (RecorderOnly.of_rcd _ _)

/-- So does a flush. -/
theorem RecorderOnly.flushNow (s : State) (ok : Bool) : RecorderOnly s (s.flushNow ok) :=
  have w := RecorderOnly.flushWrite s
  RecorderOnly.ite (RecorderOnly.of_rcd s _)
    (RecorderOnly.ite (((RecorderOnly.of_rcd s _).trans (RecorderOnly.evtRec _ 0)).trans (RecorderOnly.record _ _ _ _ _))
      (RecorderOnly.ite w (RecorderOnly.ite (w.trans (RecorderOnly.lostRecords _)) w)))

/-- So does the end of a freeze. -/
theorem RecorderOnly.freezeEnd (s : State) (b : Bool) : RecorderOnly s (s.freezeEnd b) :=
  have k := (RecorderOnly.of_rcd s _).trans (RecorderOnly.flushNow _ true)
  have l := RecorderOnly.ite k (k.trans (RecorderOnly.lostRecords _))
  RecorderOnly.ite
    ((((l.trans (RecorderOnly.record _ _ _ _ _)).trans (RecorderOnly.flushNow _ _)).trans (RecorderOnly.evtRec _ 2)).trans
      (RecorderOnly.attn _ 3))
    (RecorderOnly.ite ((RecorderOnly.of_rcd s _).trans (RecorderOnly.attn _ 3)) (RecorderOnly.refl s))

theorem RecorderOnly.pins_eq {s t : State} (h : RecorderOnly s t) : t.pins = s.pins := by
  obtain ⟨_, _, rfl⟩ := h
  rfl

theorem RecorderOnly.crt_eq {s t : State} (h : RecorderOnly s t) : t.crt = s.crt := by
  obtain ⟨_, _, rfl⟩ := h
  rfl

theorem RecorderOnly.sup_eq {s t : State} (h : RecorderOnly s t) : t.sup = s.sup := by
  obtain ⟨_, _, rfl⟩ := h
  rfl

theorem RecorderOnly.tae_eq {s t : State} (h : RecorderOnly s t) : t.tae = s.tae := by
  obtain ⟨_, _, rfl⟩ := h
  rfl

theorem RecorderOnly.lge_eq {s t : State} (h : RecorderOnly s t) : t.lge = s.lge := by
  obtain ⟨_, _, rfl⟩ := h
  rfl

theorem RecorderOnly.grd_eq {s t : State} (h : RecorderOnly s t) : t.grd = s.grd := by
  obtain ⟨_, _, rfl⟩ := h
  rfl

theorem RecorderOnly.vio_eq {s t : State} (h : RecorderOnly s t) : t.vio = s.vio := by
  obtain ⟨_, _, rfl⟩ := h
  rfl

theorem RecorderOnly.lmp_eq {s t : State} (h : RecorderOnly s t) : t.lmp = s.lmp := by
  obtain ⟨_, _, rfl⟩ := h
  rfl

theorem RecorderOnly.mea_eq {s t : State} (h : RecorderOnly s t) : t.mea = s.mea := by
  obtain ⟨_, _, rfl⟩ := h
  rfl

theorem RecorderOnly.lnb_eq {s t : State} (h : RecorderOnly s t) : t.lnb = s.lnb := by
  obtain ⟨_, _, rfl⟩ := h
  rfl

theorem RecorderOnly.fld_eq {s t : State} (h : RecorderOnly s t) : t.fld = s.fld := by
  obtain ⟨_, _, rfl⟩ := h
  rfl

theorem RecorderOnly.cab_eq {s t : State} (h : RecorderOnly s t) : t.cab = s.cab := by
  obtain ⟨_, _, rfl⟩ := h
  rfl

theorem RecorderOnly.upd_eq {s t : State} (h : RecorderOnly s t) : t.upd = s.upd := by
  obtain ⟨_, _, rfl⟩ := h
  rfl

theorem RecorderOnly.inp_eq {s t : State} (h : RecorderOnly s t) : t.inp = s.inp := by
  obtain ⟨_, _, rfl⟩ := h
  rfl

theorem RecorderOnly.img_eq {s t : State} (h : RecorderOnly s t) : t.img = s.img := by
  obtain ⟨_, _, rfl⟩ := h
  rfl

theorem RecorderOnly.pending_eq {s t : State} (h : RecorderOnly s t) : t.pending = s.pending := by
  obtain ⟨_, _, rfl⟩ := h
  rfl

theorem RecorderOnly.st_eq {s t : State} (h : RecorderOnly s t) : t.lane.st = s.lane.st := by
  obtain ⟨_, _, rfl⟩ := h
  rfl

theorem RecorderOnly.role_eq {s t : State} (h : RecorderOnly s t) : t.lane.role = s.lane.role := by
  obtain ⟨_, _, rfl⟩ := h
  rfl

theorem RecorderOnly.safeLatch_eq {s t : State} (h : RecorderOnly s t) : t.lane.safeLatch = s.lane.safeLatch := by
  obtain ⟨_, _, rfl⟩ := h
  rfl

theorem RecorderOnly.scause_eq {s t : State} (h : RecorderOnly s t) : t.lane.scause = s.lane.scause := by
  obtain ⟨_, _, rfl⟩ := h
  rfl

theorem RecorderOnly.smask_eq {s t : State} (h : RecorderOnly s t) : t.lane.smask = s.lane.smask := by
  obtain ⟨_, _, rfl⟩ := h
  rfl

theorem RecorderOnly.driving_eq {s t : State} (h : RecorderOnly s t) : t.lane.driving = s.lane.driving := by
  obtain ⟨_, _, rfl⟩ := h
  rfl

theorem RecorderOnly.switch_eq {s t : State} (h : RecorderOnly s t) : t.lane.switch = s.lane.switch := by
  obtain ⟨_, _, rfl⟩ := h
  rfl

theorem RecorderOnly.proveFrom_eq {s t : State} (h : RecorderOnly s t) : t.lane.proveFrom = s.lane.proveFrom := by
  obtain ⟨_, _, rfl⟩ := h
  rfl

@[simp] theorem State.record_pins (s : State) (sev src code : Nat) (data : List Nat) :
    (s.record sev src code data).pins = s.pins := (RecorderOnly.record s sev src code data).pins_eq
@[simp] theorem State.record_crt (s : State) (sev src code : Nat) (data : List Nat) :
    (s.record sev src code data).crt = s.crt := (RecorderOnly.record s sev src code data).crt_eq
@[simp] theorem State.record_sup (s : State) (sev src code : Nat) (data : List Nat) :
    (s.record sev src code data).sup = s.sup := (RecorderOnly.record s sev src code data).sup_eq
@[simp] theorem State.record_tae (s : State) (sev src code : Nat) (data : List Nat) :
    (s.record sev src code data).tae = s.tae := (RecorderOnly.record s sev src code data).tae_eq
@[simp] theorem State.record_lge (s : State) (sev src code : Nat) (data : List Nat) :
    (s.record sev src code data).lge = s.lge := (RecorderOnly.record s sev src code data).lge_eq
@[simp] theorem State.record_grd (s : State) (sev src code : Nat) (data : List Nat) :
    (s.record sev src code data).grd = s.grd := (RecorderOnly.record s sev src code data).grd_eq
@[simp] theorem State.record_vio (s : State) (sev src code : Nat) (data : List Nat) :
    (s.record sev src code data).vio = s.vio := (RecorderOnly.record s sev src code data).vio_eq
@[simp] theorem State.record_lmp (s : State) (sev src code : Nat) (data : List Nat) :
    (s.record sev src code data).lmp = s.lmp := (RecorderOnly.record s sev src code data).lmp_eq
@[simp] theorem State.record_mea (s : State) (sev src code : Nat) (data : List Nat) :
    (s.record sev src code data).mea = s.mea := (RecorderOnly.record s sev src code data).mea_eq
@[simp] theorem State.record_lnb (s : State) (sev src code : Nat) (data : List Nat) :
    (s.record sev src code data).lnb = s.lnb := (RecorderOnly.record s sev src code data).lnb_eq
@[simp] theorem State.record_fld (s : State) (sev src code : Nat) (data : List Nat) :
    (s.record sev src code data).fld = s.fld := (RecorderOnly.record s sev src code data).fld_eq
@[simp] theorem State.record_cab (s : State) (sev src code : Nat) (data : List Nat) :
    (s.record sev src code data).cab = s.cab := (RecorderOnly.record s sev src code data).cab_eq
@[simp] theorem State.record_upd (s : State) (sev src code : Nat) (data : List Nat) :
    (s.record sev src code data).upd = s.upd := (RecorderOnly.record s sev src code data).upd_eq
@[simp] theorem State.record_inp (s : State) (sev src code : Nat) (data : List Nat) :
    (s.record sev src code data).inp = s.inp := (RecorderOnly.record s sev src code data).inp_eq
@[simp] theorem State.record_img (s : State) (sev src code : Nat) (data : List Nat) :
    (s.record sev src code data).img = s.img := (RecorderOnly.record s sev src code data).img_eq
@[simp] theorem State.record_pending (s : State) (sev src code : Nat) (data : List Nat) :
    (s.record sev src code data).pending = s.pending := (RecorderOnly.record s sev src code data).pending_eq
@[simp] theorem State.record_st (s : State) (sev src code : Nat) (data : List Nat) :
    (s.record sev src code data).lane.st = s.lane.st := (RecorderOnly.record s sev src code data).st_eq
@[simp] theorem State.record_role (s : State) (sev src code : Nat) (data : List Nat) :
    (s.record sev src code data).lane.role = s.lane.role := (RecorderOnly.record s sev src code data).role_eq
@[simp] theorem State.record_safeLatch (s : State) (sev src code : Nat) (data : List Nat) :
    (s.record sev src code data).lane.safeLatch = s.lane.safeLatch := (RecorderOnly.record s sev src code data).safeLatch_eq
@[simp] theorem State.record_scause (s : State) (sev src code : Nat) (data : List Nat) :
    (s.record sev src code data).lane.scause = s.lane.scause := (RecorderOnly.record s sev src code data).scause_eq
@[simp] theorem State.record_smask (s : State) (sev src code : Nat) (data : List Nat) :
    (s.record sev src code data).lane.smask = s.lane.smask := (RecorderOnly.record s sev src code data).smask_eq
@[simp] theorem State.record_driving (s : State) (sev src code : Nat) (data : List Nat) :
    (s.record sev src code data).lane.driving = s.lane.driving := (RecorderOnly.record s sev src code data).driving_eq
@[simp] theorem State.record_switch (s : State) (sev src code : Nat) (data : List Nat) :
    (s.record sev src code data).lane.switch = s.lane.switch := (RecorderOnly.record s sev src code data).switch_eq
@[simp] theorem State.record_proveFrom (s : State) (sev src code : Nat) (data : List Nat) :
    (s.record sev src code data).lane.proveFrom = s.lane.proveFrom := (RecorderOnly.record s sev src code data).proveFrom_eq

/-! ### Lane state and role -/

@[simp] theorem State.setSt_st (s : State) (x : LaneState) : (s.setSt x).lane.st = x := by
  unfold State.setSt
  split
  · assumption
  · split <;> rfl

/-- Outside RUN the role reads as 0 (R606). -/
theorem State.setSt_role (s : State) {x : LaneState} (h : x ≠ .run) (k : s.lane.st ≠ x) : (s.setSt x).lane.role = .holding := by
  simp [State.setSt, h, k, State.attn]

@[simp] theorem State.setRole_role (s : State) (r : Role) : (s.setRole r).lane.role = r := by
  unfold State.setRole
  split
  · assumption
  · rfl

@[simp] theorem State.setSt_pins (s : State) (x : LaneState) : (s.setSt x).pins = s.pins := by
  unfold State.setSt
  repeat' split
  all_goals rfl
@[simp] theorem State.setSt_crt (s : State) (x : LaneState) : (s.setSt x).crt = s.crt := by
  unfold State.setSt
  repeat' split
  all_goals rfl
@[simp] theorem State.setSt_sup (s : State) (x : LaneState) : (s.setSt x).sup = s.sup := by
  unfold State.setSt
  repeat' split
  all_goals rfl
@[simp] theorem State.setSt_lge (s : State) (x : LaneState) : (s.setSt x).lge = s.lge := by
  unfold State.setSt
  repeat' split
  all_goals rfl
@[simp] theorem State.setSt_grd (s : State) (x : LaneState) : (s.setSt x).grd = s.grd := by
  unfold State.setSt
  repeat' split
  all_goals rfl
@[simp] theorem State.setSt_vio (s : State) (x : LaneState) : (s.setSt x).vio = s.vio := by
  unfold State.setSt
  repeat' split
  all_goals rfl
@[simp] theorem State.setSt_lmp (s : State) (x : LaneState) : (s.setSt x).lmp = s.lmp := by
  unfold State.setSt
  repeat' split
  all_goals rfl
@[simp] theorem State.setSt_mea (s : State) (x : LaneState) : (s.setSt x).mea = s.mea := by
  unfold State.setSt
  repeat' split
  all_goals rfl
@[simp] theorem State.setSt_lnb (s : State) (x : LaneState) : (s.setSt x).lnb = s.lnb := by
  unfold State.setSt
  repeat' split
  all_goals rfl
@[simp] theorem State.setSt_fld (s : State) (x : LaneState) : (s.setSt x).fld = s.fld := by
  unfold State.setSt
  repeat' split
  all_goals rfl
@[simp] theorem State.setSt_cab (s : State) (x : LaneState) : (s.setSt x).cab = s.cab := by
  unfold State.setSt
  repeat' split
  all_goals rfl
@[simp] theorem State.setSt_upd (s : State) (x : LaneState) : (s.setSt x).upd = s.upd := by
  unfold State.setSt
  repeat' split
  all_goals rfl
@[simp] theorem State.setSt_inp (s : State) (x : LaneState) : (s.setSt x).inp = s.inp := by
  unfold State.setSt
  repeat' split
  all_goals rfl
@[simp] theorem State.setSt_img (s : State) (x : LaneState) : (s.setSt x).img = s.img := by
  unfold State.setSt
  repeat' split
  all_goals rfl
@[simp] theorem State.setSt_pending (s : State) (x : LaneState) : (s.setSt x).pending = s.pending := by
  unfold State.setSt
  repeat' split
  all_goals rfl
@[simp] theorem State.setSt_rcd (s : State) (x : LaneState) : (s.setSt x).rcd = s.rcd := by
  unfold State.setSt
  repeat' split
  all_goals rfl
@[simp] theorem State.setSt_safeLatch (s : State) (x : LaneState) : (s.setSt x).lane.safeLatch = s.lane.safeLatch := by
  unfold State.setSt
  repeat' split
  all_goals rfl
@[simp] theorem State.setSt_driving (s : State) (x : LaneState) : (s.setSt x).lane.driving = s.lane.driving := by
  unfold State.setSt
  repeat' split
  all_goals rfl
@[simp] theorem State.setSt_scause (s : State) (x : LaneState) : (s.setSt x).lane.scause = s.lane.scause := by
  unfold State.setSt
  repeat' split
  all_goals rfl
@[simp] theorem State.setSt_smask (s : State) (x : LaneState) : (s.setSt x).lane.smask = s.lane.smask := by
  unfold State.setSt
  repeat' split
  all_goals rfl
@[simp] theorem State.setSt_switch (s : State) (x : LaneState) : (s.setSt x).lane.switch = s.lane.switch := by
  unfold State.setSt
  repeat' split
  all_goals rfl
@[simp] theorem State.setRole_pins (s : State) (r : Role) : (s.setRole r).pins = s.pins := by
  unfold State.setRole
  repeat' split
  all_goals rfl
@[simp] theorem State.setRole_crt (s : State) (r : Role) : (s.setRole r).crt = s.crt := by
  unfold State.setRole
  repeat' split
  all_goals rfl
@[simp] theorem State.setRole_sup (s : State) (r : Role) : (s.setRole r).sup = s.sup := by
  unfold State.setRole
  repeat' split
  all_goals rfl
@[simp] theorem State.setRole_tae (s : State) (r : Role) : (s.setRole r).tae = s.tae := by
  unfold State.setRole
  repeat' split
  all_goals rfl
@[simp] theorem State.setRole_lge (s : State) (r : Role) : (s.setRole r).lge = s.lge := by
  unfold State.setRole
  repeat' split
  all_goals rfl
@[simp] theorem State.setRole_grd (s : State) (r : Role) : (s.setRole r).grd = s.grd := by
  unfold State.setRole
  repeat' split
  all_goals rfl
@[simp] theorem State.setRole_vio (s : State) (r : Role) : (s.setRole r).vio = s.vio := by
  unfold State.setRole
  repeat' split
  all_goals rfl
@[simp] theorem State.setRole_lmp (s : State) (r : Role) : (s.setRole r).lmp = s.lmp := by
  unfold State.setRole
  repeat' split
  all_goals rfl
@[simp] theorem State.setRole_mea (s : State) (r : Role) : (s.setRole r).mea = s.mea := by
  unfold State.setRole
  repeat' split
  all_goals rfl
@[simp] theorem State.setRole_lnb (s : State) (r : Role) : (s.setRole r).lnb = s.lnb := by
  unfold State.setRole
  repeat' split
  all_goals rfl
@[simp] theorem State.setRole_fld (s : State) (r : Role) : (s.setRole r).fld = s.fld := by
  unfold State.setRole
  repeat' split
  all_goals rfl
@[simp] theorem State.setRole_cab (s : State) (r : Role) : (s.setRole r).cab = s.cab := by
  unfold State.setRole
  repeat' split
  all_goals rfl
@[simp] theorem State.setRole_upd (s : State) (r : Role) : (s.setRole r).upd = s.upd := by
  unfold State.setRole
  repeat' split
  all_goals rfl
@[simp] theorem State.setRole_inp (s : State) (r : Role) : (s.setRole r).inp = s.inp := by
  unfold State.setRole
  repeat' split
  all_goals rfl
@[simp] theorem State.setRole_img (s : State) (r : Role) : (s.setRole r).img = s.img := by
  unfold State.setRole
  repeat' split
  all_goals rfl
@[simp] theorem State.setRole_pending (s : State) (r : Role) : (s.setRole r).pending = s.pending := by
  unfold State.setRole
  repeat' split
  all_goals rfl
@[simp] theorem State.setRole_rcd (s : State) (r : Role) : (s.setRole r).rcd = s.rcd := by
  unfold State.setRole
  repeat' split
  all_goals rfl
@[simp] theorem State.setRole_safeLatch (s : State) (r : Role) : (s.setRole r).lane.safeLatch = s.lane.safeLatch := by
  unfold State.setRole
  repeat' split
  all_goals rfl
@[simp] theorem State.setRole_driving (s : State) (r : Role) : (s.setRole r).lane.driving = s.lane.driving := by
  unfold State.setRole
  repeat' split
  all_goals rfl
@[simp] theorem State.setRole_scause (s : State) (r : Role) : (s.setRole r).lane.scause = s.lane.scause := by
  unfold State.setRole
  repeat' split
  all_goals rfl
@[simp] theorem State.setRole_smask (s : State) (r : Role) : (s.setRole r).lane.smask = s.lane.smask := by
  unfold State.setRole
  repeat' split
  all_goals rfl
@[simp] theorem State.setRole_switch (s : State) (r : Role) : (s.setRole r).lane.switch = s.lane.switch := by
  unfold State.setRole
  repeat' split
  all_goals rfl
@[simp] theorem State.setRole_st (s : State) (r : Role) : (s.setRole r).lane.st = s.lane.st := by
  unfold State.setRole
  repeat' split
  all_goals rfl

/-! ### Forces -/

theorem State.forceRecord_only (s : State) (a k : Nat) :
    ∃ r b e, s.forceRecord a k = { s with rcd := r, lane.attn := b, upd.evt := e } := by
  obtain ⟨r, b, h⟩ := RecorderOnly.record (s.evtUpd 5) 3 0x0D00 0x0D08 (le 3 a ++ [k])
  unfold State.forceRecord
  rw [h]
  unfold State.evtUpd State.attnEvt
  split
  · exact ⟨r, b, _, rfl⟩
  · exact ⟨r, b, _, rfl⟩

theorem State.forces_fold : ∀ (l : List Nat) (s : State),
    ∃ r b e, l.foldl (fun t a => t.forceRecord a 1) s = { s with rcd := r, lane.attn := b, upd.evt := e }
  | [], s => ⟨s.rcd, s.lane.attn, s.upd.evt, rfl⟩
  | a :: l, s => by
    obtain ⟨r, b, e, h⟩ := s.forceRecord_only a 1
    obtain ⟨r', b', e', k⟩ := State.forces_fold l (s.forceRecord a 1)
    refine ⟨r', b', e', ?_⟩
    rw [List.foldl_cons, k, h]

/-- The forces are released (R507): the recorder, the ATTN bits and UPD's events apart, nothing else changes. -/
theorem State.forcesRelease_only (s : State) : ∃ r b e,
    s.forcesRelease = { s with rcd := r, lane.attn := b, upd.evt := e, upd.forces := [], upd.unforce := [] } := by
  obtain ⟨r, b, e, h⟩ := State.forces_fold (s.upd.forces.map Prod.fst) { s with upd.forces := [], upd.unforce := [] }
  exact ⟨r, b, e, h⟩

/-! ### Withdrawal and SAFE -/

/-- A lasting fault in fall-back is classed so, and changes the Guardian's mode and the split only (R192, R194). -/
theorem State.fallbackLasting_only (s : State) : ∃ l g e,
    s.fallbackLasting = { s with lane.lasting := l, grd := g, lge := e } ∧ (s.grd.gmode ≠ .fallback → l = s.lane.lasting) ∧
    (s.lane.lasting = true → l = true) := by
  unfold State.fallbackLasting
  split
  · exact ⟨_, _, _, rfl, fun h => absurd ‹_› h, fun _ => rfl⟩
  · exact ⟨s.lane.lasting, s.grd, s.lge, rfl, fun _ => rfl, id⟩

/-- A withdrawal puts a voting lane into the role EXCLUDED, with its drives static and no commit; the fault is lasting where CRT is
implicated (R24, R27, R547). -/
theorem State.withdraw_voting (s : State) (u : FaultUnit) (h : s.lane.st = .run) (k : s.lane.role ≠ .excluded) :
    (s.withdraw u).lane.role = .excluded ∧ (s.withdraw u).lane.driving = false ∧ (s.withdraw u).lane.st = .run ∧
    (s.withdraw u).lane.implicated = some u ∧ (u = .crt → (s.withdraw u).lane.lasting = true) ∧
    (s.grd.gmode ≠ .fallback → (s.withdraw u).lane.lasting = decide (u = .crt)) := by
  obtain ⟨l, g, e, w, n, m⟩ := State.fallbackLasting_only
    ({ s.wavesCut with
        lane.commitOk := false, lane.driving := false, lane.implicated := some u,
        lane.lasting := decide (u = .crt), lane.planned := false, lane.computing := false,
        lane.reintReq := false, lane.confirmCnt := 0, lane.reportCnt := 0 } : State)
  unfold State.withdraw
  rw [if_pos h, if_neg k, w]
  obtain ⟨r, b, e', w'⟩ := State.forcesRelease_only
    ({ ({ s.wavesCut with
          lane.commitOk := false, lane.driving := false, lane.implicated := some u,
          lane.lasting := decide (u = .crt), lane.planned := false, lane.computing := false,
          lane.reintReq := false, lane.confirmCnt := 0, lane.reportCnt := 0 } : State) with
        lane.lasting := l, grd := g, lge := e } : State)
  rw [w']
  have n' : s.grd.gmode ≠ .fallback → l = decide (u = .crt) := n
  have m' : decide (u = .crt) = true → l = true := m
  simp only [State.wavesCut, State.setRole, k, State.attn, h, if_false, true_and]
  exact ⟨fun c => m' (decide_eq_true c), n'⟩

/-- Outside RUN a withdrawal changes nothing. -/
theorem State.withdraw_outside (s : State) (u : FaultUnit) (h : s.lane.st ≠ .run) : s.withdraw u = s := by
  simp [State.withdraw, h]

/-- What the entry into SAFE carries from one of its parts to the next: the latch, its cause, and the drives. -/
abbrev SafeKept (s t : State) : Prop :=
  t.lane.safeLatch = s.lane.safeLatch ∧ t.lane.scause = s.lane.scause ∧ (s.lane.driving = false → t.lane.driving = false)

theorem State.putCells_lane : ∀ (l : List (Nat × Cell)) (s : State), (s.putCells l).lane = s.lane
  | [], _ => rfl
  | (a, c) :: l, s => by
    unfold State.putCells
    exact State.putCells_lane l (s.putCell a c)

theorem State.connsClose_lane : ∀ (l : List Nat) (s : State), (s.connsClose l).lane = s.lane
  | [], _ => rfl
  | c :: cs, s => by
    unfold State.connsClose
    rw [State.connsClose_lane cs, State.putCells_lane]

theorem State.learnDone_safe (s : State) (b : Bool) : SafeKept s (s.learnDone b) := by
  unfold State.learnDone
  split
  · exact ⟨rfl, rfl, id⟩
  · exact ⟨by simp, by simp, by simp⟩

theorem State.lampsDark_safe (s : State) : SafeKept s s.lampsDark := by
  have d : SafeKept s s.learnDark := by
    unfold State.learnDark
    repeat' split
    · exact ⟨rfl, rfl, id⟩
    · exact State.learnDone_safe s true
    · exact ⟨rfl, rfl, id⟩
  exact d

theorem State.leaveVote_safe (s : State) :
    s.leaveVote.lane.safeLatch = s.lane.safeLatch ∧ s.leaveVote.lane.scause = s.lane.scause ∧ s.leaveVote.lane.driving = false := by
  unfold State.leaveVote State.wavesCut
  split <;> simp [State.connsClose_lane]

theorem State.ctlOvertaken_safe (s : State) :
    s.ctlOvertaken.lane.safeLatch = s.lane.safeLatch ∧ s.ctlOvertaken.lane.scause = s.lane.scause := by
  have drop : s.entryDrop.lane.safeLatch = s.lane.safeLatch ∧ s.entryDrop.lane.scause = s.lane.scause := by
    unfold State.entryDrop
    dsimp only
    repeat' split
    all_goals exact ⟨rfl, rfl⟩
  unfold State.ctlOvertaken
  dsimp only
  repeat' split
  all_goals exact drop

theorem State.canSafe_safe (s : State) : SafeKept s s.canSafe := by
  unfold State.canSafe State.canFail
  dsimp only
  split <;> exact ⟨by simp, by simp, by simp⟩

theorem State.forcesRelease_safe (s : State) : SafeKept s s.forcesRelease := by
  obtain ⟨r, b, e, w⟩ := State.forcesRelease_only s
  rw [w]
  exact ⟨rfl, rfl, id⟩

/-- Entry into SAFE sets the latch and the state, and notes the cause (R34). -/
theorem State.enterSafe_safe (s : State) (c : Nat) (h : s.lane.safeLatch = false) :
    (s.enterSafe c).lane.st = .safe ∧ (s.enterSafe c).lane.safeLatch = true ∧ (s.enterSafe c).lane.driving = false ∧
    (s.enterSafe c).lane.scause = c := by
  have end_ (t : State) (p : t.lane.st = .safe ∧ t.lane.safeLatch = true ∧ t.lane.driving = false ∧ t.lane.scause = c) :
      (if t.crt.rootLost then t else t.freezeEnd true).lane.st = .safe ∧
      (if t.crt.rootLost then t else t.freezeEnd true).lane.safeLatch = true ∧
      (if t.crt.rootLost then t else t.freezeEnd true).lane.driving = false ∧
      (if t.crt.rootLost then t else t.freezeEnd true).lane.scause = c := by
    split
    · exact p
    · rw [(RecorderOnly.freezeEnd t true).st_eq, (RecorderOnly.freezeEnd t true).safeLatch_eq,
        (RecorderOnly.freezeEnd t true).driving_eq, (RecorderOnly.freezeEnd t true).scause_eq]
      exact p
  unfold State.enterSafe
  simp only [h, Bool.false_eq_true, if_false]
  apply end_
  generalize hx : ({ s with lane.safeLatch := true, lane.scause := c, lane.smask := 1 <<< (c - 1), lane.safeAt := s.pins.now,
                            lane.safeRun := decide (s.lane.st = .run) } : State) = x
  have x0 : x.lane.safeLatch = true ∧ x.lane.scause = c := by subst hx; exact ⟨rfl, rfl⟩
  have a := State.ctlOvertaken_safe x
  have b := State.leaveVote_safe x.ctlOvertaken
  have d := State.lampsDark_safe x.ctlOvertaken.leaveVote.lgeHalt
  have e := State.canSafe_safe x.ctlOvertaken.leaveVote.lgeHalt.lampsDark
  have f := State.forcesRelease_safe x.ctlOvertaken.leaveVote.lgeHalt.lampsDark.canSafe
  simp only [State.record_st, State.setSt_st, State.record_safeLatch, State.setSt_safeLatch, State.record_driving,
    State.setSt_driving, State.record_scause, State.setSt_scause, true_and]
  exact ⟨(f.1.trans e.1).trans (d.1.trans (b.1.trans (a.1.trans x0.1))), f.2.2 (e.2.2 (d.2.2 b.2.2)),
    (f.2.1.trans e.2.1).trans (d.2.1.trans (b.2.1.trans (a.2.trans x0.2)))⟩

end Sys2Proof.Machine
end

