-- ==== Sys2Proof/Laws/Session.lean ====
section
/-! SUPPORT. What a write of a session comes to: the two shared operations of the register writes, under the hypotheses that the
claims use. -/

namespace Sys2Proof.Machine

open Sys2Proof.Safety

/-- An authorised write to a CMD register has the command's effect, its token consumed. -/
theorem State.command_authorised {s : State} {sid : BitVec 16} {addr value level : Nat} (f : State → State)
    (h : Authorised s sid addr value level) :
    s.command sid.toNat addr value level f = f (s.useToken sid.toNat) := by
  obtain ⟨x, hx, hs, hl, ht, ha, hg⟩ := h
  simp [State.command, hx, hs, hl, ht, ha, hg]

/-- So does a write to an RW or W1C register in a session that may write it. -/
theorem State.plainWrite_mayWrite {s : State} {sid : BitVec 16} {addr level : Nat} (f : State → State)
    (h : MayWrite s sid addr level) : s.plainWrite sid.toNat addr level f = f (s.useToken sid.toNat) := by
  obtain ⟨x, hx, hs, hl, ha, hg⟩ := h
  simp [State.plainWrite, hx, hs, hl, ha, hg]

/-- A write that nothing authorises consumes the token at most, and shows ABSENT where the block does. -/
theorem State.command_else (s : State) (sid : BitVec 16) (addr value level : Nat) (f : State → State)
    (h : ¬ Authorised s sid addr value level) :
    s.command sid.toNat addr value level f = s ∨ s.command sid.toNat addr value level f = s.useToken sid.toNat ∨
    s.command sid.toNat addr value level f = (s.useToken sid.toNat).evtCrt 3 := by
  unfold State.command
  split
  · exact .inl rfl
  · rename_i x hx
    dsimp only
    split
    · rename_i hs
      split
      · rename_i hl
        split
        · rename_i ht
          split
          · exact .inr (.inr rfl)
          · rename_i ha
            split
            · exact .inr (.inl rfl)
            · rename_i hg
              exact absurd ⟨x, hx, hs, hl, ht, by simpa using ha, by simpa using hg⟩ h
        · exact .inr (.inl rfl)
      · exact .inr (.inl rfl)
    · exact .inl rfl

@[simp] theorem State.useToken_pins (s : State) (n : Nat) : (s.useToken n).pins = s.pins := rfl
@[simp] theorem State.useToken_lane (s : State) (n : Nat) : (s.useToken n).lane = s.lane := rfl
@[simp] theorem State.useToken_crt (s : State) (n : Nat) : (s.useToken n).crt = s.crt := rfl
@[simp] theorem State.useToken_tae (s : State) (n : Nat) : (s.useToken n).tae = s.tae := rfl
@[simp] theorem State.useToken_lge (s : State) (n : Nat) : (s.useToken n).lge = s.lge := rfl
@[simp] theorem State.useToken_grd (s : State) (n : Nat) : (s.useToken n).grd = s.grd := rfl
@[simp] theorem State.useToken_vio (s : State) (n : Nat) : (s.useToken n).vio = s.vio := rfl
@[simp] theorem State.useToken_lmp (s : State) (n : Nat) : (s.useToken n).lmp = s.lmp := rfl
@[simp] theorem State.useToken_mea (s : State) (n : Nat) : (s.useToken n).mea = s.mea := rfl
@[simp] theorem State.useToken_lnb (s : State) (n : Nat) : (s.useToken n).lnb = s.lnb := rfl
@[simp] theorem State.useToken_fld (s : State) (n : Nat) : (s.useToken n).fld = s.fld := rfl
@[simp] theorem State.useToken_cab (s : State) (n : Nat) : (s.useToken n).cab = s.cab := rfl
@[simp] theorem State.useToken_rcd (s : State) (n : Nat) : (s.useToken n).rcd = s.rcd := rfl
@[simp] theorem State.useToken_upd (s : State) (n : Nat) : (s.useToken n).upd = s.upd := rfl
@[simp] theorem State.useToken_inp (s : State) (n : Nat) : (s.useToken n).inp = s.inp := rfl
@[simp] theorem State.useToken_img (s : State) (n : Nat) : (s.useToken n).img = s.img := rfl
@[simp] theorem State.useToken_pending (s : State) (n : Nat) : (s.useToken n).pending = s.pending := rfl

end Sys2Proof.Machine
end

