-- ==== Sys2Proof/Tests/Slice0.lean ====
section
/-! SUPPORT. Tests: ill-formed terms that the check refuses, one step each on a small state with the result that the spec gives,
and for every statement with hypotheses a state and operands that meet them, clause by clause. -/

namespace Sys2Proof.Tests

open Sys2Proof Sys2Proof.Machine Sys2Proof.Safety

/-! ### Small states -/

/-- A lane in RUN that holds: power, clock, cluster time, and an image of no content. -/
def live : State :=
  { State.reset with
    pins.powered := true, pins.resetN := true, pins.pfailHigh := true, lane.st := .run, lane.strapAcc := true,
    crt.xval := true, crt.lock := true, crt.align := true, tae.timev := true, tae.ctOff := some 0, lnb.bstate := .active,
    rcd.accepting := true, img := some station0 }

/-- The same lane with an open session on MAP. -/
def opened (s : State) (level : Nat) : State :=
  { s with sup.sessions := [{ Session.fresh 0 none with st := .opened, level := level }] }

/-- The same lane with the token of one write presented on MAP. -/
def armed (s : State) (addr value level : Nat) : State :=
  { s with sup.sessions := [{ Session.fresh 0 none with
      st := .opened, level := level,
      tok := some { value := tokenFor Config.keyRecovery 0 1 addr value, tcnt := 1, at_ := s.pins.now } }] }

theorem armed_authorised (s : State) (a v l : Nat) (h0 : s.supServes = true) (h1 : s.sup.keys = []) (h2 : l ≠ 4)
    (h3 : s.absent a = false) (h4 : s.gated a = false) : Authorised (armed s a v l) 0 a v l := by
  refine ⟨_, rfl, h0, ?_, ?_, h3, h4⟩
  · simp [Session.holds]
  · simp [State.tokenOk, State.levelKey, armed, h1, h2, Session.fresh]

theorem opened_writes (s : State) (a l : Nat) (h0 : s.supServes = true) (h3 : s.absent a = false)
    (h4 : s.gated a = false) : MayWrite (opened s l) 0 a l :=
  ⟨_, rfl, h0, by simp [Session.holds], h3, h4⟩

def railA : Rail := .vdd
def lockKind : LockstepKind := .comparator

/-- A header of one block. -/
def hdr0 : Header :=
  { magic := 0, hfmt := 1, secver := 0, modes := 0, schema := 0, nblk := 2, station := 0, start := 0, imgd := 0,
    sig := [], pubk := [], sect := [], digt := [], signed := [], imgdCalc := 0 }

def slotOf (x : SlotState) : Slot :=
  { recA := { state := slotWord x, gen := 1, nblk := 2, imgd := 0 },
    recB := { state := slotWord x, gen := 1, nblk := 2, imgd := 0 }, log := [], schema := 0 }
def confirmedSlot : Slot := slotOf .confirmed

/-- A node whose last status frame showed this health word. -/
def shows (h : Nat) : NodeView := { node0 with health := some (BitVec.ofNat 64 h, 0) }

/-- A copy of a frame as its sender forms it, seen from this instant on. -/
def copyOf (start fid node : Nat) (payload : List Word) (null : Bool) : Copy :=
  { start := start, codeOk := true, hdr := frameHdr fid node 0 payload.length null false false false, payload := payload,
    crc := frameCrc (frameHdr fid node 0 payload.length null false false false) payload }
def coldCopyOf (fid node : Nat) : Copy :=
  { start := 0, codeOk := true, hdr := frameHdr fid node 0 0 false false true false, payload := [],
    crc := frameCrc (frameHdr fid node 0 0 false false true false) [] }

def telegram0 : Telegram := { conn := 1, ttype := 3, seq := 2, tsend := 0, techo := 0, payload := [], code := 0 }
def arpFrame : List Byte := List.replicate 12 0 ++ [0x08, 0x06] ++ List.replicate 6 0 ++ [0, 1] ++ List.replicate 38 0

def record0 : Record :=
  { seq := 0, mono := 0, wall := 0, wepoch := 0, sev := 1, lid := 0, sid := false, standby := false, src := 0, code := 0,
    data := List.replicate 8 0 }

def selfTest (u : FaultUnit) : SelfTest :=
  { unit := u, planned := false, thenMem := false, inFallback := false, second := false, startAt := 0 }

/-! ### An image that passes -/

/-- The words of a digest from word index `k` of the table on. -/
def digestAt (k : Nat) (d : W256) : List (Nat × Word) := (List.range 8).map fun i => (k + i, digestWord d i)

/-- A program of END alone, the supply-angle channel in use, and two compilers that differ. -/
def station2 : Station :=
  { station0 with
    program := [0x02000000], sigOk := true, execOk := true, schemas := [1], grd := [(0, 1), (0x30, 1)],
    cfg := [(0x04000C, 1), (0x081A00, 0x80000000), (0x081A04, 1)] }

/-- The same with the digests of its program and of its table, which is empty. -/
def station1 : Station :=
  { station2 with
    grd := (0, 1) :: digestAt 0x20 (Config.sha256 (programBytes station2)) ++ digestAt 0x28 (Config.sha256 (grdBytes station2)) ++
      [(0x30, 1)] }

theorem station1_digests : digestsOk station1 = true := by
  have t : grdBytes station1 = grdBytes station2 := by
    have e : (fun i => leBytes 4 (grdWord station1 (0x1000 + 4 * i))) = fun i => leBytes 4 (grdWord station2 (0x1000 + 4 * i)) := by
      funext i
      have k : (0x1000 + 4 * i) / 4 = 0x400 + i := by omega
      have n : ∀ j, j < 0x400 → 0x400 + i ≠ j := by omega
      simp [grdWord, k, station1, station2, digestAt, List.range_succ, tabGet, n]
    unfold grdBytes
    rw [e]
  have p : programBytes station1 = programBytes station2 := rfl
  have a : grdDigest station1 0x80 = Config.sha256 (programBytes station2) := by
    rw [← beNat_digestWords (Config.sha256 (programBytes station2))]
    rfl
  have b : grdDigest station1 0xA0 = Config.sha256 (grdBytes station2) := by
    rw [← beNat_digestWords (Config.sha256 (grdBytes station2))]
    rfl
  simp [digestsOk, t, p, a, b]

theorem station1_clean : grdClean station1 = true := by
  simp [grdClean, station1, digestAt, List.range_succ, grdReserved]

theorem station1_grd : grdContent station1 = true := by
  unfold grdContent evidenceOk
  rw [station1_digests, station1_clean]
  decide +kernel

/-- Its header: EXEC in block 1, COMMON in block 2, the NODE section of node 0 in block 3. -/
def hdr1 : Header :=
  { hdr0 with
    magic := 0x53595745, modes := 1, schema := 1, nblk := 4,
    sect := [1, 0, 0xFF, 0, 1, 0, 1, 0] ++ List.replicate 8 0 ++ [2, 0, 0xFF, 0, 2, 0, 1, 0] ++ List.replicate 8 0 ++
      [3, 0, 0, 0, 3, 0, 1, 0] ++ List.replicate 216 0 }

/-- A lane in LOAD whose fuses hold the digest of the key, every block read. -/
def loaded : State :=
  { live with
    lane.st := .load, img := none, tae.timev := false, tae.ctOff := none, lnb.bstate := .config,
    crt.ikd := some (Config.sha256 []), upd.runSlot := some false, upd.hdr := some hdr1, upd.blocksOk := [1, 2, 3] }

theorem loaded_passes : loaded.loadChecks station1 = .pass := by
  have h : loaded.headChecks hdr1 station1 = .pass := by
    have k : decide (loaded.crt.ikd = some (Config.sha256 hdr1.pubk)) = true := decide_eq_true rfl
    unfold State.headChecks
    rw [k]
    decide +kernel
  have b : loaded.bodyChecks hdr1 station1 = .pass := by
    have c : (loaded.withImage station1).contentFault = none := by
      unfold State.contentFault
      simp only [show grdContent (loaded.withImage station1).station = true from station1_grd]
      decide +kernel
    unfold State.bodyChecks
    simp only [c]
    decide +kernel
  show (match loaded.headChecks hdr1 station1 with | .pass => loaded.bodyChecks hdr1 station1 | r => r) = .pass
  rw [h]
  exact b

/-! ### Telegrams -/

/-- The first 28 bytes of a telegram without payload on connection 1, with this sequence number. -/
def telegramHead (n : Byte) : List Byte :=
  [1, 1, 0, 0] ++ List.replicate 8 0 ++ [0, 0, 0, 1, 0, 0, 0, n] ++ List.replicate 8 0

/-- A telegram with this code. -/
def telegramOf (n : Byte) (code : W64) : List Byte := telegramHead n ++ beBytes 8 code.toNat

theorem telegramOf_take (n : Byte) (code : W64) :
    (telegramOf n code).take ((telegramOf n code).length - 8) = telegramHead n := by
  simp [telegramOf, telegramHead]

theorem telegramOf_drop (n : Byte) (code : W64) :
    BitVec.ofNat 64 (beNat ((telegramOf n code).drop ((telegramOf n code).length - 8))) = code := by
  have h : (telegramOf n code).drop ((telegramOf n code).length - 8) = beBytes 8 code.toNat := by
    simp [telegramOf, telegramHead]
  rw [h, ofNat_beNat_beBytes]

theorem telegramOf_right (n : Byte) (k : BitVec 128) :
    Config.cmac k ((telegramOf n (Config.cmac k (telegramHead n))).take ((telegramOf n (Config.cmac k (telegramHead n))).length - 8)) =
      BitVec.ofNat 64 (beNat ((telegramOf n (Config.cmac k (telegramHead n))).drop
        ((telegramOf n (Config.cmac k (telegramHead n))).length - 8))) := by
  rw [telegramOf_take, telegramOf_drop]

theorem telegramOf_wrong (n : Byte) (k : BitVec 128) :
    Config.cmac k ((telegramOf n (Config.cmac k (telegramHead n) + 1)).take
        ((telegramOf n (Config.cmac k (telegramHead n) + 1)).length - 8)) ≠
      BitVec.ofNat 64 (beNat ((telegramOf n (Config.cmac k (telegramHead n) + 1)).drop
        ((telegramOf n (Config.cmac k (telegramHead n) + 1)).length - 8))) := by
  rw [telegramOf_take, telegramOf_drop]
  bv_omega

/-! ### A response -/

/-- A session challenged for level 2, and the response that its key gives. -/
def asked : Session := { Session.fresh 0 none with st := .challenged, reqLevel := 2 }
def response : W64 := left64 (Config.hmac Config.keyRecovery (live.chalBytes asked))
def answering : Session := { asked with respLo := response.extractLsb' 0 32 }
def challenged : State := { live with sup.sessions := [answering] }

theorem response_right : challenged.respRight answering (response.extractLsb' 32 32 ++ answering.respLo) = true := by
  have h : response.extractLsb' 32 32 ++ answering.respLo = response := by
    show response.extractLsb' 32 32 ++ response.extractLsb' 0 32 = response
    rw [BitVec.extractLsb'_append_extractLsb'_eq_extractLsb' (by rfl)]
    simp
  have b : challenged.chalBytes answering = live.chalBytes asked := by
    unfold State.chalBytes
    simp only [answering, challenged, Session.path]
  have k : challenged.levelKey answering.reqLevel = some Config.keyRecovery := rfl
  rw [h]
  unfold State.respRight
  rw [k, b]
  exact decide_eq_true rfl

/-! ### A fetch reply -/

/-- The words of a reply that carries no byte of a telegram with CONN and SEQ 0 and this code, and a lane that lacks it. -/
def replyWords (x : W64) : List Word := [0, 0, x.extractLsb' 0 32, x.extractLsb' 32 32, 0]
def replyCode : W64 := Config.cmac 0 []
def replyCopy : Copy := copyOf 10160 9 1 (replyWords replyCode) false
def replyFrame : RxFrame :=
  { win := 2, rank := 0, x := some replyCopy, y := some replyCopy, carrierX := true, carrierY := true }
def replyTelegram : Telegram :=
  { conn := 0, ttype := 0, seq := 0, tsend := 0, techo := 0, payload := [],
    code := replyCode.extractLsb' 32 32 ++ replyCode.extractLsb' 0 32 }
def lacking : State :=
  { live with
    img := some { station0 with cfg := [(0x091020, 0x880003E8), (0x091024, 0xFA0), (0x091028, 0x2800009),
      (0x094024, 0x93800000), (0x0A1008, 0x80000000)] },
    lnb.node := [(1, { node0 with health := some (7, 0), inValid := true, inWords := (replyWords replyCode).take 4 }),
      (2, { node0 with health := some (7, 0), inValid := true, inWords := (replyWords replyCode).take 4 })] }

theorem reply_judged : FrameJudged lacking 3 replyFrame replyCopy .valid := by
  refine ⟨by decide, by decide, by decide, rfl, rfl, by decide, by decide, by decide, ?_⟩
  have a : ((lacking.advance (frameEnd replyFrame)).busTime && decide (40 < ((lacking.advance (frameEnd replyFrame)).devOf
    ((lacking.advance (frameEnd replyFrame)).expectedStart replyFrame.win.val replyFrame.rank.val) replyCopy).natAbs)) = false := by
    decide +kernel
  unfold State.verdict
  rw [a, if_neg (by decide), if_neg (by decide), if_neg (show ¬ replyCopy.crc ≠ frameCrc replyCopy.hdr replyCopy.payload from not_not_intro rfl)]
  decide +kernel

theorem reply_lacking : replyTelegram.digest ∈ lacking.lackingNow := by
  obtain ⟨a, b, e, h, ha, hb, he⟩ : ∃ a b e : Contrib, lacking.contribs = [a, b, e] ∧ a.digests = [] ∧
      b.digests = [replyTelegram.digest] ∧ e.digests = [replyTelegram.digest] := ⟨_, _, _, rfl, rfl, rfl, rfl⟩
  have f : ∀ d : Digest, lacking.telegramOf d = none := fun _ => rfl
  simp [State.lackingNow, State.agreedDigests, h, ha, hb, he, f]

theorem reply_code : lacking.codeMatches (replyCopy.payload.getD 0 0).toNat
    (replyCopy.payload.getD 3 0 ++ replyCopy.payload.getD 2 0)
    ((wordsToBytes (replyCopy.payload.drop 5)).take (bits (replyCopy.payload.getD 4 0).toNat 16 16)) = true := by
  have h : replyCopy.payload.getD 3 0 ++ replyCopy.payload.getD 2 0 = replyCode := by
    show replyCode.extractLsb' 32 32 ++ replyCode.extractLsb' 0 32 = replyCode
    rw [BitVec.extractLsb'_append_extractLsb'_eq_extractLsb' (by rfl)]
    simp
  have c : connOf lacking.station (replyCopy.payload.getD 0 0).toNat = some 0 := by decide
  unfold State.codeMatches
  rw [h, c]
  exact decide_eq_true rfl

/-! ### Ill-formed terms are refused -/

/-- A flash block of another length than 64 KiB (R463). -/
theorem test_short_flash_block : (Instr.norBlockRead .norA 1 [0]).wellFormed = false := by decide

/-- A record of another length than 8 bytes of DATA (R517). -/
theorem test_short_record : (Instr.recordCreate 1 0 0 [0]).wellFormed = false := by decide

/-- A CAN frame whose payload is not the one of its DLC (R449). -/
theorem test_can_payload : (Instr.canFrameReceived 0 { canFrame0 with dlc := 2, data := [5] } 0).wellFormed = false := by decide

/-- DLC 13 of a CAN FD frame stands for 32 bytes (R449). -/
theorem test_can_fd_payload :
    (Instr.canFrameReceived 0 { canFrame0 with fdf := true, dlc := 13, data := List.replicate 32 0 } 0).wellFormed = true := by decide

theorem test_ill_formed_faults : exec (.recordCreate 1 0 0 [0]) live = .fault .illFormed := rfl

/-! ### One step -/

/-- The state that a command leaves. -/
def run (i : Instr) (s : State) : State := match exec i s with | .next t => t | _ => s

/-- The state that a step leaves. -/
def stepped (s : State) : State := match step s with | .next t => t | _ => s

theorem test_front_of_queue : (stepped { live with pending := [.pfailFall, .refReady] }).pending = [.refReady] := by decide

/-- No row of the table has bits, so no word spells a command (entry 1). -/
theorem test_no_word : decodeTableWord 32 5 = none := rfl

/-- POWER_ON: the lane stands in RESET (R545). -/
theorem test_power_on : (run (.powerOn true true) State.reset).lane.st = .reset := by decide

/-- Loss of power takes everything volatile; the fuses stay (R545, R559). -/
theorem test_power_off : (run .lossOfPower { live with crt.sv := 3 }).lane.st = .off ∧
    (run .lossOfPower { live with crt.sv := 3 }).crt.sv = 3 := by decide

/-- A lane in RESET whose RESET_N is low. -/
def held : State := { State.reset with pins.powered := true, lane.st := .reset }

/-- Three equal samples are accepted as the straps (R454). -/
theorem test_straps : (run (.resetNRise 0x11 0x11 0x11) held).lane.pin = 0x11 := by decide

/-- Samples that differ are not. -/
theorem test_straps_differ : (run (.resetNRise 0x11 0x11 0x10) held).lane.strapAcc = false := by decide

/-- Both consent lines lost in RUN while driving: SAFE with cause 2 (R34, R36). -/
theorem test_consent_lost : (run (.consentLost 1) { live with lane.driving := true, lane.cons0 := false, lane.cons1 := true }).lane.st = .safe := by
  decide

/-- With PFEN set, PFAIL_N low sets SAFE with cause 4 (R34, R455). -/
theorem test_pfail : (run .pfailFall { live with lane.eff := 0x800 }).lane.scause = 4 ∧
    (run .pfailFall { live with lane.eff := 0x800 }).lane.smask = 8 := by decide

/-! ### Logic -/

/-- A rung context of replica 0 with this accumulator, and bit cell 0x3F001 at 1. -/
def logic (acc : Option Bool) : State :=
  { live with lge.scan := true, lge.rung0.acc := acc, lge.rep0.cells := [(5, .bit true true)] }

/-- LD of a true bit under AND with a true accumulator, inverted: 0 (R145, R156). -/
theorem test_ld_and : (run (.ld .none false true .and 5) (logic (some true))).lge.rung0.acc = some false := by decide

/-- LD of a bit under OR with a false accumulator: 1. -/
theorem test_ld_or : (run (.ld .none false false .or 5) (logic (some false))).lge.rung0.acc = some true := by decide

/-- ST holds the accumulator in the store buffer, not in the image (R109). -/
theorem test_st : (run (.st .none false 6) (logic (some true))).lge.buf0 = [{ tag := 0, addr := 6, content := .bit true true }] ∧
    (run (.st .none false 6) (logic (some true))).cell 6 = .bit false false := by decide

/-- RST with a false accumulator stores nothing (R156). -/
theorem test_rst_idle : (run (.rst .none 6) (logic (some false))).lge.buf0 = [] := by decide

/-- KHI gives the next compare its upper constant bits (R163): K = 3 × 128 + 5 = 389. -/
theorem test_khi : constK (run (.khi .none 3) (logic none)).lge.rung0 5 = 389 := by decide

/-- A constant without a prefix is sign-extended from 7 bits (R163): 0x7F is -1. -/
theorem test_short_constant : constK (logic none).lge.rung0 0x7F = 0xFFFFFFFF := by decide

/-- A close of an empty stack aborts the scan with STKF (R152). -/
theorem test_close_empty : (run (.blockClose .none false) (logic (some true))).lge.evt.getLsbD 4 = true := by decide

/-! ### Agreement -/

/-- The median of three reports within the tolerance (R74). -/
theorem test_median : agreeWord 10 [(5, true), (9, true), (6, true)] = .word 6 true := by decide

/-- The mean of two reports, rounded down: of -3 and 0 it is -2 (R74). -/
theorem test_mean : agreeWord 10 [(0xFFFFFFFD, true), (0, true), (7, false)] = .word 0xFFFFFFFE true := by decide

/-- Reports further apart than the tolerance agree on nothing. -/
theorem test_spread : agreeWord 2 [(5, true), (9, true), (6, true)] = .word 0 false := by decide

/-- Two equal valid reports of three decide a bit (R73). -/
theorem test_bit_vote : agreeBit [(true, true), (false, true), (true, true)] = .bit true true := by decide

/-! ### Check values of the codes -/

/-- The nine characters that a CRC's check value is taken over. -/
def digits : List Byte := [0x31, 0x32, 0x33, 0x34, 0x35, 0x36, 0x37, 0x38, 0x39]

/-- The published check values of the CRCs that the spec names (R336, R463, R588, R642). -/
theorem test_crc8 : crc8 digits = 0xF4 := by decide +kernel
theorem test_crc16 : crc16 digits = 0x29B1 := by decide +kernel
theorem test_crc32 : crc32 digits = 0xCBF43926 := by decide +kernel
theorem test_crc32c : crc32c digits = 0xE3069283 := by decide +kernel
theorem test_crc64 : crc64 digits = 0x6C40DF5F0B497347 := by decide +kernel

/-! ### Registers, records, queues -/

/-- A record enters the buffer with the next sequence number (R517). -/
theorem test_record : ((run (.recordCreate 4 0x0100 0x0102 (List.replicate 8 1)) live).rcd.buf.map Record.seq) = [0] := by decide

/-- A record below MINSEV is not made (R518). -/
theorem test_minsev :
    (run (.recordCreate 1 0 0 (List.replicate 8 1))
      { live with img := some { station0 with cfg := [(0x0C0000, 2)] } }).rcd.buf = [] := by decide

/-- A write that nothing authorises changes nothing (R4): no session is open. -/
theorem test_unauthorised : run (.stop 0) live = { live with sup.sessions := live.sup.sessions } := by decide

/-- A tick of D11 takes 10 ns (entry 8). -/
theorem test_tick : (stepped live).pins.now = 10 := by decide

/-- The PHY's link is shown (R397). -/
theorem test_link :
    ((run (.phyPoll 0 .up100) { live with fld.phyOut := true, img := some { station0 with cfg := [(0x0A0020, 0x80000000)] } }).port 0).link = .up100 := by decide

/-! ### Balls -/

/-- Node 1 with T_P = 5 ms and TPW = 12 µs: its sub-pulse for VIN9 starts 3,296.875 µs into the frame and lasts 12 µs (R207, the
example of Ostry Junction). -/
theorem test_tpo_pulse :
    let s : State := { live with lane.pin := 1 }
    s.node = 1 ∧ s.tpoFrame 3296874 = true ∧ s.tpoFrame 3296875 = false ∧ s.tpoFrame 3308874 = false ∧ s.tpoFrame 3308875 = true := by
  decide

/-- A lane in SAFE shows code 0xA and SAFE_N low; one that holds shows 0x4 and SAFE_N high (R38, R602). -/
theorem test_balls_safe : (run (.consentLost 1) { live with lane.cons1 := true }).statBalls = some 0xA ∧
    (run (.consentLost 1) { live with lane.cons1 := true }).safeBall = some false ∧ live.statBalls = some 4 ∧
    live.safeBall = some true := by decide
/-! ### Witnesses of the statements -/

theorem plain_not_cmd : ∀ l, writeNeed 0 (0x030028#24).toNat (5#32).toNat = .cmd l →
    ({ live with sup.sessions := [{ Session.fresh 0 none with st := .opened, level := 2 }] } : State).tokenOk
      { Session.fresh 0 none with st := .opened, level := 2 } (0x030028#24).toNat (5#32).toNat = true := by
  intro l h
  have k : writeNeed 0 (0x030028#24).toNat (5#32).toNat = .plain 2 := by decide +kernel
  rw [k] at h
  exact nomatch h

theorem not_authorised : ¬ Authorised live 0 0x28 3 2 := by
  rintro ⟨x, hx, -, h, -⟩
  have : x = Session.fresh 0 none := by simpa [live, State.session, State.reset, Sup.reset, Session.fresh] using hx.symm
  subst this
  exact absurd h (by decide)

theorem witness_StepRunsTheFrontCommand :
    ∃ (c : Instr) (rest : List Instr) (s : State), s.pending = c :: rest :=
  ⟨.pfailFall, [], ({ live with pending := [.pfailFall] } : State), by decide⟩

theorem witness_EmptyQueueTicks :
    ∃ (s : State), s.pending = [] :=
  ⟨live, by decide⟩

theorem witness_EveryCommandCompletes :
    (∃ (i : Instr), i.wellFormed = true) ∧
    (∃ (i : Instr), i.wellFormed = false) :=
  ⟨⟨.lossOfPower, by decide⟩,
   ⟨(.recordCreate 0 0 0 []), by decide⟩⟩

theorem witness_ResetsAndStraps :
    (∃ (s : State), s.pins.powered = false) ∧
    (∃ (s : State), s.pins.powered = true) ∧
    (∃ (s0 : BitVec 14) (s : State), s.pins.powered = true ∧ s.pins.resetN = false ∧ s.lane.st = .reset ∧ s.pins.lowRails = [] ∧
      (s0.getLsbD 11 = true → s.pins.pfailHigh = true)) ∧
    (∃ (s0 : BitVec 14) (s : State), s.pins.powered = true ∧ s.pins.resetN = false ∧ s.lane.st = .reset ∧ (s.pins.lowRails ≠ [] ∨
      (s0.getLsbD 11 = true ∧ s.pins.pfailHigh = false))) ∧
    (∃ (s0 : BitVec 14) (s : State), s.pins.powered = true ∧ s.pins.resetN = true ∧ s.lane.st = .reset ∧ s.lane.strapAcc = false ∧ 1
      ≤ s.lane.strapTry ∧ s.lane.strapTry < 16 ∧ s.pins.lowRails = [] ∧ (s0.getLsbD 11 = true → s.pins.pfailHigh = true)) :=
  ⟨⟨State.reset, by decide⟩,
   ⟨live, by decide⟩,
   ⟨0x11, ({ State.reset with pins.powered := true, lane.st := .reset } : State), by decide⟩,
   ⟨0x800, ({ State.reset with pins.powered := true, lane.st := .reset } : State), by decide⟩,
   ⟨0x11, ({ State.reset with pins.powered := true, lane.st := .reset, pins.resetN := true, lane.strapTry := 15 } : State), by decide⟩⟩

theorem witness_ClockStart :
    (∃ (s : State), s.crt.attempt = true ∧ s.crt.amp = false ∧ s.crtRuns = true ∧ s.pins.now ≤ s.crt.attemptAt + 20000000) ∧
    (∃ (s : State), s.crt.attempt = true ∧ s.crt.amp = true ∧ s.crtRuns = true ∧ s.pins.now + 32000 ≤ s.crt.ampAt + 200000000) ∧
    (∃ (s : State), s.crt.attempt = true ∧ s.crtRuns = true) ∧
    (∃ (s : State), s.crt.attempt = false ∧ s.crt.xval = false ∧ s.crtRuns = true) ∧
    (∃ (s : State), s.crt.xval = true ∧ s.crtRuns = true ∧ s.lane.st = .clock ∧ s.crt.lock = false) ∧
    (∃ (s : State), s.crt.xval = true ∧ s.crtRuns = true ∧ (s.lane.st ≠ .clock ∨ s.crt.lock = true) ∧ s.crt.rootLost = true) ∧
    (∃ (s : State), s.tae.ctOff.isSome = true ∧ s.crt.align = false ∧ s.crt.lock = true) :=
  ⟨⟨({ State.reset with pins.powered := true, lane.st := .clock, crt.attempt := true } : State), by decide⟩,
   ⟨({ State.reset with pins.powered := true, lane.st := .clock, crt.attempt := true, crt.amp := true, crt.winGood := 1023, crt.winLast := some 51200 } : State), by decide⟩,
   ⟨({ State.reset with pins.powered := true, lane.st := .clock, crt.attempt := true } : State), by decide⟩,
   ⟨({ State.reset with pins.powered := true, lane.st := .clock } : State), by decide⟩,
   ⟨({ State.reset with pins.powered := true, lane.st := .clock, crt.xval := true } : State), by decide⟩,
   ⟨({ live with crt.rootLost := true, rcd.late := [(5, 0x100, 0x102, [1])] } : State), by decide⟩,
   ⟨({ live with crt.align := false, crt.timevHeld := true, tae.timev := false } : State), by decide⟩⟩

theorem witness_SafeCausesAndConsent :
    (∃ (k : Fin 2) (s : State), s.pins.powered = true ∧ s.lane.safeLatch = false ∧ s.lane.st = .run ∧ (if k = 0 then s.lane.cons1
      else s.lane.cons0) = false) ∧
    (∃ (k : Fin 2) (s : State), s.pins.powered = true ∧ ((s.lane.st ≠ .run ∧ (s.lane.safeLatch && s.lane.safeRun) = false) ∨ (if k =
      0 then s.lane.cons1 else s.lane.cons0) = true)) ∧
    (∃ (s : State), s.pins.powered = true ∧ s.lane.safeLatch = false ∧ s.pfen = true ∧ s.crtRuns = true ∧ s.crt.rootLost = false) ∧
    (∃ (s : State), s.pins.powered = true ∧ s.pfen = false) ∧
    (∃ (s : State), s.crt.lock = true ∧ s.lane.supHalted = false ∧ s.lane.safeLatch = false) ∧
    (∃ (sid : BitVec 16) (s : State), Authorised s sid 0x28 1 2 ∧ s.lane.st ≠ .safe ∧ s.lane.safeLatch = false ∧ s.ctlRuns = false) ∧
    (∃ (i : Instr) (s : State) (t : State), exec i s = .next t ∧ t.lane.st = .run ∧ s.lane.st ≠ .run) ∧
    (∃ (s : State), s.pins.powered = true) :=
  ⟨⟨0, ({ live with lane.driving := true, lane.cons0 := true } : State), by decide⟩,
   ⟨1, ({ live with lane.cons0 := true, lane.cons1 := true } : State), by decide⟩,
   ⟨({ live with lane.eff := 0x800, lane.driving := true } : State), by decide⟩,
   ⟨live, by decide⟩,
   ⟨({ live with lane.driving := true } : State), by decide⟩,
   ⟨0, (armed ({ live with lane.driving := true } : State) 0x28 1 2), armed_authorised ({ live with lane.driving := true } : State) 0x28 1 2 (by decide) rfl (by decide) (by decide) (by decide), by decide, by decide, by decide⟩,
   ⟨(.logicCycleBoundary 1), ({ live with lane.st := .prove, lane.proved := true, lane.cons0 := true } : State), _, rfl, by decide +kernel, by decide +kernel⟩,
   ⟨live, by decide⟩⟩

theorem witness_RestartFromSafe :
    (∃ (sid : BitVec 16) (s : State), Authorised s sid 0x28 2 2 ∧ s.lane.st = .safe ∧ s.ctlRuns = false) ∧
    (∃ (s : State), s.pins.powered = true ∧ s.pins.restartLvl = false ∧ s.pins.restartQual = false) ∧
    (∃ (s : State), s.pins.powered = true ∧ s.pins.restartLvl = false ∧ s.pins.restartQual = true ∧ s.lane.window = true ∧ HeldSafe s
      ∧ s.lane.supHalted = false ∧ s.pins.now ≤ s.lane.windowAt + 60000000000) ∧
    (∃ (s : State), s.lane.window = true) :=
  ⟨⟨0, (armed ({ live with lane.st := .safe, lane.safeLatch := true, lane.scause := 2, lane.smask := 2 } : State) 0x28 2 2), armed_authorised ({ live with lane.st := .safe, lane.safeLatch := true, lane.scause := 2, lane.smask := 2 } : State) 0x28 2 2 (by decide) rfl (by decide) (by decide) (by decide), by decide, by decide⟩,
   ⟨live, by decide⟩,
   ⟨({ ({ live with lane.st := .safe, lane.safeLatch := true, lane.scause := 2, lane.smask := 2 } : State) with lane.window := true, pins.restartQual := true } : State), by decide⟩,
   ⟨({ ({ live with lane.st := .safe, lane.safeLatch := true, lane.scause := 2, lane.smask := 2 } : State) with lane.window := true } : State), by decide⟩⟩

theorem witness_OnlyResetsEndSafe :
    ∃ (i : Instr) (s : State) (t : State), HeldSafe s ∧ s.pins.powered = true ∧ exec i s = .next t :=
  ⟨.pfailRise, ({ live with lane.st := .safe, lane.safeLatch := true, lane.scause := 2, lane.smask := 2 } : State), _, by decide, by decide, rfl⟩

theorem witness_FusesAndImage :
    (∃ (s : State) (t : State), step s = .next t) ∧
    (∃ (s : State) (t : State) (d : W256), step s = .next t ∧ s.crt.ikd = some d) ∧
    (∃ (i : Instr) (s : State) (t : State), exec i s = .next t) :=
  ⟨⟨live, _, rfl⟩,
   ⟨({ live with crt.ikd := some 7 } : State), _, 7, rfl, by decide⟩,
   ⟨.pfailRise, live, _, rfl⟩⟩

theorem witness_FuseBurning :
    (∃ (sid : BitVec 16) (s : State) (h : Header), Authorised s sid 0x010034 1 3 ∧ s.upd.hdr = some h ∧ s.crt.ikd = none ∧ (s.mode =
      1 ∨ s.mode = 3) ∧ s.vfok = true) ∧
    (∃ (sid : BitVec 16) (s : State), Authorised s sid 0x010034 1 3 ∧ (s.crt.ikd.isSome ∨ s.vfok = false ∨ s.upd.hdr = none)) ∧
    (∃ (s : State) (g : Nat), s.crt.svTarget = some g ∧ s.fuseReady = true ∧ s.crt.sv < g ∧ s.crt.sv < 255) :=
  ⟨⟨0, (armed ({ live with lane.pin := 0x80, crt.vfuse := true, upd.hdr := some hdr0 } : State) 0x010034 1 3), hdr0, armed_authorised ({ live with lane.pin := 0x80, crt.vfuse := true, upd.hdr := some hdr0 } : State) 0x010034 1 3 (by decide) rfl (by decide) (by decide) (by decide), by decide, by decide, by decide, by decide⟩,
   ⟨0, (armed live 0x010034 1 3), armed_authorised live 0x010034 1 3 (by decide) rfl (by decide) (by decide) (by decide), by decide⟩,
   ⟨({ live with crt.svTarget := some 3, crt.vfuse := true } : State), 3, by decide⟩⟩

theorem witness_ClockMonitors :
    (∃ (s : State), s.crt.lock = true ∧ s.crtRuns = true ∧ s.crt.xval = true ∧ s.crt.rootsel = false ∧ s.crt.rval = true) ∧
    (∃ (s : State), s.crt.lock = true ∧ s.crtRuns = true ∧ s.crt.xval = true ∧ s.crt.rootsel = false ∧ s.crt.rval = false ∧
      s.lane.safeLatch = false) ∧
    (∃ (s : State), s.crt.lock = true ∧ s.crtRuns = true ∧ s.crt.xval = true ∧ s.crt.rootsel = true) ∧
    (∃ (s : State), s.crt.lock = true ∧ s.crtRuns = true ∧ s.crt.rval = true ∧ s.crt.rootsel = true ∧ s.crt.xval = true ∧
      s.lnb.recadm = true) ∧
    (∃ (m : Monitor) (s : State), m ≠ .xmon ∧ m ≠ .rmon ∧ s.crt.lock = true ∧ s.crtRuns = true ∧ s.lane.safeLatch = false) ∧
    (∃ (b : Bool) (s : State), s.crt.lock = true ∧ s.crtRuns = true ∧ s.crt.rootsel = !b) ∧
    (∃ (s : State), s.crt.lock = true ∧ s.crtRuns = true) :=
  ⟨⟨({ live with crt.rval := true } : State), by decide⟩,
   ⟨live, by decide⟩,
   ⟨({ live with crt.rootsel := true, crt.rval := true } : State), by decide⟩,
   ⟨({ live with crt.rootsel := true, crt.rval := true, lnb.recadm := true } : State), by decide⟩,
   ⟨.pmon, ({ live with lane.driving := true } : State), by decide⟩,
   ⟨true, ({ live with crt.rval := true } : State), by decide⟩,
   ⟨({ live with lane.driving := true } : State), by decide⟩⟩

theorem witness_TestAndLoad :
    (∃ (s : State), s.lane.st = .test ∧ s.lane.sfault = 0) ∧
    (∃ (chip : Chip) (k : Fin 255) (data : List Byte) (h : Header) (s : State), data.length = 65536 ∧ s.lane.st = .load ∧
      s.lane.sfault = 0 ∧ s.upd.runSlot.isSome = true ∧ (s.nvw = true → chip = .norA) ∧ s.upd.hdr = some h ∧ k.val < h.nblk ∧ 1
      ≤ k.val ∧ s.blockQueued chip k.val = true) ∧
    (∃ (st : Station) (s : State), s.lane.st = .load ∧ s.lane.sfault = 0 ∧ s.upd.runSlot.isSome = true ∧ s.loadChecks st = .pass ∧
      s.upd.fromShadow = false) ∧
    (∃ (st : Station) (c : Nat) (m : List Nat) (s : State), s.lane.st = .load ∧ s.lane.sfault = 0 ∧ s.upd.runSlot.isSome = true ∧
      s.loadChecks st = .fails c m ∧ s.upd.fromShadow = false ∧ s.upd.fromTrial = false) ∧
    (∃ (st : Station) (c : Nat) (m : List Nat) (s : State), s.lane.st = .load ∧ s.lane.sfault = 0 ∧ s.upd.runSlot = some false ∧
      s.loadChecks st = .fails c m ∧ s.upd.fromShadow = true) :=
  ⟨⟨({ live with lane.st := .test, img := none } : State), by decide⟩,
   ⟨.norB, 1, (List.replicate 65536 0), { hdr0 with nblk := 2 }, ({ live with lane.st := .load, img := none, tae.timev := false, tae.ctOff := none, lnb.bstate := .config, upd.runSlot := some false, upd.hdr := some { hdr0 with nblk := 2 } } : State), List.length_replicate, by decide, by decide, by decide, by decide, by decide, by decide, by decide, by decide⟩,
   ⟨station1, loaded, by decide, by decide, by decide, loaded_passes, by decide⟩,
   ⟨station0, 0x14, [], ({ live with lane.st := .load, img := none, tae.timev := false, tae.ctOff := none, lnb.bstate := .config, upd.runSlot := some false, upd.hdr := some hdr0 } : State), by decide⟩,
   ⟨station0, 0x14, [], ({ live with lane.st := .load, img := none, tae.timev := false, tae.ctOff := none, lnb.bstate := .config, upd.runSlot := some false, upd.hdr := some hdr0, upd.fromShadow := true } : State), by decide⟩⟩

theorem witness_UpdateLock :
    (∃ (sid : BitVec 16) (s : State), Authorised s sid 0x0D0000 1 3 ∧ s.upd.lock = none ∧ s.updRuns = false ∧ s.writeAllowed = true) ∧
    (∃ (sid : BitVec 16) (n : Nat) (s : State), Authorised s sid 0x0D0000 1 3 ∧ s.upd.lock = some n ∧ n ≠ sid.toNat) ∧
    (∃ (sid : BitVec 16) (n : Nat) (s : State), Authorised s sid 0x0D0000 2 3 ∧ s.upd.lock = some n ∧ n ≠ sid.toNat) ∧
    (∃ (sid : BitVec 16) (n : Nat) (s : State), Authorised s sid 0x0D0000 3 3 ∧ s.upd.lock = some n ∧ n ≠ sid.toNat) ∧
    (∃ (w : ImageWrite) (s : State), s.upd.op = some .open ∧ s.upd.write = some w) ∧
    (∃ (w : ImageWrite) (s : State), s.upd.op = some .block ∧ s.upd.write = some w ∧ 1 ≤ w.cur) ∧
    (∃ (w : ImageWrite) (s : State), s.upd.op = some .block ∧ s.upd.write = some w ∧ w.cur = 0) ∧
    (∃ (w : ImageWrite) (h : Header) (s : State), s.upd.op = some .finish ∧ s.upd.write = some w ∧ w.hdr = some h ∧ (∀ k, 1 ≤ k → k <
      h.nblk → k ∈ w.written)) ∧
    (∃ (sid : BitVec 16) (s : State), MayWrite s sid 0x0D000C 2 ∧ s.upd.lock = some sid.toNat) ∧
    (∃ (sid : BitVec 16) (s : State), TablesWf s ∧ MayWrite s sid 0x0D0010 2 ∧ s.upd.lock = some sid.toNat ∧ s.upd.ptr < 65536) ∧
    (∃ (sid : BitVec 16) (w : ImageWrite) (s : State), Authorised s sid 0x0D0000 2 3 ∧ s.upd.lock = some sid.toNat ∧ s.updRuns =
      false ∧ s.upd.write = some w ∧ (w.hdr.isSome = true ∨ s.upd.blk = 0)) ∧
    (∃ (sid : BitVec 16) (w : ImageWrite) (s : State), Authorised s sid 0x0D0000 3 3 ∧ s.upd.lock = some sid.toNat ∧ s.updRuns =
      false ∧ s.upd.write = some w) ∧
    (∃ (sid : BitVec 16) (w : ImageWrite) (s : State), Authorised s sid 0x0D0000 4 3 ∧ s.ownSwitch true = false ∧ s.upd.lock = some
      sid.toNat ∧ s.upd.write = some w) ∧
    (∃ (sid : BitVec 16) (w : ImageWrite) (s : State), Authorised s sid 0x0D0000 5 3 ∧ s.updRuns = false ∧ s.upd.lock = some
      sid.toNat ∧ s.upd.write = some w) :=
  ⟨⟨0, (armed ({ live with upd.runSlot := some false, upd.slot0 := confirmedSlot } : State) 0x0D0000 1 3), armed_authorised ({ live with upd.runSlot := some false, upd.slot0 := confirmedSlot } : State) 0x0D0000 1 3 (by decide) rfl (by decide) (by decide) (by decide), by decide, by decide, by decide⟩,
   ⟨0, 5, (armed ({ live with upd.lock := some 5 } : State) 0x0D0000 1 3), armed_authorised ({ live with upd.lock := some 5 } : State) 0x0D0000 1 3 (by decide) rfl (by decide) (by decide) (by decide), by decide, by decide⟩,
   ⟨0, 5, (armed ({ live with upd.lock := some 5 } : State) 0x0D0000 2 3), armed_authorised ({ live with upd.lock := some 5 } : State) 0x0D0000 2 3 (by decide) rfl (by decide) (by decide) (by decide), by decide, by decide⟩,
   ⟨0, 5, (armed ({ live with upd.lock := some 5 } : State) 0x0D0000 3 3), armed_authorised ({ live with upd.lock := some 5 } : State) 0x0D0000 3 3 (by decide) rfl (by decide) (by decide) (by decide), by decide, by decide⟩,
   ⟨{ slot := true, written := [1], hdr := none, cur := 1, buf := [] }, ({ live with upd.op := some .open, upd.write := some { slot := true, written := [1], hdr := none, cur := 1, buf := [] }, upd.lock := some 0 } : State), by decide⟩,
   ⟨{ slot := true, written := [1], hdr := none, cur := 1, buf := [] }, ({ live with upd.op := some .block, upd.write := some { slot := true, written := [1], hdr := none, cur := 1, buf := [] }, upd.lock := some 0 } : State), by decide⟩,
   ⟨{ slot := true, written := [], hdr := none, cur := 0, buf := [] }, ({ live with upd.op := some .block, upd.write := some { slot := true, written := [], hdr := none, cur := 0, buf := [] }, upd.lock := some 0 } : State), by decide⟩,
   ⟨{ slot := true, written := [1], hdr := some hdr0, cur := 1, buf := [] }, hdr0, ({ live with upd.op := some .finish, upd.write := some { slot := true, written := [1], hdr := some hdr0, cur := 1, buf := [] }, upd.lock := some 0 } : State), by decide⟩,
   ⟨0, (opened ({ live with upd.lock := some 0 } : State) 2), opened_writes ({ live with upd.lock := some 0 } : State) 0x0D000C 2 (by decide) (by decide) (by decide), by decide⟩,
   ⟨0, (opened ({ live with upd.lock := some 0 } : State) 2), by decide, opened_writes ({ live with upd.lock := some 0 } : State) 0x0D0010 2 (by decide) (by decide) (by decide), by decide, by decide⟩,
   ⟨0, { slot := true, written := [1], hdr := none, cur := 1, buf := [] }, (armed ({ live with upd.lock := some 0, upd.write := some { slot := true, written := [1], hdr := none, cur := 1, buf := [] }, upd.blk := 0 } : State) 0x0D0000 2 3), armed_authorised ({ live with upd.lock := some 0, upd.write := some { slot := true, written := [1], hdr := none, cur := 1, buf := [] }, upd.blk := 0 } : State) 0x0D0000 2 3 (by decide) rfl (by decide) (by decide) (by decide), by decide, by decide, by decide, by decide⟩,
   ⟨0, { slot := true, written := [1], hdr := none, cur := 1, buf := [] }, (armed ({ live with upd.lock := some 0, upd.write := some { slot := true, written := [1], hdr := none, cur := 1, buf := [] } } : State) 0x0D0000 3 3), armed_authorised ({ live with upd.lock := some 0, upd.write := some { slot := true, written := [1], hdr := none, cur := 1, buf := [] } } : State) 0x0D0000 3 3 (by decide) rfl (by decide) (by decide) (by decide), by decide, by decide, by decide⟩,
   ⟨0, { slot := true, written := [1], hdr := none, cur := 1, buf := [] }, (armed ({ live with upd.lock := some 0, upd.write := some { slot := true, written := [1], hdr := none, cur := 1, buf := [] } } : State) 0x0D0000 4 3), armed_authorised ({ live with upd.lock := some 0, upd.write := some { slot := true, written := [1], hdr := none, cur := 1, buf := [] } } : State) 0x0D0000 4 3 (by decide) rfl (by decide) (by decide) (by decide), by decide, by decide, by decide⟩,
   ⟨0, { slot := true, written := [1], hdr := none, cur := 1, buf := [] }, (armed ({ live with upd.lock := some 0, upd.write := some { slot := true, written := [1], hdr := none, cur := 1, buf := [] } } : State) 0x0D0000 5 3), armed_authorised ({ live with upd.lock := some 0, upd.write := some { slot := true, written := [1], hdr := none, cur := 1, buf := [] } } : State) 0x0D0000 5 3 (by decide) rfl (by decide) (by decide) (by decide), by decide, by decide, by decide⟩⟩

theorem witness_ActivationAndOnline :
    (∃ (sid : BitVec 16) (s : State), Authorised s sid 0x0D0000 6 3 ∧ s.updRuns = false ∧ s.activateOk sid.toNat = true ∧
      s.lane.safeLatch = false) ∧
    (∃ (sid : BitVec 16) (s : State), Authorised s sid 0x0D0000 11 2 ∧ s.updRuns = false ∧ s.lane.st = .load ∧ (s.lane.sfault = 0x1D
      ∨ s.lane.sfault = 0x1E)) ∧
    (∃ (s : State), s.lane.st = .integrate ∧ s.lane.digestDue = true ∧ s.tae.timev = true ∧ s.digestReady = true) ∧
    (∃ (e : Nat) (s : State), s.upd.confEnd = some e ∧ s.upd.conf = true ∧ s.upd.confNew = true) ∧
    (∃ (sid : BitVec 16) (d : Bool) (s : State), Authorised s sid 0x0D0000 (7 + 256 * bitNat d) 3 ∧ s.updRuns = false) ∧
    (∃ (sid : BitVec 16) (s : State), Authorised s sid 0x0D0000 8 3 ∧ s.updRuns = false) ∧
    (∃ (sid : BitVec 16) (s : State), Authorised s sid 0x0D0000 9 3 ∧ s.updRuns = false) ∧
    (∃ (sid : BitVec 16) (s : State), Authorised s sid 0x0D0000 10 3 ∧ s.updRuns = false) :=
  ⟨⟨0, (armed ({ live with lane.role := .standby, upd.runSlot := some false, upd.slot1 := slotOf .complete } : State) 0x0D0000 6 3), armed_authorised ({ live with lane.role := .standby, upd.runSlot := some false, upd.slot1 := slotOf .complete } : State) 0x0D0000 6 3 (by decide) rfl (by decide) (by decide) (by decide), by decide, by decide, by decide⟩,
   ⟨0, (armed ({ live with lane.st := .load, img := none, tae.timev := false, tae.ctOff := none, lnb.bstate := .config, lane.sfault := 0x1D } : State) 0x0D0000 11 2), armed_authorised ({ live with lane.st := .load, img := none, tae.timev := false, tae.ctOff := none, lnb.bstate := .config, lane.sfault := 0x1D } : State) 0x0D0000 11 2 (by decide) rfl (by decide) (by decide) (by decide), by decide, by decide, by decide⟩,
   ⟨({ live with lane.st := .integrate, lane.digestDue := true, lnb.node := [(1, shows 0x45), (2, shows 0x45)] } : State), by decide⟩,
   ⟨9, ({ live with upd.confEnd := some 9, upd.conf := true, upd.confNew := true } : State), by decide⟩,
   ⟨0, true, (armed live 0x0D0000 (7 + 256 * bitNat (true : Bool)) 3), armed_authorised live 0x0D0000 (7 + 256 * bitNat (true : Bool)) 3 (by decide) rfl (by decide) (by decide) (by decide), by decide⟩,
   ⟨0, (armed ({ live with img := some { station0 with params := [{ sym := 7, addr := 0x40000, timer := false, min := 0, max := 9 }] }, upd.olsym := 7, upd.olval := 3, upd.olcyc := 200 } : State) 0x0D0000 8 3), armed_authorised ({ live with img := some { station0 with params := [{ sym := 7, addr := 0x40000, timer := false, min := 0, max := 9 }] }, upd.olsym := 7, upd.olval := 3, upd.olcyc := 200 } : State) 0x0D0000 8 3 (by decide) rfl (by decide) (by decide) (by decide), by decide⟩,
   ⟨0, (armed ({ live with lane.pin := 0x80, upd.faddr := 0x3F000, upd.fval := 1 } : State) 0x0D0000 9 3), armed_authorised ({ live with lane.pin := 0x80, upd.faddr := 0x3F000, upd.fval := 1 } : State) 0x0D0000 9 3 (by decide) rfl (by decide) (by decide) (by decide), by decide⟩,
   ⟨0, (armed ({ live with upd.faddr := 0x3F000, upd.forces := [(0x3F000, 1)] } : State) 0x0D0000 10 3), armed_authorised ({ live with upd.faddr := 0x3F000, upd.forces := [(0x3F000, 1)] } : State) 0x0D0000 10 3 (by decide) rfl (by decide) (by decide) (by decide), by decide⟩⟩

theorem witness_ProgramOperands :
    (∃ (x : Bool) (a : BitVec 20) (s : State), LogicReady s ∧ cellKind a.toNat = some .bit ∧ s.lge.rung0.stack = [] ∧ s.lge.rung0.acc
      = some x) ∧
    (∃ (rs : Bool) (s : State), LogicReady s ∧ (rs = true → s.lge.rung0.stack = [])) ∧
    (∃ (x : Bool) (a : BitVec 20) (s : State), LogicReady s ∧ cellKind a.toNat = some .timer ∧ s.lge.rung0.stack = [] ∧
      s.lge.rung0.acc = some x) ∧
    (∃ (x : Bool) (w : BitVec 14) (s : State), LogicReady s ∧ wordOk w.toNat = true ∧ s.lge.rung0.stack = [] ∧ s.lge.rung0.acc = some
      x) ∧
    (∃ (x : Bool) (a : BitVec 20) (s : State), LogicReady s ∧ cellKind a.toNat = some .bit ∧ s.lge.rung0.acc = some x ∧
      s.lge.rung0.stack.length < 16) ∧
    (∃ (x : Bool) (s : State), LogicReady s ∧ s.lge.rung0.acc = some x ∧ s.lge.rung0.stack.length < 16) ∧
    (∃ (x : Bool) (y : Bool) (op : BlockOp) (l : List BlockEntry) (s : State), LogicReady s ∧ s.lge.rung0.acc = some x ∧ s.lge.rung0.stack = { saved := some y, op := op } :: l) ∧
    (∃ (s : State), LogicReady s ∧ (s.lge.rung0.acc = none ∨ s.lge.rung0.stack = [])) ∧
    (∃ (s : State), LogicReady s ∧ 16 ≤ s.lge.rung0.stack.length) :=
  ⟨⟨true, 0, ({ live with lge.scan := true, lge.rung0.acc := some true } : State), by decide⟩,
   ⟨true, ({ live with lge.scan := true } : State), by decide⟩,
   ⟨true, 0x50000, ({ live with lge.scan := true, lge.rung0.acc := some true } : State), by decide⟩,
   ⟨true, 3, (({ live with lge.scan := true, lge.rung0.acc := some true } : State)), by decide⟩,
   ⟨true, 0, ({ live with lge.scan := true, lge.rung0.acc := some true } : State), by decide⟩,
   ⟨true, ({ live with lge.scan := true, lge.rung0.acc := some true } : State), by decide⟩,
   ⟨true, true, .and, [], ({ live with lge.scan := true, lge.rung0.acc := some true, lge.rung0.stack := [{ saved := some true, op := .and }] } : State), by decide⟩,
   ⟨({ live with lge.scan := true } : State), by decide⟩,
   ⟨({ live with lge.scan := true, lge.rung0.acc := some true, lge.rung0.stack := List.replicate 16 { saved := some true, op := .and } } : State), by decide⟩⟩

theorem witness_Stores :
    (∃ (x : Bool) (a : BitVec 20) (s : State), LogicReady s ∧ bufCount s.lge.buf0 < 1536 ∧ cellKind a.toNat = some .bit ∧
      s.lge.rung0.acc = some x ∧ storable s.station a.toNat = true) ∧
    (∃ (x : Bool) (a : BitVec 20) (s : State), LogicReady s ∧ cellKind a.toNat = some .bit ∧ s.lge.rung0.acc = some x ∧ storable
      s.station a.toNat = false) ∧
    (∃ (a : BitVec 20) (s : State), LogicReady s ∧ bufCount s.lge.buf0 < 1536 ∧ cellKind a.toNat = some .bit ∧ storable s.station
      a.toNat = true ∧ s.lge.rung0.acc = some true) ∧
    (∃ (a : BitVec 20) (s : State), LogicReady s ∧ bufCount s.lge.buf0 < 1536 ∧ cellKind a.toNat = some .bit ∧ storable s.station
      a.toNat = true ∧ s.lge.rung0.acc = some false) ∧
    (∃ (w : BitVec 14) (s : State), LogicReady s ∧ bufCount s.lge.buf0 < 1536 ∧ wordOk w.toNat = true ∧ storable s.station (0x40000 +
      w.toNat) = true ∧ s.lge.rung0.acc = some true) ∧
    (∃ (w : BitVec 14) (s : State), LogicReady s ∧ bufCount s.lge.buf0 < 1536 ∧ wordOk w.toNat = true ∧ storable s.station (0x40000 +
      w.toNat) = true ∧ s.lge.rung0.acc = some false) ∧
    (∃ (i : Instr) (e : StoreEntry) (s : State) (t : State), exec i s = .next t ∧ familyOf i = .logic ∧ e ∈ t.lge.buf0 ++ t.lge.buf1) ∧
    (∃ (st : Station) (r : Replica), r.wf st = true) :=
  ⟨⟨true, 0, ({ live with lge.scan := true, lge.rung0.acc := some true } : State), by decide⟩,
   ⟨true, 0x3F000, ({ live with lge.scan := true, lge.rung0.acc := some true } : State), by decide⟩,
   ⟨0, ({ live with lge.scan := true, lge.rung0.acc := some true } : State), by decide⟩,
   ⟨0, ({ live with lge.scan := true, lge.rung0.acc := some false } : State), by decide⟩,
   ⟨3, ({ live with lge.scan := true, lge.rung0.acc := some true } : State), by decide⟩,
   ⟨3, ({ live with lge.scan := true, lge.rung0.acc := some false } : State), by decide⟩,
   ⟨(.st .none false 0), { tag := 0, addr := 0, content := .bit true true }, ({ live with lge.scan := true, lge.rung0.acc := some true } : State), _, rfl, by decide, by decide⟩,
   ⟨station0, Replica.reset, by decide⟩⟩

theorem witness_TimersAndEdges :
    (∃ (x : Bool) (a : BitVec 20) (p : Word) (start : W64) (run : Bool) (q : Bool) (s : State), LogicReady s ∧ bufCount s.lge.buf0 ≤
      1534 ∧ cellKind a.toNat = some .timer ∧ storable s.station a.toNat = true ∧ s.lge.rung0.acc = some x ∧ Operand s a.toNat =
      .timer p start run q) ∧
    (∃ (x : Bool) (m : Bool) (q : Bool) (a : BitVec 20) (s : State), LogicReady s ∧ bufCount s.lge.buf0 < 1536 ∧ cellKind a.toNat =
      some .edge ∧ storable s.station a.toNat = true ∧ s.lge.rung0.acc = some x ∧ Operand s a.toNat = .edge m q) :=
  ⟨⟨true, 0x50000, 5, 0, true, true, ({ live with lge.scan := true, lge.rung0.acc := some true, lge.rep0.cells := [(0x50000, .timer 5 0 true true)] } : State), by decide⟩,
   ⟨true, false, true, 0x60000, ({ live with lge.scan := true, lge.rung0.acc := some true, lge.rep0.cells := [(0x60000, .edge false true)] } : State), by decide⟩⟩

theorem witness_ControlAndDrains :
    (∃ (s : State), LogicReady s) ∧
    (∃ (s : State), LogicReady s ∧ s.lge.rung0.stack = []) ∧
    (∃ (w : Word) (i : Instr), insDecode w = some i) ∧
    (∃ (w : Word) (s : State), s.lgeRuns = true ∧ insDecode w = none) ∧
    (∃ (s : State), s.lgeRuns = true) ∧
    (∃ (s : State), s.lge.drain = some false ∧ s.lge.split = false) ∧
    (∃ (e : StoreEntry) (s : State), s.lge.rep0.wf s.station = true ∧ s.lge.buf0 = [e] ∧ s.lge.split = false ∧ s.lge.drain = some
      false) ∧
    (∃ (e : StoreEntry) (f : StoreEntry) (s : State), s.lge.rep0.wf s.station = true ∧ s.lge.buf0 = [e, f] ∧ e.addr = f.addr ∧ e.tag
      < f.tag ∧ s.lge.split = false ∧ s.lge.drain = some false) ∧
    (∃ (s : State), s.lge.drain = some true ∧ s.lge.split = false) :=
  ⟨⟨({ live with lge.scan := true } : State), by decide⟩,
   ⟨({ live with lge.scan := true } : State), by decide⟩,
   ⟨0x02000000, (.endScan .none), by decide⟩,
   ⟨0, ({ live with lge.scan := true, lane.driving := true } : State), by decide⟩,
   ⟨({ live with lge.scan := true } : State), by decide⟩,
   ⟨({ live with lge.drain := some false, lge.buf0 := [{ tag := 4, addr := 0, content := .bit true true }] } : State), by decide⟩,
   ⟨{ tag := 4, addr := 0, content := .bit true true }, ({ live with lge.drain := some false, lge.buf0 := [{ tag := 4, addr := 0, content := .bit true true }] } : State), by decide⟩,
   ⟨{ tag := 4, addr := 0, content := .bit true true }, { tag := 7, addr := 0, content := .bit false true }, ({ live with lge.drain := some false, lge.buf0 := [{ tag := 4, addr := 0, content := .bit true true }, { tag := 7, addr := 0, content := .bit false true }] } : State), by decide⟩,
   ⟨({ live with lge.drain := some true, lge.buf0 := [{ tag := 4, addr := 0, content := .bit true true }] } : State), by decide⟩⟩

theorem witness_GatherAndVetoes :
    (∃ (s : State), s.lge.candidate = true ∧ s.grdRuns = true ∧ s.lge.split = false ∧ (s.lane.st = .prove ∨ s.lane.st = .run ∨
      s.lane.st = .hold)) ∧
    (∃ (s : State), s.lge.candidate = false) ∧
    (∃ (k : Nat) (s : State), s.grdRuns = true ∧ (s.advanceCt (1000 * k)).passViolations = []) ∧
    (∃ (o : Nat) (g : GuardImage) (s : State), s.grdRuns = true ∧ (s.grd.cand = some g ∨ s.grd.comm = g) ∧ o ∈ guardedOutputs
      s.station ∧ guardActive s.station g o = true ∧ (termFails s.station g o).isSome = true ∧ s.grd.masked = false ∧
      s.lane.safeLatch = false) ∧
    (∃ (x : Nat) (o : Nat) (p : Nat) (g : GuardImage) (s : State), s.grdRuns = true ∧ s.grd.cand = some g ∧ x ∈ exclusionGroups
      s.station ∧ o ∈ grpMembers s.station x ∧ p ∈ grpMembers s.station x ∧ o ≠ p ∧ guardActive s.station g o = true ∧
      guardActive s.station g p = true ∧ s.grd.masked = false ∧ s.lane.safeLatch = false) ∧
    (∃ (s : State), s.grd.armed = true ∧ s.crt.inReset.getLsbD 5 = false ∧ s.crt.test = none ∧ s.grd.masked = false ∧
      s.lane.safeLatch = false) ∧
    (∃ (s : State), s.grd.armed = true ∧ s.crt.inReset.getLsbD 5 = false ∧ s.crt.test = none ∧ s.grd.masked = true) :=
  ⟨⟨({ live with lge.candidate := true, grd.gmode := .checking } : State), by decide⟩,
   ⟨live, by decide⟩,
   ⟨0, ({ live with grd.gmode := .checking } : State), by decide⟩,
   ⟨0, [(5, (true, true))], ({ live with grd.gmode := .checking, img := some { station0 with grd := [(0x1, 0x4001), (0x800, 0x80000000), (0x801, 0x50000)] }, grd.cand := some [(5, (true, true))], lane.driving := true } : State), by decide⟩,
   ⟨0, 0, 1, [(5, (true, true)), (6, (true, true))], ({ live with grd.gmode := .checking, img := some { station0 with grd := [(0x1, 0x4002), (0x800, 0x80000000), (0x801, 0x50000), (0x802, 0x80000000), (0x803, 0x60000), (0x4800, 0x80010000), (0x5800, 0x10000)] }, grd.cand := some [(5, (true, true)), (6, (true, true))] } : State), by decide⟩,
   ⟨({ live with grd.armed := true, lane.driving := true } : State), by decide⟩,
   ⟨({ live with grd.armed := true, grd.masked := true } : State), by decide⟩⟩

theorem witness_GuardianFaults :
    (∃ (s : State), s.grdRuns = true ∧ s.grd.gmode = .checking ∧ s.voting = true ∧ (s.checking = true ∨ s.fallbackUnmet ≠ 0)) ∧
    (∃ (l : List (Nat × Word)) (s : State), s.grd.gmode = .checking ∧ s.grdLive = true ∧ grdCrc s.station l ≠ grdTcrc s.station ∧
      (s.advance s.grd.crcAt).checking = false ∧ (s.advance s.grd.crcAt).fallbackUnmet = 0) ∧
    (∃ (l : List (Nat × Word)) (s : State), s.grd.gmode ≠ .notLoaded ∧ s.grdLive = true ∧ grdCrc s.station l = grdTcrc s.station) ∧
    (∃ (s : State), s.grdRuns = true ∧ s.grd.commFrom = true ∧ s.afterCommit = true ∧ gatherImage s.station s.lge.rep1 = s.grd.comm) ∧
    (∃ (s : State), s.grdRuns = true ∧ s.grd.gmode = .checking ∧ s.grd.commFrom = true ∧ s.afterCommit = true ∧ gatherImage s.station
      s.lge.rep1 ≠ s.grd.comm ∧ s.voting = true ∧ (s.checking = true ∨ s.fallbackUnmet ≠ 0)) ∧
    (∃ (sid : BitVec 16) (s : State), Authorised s sid 0x050034 1 2 ∧ s.grd.gmode = .fallback ∧ s.voting = true) ∧
    (∃ (sid : BitVec 16) (s : State), Authorised s sid 0x050034 1 2 ∧ s.grd.gmode ≠ .fallback) :=
  ⟨⟨({ live with grd.gmode := .checking, lane.driving := true } : State), by decide⟩,
   ⟨[(0x400, 1)], ({ live with grd.gmode := .checking, img := some { station0 with grd := [(4, 1)], cfg := [(0x040000, 1)] }, lnb.node := [(1, { node0 with healthyFor := 10000 }), (2, { node0 with healthyFor := 10000 })] } : State), by decide +kernel⟩,
   ⟨[], ({ live with grd.gmode := .checking } : State), by decide⟩,
   ⟨({ live with grd.gmode := .checking, grd.commFrom := true, pins.now := 3000000 } : State), by decide +kernel⟩,
   ⟨({ live with grd.gmode := .checking, grd.commFrom := true, grd.comm := [(0, (true, true))], pins.now := 3000000 } : State), by decide +kernel⟩,
   ⟨0, (armed ({ live with grd.gmode := .fallback, lane.driving := true } : State) 0x050034 1 2), armed_authorised ({ live with grd.gmode := .fallback, lane.driving := true } : State) 0x050034 1 2 (by decide) rfl (by decide) (by decide) (by decide), by decide, by decide⟩,
   ⟨0, (armed live 0x050034 1 2), armed_authorised live 0x050034 1 2 (by decide) rfl (by decide) (by decide) (by decide), by decide⟩⟩

theorem witness_CycleStartAndAgreement :
    (∃ (n : Nat) (s : State), s.hasCt = true ∧ s.ct ≤ n * s.logicNs ∧ s.lane.st = .run ∧ s.lane.holdPend = false) ∧
    (∃ (n : Nat) (s : State), s.hasCt = true ∧ s.ct ≤ n * s.logicNs ∧ s.lane.st = .run ∧ s.lane.holdPend = true) ∧
    (∃ (n : Nat) (s : State), s.hasCt = true ∧ s.ct ≤ n * s.logicNs ∧ s.lane.st = .stop ∧ s.lane.resumePend = true) ∧
    (∃ (n : Nat) (s : State) (m : Nat), s.hasCt = true ∧ s.ct ≤ n * s.logicNs ∧ s.lane.st = .integrate ∧ s.lane.proveFrom = some m ∧
      m ≤ n * s.cycL ∧ s.tae.timev = true ∧ s.node < 6) ∧
    (∃ (n : Nat) (s : State), s.hasCt = true ∧ s.ct ≤ n * s.logicNs ∧ s.lane.st = .prove ∧ s.lane.proved = true ∧ (s.lane.cons0 ||
      s.lane.cons1) = true ∧ s.tae.timev = true) ∧
    (∃ (n : Nat) (s : State), (s.hasCt = false ∨ n * s.logicNs < s.ct)) ∧
    (∃ (s : State), s.hasCt = true ∧ s.beforeScan = true ∧ s.lge.scan = false ∧ s.blockLive 4 = true ∧ s.crt.test = none) ∧
    (∃ (s : State), s.hasCt = true ∧ s.beforeScan = true ∧ s.lge.scan = false ∧ s.lane.reintReq = false) ∧
    (∃ (s : State), (s.hasCt = false ∨ s.beforeScan = false ∨ s.lge.scan = true)) ∧
    (∃ (tol : Nat) (a : Word) (b : Word) (c : Word), (∀ x ∈ [a, b, c], ∀ y ∈ [a, b, c], x.toInt - y.toInt ≤ (tol : Int))) ∧
    (∃ (tol : Nat) (a : Word) (b : Word), b.toInt - a.toInt ≤ (tol : Int) ∧ a.toInt - b.toInt ≤ (tol : Int)) :=
  ⟨⟨1, ({ live with lane.driving := true } : State), by decide⟩,
   ⟨1, ({ live with lane.holdPend := true, lane.ctl := .waiting } : State), by decide⟩,
   ⟨1, ({ live with lane.st := .stop, lane.resumePend := true } : State), by decide⟩,
   ⟨1, ({ live with lane.st := .integrate, lane.proveFrom := some 3 } : State), 3, by decide⟩,
   ⟨1, ({ live with lane.st := .prove, lane.proved := true, lane.cons0 := true } : State), by decide⟩,
   ⟨0, ({ live with pins.now := 7 } : State), by decide⟩,
   ⟨({ live with tae.phase := 1 } : State), by decide⟩,
   ⟨({ live with tae.phase := 1 } : State), by decide⟩,
   ⟨live, by decide⟩,
   ⟨3, 5, 6, 8, by simp only [List.mem_cons, List.not_mem_nil, or_false]; rintro x (rfl | rfl | rfl) y (rfl | rfl | rfl) <;> decide⟩,
   ⟨4, 1, 2, by decide⟩⟩

theorem witness_OutputVote :
    (∃ (a : Nat) (b : Nat) (s : State), s.lane.st = .run ∧ s.lane.role = .holding ∧ s.tae.phase = 8 ∧ s.grd.fbExit = none ∧
      s.votingPeers = [a, b] ∧ s.outputReady = true ∧ s.imageClass a = .equal ∧ s.imageClass b = .equal) ∧
    (∃ (a : Nat) (b : Nat) (s : State), s.lane.st = .run ∧ s.lane.role = .holding ∧ s.tae.phase = 8 ∧ s.grd.fbExit = none ∧
      s.votingPeers = [a, b] ∧ s.outputReady = true ∧ s.imageClass a = .equal ∧ s.imageClass b ≠ .equal) ∧
    (∃ (a : Nat) (b : Nat) (s : State), s.lane.st = .run ∧ s.lane.role = .holding ∧ s.tae.phase = 8 ∧ s.grd.fbExit = none ∧
      s.votingPeers = [a, b] ∧ s.outputReady = true ∧ s.imageClass a ≠ .equal ∧ s.imageClass b = .equal) ∧
    (∃ (a : Nat) (b : Nat) (s : State), s.lane.st = .run ∧ s.lane.role = .holding ∧ s.tae.phase = 8 ∧ s.grd.fbExit = none ∧
      s.votingPeers = [a, b] ∧ s.outputReady = true ∧ s.imageClass a ≠ .equal ∧ s.imageClass b ≠ .equal) ∧
    (∃ (a : Nat) (s : State), s.lane.st = .run ∧ s.lane.role = .holding ∧ s.tae.phase = 8 ∧ s.grd.fbExit = none ∧ s.votingPeers = [a]
      ∧ s.outputReady = true ∧ s.imageClass a = .equal) ∧
    (∃ (a : Nat) (s : State), s.lane.st = .run ∧ s.lane.role = .holding ∧ s.tae.phase = 8 ∧ s.grd.fbExit = none ∧ s.votingPeers = [a]
      ∧ s.outputReady = true ∧ s.imageClass a ≠ .equal ∧ s.lane.safeLatch = false) ∧
    (∃ (s : State), s.voting = true ∧ 3 ≤ s.lane.reportCnt) ∧
    (∃ (n : Fin 32) (s : State), s.voting = true ∧ 3 ≤ (s.vout n.val).outvoted) ∧
    (∃ (g : Fin 16) (s : State), s.voting = true ∧ 3 ≤ (s.group g.val).outvoted) ∧
    (∃ (ch : Fin 32) (k : Fin 4) (s : State), s.voting = true ∧ 8 ≤ (s.lamp ch.val).mis.getD k.val 0) :=
  ⟨⟨1, 2, ({ live with lge.candidate := true, grd.chkok := true, tae.phase := 8, lnb.node := [(1, { node0 with outValid := true, outWords := [0, 0], health := some (7, 0) }), (2, { node0 with outValid := true, outWords := [0, 0], health := some (7, 0) })] } : State), by decide⟩,
   ⟨1, 2, ({ live with lge.candidate := true, grd.chkok := true, tae.phase := 8, lnb.node := [(1, { node0 with outValid := true, outWords := [0, 0], health := some (7, 0) }), (2, { node0 with outValid := true, outWords := [1, 0], health := some (7, 0) })] } : State), by decide⟩,
   ⟨1, 2, ({ live with lge.candidate := true, grd.chkok := true, tae.phase := 8, lnb.node := [(1, { node0 with outValid := false, outWords := [0, 0], health := some (7, 0) }), (2, { node0 with outValid := true, outWords := [0, 0], health := some (7, 0) })] } : State), by decide⟩,
   ⟨1, 2, ({ live with lge.candidate := true, grd.chkok := true, tae.phase := 8, lnb.node := [(1, { node0 with outValid := true, outWords := [3, 0], health := some (7, 0) }), (2, { node0 with outValid := true, outWords := [1, 0], health := some (7, 0) })], lane.driving := true } : State), by decide⟩,
   ⟨1, ({ live with lge.candidate := true, grd.chkok := true, tae.phase := 8, lnb.node := [(1, { node0 with outValid := true, outWords := [0, 0], health := some (7, 0) })] } : State), by decide⟩,
   ⟨1, ({ live with lge.candidate := true, grd.chkok := true, tae.phase := 8, lnb.node := [(1, { node0 with outValid := true, outWords := [5, 0], health := some (7, 0) })] } : State), by decide⟩,
   ⟨({ live with lane.reportCnt := 3 } : State), by decide⟩,
   ⟨3, ({ live with vio.vout := [(3, { vout0 with outvoted := 3 })] } : State), by decide⟩,
   ⟨3, ({ live with lmp.group := [(3, { aspect0 with outvoted := 3 })] } : State), by decide⟩,
   ⟨3, 1, ({ live with lmp.lamp := [(3, { lamp0 with mis := [0, 8, 0, 0] })] } : State), by decide⟩⟩

theorem witness_CommitAndAdmission :
    (∃ (n : Nat) (t0 : Nat) (s : State), s.hasCt = true ∧ s.img.isSome = true ∧ s.lane.st = .run ∧ s.lane.role = .holding ∧
      s.commitOf = some t0 ∧ t0 + s.cycC * s.basicNs ≠ s.inp.t0 ∧ NoOtherSlot s 256 64 ∧ s.grd.fbExit = none ∧ s.lane.commitOk =
      true ∧ s.yields = false ∧ s.blockLive 6 = true ∧ TablesWf s ∧ n < 32) ∧
    (∃ (t0 : Nat) (s : State), s.hasCt = true ∧ s.img.isSome = true ∧ s.lane.st = .run ∧ s.commitOf = some t0 ∧ t0 + s.cycC *
      s.basicNs ≠ s.inp.t0 ∧ s.grd.fbExit = none ∧ (s.advanceCt (t0 + s.cycC * s.basicNs)).yields = true) ∧
    (∃ (t0 : Nat) (s : State), s.hasCt = true ∧ s.img.isSome = true ∧ s.lane.st = .run ∧ s.lane.role ≠ .excluded ∧ s.commitOf = some
      t0 ∧ t0 + s.cycC * s.basicNs ≠ s.inp.t0 ∧ NoOtherSlot s 256 64 ∧ s.yields = false ∧ s.grd.fbExit = none ∧ s.lane.commitOk
      = false ∧ s.lane.computing = false) ∧
    (∃ (s : State), s.commitOf = none) ∧
    (∃ (s : State), s.lane.st = .prove ∧ s.lane.proved = false ∧ s.hasCt = true ∧ s.lane.commitDue = some s.inp.t0 ∧ s.inp.t0 + 10 ≤
      s.ct ∧ (s.lane.joining = true ∨ s.prvcyc ≤ s.lane.proveCnt)) ∧
    (∃ (n : Nat) (s : State), s.lane.st = .run ∧ s.lane.role = .excluded ∧ s.lane.computing = true ∧ s.confirmCycles ≤
      s.lane.confirmCnt ∧ 2 ≤ s.votingPeers.length ∧ s.setRoleShown ≠ .excluded ∧ s.crt.test = none ∧ s.tae.timev = true ∧
      TablesWf s ∧ n < 32) :=
  ⟨⟨3, 0, ({ live with lane.commitOk := true, tae.phase := 9, grd.cand := some [(5, (true, true))], lane.commitDue := some 0 } : State), by decide +kernel⟩,
   ⟨0, ({ live with lane.pin := 4, lane.firstCycle := true, lane.firstOfSet := true, tae.phase := 9, lnb.node := [(1, shows 7), (2, shows 7)], lane.commitDue := some 0 } : State), by decide⟩,
   ⟨0, ({ live with tae.phase := 9, lane.commitDue := some 0 } : State), by decide +kernel⟩,
   ⟨live, by decide⟩,
   ⟨({ live with lane.st := .prove, lane.joining := true, lane.commitDue := some 0, pins.now := 10 } : State), by decide⟩,
   ⟨3, ({ live with lane.role := .excluded, lane.computing := true, lane.confirmCnt := 8, lnb.node := [(1, shows 7), (2, shows 7)] } : State), by decide⟩⟩

theorem witness_BasicCyclesAndSwitchovers :
    (∃ (m : Nat) (s : State), s.busTime = true ∧ s.blockLive 9 = true ∧ m = s.lnb.m + 1) ∧
    (∃ (m : Nat) (n : Nat) (s : State), s.busTime = true ∧ s.blockLive 9 = true ∧ m = s.lnb.m + 1 ∧ TablesWf s ∧ n < 8) ∧
    (∃ (m : Nat) (s : State), (s.busTime = false ∨ m ≠ s.lnb.m + 1)) ∧
    (∃ (k : Fin 2) (s : State), s.voting = true ∧ 2 ≤ (s.nodeView (s.peer k.val)).silent) ∧
    (∃ (s : State), s.lane.st = .run ∧ (s.lane.role = .standby ∨ s.lane.role = .shadow) ∧ 2 ≤ s.lane.holdersMissing ∧ s.tenSeconds
      s.lane.ownHealthy = true) ∧
    (∃ (s : State), s.lane.role = .holding) ∧
    (∃ (x : Switch) (n : Nat) (s : State), s.lane.switch = some x ∧ x.cycle = some n ∧ x.committed = false ∧ s.hasCt = true ∧
      x.program = false ∧ s.voting = true) ∧
    (∃ (x : Switch) (n : Nat) (s : State), s.lane.switch = some x ∧ x.cycle = some n ∧ x.committed = true ∧ s.hasCt = true ∧ s.voting
      = true ∧ x.back = false) :=
  ⟨⟨1, live, by decide⟩,
   ⟨1, 1, ({ live with lnb.node := [(1, { node0 with rxNow := true, silent := 3 })] } : State), by decide⟩,
   ⟨0, live, by decide⟩,
   ⟨0, ({ live with lnb.node := [(1, { node0 with silent := 2 })] } : State), by decide⟩,
   ⟨({ live with lane.role := .standby, lane.holdersMissing := 2, lane.ownHealthy := 10000 } : State), by decide⟩,
   ⟨live, by decide⟩,
   ⟨{ toSet := false, cycle := some 1, program := false, back := false, own := true, committed := false }, 1, ({ live with lane.switch := some { toSet := false, cycle := some 1, program := false, back := false, own := true, committed := false } } : State), by decide⟩,
   ⟨{ toSet := true, cycle := some 1, program := false, back := false, own := true, committed := true }, 1, ({ live with lane.switch := some { toSet := true, cycle := some 1, program := false, back := false, own := true, committed := true }, lane.driving := true } : State), by decide⟩⟩

theorem witness_LaneCommands :
    (∃ (sid : BitVec 16) (s : State), Authorised s sid 0x28 3 2 ∧ s.ctlRuns = false ∧ s.lane.st = .run) ∧
    (∃ (sid : BitVec 16) (s : State), Authorised s sid 0x28 3 2 ∧ s.ctlRuns = false ∧ s.lane.st ≠ .run) ∧
    (∃ (sid : BitVec 16) (s : State), Authorised s sid 0x28 4 3 ∧ s.ctlRuns = false ∧ s.lane.st = .run ∧ (s.mode = 1 ∨ s.mode = 2)) ∧
    (∃ (sid : BitVec 16) (s : State), Authorised s sid 0x28 4 3 ∧ s.ctlRuns = false ∧ s.lane.st = .stop ∧ (s.mode = 1 ∨ s.mode = 2)) ∧
    (∃ (sid : BitVec 16) (s : State), Authorised s sid 0x28 4 3 ∧ s.ctlRuns = false ∧ s.mode ≠ 1 ∧ s.mode ≠ 2) ∧
    (∃ (sid : BitVec 16) (s : State), Authorised s sid 0x28 5 3 ∧ s.ctlRuns = false ∧ s.lane.st = .hold) ∧
    (∃ (sid : BitVec 16) (s : State), Authorised s sid 0x28 6 2 ∧ s.ctlRuns = false ∧ s.lane.st = .stop) ∧
    (∃ (sid : BitVec 16) (s : State), Authorised s sid 0x28 7 3 ∧ s.ctlRuns = false ∧ s.switchoverOk = true) ∧
    (∃ (sid : BitVec 16) (s : State), Authorised s sid 0x28 7 3 ∧ s.ctlRuns = false ∧ s.switchoverOk = false) ∧
    (∃ (sid : BitVec 16) (x : Switch) (s : State), Authorised s sid 0x28 8 3 ∧ s.lane.switch = some x ∧ x.own = true ∧ x.program =
      false ∧ x.committed = false) ∧
    (∃ (sid : BitVec 16) (x : Switch) (s : State), Authorised s sid 0x28 8 3 ∧ s.lane.switch = some x ∧ x.own = true ∧ x.program =
      false ∧ x.committed = true) ∧
    (∃ (s : State), s.lane.st = .stop ∧ s.hasCt = true ∧ s.img.isSome = true) ∧
    (∃ (s : State), s.lane.st = .stop) :=
  ⟨⟨0, (armed ({ live with lane.driving := true, lge.scan := true } : State) 0x28 3 2), armed_authorised ({ live with lane.driving := true, lge.scan := true } : State) 0x28 3 2 (by decide) rfl (by decide) (by decide) (by decide), by decide, by decide⟩,
   ⟨0, (armed ({ live with lane.st := .stop } : State) 0x28 3 2), armed_authorised ({ live with lane.st := .stop } : State) 0x28 3 2 (by decide) rfl (by decide) (by decide) (by decide), by decide, by decide⟩,
   ⟨0, (armed ({ live with lane.pin := 0x80, lane.driving := true } : State) 0x28 4 3), armed_authorised ({ live with lane.pin := 0x80, lane.driving := true } : State) 0x28 4 3 (by decide) rfl (by decide) (by decide) (by decide), by decide, by decide, by decide⟩,
   ⟨0, (armed ({ live with lane.pin := 0x80, lane.st := .stop } : State) 0x28 4 3), armed_authorised ({ live with lane.pin := 0x80, lane.st := .stop } : State) 0x28 4 3 (by decide) rfl (by decide) (by decide) (by decide), by decide, by decide, by decide⟩,
   ⟨0, (armed live 0x28 4 3), armed_authorised live 0x28 4 3 (by decide) rfl (by decide) (by decide) (by decide), by decide, by decide, by decide⟩,
   ⟨0, (armed ({ live with lane.st := .hold, lge.buf0 := [{ tag := 4, addr := 0, content := .bit true true }] } : State) 0x28 5 3), armed_authorised ({ live with lane.st := .hold, lge.buf0 := [{ tag := 4, addr := 0, content := .bit true true }] } : State) 0x28 5 3 (by decide) rfl (by decide) (by decide) (by decide), by decide, by decide⟩,
   ⟨0, (armed ({ live with lane.st := .stop } : State) 0x28 6 2), armed_authorised ({ live with lane.st := .stop } : State) 0x28 6 2 (by decide) rfl (by decide) (by decide) (by decide), by decide, by decide⟩,
   ⟨0, (armed ({ live with lane.otherHealthy := 10000 } : State) 0x28 7 3), armed_authorised ({ live with lane.otherHealthy := 10000 } : State) 0x28 7 3 (by decide) rfl (by decide) (by decide) (by decide), by decide, by decide⟩,
   ⟨0, (armed live 0x28 7 3), armed_authorised live 0x28 7 3 (by decide) rfl (by decide) (by decide) (by decide), by decide, by decide⟩,
   ⟨0, { toSet := false, cycle := some 1, program := false, back := false, own := true, committed := false }, (armed ({ live with lane.switch := some { toSet := false, cycle := some 1, program := false, back := false, own := true, committed := false } } : State) 0x28 8 3), armed_authorised ({ live with lane.switch := some { toSet := false, cycle := some 1, program := false, back := false, own := true, committed := false } } : State) 0x28 8 3 (by decide) rfl (by decide) (by decide) (by decide), by decide, by decide, by decide, by decide⟩,
   ⟨0, { toSet := true, cycle := some 1, program := false, back := false, own := true, committed := true }, (armed ({ live with lane.switch := some { toSet := true, cycle := some 1, program := false, back := false, own := true, committed := true } } : State) 0x28 8 3), armed_authorised ({ live with lane.switch := some { toSet := true, cycle := some 1, program := false, back := false, own := true, committed := true } } : State) 0x28 8 3 (by decide) rfl (by decide) (by decide) (by decide), by decide, by decide, by decide, by decide⟩,
   ⟨({ live with lane.st := .stop } : State), by decide⟩,
   ⟨({ live with lane.st := .stop } : State), by decide⟩⟩

theorem witness_HoldSteps :
    (∃ (sid : BitVec 16) (s : State), Authorised s sid 0x040018 1 3 ∧ s.lge.stepKind = none ∧ s.lane.st = .hold ∧ s.atRegion s.lge.pc
      = true) ∧
    (∃ (sid : BitVec 16) (s : State), Authorised s sid 0x040018 1 3 ∧ s.lge.stepKind = none ∧ s.lane.st ≠ .hold) ∧
    (∃ (sid : BitVec 16) (s : State), Authorised s sid 0x040018 2 3 ∧ s.lge.stepKind = none ∧ s.lane.st = .hold) ∧
    (∃ (sid : BitVec 16) (s : State), Authorised s sid 0x040018 3 3 ∧ s.lge.stepKind = none ∧ s.lane.st = .hold) ∧
    (∃ (sid : BitVec 16) (s : State), Authorised s sid 0x040018 4 3 ∧ s.lge.stepKind = none ∧ s.lane.st = .hold) ∧
    (∃ (s : State), s.lane.st = .hold ∧ s.lge.stepKind.isSome = true ∧ s.lge.drain = none ∧ s.stepEnded = true) :=
  ⟨⟨0, (armed ({ live with lane.st := .hold } : State) 0x040018 1 3), armed_authorised ({ live with lane.st := .hold } : State) 0x040018 1 3 (by decide) rfl (by decide) (by decide) (by decide), by decide, by decide, by decide⟩,
   ⟨0, (armed live 0x040018 1 3), armed_authorised live 0x040018 1 3 (by decide) rfl (by decide) (by decide) (by decide), by decide, by decide⟩,
   ⟨0, (armed ({ live with lane.st := .hold } : State) 0x040018 2 3), armed_authorised ({ live with lane.st := .hold } : State) 0x040018 2 3 (by decide) rfl (by decide) (by decide) (by decide), by decide, by decide⟩,
   ⟨0, (armed ({ live with lane.st := .hold } : State) 0x040018 3 3), armed_authorised ({ live with lane.st := .hold } : State) 0x040018 3 3 (by decide) rfl (by decide) (by decide) (by decide), by decide, by decide⟩,
   ⟨0, (armed ({ live with lane.st := .hold } : State) 0x040018 4 3), armed_authorised ({ live with lane.st := .hold } : State) 0x040018 4 3 (by decide) rfl (by decide) (by decide) (by decide), by decide, by decide⟩,
   ⟨({ live with lane.st := .hold, lge.stepKind := some .scan, lge.candidate := true } : State), by decide⟩⟩

theorem witness_AngleAndTime :
    (∃ (ch : Fin 2) (x : Nat) (up : Bool) (c : Crossings) (s : State), s.angleLoops = true ∧ s.crossingOf ch.val = some (x, up) ∧ tabGet { ts := [], pos := false } ch.val s.tae.lastX = c ∧ c.ts.headD 0 < x ∧ ch.val ≠ s.refChan) ∧
    (∃ (ch : Fin 2) (x : Nat) (up : Bool) (c : Crossings) (s : State) (x1 : Nat) (x2 : Nat) (l : List Nat), s.angleLoops = true ∧ s.crossingOf ch.val = some (x, up) ∧ tabGet { ts := [], pos := false } ch.val s.tae.lastX = c ∧ c.ts.headD 0 < x ∧ ch.val = s.refChan ∧ s.tae.angv = true ∧ c.ts = x1 :: x2 :: l ∧ x ≤ x2 + 3 * s.halfNs ∧ s.crossingExpected x x1 = true ∧ s.inFreqWindow (halvesFreq 2 (x - x2)) = true) ∧
    (∃ (ch : Fin 2) (x : Nat) (up : Bool) (c : Crossings) (s : State) (x1 : Nat) (x2 : Nat) (l : List Nat), s.angleLoops = true ∧ s.crossingOf ch.val = some (x, up) ∧ tabGet { ts := [], pos := false } ch.val s.tae.lastX = c ∧ c.ts.headD 0 < x ∧ ch.val = s.refChan ∧ s.tae.angv = false ∧ c.ts = x1 :: x2 :: l ∧ x ≤ x2 + 3 * s.halfNs ∧ s.goodCrossing x up c = true ∧ 7 ≤ tabGet 0 ch.val s.tae.goodX) ∧
    (∃ (ch : Fin 2) (x : Nat) (up : Bool) (c : Crossings) (s : State), s.angleLoops = true ∧ s.crossingOf ch.val = some (x, up) ∧ tabGet { ts := [], pos := false } ch.val s.tae.lastX = c ∧ c.ts.headD 0 < x ∧ ch.val = s.refChan ∧ s.tae.angv = false ∧ s.goodCrossing x up c = false) ∧
    (∃ (ch : Fin 2) (x : Nat) (l : List Nat) (s : State), s.angleLoops = true ∧ ch.val = s.refChan ∧ s.tae.angv = true ∧ (tabGet { ts := [], pos := false } ch.val s.tae.lastX).ts = x :: l ∧ s.tae.missX < 3) ∧
    (∃ (ch : Fin 2) (x : Nat) (l : List Nat) (s : State), s.angleLoops = true ∧ ch.val = s.refChan ∧ s.tae.angv = true ∧ (tabGet { ts := [], pos := false } ch.val s.tae.lastX).ts = x :: l ∧ 3 ≤ s.tae.missX) ∧
    (∃ (s : State), s.angleLoops = true ∧ s.tae.slew = true ∧ 0 < s.tae.runFreq) ∧
    (∃ (s : State), s.blockLive 3 = true) ∧
    (∃ (sid : BitVec 16) (hi : BitVec 16) (s : State), Authorised s sid 0x03002C hi.toNat 2 ∧ s.tae.timev = true ∧ s.wallOwn = false) ∧
    (∃ (sid : BitVec 16) (hi : BitVec 16) (s : State), Authorised s sid 0x03002C hi.toNat 2 ∧ (s.tae.timev = false ∨ s.wallOwn =
      true)) :=
  ⟨⟨1, 30000000, true, { ts := [20000000], pos := false }, ({ live with tae.loopOn := true, mea.rdy := true, mea.calDone := true, mea.chan := [(40, { mea0 with fastQ := true, fastHist := [{ t := 30050000, ang := 0, v := 20000, q := true }, { t := 30025000, ang := 0, v := -20000, q := true }] }), (41, { mea0 with fastQ := true, fastHist := [{ t := 30050000, ang := 0, v := 20000, q := true }, { t := 30025000, ang := 0, v := -20000, q := true }] })], tae.lastX := [(1, { ts := [20000000], pos := false })] } : State), by decide⟩,
   ⟨0, 30000000, true, { ts := [20000000, 10000000], pos := false }, ({ live with tae.loopOn := true, mea.rdy := true, mea.calDone := true, mea.chan := [(40, { mea0 with fastQ := true, fastHist := [{ t := 30050000, ang := 0, v := 20000, q := true }, { t := 30025000, ang := 0, v := -20000, q := true }] }), (41, { mea0 with fastQ := true, fastHist := [{ t := 30050000, ang := 0, v := 20000, q := true }, { t := 30025000, ang := 0, v := -20000, q := true }] })], tae.lastX := [(0, { ts := [20000000, 10000000], pos := false })], tae.angv := true, tae.freq := 50000 } : State), 20000000, 10000000, [], by decide⟩,
   ⟨0, 30000000, true, { ts := [20000000, 10000000, 0], pos := false }, ({ live with tae.loopOn := true, mea.rdy := true, mea.calDone := true, mea.chan := [(40, { mea0 with fastQ := true, fastHist := [{ t := 30050000, ang := 0, v := 20000, q := true }, { t := 30025000, ang := 0, v := -20000, q := true }] }), (41, { mea0 with fastQ := true, fastHist := [{ t := 30050000, ang := 0, v := 20000, q := true }, { t := 30025000, ang := 0, v := -20000, q := true }] })], tae.lastX := [(0, { ts := [20000000, 10000000, 0], pos := false })], tae.freq := 50000, tae.goodX := [(0, 7)] } : State), 20000000, 10000000, [0], by decide⟩,
   ⟨0, 30000000, true, { ts := [25000000, 10000000], pos := false }, ({ live with tae.loopOn := true, mea.rdy := true, mea.calDone := true, mea.chan := [(40, { mea0 with fastQ := true, fastHist := [{ t := 30050000, ang := 0, v := 20000, q := true }, { t := 30025000, ang := 0, v := -20000, q := true }] }), (41, { mea0 with fastQ := true, fastHist := [{ t := 30050000, ang := 0, v := 20000, q := true }, { t := 30025000, ang := 0, v := -20000, q := true }] })], tae.lastX := [(0, { ts := [25000000, 10000000], pos := false })], tae.freq := 50000 } : State), by decide⟩,
   ⟨0, 20000000, [], ({ live with tae.loopOn := true, mea.rdy := true, mea.calDone := true, mea.chan := [(40, { mea0 with fastQ := true, fastHist := [{ t := 30050000, ang := 0, v := 20000, q := true }, { t := 30025000, ang := 0, v := -20000, q := true }] }), (41, { mea0 with fastQ := true, fastHist := [{ t := 30050000, ang := 0, v := 20000, q := true }, { t := 30025000, ang := 0, v := -20000, q := true }] })], tae.lastX := [(0, { ts := [20000000], pos := false })], tae.angv := true } : State), by decide⟩,
   ⟨0, 20000000, [], ({ live with tae.loopOn := true, mea.rdy := true, mea.calDone := true, mea.chan := [(40, { mea0 with fastQ := true, fastHist := [{ t := 30050000, ang := 0, v := 20000, q := true }, { t := 30025000, ang := 0, v := -20000, q := true }] }), (41, { mea0 with fastQ := true, fastHist := [{ t := 30050000, ang := 0, v := 20000, q := true }, { t := 30025000, ang := 0, v := -20000, q := true }] })], tae.lastX := [(0, { ts := [20000000], pos := false })], tae.angv := true, tae.missX := 3 } : State), by decide⟩,
   ⟨({ live with tae.loopOn := true, mea.rdy := true, mea.calDone := true, mea.chan := [(40, { mea0 with fastQ := true, fastHist := [{ t := 30050000, ang := 0, v := 20000, q := true }, { t := 30025000, ang := 0, v := -20000, q := true }] }), (41, { mea0 with fastQ := true, fastHist := [{ t := 30050000, ang := 0, v := 20000, q := true }, { t := 30025000, ang := 0, v := -20000, q := true }] })], tae.slew := true, tae.slewLeft := 100, tae.runFreq := 50000 } : State), by decide⟩,
   ⟨live, by decide⟩,
   ⟨0, 5, (armed live 0x03002C (5 : BitVec 16).toNat 2), armed_authorised live 0x03002C (5 : BitVec 16).toNat 2 (by decide) rfl (by decide) (by decide) (by decide), by decide, by decide⟩,
   ⟨0, 5, (armed ({ live with tae.timev := false } : State) 0x03002C (5 : BitVec 16).toNat 2), armed_authorised ({ live with tae.timev := false } : State) 0x03002C (5 : BitVec 16).toNat 2 (by decide) rfl (by decide) (by decide) (by decide), by decide⟩⟩

theorem witness_SlotsAct :
    (∃ (n : Fin 256) (a : Nat) (s : State), s.aslotOn n.val = true ∧ firedNow s.pins.now n.val s.tae.aFired = false ∧ s.aslotRef
      n.val = false ∧ s.blockLive 7 = true ∧ TablesWf s ∧ NoOtherSlot s n.val 64 ∧ s.ownReach (s.aslotAng n.val) (s.slotFrom
      n.val s.tae.aFired) = a ∧ (s.advance a).commitEdge = false ∧ s.aslotAct n.val = 0x11) ∧
    (∃ (n : Fin 256) (a : Nat) (s : State), s.aslotOn n.val = true ∧ firedNow s.pins.now n.val s.tae.aFired = false ∧ s.aslotRef
      n.val = false ∧ s.blockLive 7 = true ∧ TablesWf s ∧ NoOtherSlot s n.val 64 ∧ s.ownReach (s.aslotAng n.val) (s.slotFrom
      n.val s.tae.aFired) = a ∧ (s.advance a).commitEdge = false ∧ s.aslotAct n.val = 0x12) ∧
    (∃ (n : Fin 256) (m : Nat) (g : Nat) (a : Nat) (s : State), s.aslotOn n.val = true ∧ firedNow s.pins.now n.val s.tae.aFired =
      false ∧ s.aslotRef n.val = true ∧ s.lmpActs = true ∧ TablesWf s ∧ NoOtherSlot s n.val 64 ∧ s.aslotAct n.val = 0x10 ∧
      s.aslotTgt n.val = g ∧ agEn s.station g = true ∧ m ∈ agLamps s.station g ∧ s.setReach (s.aslotAng n.val) (s.slotFrom n.val
      s.tae.aFired) = a ∧ (s.advance a).commitEdge = false ∧ agDirect s.station g = true) ∧
    (∃ (n : Fin 256) (m : Nat) (g : Nat) (a : Nat) (s : State) (b : Nat), s.aslotOn n.val = true ∧ firedNow s.pins.now n.val
      s.tae.aFired = false ∧ s.aslotRef n.val = true ∧ s.lmpActs = true ∧ TablesWf s ∧ NoOtherSlot s n.val 64 ∧ s.aslotAct n.val
      = 0x10 ∧ s.aslotTgt n.val = g ∧ agEn s.station g = true ∧ m ∈ agLamps s.station g ∧ s.setReach (s.aslotAng n.val)
      (s.slotFrom n.val s.tae.aFired) = a ∧ (s.advance a).commitEdge = false ∧ agDirect s.station g = false ∧ (∀ k ∈ agLamps
      s.station g, (s.lamp k).report = false) ∧ (s.group g).seq = none ∧ (s.group g).latch = none ∧ (s.group g).request = some b
      ∧ (s.group g).shown ≠ some b ∧ agDark s.station g ≠ 0) ∧
    (∃ (n : Fin 64) (a : Nat) (s : State), s.tslotOn n.val = true ∧ firedNow s.pins.now n.val s.tae.tFired = false ∧ s.blockLive 7 =
      true ∧ bits (s.tslotCtl n.val) 8 8 = 0x11 ∧ TablesWf s ∧ NoOtherSlot s 256 n.val ∧ s.clockAt (nextAt (s.ctAt (s.slotFrom
      n.val s.tae.tFired)) (s.tslotBase n.val) (s.tslotOffset n.val)) = a ∧ (s.advance a).commitEdge = false) :=
  ⟨⟨0, ({ live with img := some { station0 with cfg := [(0x31004, 0x80001102), (0x70108, 0x80000001)] }, tae.loopOn := true, tae.freq := 50000, tae.runFreq := 50000 } : State).ownReach (({ live with img := some { station0 with cfg := [(0x31004, 0x80001102), (0x70108, 0x80000001)] }, tae.loopOn := true, tae.freq := 50000, tae.runFreq := 50000 } : State).aslotAng 0) (({ live with img := some { station0 with cfg := [(0x31004, 0x80001102), (0x70108, 0x80000001)] }, tae.loopOn := true, tae.freq := 50000, tae.runFreq := 50000 } : State).slotFrom 0 ({ live with img := some { station0 with cfg := [(0x31004, 0x80001102), (0x70108, 0x80000001)] }, tae.loopOn := true, tae.freq := 50000, tae.runFreq := 50000 } : State).tae.aFired), ({ live with img := some { station0 with cfg := [(0x31004, 0x80001102), (0x70108, 0x80000001)] }, tae.loopOn := true, tae.freq := 50000, tae.runFreq := 50000 } : State), by decide +kernel⟩,
   ⟨0, ({ live with img := some { station0 with cfg := [(0x31004, 0x80001202), (0x70108, 0x80000001)] }, tae.loopOn := true, tae.freq := 50000, tae.runFreq := 50000, lmp.lamp := [(2, { lamp0 with window := true })] } : State).ownReach (({ live with img := some { station0 with cfg := [(0x31004, 0x80001202), (0x70108, 0x80000001)] }, tae.loopOn := true, tae.freq := 50000, tae.runFreq := 50000, lmp.lamp := [(2, { lamp0 with window := true })] } : State).aslotAng 0) (({ live with img := some { station0 with cfg := [(0x31004, 0x80001202), (0x70108, 0x80000001)] }, tae.loopOn := true, tae.freq := 50000, tae.runFreq := 50000, lmp.lamp := [(2, { lamp0 with window := true })] } : State).slotFrom 0 ({ live with img := some { station0 with cfg := [(0x31004, 0x80001202), (0x70108, 0x80000001)] }, tae.loopOn := true, tae.freq := 50000, tae.runFreq := 50000, lmp.lamp := [(2, { lamp0 with window := true })] } : State).tae.aFired), ({ live with img := some { station0 with cfg := [(0x31004, 0x80001202), (0x70108, 0x80000001)] }, tae.loopOn := true, tae.freq := 50000, tae.runFreq := 50000, lmp.lamp := [(2, { lamp0 with window := true })] } : State), by decide +kernel⟩,
   ⟨0, 2, 1, ({ live with img := some { station0 with cfg := [(0x31004, 0xC0001001), (0x70108, 0x80000001), (0x70208, 0xC0000000)] }, tae.samSet := true, tae.samFrq := 50000, lmp.group := [(1, { aspect0 with cmdLit := 4 })] } : State).setReach (({ live with img := some { station0 with cfg := [(0x31004, 0xC0001001), (0x70108, 0x80000001), (0x70208, 0xC0000000)] }, tae.samSet := true, tae.samFrq := 50000, lmp.group := [(1, { aspect0 with cmdLit := 4 })] } : State).aslotAng 0) (({ live with img := some { station0 with cfg := [(0x31004, 0xC0001001), (0x70108, 0x80000001), (0x70208, 0xC0000000)] }, tae.samSet := true, tae.samFrq := 50000, lmp.group := [(1, { aspect0 with cmdLit := 4 })] } : State).slotFrom 0 ({ live with img := some { station0 with cfg := [(0x31004, 0xC0001001), (0x70108, 0x80000001), (0x70208, 0xC0000000)] }, tae.samSet := true, tae.samFrq := 50000, lmp.group := [(1, { aspect0 with cmdLit := 4 })] } : State).tae.aFired), ({ live with img := some { station0 with cfg := [(0x31004, 0xC0001001), (0x70108, 0x80000001), (0x70208, 0xC0000000)] }, tae.samSet := true, tae.samFrq := 50000, lmp.group := [(1, { aspect0 with cmdLit := 4 })] } : State), by decide +kernel⟩,
   ⟨0, 2, 1, ({ live with img := some { station0 with cfg := [(0x31004, 0xC0001001), (0x70108, 0x80000001), (0x70208, 0x80000005), (0x704B0, 0x4)] }, tae.samSet := true, tae.samFrq := 50000, lmp.group := [(1, { aspect0 with request := some 3 })] } : State).setReach (({ live with img := some { station0 with cfg := [(0x31004, 0xC0001001), (0x70108, 0x80000001), (0x70208, 0x80000005), (0x704B0, 0x4)] }, tae.samSet := true, tae.samFrq := 50000, lmp.group := [(1, { aspect0 with request := some 3 })] } : State).aslotAng 0) (({ live with img := some { station0 with cfg := [(0x31004, 0xC0001001), (0x70108, 0x80000001), (0x70208, 0x80000005), (0x704B0, 0x4)] }, tae.samSet := true, tae.samFrq := 50000, lmp.group := [(1, { aspect0 with request := some 3 })] } : State).slotFrom 0 ({ live with img := some { station0 with cfg := [(0x31004, 0xC0001001), (0x70108, 0x80000001), (0x70208, 0x80000005), (0x704B0, 0x4)] }, tae.samSet := true, tae.samFrq := 50000, lmp.group := [(1, { aspect0 with request := some 3 })] } : State).tae.aFired), ({ live with img := some { station0 with cfg := [(0x31004, 0xC0001001), (0x70108, 0x80000001), (0x70208, 0x80000005), (0x704B0, 0x4)] }, tae.samSet := true, tae.samFrq := 50000, lmp.group := [(1, { aspect0 with request := some 3 })] } : State), 3, by decide +kernel⟩,
   ⟨0, ({ live with img := some { station0 with cfg := [(0x31804, 0x80001102), (0x70108, 0x80000001)] } } : State).clockAt (nextAt (({ live with img := some { station0 with cfg := [(0x31804, 0x80001102), (0x70108, 0x80000001)] } } : State).ctAt (({ live with img := some { station0 with cfg := [(0x31804, 0x80001102), (0x70108, 0x80000001)] } } : State).slotFrom 0 ({ live with img := some { station0 with cfg := [(0x31804, 0x80001102), (0x70108, 0x80000001)] } } : State).tae.tFired)) (({ live with img := some { station0 with cfg := [(0x31804, 0x80001102), (0x70108, 0x80000001)] } } : State).tslotBase 0) (({ live with img := some { station0 with cfg := [(0x31804, 0x80001102), (0x70108, 0x80000001)] } } : State).tslotOffset 0)), ({ live with img := some { station0 with cfg := [(0x31804, 0x80001102), (0x70108, 0x80000001)] } } : State), by decide +kernel⟩⟩

theorem witness_LampsAndLearning :
    (∃ (ch : Fin 32) (p : Nat) (s : State), TablesWf s ∧ (s.lamp ch.val).pulse = some p ∧ (s.lamp ch.val).suspended = false ∧ (s.lamp
      ch.val).pulseHit = true) ∧
    (∃ (ch : Fin 32) (p : Nat) (s : State), TablesWf s ∧ (s.lamp ch.val).pulse = some p ∧ (s.lamp ch.val).suspended = false ∧ (s.lamp
      ch.val).pulseHit = false ∧ (s.lamp ch.val).dpFails = 0) ∧
    (∃ (ch : Fin 32) (p : Nat) (s : State), TablesWf s ∧ (s.lamp ch.val).pulse = some p ∧ (s.lamp ch.val).suspended = false ∧ (s.lamp
      ch.val).pulseHit = false ∧ (s.lamp ch.val).dpFails = 1) ∧
    (∃ (ch : Fin 32) (e : Nat) (s : State), (s.lamp ch.val).blankTo = some e) ∧
    (∃ (ch : Fin 32) (e : Nat) (s : State), (s.lamp ch.val).inrushTo = some e) ∧
    (∃ (ch : Fin 32) (x : Nat) (e : Nat) (s : State), (s.lamp ch.val).wave.ball = .asDriven ∧ (s.lamp ch.val).wave.stop = some x ∧ x
      ≤ s.pins.now ∧ (s.lamp ch.val).wave.lastRise s.pins.now s.lampPhase 20000 = some e) ∧
    (∃ (ch : Fin 32) (s : State), TablesWf s ∧ (s.lamp ch.val).wave.ball = .asDriven ∧ (s.lamp ch.val).wave.stop = none) ∧
    (∃ (s : State), TablesWf s ∧ s.img.isSome = true ∧ s.blockLive 7 = true ∧ s.voting = true) ∧
    (∃ (sid : BitVec 16) (ch : Fin 32) (cyc : BitVec 8) (s : State), Authorised s sid 0x07001C (256 * cyc.toNat + ch.val) 3 ∧ (s.mode
      = 1 ∨ s.mode = 2) ∧ chEn s.station ch.val = true ∧ s.lmp.learn = none ∧ 16 ≤ cyc.toNat) ∧
    (∃ (sid : BitVec 16) (ch : Fin 32) (cyc : BitVec 8) (s : State), Authorised s sid 0x07001C (256 * cyc.toNat + ch.val) 3 ∧
      ((s.mode ≠ 1 ∧ s.mode ≠ 2) ∨ chEn s.station ch.val = false ∨ s.lmp.learn.isSome = true ∨ cyc.toNat < 16)) ∧
    (∃ (r : LearnRun) (s : State), s.lmp.learn = some r) ∧
    (∃ (sid : BitVec 16) (g : Fin 8) (s : State), Authorised s sid 0x070014 g.val 2 ∧ s.lmp.iso.getLsbD g.val = true ∧
      ((s.lmp.acks.any fun a => a.own) = false)) ∧
    (∃ (sid : BitVec 16) (g : Fin 8) (s : State), Authorised s sid 0x070014 g.val 2 ∧ (s.lmp.iso.getLsbD g.val = false ∨
      (s.lmp.acks.any fun a => a.own) = true)) :=
  ⟨⟨2, 9, ({ live with lmp.lamp := [(2, { lamp0 with pulse := some 9, pulseHit := true })] } : State), by decide⟩,
   ⟨2, 9, ({ live with lmp.lamp := [(2, { lamp0 with pulse := some 9 })] } : State), by decide⟩,
   ⟨2, 9, ({ live with lmp.lamp := [(2, { lamp0 with pulse := some 9, dpFails := 1, pd := true })] } : State), by decide⟩,
   ⟨2, 9, ({ live with lmp.lamp := [(2, { lamp0 with blankTo := some 9 })] } : State), by decide⟩,
   ⟨2, 9, ({ live with lmp.lamp := [(2, { lamp0 with inrushTo := some 9 })] } : State), by decide⟩,
   ⟨2, 50000, 40000, ({ live with lmp.lamp := [(2, { lamp0 with wave := { start := 0, stop := some 50000, rise := none, ball := .asDriven } })], pins.now := 60000 } : State), by decide⟩,
   ⟨2, ({ live with lmp.lamp := [(2, { lamp0 with wave := { wave0 with stop := none } })] } : State), by decide⟩,
   ⟨({ live with lane.driving := true } : State), by decide⟩,
   ⟨0, 2, 16, (armed ({ live with img := some { station0 with cfg := [(0x70108, 0x80000001)] }, lane.pin := 0x80 } : State) 0x07001C (256 * (16 : BitVec 8).toNat + (2 : Fin 32).val) 3), armed_authorised ({ live with img := some { station0 with cfg := [(0x70108, 0x80000001)] }, lane.pin := 0x80 } : State) 0x07001C (256 * (16 : BitVec 8).toNat + (2 : Fin 32).val) 3 (by decide) rfl (by decide) (by decide) (by decide), by decide, by decide, by decide, by decide⟩,
   ⟨0, 2, 16, (armed live 0x07001C (256 * (16 : BitVec 8).toNat + (2 : Fin 32).val) 3), armed_authorised live 0x07001C (256 * (16 : BitVec 8).toNat + (2 : Fin 32).val) 3 (by decide) rfl (by decide) (by decide) (by decide), by decide⟩,
   ⟨{ chan := 2, periods := 16, startAt := 0 }, ({ live with lmp.learn := some { chan := 2, periods := 16, startAt := 0 } } : State), by decide⟩,
   ⟨0, 3, (armed ({ live with lmp.iso := 8 } : State) 0x070014 (3 : Fin 8).val 2), armed_authorised ({ live with lmp.iso := 8 } : State) 0x070014 (3 : Fin 8).val 2 (by decide) rfl (by decide) (by decide) (by decide), by decide, by decide⟩,
   ⟨0, 3, (armed live 0x070014 (3 : Fin 8).val 2), armed_authorised live 0x070014 (3 : Fin 8).val 2 (by decide) rfl (by decide) (by decide) (by decide), by decide⟩⟩

theorem witness_SamplesAndCalibration :
    (∃ (ch : Fin 50) (s : State), TablesWf s ∧ s.img.isSome = true ∧ meaEn s.station ch.val = true ∧ s.blockLive 8 = true) ∧
    (∃ (s : State), s.mea.bufon = true ∧ s.mea.rdy = false ∧ s.blockLive 8 = true) ∧
    (∃ (s : State), s.mea.bufon = true ∧ s.mea.rdy = true ∧ s.blockLive 8 = true) ∧
    (∃ (r : CalResult) (s : State), TablesWf s ∧ s.mea.rdy = true ∧ s.mea.calDone = false ∧ s.blockLive 8 = true ∧ calPass r.off
      r.gain = true) ∧
    (∃ (r : CalResult) (s : State), TablesWf s ∧ s.mea.rdy = true ∧ s.mea.calDone = false ∧ s.blockLive 8 = true ∧ calPass r.off
      r.gain = false) ∧
    (∃ (sid : BitVec 16) (ch : BitVec 6) (s : State), Authorised s sid 0x080028 (64 + ch.toNat) 2 ∧ ch.toNat < 48 ∧ meaEn s.station
      ch.toNat = true ∧ (s.si 0).busy = false ∧ (s.si 1).busy = false ∧ s.mea.calWait = none) ∧
    (∃ (sid : BitVec 16) (ch : BitVec 6) (s : State), Authorised s sid 0x080028 (64 + ch.toNat) 2 ∧ (48 ≤ ch.toNat ∨ meaEn s.station
      ch.toNat = false ∨ s.mea.calWait.isSome = true)) ∧
    (∃ (sid : BitVec 16) (ch : BitVec 6) (s : State), Authorised s sid 0x080028 (128 + ch.toNat) 2 ∧ s.mea.calWait = some ch.toNat) :=
  ⟨⟨2, ({ live with img := some { station0 with cfg := [(0x81080, 0x80000000)] }, mea.rdy := true, mea.calDone := true } : State), by decide⟩,
   ⟨({ live with mea.bufon := true } : State), by decide⟩,
   ⟨({ live with mea.bufon := true, mea.rdy := true, mea.si0.phase := .parallel } : State), by decide⟩,
   ⟨{ chan := 2, off := 5, gain := 4194304 }, ({ live with mea.rdy := true } : State), by decide⟩,
   ⟨{ chan := 2, off := 50000, gain := 4194304 }, ({ live with mea.rdy := true } : State), by decide⟩,
   ⟨0, 2, (armed ({ live with img := some { station0 with cfg := [(0x81080, 0x80000000)] } } : State) 0x080028 (64 + (2 : BitVec 6).toNat) 2), armed_authorised ({ live with img := some { station0 with cfg := [(0x81080, 0x80000000)] } } : State) 0x080028 (64 + (2 : BitVec 6).toNat) 2 (by decide) rfl (by decide) (by decide) (by decide), by decide, by decide, by decide, by decide, by decide⟩,
   ⟨0, 2, (armed live 0x080028 (64 + (2 : BitVec 6).toNat) 2), armed_authorised live 0x080028 (64 + (2 : BitVec 6).toNat) 2 (by decide) rfl (by decide) (by decide) (by decide), by decide⟩,
   ⟨0, 2, (armed ({ live with mea.calWait := some 2 } : State) 0x080028 (128 + (2 : BitVec 6).toNat) 2), armed_authorised ({ live with mea.calWait := some 2 } : State) 0x080028 (128 + (2 : BitVec 6).toNat) 2 (by decide) rfl (by decide) (by decide) (by decide), by decide⟩⟩

theorem witness_Rotation :
    (∃ (k : Fin 2) (n : Nat) (c : Bool) (r : Bool) (s : State), meaRoten s.station = true ∧ s.mea.rdy = true ∧ s.mea.calDone = true ∧
      (s.si k.val).phase = .idle ∧ s.img.isSome = true ∧ s.blockLive 8 = true ∧ s.rotationChan k.val = some (n, c, r)) ∧
    (∃ (k : Fin 2) (off : Int) (gain : Nat) (s : State), TablesWf s ∧ s.blockLive 8 = true ∧ (s.si k.val).switchDue = false ∧ (s.si
      k.val).phase = .selfCal ∧ calPass off gain = true) ∧
    (∃ (k : Fin 2) (off : Int) (gain : Nat) (s : State), TablesWf s ∧ s.blockLive 8 = true ∧ (s.si k.val).switchDue = false ∧ (s.si
      k.val).phase = .selfCal ∧ calPass off gain = false) ∧
    (∃ (k : Fin 2) (diff : Int) (s : State), TablesWf s ∧ s.blockLive 8 = true ∧ (s.si k.val).switchDue = false ∧ (s.si k.val).phase = .parallel ∧ matchPass (meaTol s.station) diff = true ∧ s.mea.retry = []) ∧
    (∃ (k : Fin 2) (off : Int) (gain : Nat) (s : State), TablesWf s ∧ s.blockLive 8 = true ∧ (s.si k.val).switchDue = false ∧ (s.si
      k.val).phase = .serving ∧ calPass off gain = true) ∧
    (∃ (k : Fin 2) (diff : Int) (s : State), TablesWf s ∧ s.blockLive 8 = true ∧ (s.si k.val).switchDue = false ∧ (s.si k.val).phase = .returning ∧ matchPass (meaTol s.station) diff = true) ∧
    (∃ (k : Fin 2) (s : State), (s.si k.val).switchDue = true ∧ s.blockLive 8 = true ∧ (s.si k.val).back = false ∧ (s.si k.val).phase
      = .parallel) ∧
    (∃ (k : Fin 2) (s : State), TablesWf s ∧ (s.si k.val).switchDue = true ∧ s.blockLive 8 = true ∧ (s.si k.val).back = false ∧ (s.si
      k.val).phase = .returning) ∧
    (∃ (ch : Fin 48) (s : State), s.img.isSome = true ∧ meaEn s.station ch.val = true ∧ s.mea.calDone = true ∧ (s.meaOf ch.val).stale
      = false ∧ s.blockLive 8 = true) :=
  ⟨⟨0, 2, true, false, ({ live with img := some { station0 with cfg := [(0x81080, 0x80000000)] }, mea.rdy := true, mea.calDone := true, mea.calWait := some 2 } : State), by decide⟩,
   ⟨0, 5, 4194304, ({ live with mea.si0 := { StandIn.reset with chan := 2, phase := .selfCal } } : State), by decide⟩,
   ⟨0, 50000, 4194304, ({ live with mea.si0 := { StandIn.reset with chan := 2, phase := .selfCal } } : State), by decide⟩,
   ⟨0, 0, ({ live with mea.si0 := { StandIn.reset with chan := 2, phase := .parallel } } : State), by decide⟩,
   ⟨0, 5, 4194304, ({ live with mea.si0 := { StandIn.reset with chan := 2, phase := .serving } } : State), by decide⟩,
   ⟨0, 0, ({ live with mea.si0 := { StandIn.reset with chan := 2, phase := .returning } } : State), by decide⟩,
   ⟨0, ({ live with mea.si0 := { StandIn.reset with chan := 2, phase := .parallel, switchDue := true }, lane.st := .integrate } : State), by decide⟩,
   ⟨0, ({ live with mea.si0 := { StandIn.reset with chan := 2, phase := .returning, switchDue := true, newOff := 5, newGain := 4194305 }, lane.st := .integrate } : State), by decide⟩,
   ⟨2, ({ live with img := some { station0 with cfg := [(0x81080, 0x80000000)] }, mea.calDone := true } : State), by decide⟩⟩

theorem witness_VitalInputsAndOutputs :
    (∃ (n : Fin 64) (b : Bool) (s : State), TablesWf s ∧ s.vio.tpoAct = true ∧ s.vinEn n.val = true ∧ s.blockLive 6 = true ∧ (s.vin
      n.val).filtered = !b) ∧
    (∃ (n : Fin 64) (s : State), TablesWf s ∧ s.tae.timev = true ∧ s.img.isSome = true ∧ s.listener = false ∧ s.blockLive 6 = true ∧
      s.vinEn n.val = true ∧ s.vio.tpoAct = false) ∧
    (∃ (obs : List FrameObs) (n : Fin 64) (s : State), TablesWf s ∧ s.tae.timev = true ∧ s.img.isSome = true ∧ s.listener = false ∧
      s.blockLive 6 = true ∧ s.vinEn n.val = true ∧ s.vio.tpoAct = true ∧ (s.vin n.val).highAll = true ∧ (s.vin n.val).pat =
      .valid ∧ (s.vin n.val).bad = 2 ∧ s.ownDark n.val (lowsOf obs n.val) = false) ∧
    (∃ (obs : List FrameObs) (n : Fin 64) (s : State), TablesWf s ∧ s.tae.timev = true ∧ s.img.isSome = true ∧ s.listener = false ∧
      s.blockLive 6 = true ∧ s.vinEn n.val = true ∧ s.vio.tpoAct = true ∧ (s.vin n.val).highAll = true ∧ (s.vin n.val).pat =
      .valid ∧ s.ownDark n.val (lowsOf obs n.val) = true ∧ s.foreignDark n.val (lowsOf obs n.val) = false) ∧
    (∃ (k : Fin 4) (j : Fin 16) (s : State), TablesWf s ∧ s.img.isSome = true ∧ s.blockLive 6 = true ∧ s.vinEn (16 * k.val + j.val) =
      true) ∧
    (∃ (n : Fin 32) (x : Nat) (e : Nat) (s : State), (s.vout n.val).wave.ball = .asDriven ∧ (s.vout n.val).wave.stop = some x ∧ x ≤
      s.pins.now ∧ (s.vout n.val).wave.lastRise s.pins.now s.voutPhase 100000 = some e) ∧
    (∃ (n : Fin 32) (s : State), TablesWf s ∧ (s.vout n.val).wave.ball = .asDriven ∧ (s.vout n.val).wave.stop = none) ∧
    (∃ (s : State), TablesWf s ∧ s.img.isSome = true ∧ s.blockLive 6 = true ∧ s.voting = true) ∧
    (∃ (m : Fin 32) (n : Fin 32) (b : Bool) (s : State), s.vio.vfb.getLsbD m.val = !b ∧ s.img.isSome = true ∧ s.blockLive 6 = true ∧
      s.monEn n.val = true ∧ s.monSel n.val = m.val ∧ (s.vout n.val).mon = .dropped ∧ (b != s.monPol n.val) = true ∧ TablesWf s) ∧
    (∃ (n : Fin 32) (s : State), s.monEn n.val = true ∧ ((s.vout n.val).mon = .picking ∨ (s.vout n.val).mon = .dropping)) ∧
    (∃ (n : Fin 32) (s : State), s.monEn n.val = true ∧ ((s.vout n.val).mon = .picked ∨ (s.vout n.val).mon = .dropped ∨ (s.vout
      n.val).mon = .locked)) ∧
    (∃ (sid : BitVec 16) (n : Fin 32) (s : State), Authorised s sid 0x060034 n.val 2 ∧ (s.vout n.val).lockout = true ∧ (s.monEn n.val
      && s.picked n.val) = false ∧ ackPending s.vio.acks = false) ∧
    (∃ (sid : BitVec 16) (n : Fin 32) (s : State), Authorised s sid 0x060034 n.val 2 ∧ ((s.vout n.val).lockout = false ∨ ackPending
      s.vio.acks = true)) :=
  ⟨⟨3, true, ({ live with img := some { station0 with cfg := [(0x6010C, 0x8000001E)] }, vio.tpoAct := true } : State), by decide⟩,
   ⟨3, ({ live with img := some { station0 with cfg := [(0x6010C, 0x8000001E)] } } : State), by decide⟩,
   ⟨[], 3, ({ live with img := some { station0 with cfg := [(0x6010C, 0x8000001E)] }, vio.tpoAct := true, vio.vin := [(3, { vin0 with highAll := true, pat := .valid, bad := 2 })] } : State), by decide⟩,
   ⟨[{ input := 3, lows := [(1765625, 1777625)] }], 3, ({ live with img := some { station0 with cfg := [(0x6010C, 0x8000001E)] }, vio.tpoAct := true, vio.vin := [(3, { vin0 with highAll := true, pat := .valid, bad := 2 })] } : State), by decide⟩,
   ⟨0, 3, ({ live with img := some { station0 with cfg := [(0x6010C, 0x8000001E)] } } : State), by decide⟩,
   ⟨3, 150000, 100000, ({ live with vio.vout := [(3, { vout0 with wave := { start := 0, stop := some 150000, rise := none, ball := .asDriven } })], pins.now := 260000 } : State), by decide⟩,
   ⟨3, ({ live with vio.vout := [(3, { vout0 with wave := { wave0 with stop := none } })] } : State), by decide⟩,
   ⟨({ live with lane.driving := true } : State), by decide⟩,
   ⟨7, 3, true, ({ live with img := some { station0 with cfg := [(0x6020C, 0xC7000000)] } } : State), by decide⟩,
   ⟨3, ({ live with img := some { station0 with cfg := [(0x6020C, 0xC7000000)] }, vio.vout := [(3, { vout0 with mon := .picking })] } : State), by decide⟩,
   ⟨3, ({ live with img := some { station0 with cfg := [(0x6020C, 0xC7000000)] } } : State), by decide⟩,
   ⟨0, 3, (armed ({ live with vio.vout := [(3, { vout0 with lockout := true })] } : State) 0x060034 (3 : Fin 32).val 2), armed_authorised ({ live with vio.vout := [(3, { vout0 with lockout := true })] } : State) 0x060034 (3 : Fin 32).val 2 (by decide) rfl (by decide) (by decide) (by decide), by decide, by decide, by decide⟩,
   ⟨0, 3, (armed live 0x060034 (3 : Fin 32).val 2), armed_authorised live 0x060034 (3 : Fin 32).val 2 (by decide) rfl (by decide) (by decide) (by decide), by decide⟩⟩

theorem witness_LaneBusSending :
    (∃ (w : Fin 512) (s : State) (p : PendFrame), MaySend s w ∧ fidUse s.station (winList s.station w.val % 1024) = 4 ∧ s.outputReady
      = true ∧ (AtSlot s w).framePending (winList s.station w.val % 1024) = some p ∧ p.at_ + 2000 ≤ (AtSlot s w).pins.now) ∧
    (∃ (w : Fin 512) (s : State) (p : PendFrame), MaySend s w ∧ fidUse s.station (winList s.station w.val % 1024) = 4 ∧ s.outputReady
      = true ∧ (AtSlot s w).framePending (winList s.station w.val % 1024) = some p ∧ (AtSlot s w).pins.now < p.at_ + 2000) ∧
    (∃ (w : Fin 512) (s : State), MaySend s w ∧ fidUse s.station (winList s.station w.val % 1024) = 4 ∧ s.outputReady = false ∧
      s.voting = true) ∧
    (∃ (w : Fin 512) (s : State), MaySend s w ∧ fidUse s.station (winList s.station w.val % 1024) = 1 ∧ (AtSlot s w).framePending
      (winList s.station w.val % 1024) = none) ∧
    (∃ (w : Fin 512) (s : State) (p : PendFrame), MaySend s w ∧ fidUse s.station (winList s.station w.val % 1024) = 1 ∧ (AtSlot s
      w).framePending (winList s.station w.val % 1024) = some p ∧ p.at_ + 2000 ≤ (AtSlot s w).pins.now) ∧
    (∃ (w : Fin 512) (s : State), MaySend s w ∧ fidUse s.station (winList s.station w.val % 1024) = 0 ∧ s.lane.st = .safe) ∧
    (∃ (w : Fin 512) (s : State), MaySend s w ∧ fidUse s.station (winList s.station w.val % 1024) = 0 ∧ s.lane.st ≠ .safe) ∧
    (∃ (w : Fin 512) (s : State), winOwner s.station w.val ≠ s.node) ∧
    (∃ (w : Fin 512) (s : State) (j : Nat) (p : PendFrame), winEn s.station w.val = true ∧ winArb s.station w.val = true ∧ winPresent
      s.station s.ccl w.val s.lnb.m = true ∧ s.busDrives = true ∧ s.lnb.arbSkip ≠ some w.val ∧ (s.voting = true → s.outputReady
      = true) ∧ (AtRound s w).roundRank w.val = some (j, p) ∧ (AtRound s w).roundRoom w.val j p.payload.length = true ∧ p.at_ +
      2000 ≤ (AtRound s w).clockAt (s.placeStart w.val 0)) ∧
    (∃ (w : Fin 512) (s : State), winEn s.station w.val = true ∧ winArb s.station w.val = true ∧ winPresent s.station s.ccl w.val
      s.lnb.m = true ∧ s.busDrives = true ∧ s.lnb.arbSkip ≠ some w.val ∧ (s.voting = true → s.outputReady = true)) ∧
    (∃ (f : BitVec 10) (s : State), s.busDrives = true ∧ fidEn s.station f.toNat = true ∧ fidOwner s.station f.toNat = s.node) :=
  ⟨⟨2, ({ live with img := some { station0 with cfg := [(0x91020, 0x800003E8), (0x91024, 0xFA0), (0x91028, 0x2800009), (0x94024, 0x84800000)] }, lge.candidate := true, grd.chkok := true } : State), { fid := 9, payload := [0, 0], mirror := false, at_ := 0 }, by decide⟩,
   ⟨2, ({ live with img := some { station0 with cfg := [(0x91020, 0x800003E8), (0x91024, 0xFA0), (0x91028, 0x2800009), (0x94024, 0x84800000)] }, lnb.outReady := 9000, lge.candidate := true, grd.chkok := true } : State), { fid := 9, payload := [0, 0], mirror := false, at_ := 9000 }, by decide⟩,
   ⟨2, ({ live with img := some { station0 with cfg := [(0x91020, 0x800003E8), (0x91024, 0xFA0), (0x91028, 0x2800009), (0x94024, 0x84800000)] }, lane.driving := true } : State), by decide⟩,
   ⟨2, ({ live with img := some { station0 with cfg := [(0x91020, 0x800003E8), (0x91024, 0xFA0), (0x91028, 0x2800009), (0x94024, 0x81800000)] } } : State), by decide⟩,
   ⟨2, ({ live with img := some { station0 with cfg := [(0x91020, 0x800003E8), (0x91024, 0xFA0), (0x91028, 0x2800009), (0x94024, 0x81800000)] }, fld.captured := [{ tg := telegram0, reported := false, deferred := false }] } : State), { fid := 9, payload := [1, 2, 0, 0], mirror := false, at_ := 0 }, by decide⟩,
   ⟨2, ({ live with img := some { station0 with cfg := [(0x91020, 0x800003E8), (0x91024, 0xFA0), (0x91028, 0x2800009), (0x94024, 0x80800000)] }, lane.st := .safe, lane.safeLatch := true } : State), by decide⟩,
   ⟨2, ({ live with img := some { station0 with cfg := [(0x91020, 0x800003E8), (0x91024, 0xFA0), (0x91028, 0x2800009), (0x94024, 0x80800000)] } } : State), by decide⟩,
   ⟨2, ({ live with img := some { station0 with cfg := [(0x91020, 0x880003E8), (0x91024, 0xFA0), (0x91028, 0x2800009)] } } : State), by decide⟩,
   ⟨2, ({ live with img := some { station0 with cfg := [(0x91020, 0xC00003E8), (0x91024, 0xFA0), (0x91028, 0x2800000), (0x93000, 0x9), (0x94024, 0x83800000)] }, lge.candidate := true, grd.chkok := true, lnb.pendTx := [{ fid := 9, payload := [5, 6], mirror := false, at_ := 0 }] } : State), 0, { fid := 9, payload := [5, 6], mirror := false, at_ := 0 }, by decide⟩,
   ⟨2, ({ live with img := some { station0 with cfg := [(0x91020, 0xC00003E8), (0x91024, 0xFA0), (0x91028, 0x2800000), (0x93000, 0x9), (0x94024, 0x83800000)] }, lge.candidate := true, grd.chkok := true, lnb.pendTx := [{ fid := 9, payload := [5, 6], mirror := false, at_ := 0 }] } : State), by decide⟩,
   ⟨9, ({ live with img := some { station0 with cfg := [(0x94024, 0x83800000)] } } : State), by decide⟩⟩

theorem witness_LaneBusReceiving :
    (∃ (f : RxFrame) (c : Copy) (s : State), TablesWf s ∧ FrameJudged s 0 f c .valid ∧ hNode c.hdr ≠ s.node) ∧
    (∃ (f : RxFrame) (c : Copy) (s : State), TablesWf s ∧ winArb s.station f.win.val = false ∧ FrameJudged s 0 f c .crcf) ∧
    (∃ (f : RxFrame) (c : Copy) (s : State), TablesWf s ∧ FrameJudged s 1 f c .valid ∧ hNull c.hdr = false ∧ (s.advance (frameEnd
      f)).fidIndex (hNode c.hdr) 1 (hFid c.hdr) = (s.nodeView (hNode c.hdr)).inNext ∧ ((s.nodeView (hNode c.hdr)).inValid = true
      ∨ (s.nodeView (hNode c.hdr)).inNext = 0)) ∧
    (∃ (f : RxFrame) (c : Copy) (s : State), TablesWf s ∧ FrameJudged s 4 f c .valid ∧ hNull c.hdr = false ∧ (s.advance (frameEnd
      f)).fidIndex (hNode c.hdr) 4 (hFid c.hdr) = (s.nodeView (hNode c.hdr)).outNext ∧ ((s.nodeView (hNode c.hdr)).outValid =
      true ∨ (s.nodeView (hNode c.hdr)).outNext = 0)) ∧
    (∃ (f : RxFrame) (c : Copy) (s : State), TablesWf s ∧ FrameJudged s 4 f c .valid ∧ hNull c.hdr = false ∧ (s.advance (frameEnd
      f)).fidIndex (hNode c.hdr) 4 (hFid c.hdr) ≠ (s.nodeView (hNode c.hdr)).outNext) ∧
    (∃ (f : RxFrame) (c : Copy) (w0 : Word) (w1 : Word) (tg : Telegram) (fid : Nat) (i : Nat) (s : State), FrameJudged s 2 f c .valid
      ∧ hNode c.hdr ≠ s.node ∧ s.voting = true ∧ c.payload = [w0, w1] ∧ s.holdsTelegrams = [tg] ∧ tg.conn = w0.toNat ∧ tg.seq =
      w1.toNat ∧ (fidsOf s.station s.node 3).head? = some fid ∧ connOf s.station w0.toNat = some i) ∧
    (∃ (f : RxFrame) (c : Copy) (tg : Telegram) (s : State), TablesWf s ∧ FrameJudged s 3 f c .valid ∧ hNode c.hdr ≠ s.node ∧ tg =
      telegramRead (c.payload.getD 3 0 ++ c.payload.getD 2 0) ((wordsToBytes (c.payload.drop 5)).take (bits (c.payload.getD 4
      0).toNat 16 16)) ∧ bits (c.payload.getD 4 0).toNat 0 16 = 0 ∧ bits (c.payload.getD 4 0).toNat 16 16 ≤ (wordsToBytes
      (c.payload.drop 5)).length ∧ s.codeMatches (c.payload.getD 0 0).toNat (c.payload.getD 3 0 ++ c.payload.getD 2 0)
      ((wordsToBytes (c.payload.drop 5)).take (bits (c.payload.getD 4 0).toNat 16 16)) = true ∧ tg.conn = (c.payload.getD 0
      0).toNat ∧ tg.seq = (c.payload.getD 1 0).toNat ∧ tg.digest ∈ s.lackingNow ∧ s.lnb.fetchPart = []) ∧
    (∃ (f : RxFrame) (c : Copy) (s : State), FrameJudged s 5 f c .valid ∧ winArb s.station f.win.val = true ∧ hNode c.hdr ∈
      s.otherNodes) ∧
    (∃ (f : RxFrame) (c : Copy) (s : State), FrameJudged s 6 f c .valid ∧ (s.peerIndex (hNode c.hdr)).isSome = true) :=
  ⟨⟨{ win := 2, rank := 0, x := some (copyOf 10160 9 1 [7, 0] false), y := some (copyOf 10160 9 1 [7, 0] false), carrierX := true, carrierY := true }, (copyOf 10160 9 1 [7, 0] false), ({ live with img := some { station0 with cfg := [(0x91020, 0x880003E8), (0x91024, 0xFA0), (0x91028, 0x2800009), (0x94024, 0x90800000)] } } : State), by decide +kernel⟩,
   ⟨{ win := 2, rank := 0, x := some ({ (copyOf 10160 9 1 [7, 0] false) with crc := 0 } : Copy), y := some ({ (copyOf 10160 9 1 [7, 0] false) with crc := 0 } : Copy), carrierX := true, carrierY := true }, { (copyOf 10160 9 1 [7, 0] false) with crc := 0 }, ({ live with img := some { station0 with cfg := [(0x91020, 0x880003E8), (0x91024, 0xFA0), (0x91028, 0x2800009), (0x94024, 0x90800000)] } } : State), by decide +kernel⟩,
   ⟨{ win := 2, rank := 0, x := some (copyOf 10160 9 1 [1, 2] false), y := some (copyOf 10160 9 1 [1, 2] false), carrierX := true, carrierY := true }, (copyOf 10160 9 1 [1, 2] false), ({ live with img := some { station0 with cfg := [(0x91020, 0x880003E8), (0x91024, 0xFA0), (0x91028, 0x2800009), (0x94024, 0x91800000)] } } : State), by decide +kernel⟩,
   ⟨{ win := 2, rank := 0, x := some (copyOf 10160 9 1 [1, 2] false), y := some (copyOf 10160 9 1 [1, 2] false), carrierX := true, carrierY := true }, (copyOf 10160 9 1 [1, 2] false), ({ live with img := some { station0 with cfg := [(0x91020, 0x880003E8), (0x91024, 0xFA0), (0x91028, 0x2800009), (0x94024, 0x94800000)] } } : State), by decide +kernel⟩,
   ⟨{ win := 2, rank := 0, x := some (copyOf 10160 9 1 [1, 2] false), y := some (copyOf 10160 9 1 [1, 2] false), carrierX := true, carrierY := true }, (copyOf 10160 9 1 [1, 2] false), ({ live with img := some { station0 with cfg := [(0x91020, 0x880003E8), (0x91024, 0xFA0), (0x91028, 0x2800009), (0x94024, 0x94800000)] }, lnb.node := [(1, { node0 with outNext := 3 })] } : State), by decide +kernel⟩,
   ⟨{ win := 2, rank := 0, x := some (copyOf 10160 9 1 [1, 2] false), y := some (copyOf 10160 9 1 [1, 2] false), carrierX := true, carrierY := true }, (copyOf 10160 9 1 [1, 2] false), 1, 2, telegram0, 11, 0, ({ live with img := some { station0 with cfg := [(0x91020, 0x880003E8), (0x91024, 0xFA0), (0x91028, 0x2800009), (0x94024, 0x92800000), (0x9402C, 0x83800000), (0xA1000, 0x1), (0xA1008, 0x8001100C)] }, fld.captured := [{ tg := telegram0, reported := false, deferred := false }] } : State), by decide +kernel⟩,
   ⟨replyFrame, replyCopy, replyTelegram, lacking, by decide +kernel, reply_judged, by decide +kernel, rfl, by decide +kernel, by decide +kernel, reply_code, by decide +kernel, by decide +kernel, reply_lacking, by decide +kernel⟩,
   ⟨{ win := 2, rank := 0, x := some (copyOf 10160 9 3 [5, 6] false), y := some (copyOf 10160 9 3 [5, 6] false), carrierX := true, carrierY := true }, (copyOf 10160 9 3 [5, 6] false), ({ live with img := some { station0 with cfg := [(0x91020, 0xF80003E8), (0x91024, 0xFA0), (0x91028, 0x2800000), (0x93000, 0x9), (0x94024, 0xB5800000)] } } : State), by decide +kernel⟩,
   ⟨{ win := 2, rank := 0, x := some (copyOf 10160 9 1 [1, 2] false), y := some (copyOf 10160 9 1 [1, 2] false), carrierX := true, carrierY := true }, (copyOf 10160 9 1 [1, 2] false), ({ live with img := some { station0 with cfg := [(0x91020, 0x880003E8), (0x91024, 0xFA0), (0x91028, 0x2800009), (0x94024, 0x96800000)] }, lane.reintReq := true, lane.role := .excluded } : State), by decide +kernel⟩⟩

theorem witness_ColdStart :
    (∃ (s : State), s.lnb.bstate = .listen ∧ s.blockLive 9 = true ∧ s.syncNode = true ∧ s.lane.st ≠ .safe) ∧
    (∃ (s : State), s.lnb.bstate = .listen ∧ s.blockLive 9 = true ∧ s.lane.st = .safe) ∧
    (∃ (s : State), s.lnb.bstate = .listen ∧ s.blockLive 9 = true) ∧
    (∃ (s : State), s.lnb.bstate = .wait ∧ s.blockLive 9 = true ∧ s.syncNode = true ∧ s.lane.st ≠ .safe) ∧
    (∃ (s : State), s.lnb.bstate = .wait ∧ s.blockLive 9 = true) ∧
    (∃ (s : State), s.lnb.bstate = .swarm ∧ s.blockLive 9 = true) ∧
    (∃ (f : RxFrame) (c : Copy) (s : State), s.rxLive = true ∧ s.coldCopy f = some c ∧ hNode c.hdr ≠ s.node ∧ (s.lnb.bstate = .listen
      ∨ s.lnb.bstate = .wait)) ∧
    (∃ (f : RxFrame) (c : Copy) (s : State), s.rxLive = true ∧ s.coldCopy f = some c ∧ hNode c.hdr ≠ s.node ∧ s.lnb.bstate = .lead) ∧
    (∃ (s : State), s.rxLive = true ∧ s.lnb.bstate = .listen) ∧
    (∃ (s : State) (k : Nat), s.rxLive = true ∧ s.busTime = true ∧ s.windowAt s.ct = some k ∧ winArb s.station k = true) ∧
    (∃ (s : State) (k : Nat), s.rxLive = true ∧ s.busTime = true ∧ s.windowAt s.ct = some k ∧ winArb s.station k = false) ∧
    (∃ (s : State), (s.lnb.bstate = .lead ∨ s.lnb.bstate = .follow) ∧ 2 ≤ s.formers.length ∧ s.blockLive 9 = true) ∧
    (∃ (s : State), s.lnb.bstate = .lead ∧ 7 ≤ s.lnb.m ∧ s.formers.length < 2 ∧ s.blockLive 9 = true) ∧
    (∃ (s : State), s.lnb.bstate = .follow ∧ (7 ≤ s.lnb.m ∨ 2 ≤ s.leaderMissed) ∧ s.formers.length < 2 ∧ s.blockLive 9 = true) ∧
    (∃ (s : State), s.lnb.bstate = .listen ∧ 16 ≤ s.lnb.att ∧ s.syncNode = true ∧ s.blockLive 9 = true) :=
  ⟨⟨({ live with img := some { station0 with cfg := [(0x90044, 0x1), (0x94020, 0x87800000)] }, lnb.bstate := .listen, tae.ctOff := none } : State), by decide⟩,
   ⟨({ ({ live with img := some { station0 with cfg := [(0x90044, 0x1), (0x94020, 0x87800000)] }, lnb.bstate := .listen, tae.ctOff := none } : State) with lane.st := .safe, lane.safeLatch := true } : State), by decide⟩,
   ⟨({ live with img := some { station0 with cfg := [(0x94024, 0x97800000), (0x94020, 0x87800000)] }, lnb.bstate := .listen, tae.ctOff := none, tae.timev := false } : State), by decide⟩,
   ⟨({ live with img := some { station0 with cfg := [(0x90044, 0x1), (0x94020, 0x87800000)] }, lnb.bstate := .wait, tae.ctOff := none } : State), by decide⟩,
   ⟨({ live with img := some { station0 with cfg := [(0x94024, 0x97800000), (0x94020, 0x87800000)] }, lnb.bstate := .wait, tae.ctOff := none, tae.timev := false } : State), by decide⟩,
   ⟨({ live with img := some { station0 with cfg := [(0x94024, 0x97800000), (0x94020, 0x87800000)] }, lnb.bstate := .swarm, tae.ctOff := none, tae.timev := false, lnb.listenAt := 9 } : State), by decide⟩,
   ⟨{ win := 0, rank := 0, x := some (coldCopyOf 9 1), y := none, carrierX := true, carrierY := false }, (coldCopyOf 9 1), ({ live with img := some { station0 with cfg := [(0x94024, 0x97800000), (0x94020, 0x87800000)] }, lnb.bstate := .listen, tae.ctOff := none, tae.timev := false } : State), by decide +kernel⟩,
   ⟨{ win := 0, rank := 0, x := some (coldCopyOf 9 1), y := none, carrierX := true, carrierY := false }, (coldCopyOf 9 1), ({ live with img := some { station0 with cfg := [(0x94024, 0x97800000), (0x94020, 0x87800000)] }, lnb.bstate := .lead, tae.timev := false } : State), by decide +kernel⟩,
   ⟨({ live with img := some { station0 with cfg := [(0x94024, 0x97800000), (0x94020, 0x87800000)] }, lnb.bstate := .listen, tae.ctOff := none, tae.timev := false } : State), by decide⟩,
   ⟨({ live with img := some { station0 with cfg := [(0x91020, 0xF8000000), (0x91024, 0xFA0), (0x91028, 0x2800000)] } } : State), 2, by decide⟩,
   ⟨({ live with img := some { station0 with cfg := [(0x91020, 0x88000000), (0x91024, 0xFA0), (0x91028, 0x2800009)] } } : State), 2, by decide⟩,
   ⟨({ live with img := some { station0 with cfg := [(0x94024, 0x97800000), (0x94020, 0x87800000)] }, lnb.bstate := .lead, tae.timev := false, lnb.ownSyncNow := true, lnb.ownSyncLast := true, lnb.node := [(1, { node0 with syncNow := true, syncLast := true })] } : State), by decide⟩,
   ⟨({ live with img := some { station0 with cfg := [(0x94024, 0x97800000), (0x94020, 0x87800000)] }, lnb.bstate := .lead, tae.ctOff := none, tae.timev := false, lnb.m := 7 } : State), by decide⟩,
   ⟨({ live with img := some { station0 with cfg := [(0x94024, 0x97800000), (0x94020, 0x87800000)] }, lnb.bstate := .follow, tae.ctOff := none, tae.timev := false, lnb.folMiss := 2 } : State), by decide⟩,
   ⟨({ live with img := some { station0 with cfg := [(0x90044, 0x1)] }, lnb.bstate := .listen, lnb.att := 16 } : State), by decide⟩⟩

theorem witness_Synchronisation :
    (∃ (c : Int) (s : State), s.lnb.bstate = .active ∧ s.syncNode = true ∧ s.lnb.corrNow = none ∧ s.blockLive 9 = true ∧
      offsetCorrection (s.lnb.devs ++ [0]) = some c) ∧
    (∃ (s : State), s.lnb.bstate = .active ∧ s.tae.timev = false ∧ 2 ≤ s.lnb.precise ∧ s.blockLive 9 = true ∧ s.crt.align = true) ∧
    (∃ (s : State), s.lnb.bstate = .active ∧ s.tae.timev = false ∧ 2 ≤ s.lnb.precise ∧ s.blockLive 9 = true ∧ s.crt.align = false) ∧
    (∃ (s : State), s.lnb.bstate = .integrating ∧ 2 ≤ s.lnb.goodRun ∧ s.blockLive 9 = true) ∧
    (∃ (s : State), s.lnb.bstate = .passive ∧ 8 ≤ s.lnb.goodRun ∧ s.blockLive 9 = true) ∧
    (∃ (s : State), s.lnb.bstate = .active ∧ (2 ≤ s.lnb.coarse ∨ 2 ≤ s.lnb.bndRun) ∧ s.blockLive 9 = true) ∧
    (∃ (s : State), (s.lnb.bstate = .integrating ∨ s.lnb.bstate = .active ∨ s.lnb.bstate = .passive) ∧ 4 ≤ s.lnb.noSync ∧ s.blockLive
      9 = true) ∧
    (∃ (n : Fin 8) (s : State), (s.nodeView n.val).scRejected = true ∧ (s.nodeView n.val).scDeclared = false ∧ s.rxLive = true) ∧
    (∃ (r : Nat) (s : State), s.lnb.rref = some r ∧ s.lnb.bstate = .active ∧ r ≠ s.node ∧ s.lnb.recadm = false ∧ 64 ≤ s.lnb.recRun ∧
      s.blockLive 9 = true) ∧
    (∃ (k : Fin 4) (s : State), s.lnb.recadm = true ∧ (if k = 3 then s.lnb.bstate ≠ .active else s.lnb.bstate = .active ∧ (k = 2 ↔
      s.lnb.rref ≠ some s.lnb.recRef)) ∧ (s.crt.rootsel = false ∨ s.crt.xval = true)) ∧
    (∃ (k : Fin 4) (s : State), s.lnb.recadm = true ∧ (if k = 3 then s.lnb.bstate ≠ .active else s.lnb.bstate = .active ∧ (k = 2 ↔
      s.lnb.rref ≠ some s.lnb.recRef)) ∧ s.crt.rootsel = true ∧ s.crt.xval = false ∧ s.lane.safeLatch = false) ∧
    (∃ (s : State), s.lnb.recadm = false) :=
  ⟨⟨2, ({ live with img := some { station0 with cfg := [(0x90044, 0x1)] }, lnb.devs := [4, 9, 2, 0] } : State), by decide⟩,
   ⟨({ live with tae.timev := false, lnb.precise := 2 } : State), by decide⟩,
   ⟨({ live with tae.timev := false, lnb.precise := 2, crt.align := false } : State), by decide⟩,
   ⟨({ live with lnb.bstate := .integrating, lnb.goodRun := 2, tae.timev := false } : State), by decide⟩,
   ⟨({ live with lnb.bstate := .passive, lnb.goodRun := 8, tae.timev := false } : State), by decide⟩,
   ⟨({ live with lnb.coarse := 2 } : State), by decide⟩,
   ⟨({ live with lnb.noSync := 4 } : State), by decide⟩,
   ⟨3, ({ live with lnb.node := [(3, { node0 with scRejected := true })] } : State), by decide⟩,
   ⟨1, ({ live with lnb.rref := some 1, lnb.recRun := 64 } : State), by decide⟩,
   ⟨3, ({ live with lnb.recadm := true, crt.rval := true, lnb.bstate := .passive } : State), by decide⟩,
   ⟨3, ({ live with lnb.recadm := true, crt.rval := true, crt.rootsel := true, crt.xval := false, lnb.bstate := .passive } : State), by decide⟩,
   ⟨live, by decide⟩⟩

theorem witness_ClusterTimeNeverDecreases :
    (∃ (s : State) (t : State), RateRules s ∧ step s = .next t) ∧
    (∃ (x : Nat) (y : Nat) (s : State), RateRules s ∧ s.tae.ctOff.isSome = true ∧ s.tae.ctSlew.length ≤ 1000 ∧ x ≤ y) ∧
    (∃ (s : State), s.tae.ctOff.isSome = true) ∧
    (∃ (i : Instr) (s : State) (t : State), RateRules s ∧ s.tae.ctSlew.length ≤ 1000 ∧ exec i s = .next t ∧ s.tae.timev = true ∧
      t.tae.timev = true ∧ t.lnb.bstate = s.lnb.bstate) :=
  ⟨⟨live, _, by decide, rfl⟩,
   ⟨3, 9, live, by decide⟩,
   ⟨live, by decide⟩,
   ⟨.clockCorrection, live, _, by decide, by decide, rfl, by decide, by decide, by decide⟩⟩

theorem witness_FieldPorts :
    (∃ (p : Fin 2) (s : State), TablesWf s ∧ s.fldRuns = true ∧ s.fld.phyOut = true ∧ portEn s.station p.val = true) ∧
    (∃ (p : Fin 2) (ok : Bool) (b : List Byte) (s : State), TablesWf s ∧ s.portUp p.val = true ∧ (ok = false ∨ b.length < 60 ∨ 1518 <
      b.length ∨ (beNat (slice 0 6 b) ≠ portMac s.station p.val ∧ beNat (slice 0 6 b) ≠ 0xFFFFFFFFFFFF))) ∧
    (∃ (p : Fin 2) (ok : Bool) (b : List Byte) (s : State), TablesWf s ∧ s.portUp p.val = true ∧ ethJudge s.station p.val (fmpPort
      s.station) (fmpOn s.station p.val) ok b ≠ .drop) ∧
    (∃ (p : Fin 2) (ip : Word) (s : State), s.portUp p.val = true ∧ fldArp s.station = true ∧ ip.toNat = portIp s.station p.val) ∧
    (∃ (p : Fin 2) (ip : Word) (s : State), s.portUp p.val = true ∧ fldArp s.station = true ∧ ip.toNat ≠ portIp s.station p.val) ∧
    (∃ (p : Fin 2) (ip : Word) (s : State), s.portUp p.val = true ∧ fldIcmp s.station = true ∧ ip.toNat = portIp s.station p.val ∧
      ((s.port p.val).icmpSecond ≠ s.pins.now / 1000000000 ∨ (s.port p.val).icmpCount < 10)) ∧
    (∃ (p : Fin 2) (ip : Word) (s : State), s.portUp p.val = true ∧ fldIcmp s.station = true ∧ ip.toNat = portIp s.station p.val ∧
      (s.port p.val).icmpSecond = s.pins.now / 1000000000 ∧ 10 ≤ (s.port p.val).icmpCount) ∧
    (∃ (p : Fin 2) (x : Nat) (s : State), s.fldRuns = true ∧ portEn s.station p.val = true ∧ (s.port p.val).acceptedAt = none ∧
      (s.port p.val).singleAt = none ∧ (s.port (1 - p.val)).acceptedAt = some x ∧ s.pins.now < x + 1000000000) :=
  ⟨⟨0, ({ live with img := some { station0 with cfg := [(0xA0020, 0x80000000), (0xA002C, 0xA000001)] }, fld.phyOut := true } : State), by decide⟩,
   ⟨0, false, [], ({ live with img := some { station0 with cfg := [(0xA0020, 0x80000000), (0xA002C, 0xA000001)] }, fld.phyOut := true, fld.port := [(0, { port0 with link := .up100 })] } : State), by decide⟩,
   ⟨0, true, arpFrame, ({ live with img := some { station0 with cfg := [(0xA0020, 0x80000000), (0xA002C, 0xA000001)] }, fld.phyOut := true, fld.port := [(0, { port0 with link := .up100 })] } : State), by decide⟩,
   ⟨0, 0x0A000001, ({ live with img := some { station0 with cfg := [(0xA0020, 0x80000000), (0xA002C, 0xA000001), (0xA0000, 0xC000B806)] }, fld.phyOut := true, fld.port := [(0, { port0 with link := .up100 })] } : State), by decide⟩,
   ⟨0, 0x0A000002, ({ live with img := some { station0 with cfg := [(0xA0020, 0x80000000), (0xA002C, 0xA000001)] }, fld.phyOut := true, fld.port := [(0, { port0 with link := .up100 })] } : State), by decide⟩,
   ⟨0, 0x0A000001, ({ live with img := some { station0 with cfg := [(0xA0020, 0x80000000), (0xA002C, 0xA000001), (0xA0000, 0xC000B806)] }, fld.phyOut := true, fld.port := [(0, { port0 with link := .up100 })] } : State), by decide⟩,
   ⟨0, 0x0A000001, ({ live with img := some { station0 with cfg := [(0xA0020, 0x80000000), (0xA002C, 0xA000001), (0xA0000, 0xC000B806)] }, fld.phyOut := true, fld.port := [(0, { port0 with link := .up100, icmpCount := 10 })] } : State), by decide⟩,
   ⟨0, 0, ({ live with img := some { station0 with cfg := [(0xA0020, 0x80000000), (0xA002C, 0xA000001)] }, fld.port := [(1, { port0 with acceptedAt := some 0 })] } : State), by decide⟩⟩

theorem witness_MimanChecks :
    (∃ (p : Fin 2) (ip : Word) (b : List Byte) (s : State), s.portUp p.val = true ∧ s.judgesCopies = true ∧ TablesWf s ∧ mimanConn
      s.station ip.toNat b = none) ∧
    (∃ (p : Fin 2) (ip : Word) (b : List Byte) (c : Nat) (s : State), s.portUp p.val = true ∧ s.judgesCopies = true ∧ TablesWf s ∧
      mimanConn s.station ip.toNat b = some c ∧ connRxcop s.station c ≤ (s.conn c).copies) ∧
    (∃ (p : Fin 2) (ip : Word) (b : List Byte) (c : Nat) (s : State), s.portUp p.val = true ∧ s.judgesCopies = true ∧ TablesWf s ∧
      mimanConn s.station ip.toNat b = some c ∧ (s.conn c).copies < connRxcop s.station c ∧ s.connSt c = 2 ∧ connSeqwin
      s.station c < sub32 (telegramRead 0 b).seq (s.connEsWord c 2)) ∧
    (∃ (p : Fin 2) (ip : Word) (b : List Byte) (c : Nat) (s : State), s.portUp p.val = true ∧ s.judgesCopies = true ∧ TablesWf s ∧
      mimanConn s.station ip.toNat b = some c ∧ (s.conn c).copies < connRxcop s.station c ∧ s.connSt c ≠ 2 ∧ s.fld.held = [] ∧
      Config.cmac (tabGet 0#128 c s.fld.keys) (b.take (b.length - 8)) = BitVec.ofNat 64 (beNat (b.drop (b.length - 8)))) ∧
    (∃ (p : Fin 2) (ip : Word) (b : List Byte) (c : Nat) (s : State), s.portUp p.val = true ∧ s.judgesCopies = true ∧ TablesWf s ∧
      mimanConn s.station ip.toNat b = some c ∧ (s.conn c).copies < connRxcop s.station c ∧ s.connSt c ≠ 2 ∧ s.fld.held = [] ∧
      Config.cmac (tabGet 0#128 c s.fld.keys) (b.take (b.length - 8)) ≠ BitVec.ofNat 64 (beNat (b.drop (b.length - 8)))) :=
  ⟨⟨0, 0x0A000006, [], ({ live with img := some { station0 with cfg := [(0xA0020, 0x80000000), (0xA002C, 0xA000001), (0xA1000, 0x1), (0xA1008, 0x8001100C), (0xAA000, 0xA000005)] }, fld.phyOut := true, fld.port := [(0, { port0 with link := .up100 })] } : State), by decide⟩,
   ⟨0, 0x0A000005, (telegramOf 5 0), 0, ({ live with img := some { station0 with cfg := [(0xA0020, 0x80000000), (0xA002C, 0xA000001), (0xA1000, 0x1), (0xA1008, 0x8001100C), (0xAA000, 0xA000005)] }, fld.phyOut := true, fld.port := [(0, { port0 with link := .up100 })], fld.conn := [(0, { conn0 with copies := 12 })] } : State), by decide⟩,
   ⟨0, 0x0A000005, (telegramOf 100 0), 0, ({ live with img := some { station0 with cfg := [(0xA0020, 0x80000000), (0xA002C, 0xA000001), (0xA1000, 0x1), (0xA1008, 0x8001100C), (0xAA000, 0xA000005)] }, fld.phyOut := true, fld.port := [(0, { port0 with link := .up100 })], lge.rep0.cells := [(0x40000, .word 2 true)] } : State), by decide⟩,
   ⟨0, 0x0A000005, (telegramOf 5 (Config.cmac 0 (telegramHead 5))), 0, ({ live with img := some { station0 with cfg := [(0xA0020, 0x80000000), (0xA002C, 0xA000001), (0xA1000, 0x1), (0xA1008, 0x8001100C), (0xAA000, 0xA000005)] }, fld.phyOut := true, fld.port := [(0, { port0 with link := .up100 })] } : State), by decide, by decide, by decide, by decide, by decide, by decide, by decide, telegramOf_right 5 0⟩,
   ⟨0, 0x0A000005, (telegramOf 5 (Config.cmac 0 (telegramHead 5) + 1)), 0, ({ live with img := some { station0 with cfg := [(0xA0020, 0x80000000), (0xA002C, 0xA000001), (0xA1000, 0x1), (0xA1008, 0x8001100C), (0xAA000, 0xA000005)] }, fld.phyOut := true, fld.port := [(0, { port0 with link := .up100 })] } : State), by decide, by decide, by decide, by decide, by decide, by decide, by decide, telegramOf_wrong 5 0⟩⟩

theorem witness_CanSending :
    (∃ (c : Fin 2) (s : State), s.canWorks c.val = true ∧ (s.can c.val).onWire = none ∧ s.offers c.val ≠ []) ∧
    (∃ (c : Fin 2) (e : Nat) (s : State), TablesWf s ∧ s.canWorks c.val = true ∧ (s.can c.val).onWire = none ∧ s.offers c.val =
      [.queue e]) ∧
    (∃ (s : State), s.lane.st = .safe) ∧
    (∃ (c : Fin 2) (e : Nat) (s : State), TablesWf s ∧ s.canWorks c.val = true ∧ (s.can c.val).onWire = some (.queue e) ∧ (s.txEntry
      e).st = .started) ∧
    (∃ (c : Fin 2) (e : Nat) (s : State), TablesWf s ∧ s.canWorks c.val = true ∧ (s.can c.val).onWire = some (.queue e) ∧ (s.txEntry
      e).st = .started ∧ (s.can c.val).estate = .active) ∧
    (∃ (c : Fin 2) (tec : Nat) (s : State), TablesWf s ∧ s.canWorks c.val = true ∧ tec < 256) ∧
    (∃ (c : Fin 2) (tec : Nat) (s : State), TablesWf s ∧ s.canWorks c.val = true ∧ 256 ≤ tec) ∧
    (∃ (c : Fin 2) (s : State), TablesWf s ∧ s.img.isSome = true ∧ s.blockLive 11 = true ∧ (s.can c.val).estate = .busoff ∧ (s.can
      c.val).recovering = true) ∧
    (∃ (c : Fin 2) (s : State), s.img.isSome = true ∧ s.blockLive 11 = true ∧ canEn s.station c.val = true ∧ canTmen s.station c.val
      = true ∧ s.tae.timev = true ∧ s.lane.st ≠ .safe) ∧
    (∃ (c : Fin 2) (s : State), s.img.isSome = true ∧ s.blockLive 11 = true ∧ canEn s.station c.val = true ∧ canTmen s.station c.val
      = true ∧ s.tae.timev = true ∧ s.lane.st = .safe) :=
  ⟨⟨0, ({ live with img := some { station0 with cfg := [(0xB0020, 0xC000000A)] }, cab.ctl := [(0, { can0 with estate := .active })], cab.txq := [(4, { tx0 with st := .pending })] } : State), by decide⟩,
   ⟨0, 4, ({ live with img := some { station0 with cfg := [(0xB0020, 0xC000000A)] }, cab.ctl := [(0, { can0 with estate := .active })], cab.txq := [(4, { tx0 with st := .pending })] } : State), by decide⟩,
   ⟨({ live with img := some { station0 with cfg := [(0xB0020, 0xC000000A)] }, cab.ctl := [(0, { can0 with estate := .active })], cab.txq := [(4, { tx0 with st := .pending })], lane.st := .safe } : State), by decide⟩,
   ⟨0, 4, ({ live with img := some { station0 with cfg := [(0xB0020, 0xC000000A)] }, cab.ctl := [(0, { can0 with estate := .active, onWire := some (.queue 4) })], cab.txq := [(4, { tx0 with st := .started })] } : State), by decide⟩,
   ⟨0, 4, ({ live with img := some { station0 with cfg := [(0xB0020, 0xC000000A)] }, cab.ctl := [(0, { can0 with estate := .active, onWire := some (.queue 4) })], cab.txq := [(4, { tx0 with st := .started })] } : State), by decide⟩,
   ⟨0, 130, ({ live with img := some { station0 with cfg := [(0xB0020, 0xC000000A)] }, cab.ctl := [(0, { can0 with estate := .active })] } : State), by decide⟩,
   ⟨0, 256, ({ live with img := some { station0 with cfg := [(0xB0020, 0xC000000A)] }, cab.ctl := [(0, { can0 with estate := .active })], cab.txq := [(4, { tx0 with st := .started })] } : State), by decide⟩,
   ⟨0, ({ live with img := some { station0 with cfg := [(0xB0020, 0xC000000A)] }, cab.ctl := [(0, { can0 with estate := .busoff, recovering := true, tecN := 256 })] } : State), by decide⟩,
   ⟨0, ({ live with img := some { station0 with cfg := [(0xB0020, 0x8800000A)] } } : State), by decide⟩,
   ⟨0, ({ live with img := some { station0 with cfg := [(0xB0020, 0x8800000A)] }, lane.st := .safe } : State), by decide⟩⟩

theorem witness_CanReceivingAndQueue :
    (∃ (c : Fin 2) (f : CanFrame) (s : State) (m : Nat), f.wellFormed = true ∧ s.canWorks c.val = true ∧ (f.fdf && f.rtr) = false ∧
      (f.brs && !f.fdf) = false ∧ (canFden s.station c.val || !f.fdf) = true ∧ rxMaps s.station = [m] ∧ mapCtrl s.station m =
      c.val ∧ mapIde s.station m = f.ide ∧ mapFdf s.station m = f.fdf ∧ f.rtr = false ∧ mapId s.station m = canId f.ide
      f.ident.toNat ∧ 8 * f.data.length = (mapCells s.station m).2) ∧
    (∃ (c : Fin 2) (f : CanFrame) (s : State), f.wellFormed = true ∧ s.canWorks c.val = true ∧ (f.fdf && f.rtr) = false ∧ (f.brs &&
      !f.fdf) = false ∧ (canFden s.station c.val || !f.fdf) = true ∧ (∀ m ∈ rxMaps s.station, mapId s.station m ≠ canId f.ide
      f.ident.toNat) ∧ filterTakes s.station c.val f = true ∧ s.cab.rxq.length < 64) ∧
    (∃ (c : Fin 2) (f : CanFrame) (s : State), f.wellFormed = true ∧ s.canWorks c.val = true ∧ (f.fdf && f.rtr) = false ∧ (f.brs &&
      !f.fdf) = false ∧ (canFden s.station c.val || !f.fdf) = true ∧ (∀ m ∈ rxMaps s.station, mapId s.station m ≠ canId f.ide
      f.ident.toNat) ∧ filterTakes s.station c.val f = true ∧ 64 ≤ s.cab.rxq.length) ∧
    (∃ (c : Fin 2) (f : CanFrame) (s : State), f.wellFormed = true ∧ s.canWorks c.val = false) ∧
    (∃ (sid : BitVec 16) (s : State) (e : Nat), MayWrite s sid 0x0B0004 2 ∧ s.freeEntry = some e ∧ canAllowed s.stagedFrame = true) ∧
    (∃ (sid : BitVec 16) (s : State), MayWrite s sid 0x0B0004 2 ∧ s.freeEntry = none) ∧
    (∃ (sid : BitVec 16) (e : Fin 32) (s : State), MayWrite s sid 0x0B0008 2 ∧ (s.txEntry e.val).st = .pending) ∧
    (∃ (sid : BitVec 16) (e : Fin 32) (s : State), MayWrite s sid 0x0B0008 2 ∧ (s.txEntry e.val).st = .started) ∧
    (∃ (sid : BitVec 16) (e : Fin 32) (s : State), MayWrite s sid 0x0B0008 2 ∧ (s.txEntry e.val).st = .free) ∧
    (∃ (sid : BitVec 16) (e : Fin 32) (s : State), TablesWf s ∧ MayWrite s sid (0x0B0200 + 4 * e.val) 2 ∧ (s.txEntry e.val).st =
      .completed) ∧
    (∃ (sid : BitVec 16) (e : Fin 32) (s : State), TablesWf s ∧ MayWrite s sid (0x0B0200 + 4 * e.val) 2 ∧ (s.txEntry e.val).st =
      .pending) ∧
    (∃ (sid : BitVec 16) (s : State), MayWrite s sid 0x0B0010 2) ∧
    (∃ (sid : BitVec 16) (c : Fin 2) (s : State), MayWrite s sid (0x0B002C + 64 * c.val) 2 ∧ (s.can c.val).estate = .busoff) ∧
    (∃ (sid : BitVec 16) (c : Fin 2) (s : State), MayWrite s sid (0x0B002C + 64 * c.val) 2 ∧ (s.can c.val).estate ≠ .busoff) :=
  ⟨⟨0, { canFrame0 with dlc := 1, ident := 0x123, data := [5] }, ({ live with img := some { station0 with cfg := [(0xB0020, 0xC000000A), (0xB0420, 0x80000123), (0xB0424, 0x10000)] }, cab.ctl := [(0, { can0 with estate := .active })] } : State), 2, by decide⟩,
   ⟨0, { canFrame0 with dlc := 1, ident := 0x123, data := [5] }, ({ live with img := some { station0 with cfg := [(0xB0020, 0xC000000A), (0xB0800, 0x80000000)] }, cab.ctl := [(0, { can0 with estate := .active })] } : State), by decide⟩,
   ⟨0, { canFrame0 with dlc := 1, ident := 0x123, data := [5] }, ({ live with img := some { station0 with cfg := [(0xB0020, 0xC000000A), (0xB0800, 0x80000000)] }, cab.ctl := [(0, { can0 with estate := .active })], cab.rxq := List.replicate 64 { ctrl := 0, frame := canFrame0, sof := 0 } } : State), by decide⟩,
   ⟨0, { canFrame0 with dlc := 1, ident := 0x123, data := [5] }, live, by decide⟩,
   ⟨0, (opened live 2), 0, opened_writes live 0x0B0004 2 (by decide) (by decide) (by decide), by decide, by decide⟩,
   ⟨0, (opened ({ live with cab.txq := (List.range 32).map fun e => (e, { tx0 with st := .pending }) } : State) 2), opened_writes ({ live with cab.txq := (List.range 32).map fun e => (e, { tx0 with st := .pending }) } : State) 0x0B0004 2 (by decide) (by decide) (by decide), by decide⟩,
   ⟨0, 4, (opened ({ live with cab.txq := [(4, { tx0 with st := .pending })] } : State) 2), opened_writes ({ live with cab.txq := [(4, { tx0 with st := .pending })] } : State) 0x0B0008 2 (by decide) (by decide) (by decide), by decide⟩,
   ⟨0, 4, (opened ({ live with cab.txq := [(4, { tx0 with st := .started })] } : State) 2), opened_writes ({ live with cab.txq := [(4, { tx0 with st := .started })] } : State) 0x0B0008 2 (by decide) (by decide) (by decide), by decide⟩,
   ⟨0, 4, (opened live 2), opened_writes live 0x0B0008 2 (by decide) (by decide) (by decide), by decide⟩,
   ⟨0, 4, (opened ({ live with cab.txq := [(4, { tx0 with st := .completed })] } : State) 2), by decide, opened_writes ({ live with cab.txq := [(4, { tx0 with st := .completed })] } : State) (0x0B0200 + 4 * (4 : Fin 32).val) 2 (by decide) (by decide) (by decide), by decide⟩,
   ⟨0, 4, (opened ({ live with cab.txq := [(4, { tx0 with st := .pending })] } : State) 2), by decide, opened_writes ({ live with cab.txq := [(4, { tx0 with st := .pending })] } : State) (0x0B0200 + 4 * (4 : Fin 32).val) 2 (by decide) (by decide) (by decide), by decide⟩,
   ⟨0, (opened ({ live with cab.rxq := [{ ctrl := 0, frame := canFrame0, sof := 0 }] } : State) 2), opened_writes ({ live with cab.rxq := [{ ctrl := 0, frame := canFrame0, sof := 0 }] } : State) 0x0B0010 2 (by decide) (by decide) (by decide)⟩,
   ⟨0, 1, (opened ({ live with cab.ctl := [(1, { can0 with estate := .busoff })] } : State) 2), opened_writes ({ live with cab.ctl := [(1, { can0 with estate := .busoff })] } : State) (0x0B002C + 64 * (1 : Fin 2).val) 2 (by decide) (by decide) (by decide), by decide⟩,
   ⟨0, 1, (opened live 2), opened_writes live (0x0B002C + 64 * (1 : Fin 2).val) 2 (by decide) (by decide) (by decide), by decide⟩⟩

theorem witness_RecordsAndFlushes :
    (∃ (sev : Fin 6) (data : List Byte) (s : State), data.length = 8 ∧ s.crt.rootLost = false ∧ s.recOpen = true ∧ s.cfgField
      0x0C0000 1 0 4 ≤ sev.val ∧ s.rcd.frozen = false ∧ s.rcd.buf.length < 8192) ∧
    (∃ (sev : Fin 6) (data : List Byte) (s : State), data.length = 8 ∧ s.crt.rootLost = false ∧ s.recOpen = true ∧ s.cfgField
      0x0C0000 1 0 4 ≤ sev.val ∧ s.rcd.frozen = false ∧ 8192 ≤ s.rcd.buf.length) ∧
    (∃ (sev : Fin 6) (data : List Byte) (s : State), data.length = 8 ∧ sev.val < s.cfgField 0x0C0000 1 0 4) ∧
    (∃ (sev : Fin 6) (data : List Byte) (s : State), data.length = 8 ∧ s.cfgField 0x0C0000 1 0 4 ≤ sev.val ∧ s.crt.rootLost = true) ∧
    (∃ (s : State), s.recRuns = true ∧ s.rcd.frozen = false) ∧
    (∃ (s : State), s.rcd.flush = true ∧ s.rcd.frozen = false ∧ s.recRuns = true ∧ 1 ≤ s.rcd.msize ∧ s.rcd.pages = [] ∧ s.rcd.buf ≠
      [] ∧ s.rcd.buf.length ≤ 128 ∧ s.rcd.drops = []) ∧
    (∃ (s : State), s.rcd.flush = true ∧ s.rcd.frozen = false ∧ s.recRuns = true ∧ 1 ≤ s.rcd.msize) ∧
    (∃ (s : State), s.rcd.flush = false) ∧
    (∃ (s : State), s.rcd.frozen = true ∧ s.recRuns = true) :=
  ⟨⟨4, (List.replicate 8 1), live, by decide⟩,
   ⟨4, (List.replicate 8 1), ({ live with rcd.buf := List.replicate 8192 record0 } : State), by decide +kernel⟩,
   ⟨0, (List.replicate 8 1), live, by decide⟩,
   ⟨4, (List.replicate 8 1), ({ live with crt.rootLost := true } : State), by decide⟩,
   ⟨live, by decide⟩,
   ⟨({ live with rcd.flush := true, rcd.msize := 16, rcd.buf := [record0] } : State), by decide⟩,
   ⟨({ live with rcd.flush := true, rcd.msize := 16 } : State), by decide⟩,
   ⟨live, by decide⟩,
   ⟨({ live with rcd.frozen := true } : State), by decide⟩⟩

theorem witness_Freezes :
    (∃ (sid : BitVec 16) (s : State), Authorised s sid 0x0C0060 1 2 ∧ s.rcd.frozen = false ∧ s.rcd.frzWait = false ∧ s.rcd.legStat ≠
      1) ∧
    (∃ (sid : BitVec 16) (s : State), Authorised s sid 0x0C0060 1 2 ∧ (s.rcd.frozen = true ∨ s.rcd.frzWait = true ∨ s.rcd.legStat =
      1)) ∧
    (∃ (s : State), s.rcd.frzWait = true ∧ s.rcd.flush = false ∧ s.recRuns = true) ∧
    (∃ (s : State), s.rcd.frozen = true ∧ s.recRuns = true) ∧
    (∃ (sid : BitVec 16) (s : State), Authorised s sid 0x0C0060 2 2 ∧ s.rcd.frozen = true) ∧
    (∃ (sid : BitVec 16) (s : State), Authorised s sid 0x0C0060 2 2 ∧ s.rcd.frozen = false ∧ s.rcd.frzWait = true) ∧
    (∃ (sid : BitVec 16) (s : State), Authorised s sid 0x0C0060 2 2 ∧ s.rcd.frozen = false ∧ s.rcd.frzWait = false) ∧
    (∃ (sev : Fin 6) (data : List Byte) (s : State), data.length = 8 ∧ s.crt.rootLost = false ∧ s.recOpen = true ∧ s.cfgField
      0x0C0000 1 0 4 ≤ sev.val ∧ s.rcd.frozen = true ∧ s.heldRecs.length = 4096 ∧ s.rcd.frzFirst ≤ s.rcd.seqNext) :=
  ⟨⟨0, (armed live 0x0C0060 1 2), armed_authorised live 0x0C0060 1 2 (by decide) rfl (by decide) (by decide) (by decide), by decide, by decide, by decide⟩,
   ⟨0, (armed ({ live with rcd.frozen := true } : State) 0x0C0060 1 2), armed_authorised ({ live with rcd.frozen := true } : State) 0x0C0060 1 2 (by decide) rfl (by decide) (by decide) (by decide), by decide⟩,
   ⟨({ live with rcd.frzWait := true } : State), by decide⟩,
   ⟨({ live with rcd.frozen := true, rcd.buf := [record0] } : State), by decide⟩,
   ⟨0, (armed ({ live with rcd.frozen := true } : State) 0x0C0060 2 2), armed_authorised ({ live with rcd.frozen := true } : State) 0x0C0060 2 2 (by decide) rfl (by decide) (by decide) (by decide), by decide⟩,
   ⟨0, (armed ({ live with rcd.frzWait := true } : State) 0x0C0060 2 2), armed_authorised ({ live with rcd.frzWait := true } : State) 0x0C0060 2 2 (by decide) rfl (by decide) (by decide) (by decide), by decide, by decide⟩,
   ⟨0, (armed live 0x0C0060 2 2), armed_authorised live 0x0C0060 2 2 (by decide) rfl (by decide) (by decide) (by decide), by decide, by decide⟩,
   ⟨4, (List.replicate 8 1), ({ live with rcd.frozen := true, rcd.buf := List.replicate 4096 record0 } : State), by decide +kernel⟩⟩

theorem witness_CursorsAndLegacyAccess :
    (∃ (sid : BitVec 16) (s : State), MayWrite s sid 0x0C0020 1) ∧
    (∃ (sid : BitVec 16) (s : State) (c : Nat), MayWrite s sid 0x0C0020 1 ∧ s.cursorOf sid.toNat = some c) ∧
    (∃ (sid : BitVec 16) (s : State) (x : Session), MayWrite s sid 0x0C0020 1 ∧ s.session sid.toNat = some x) ∧
    (∃ (l : List Record) (r : Record), lowestRec l = some r) ∧
    (∃ (l : List Record) (r : Record) (x : Record), lowestRec l = some r ∧ x ∈ l) ∧
    (∃ (l : List Record) (r : Record), highestRec l = some r) ∧
    (∃ (l : List Record) (r : Record) (x : Record), highestRec l = some r ∧ x ∈ l) ∧
    (∃ (r : Record) (s : State), s.legServes = true ∧ s.legRecord = some r) ∧
    (∃ (s : State), s.legServes = false) ∧
    (∃ (sid : BitVec 16) (key : BitVec 16) (s : State), MayWrite s sid 0x0C0088 2 ∧ s.cmpt = true ∧ s.rcd.frozen = false ∧
      s.rcd.legStat ≠ 1 ∧ key.toNat = 0x5A5A) ∧
    (∃ (sid : BitVec 16) (key : BitVec 16) (s : State), MayWrite s sid 0x0C0088 2 ∧ s.cmpt = true ∧ s.rcd.frozen = false ∧
      s.rcd.legStat = 1 ∧ key.toNat = 0xA5A5 ∧ s.rcd.legSess = some sid.toNat ∧ s.pins.now ≤ s.rcd.legAt + 1000000000) ∧
    (∃ (sid : BitVec 16) (key : BitVec 16) (s : State), MayWrite s sid 0x0C0088 2 ∧ s.cmpt = true ∧ s.rcd.frozen = false ∧
      s.rcd.legStat = 1 ∧ key.toNat ≠ 0xA5A5) ∧
    (∃ (s : State), s.rcd.legStat = 1) :=
  ⟨⟨0, (opened ({ live with rcd.buf := [{ record0 with seq := 3 }, { record0 with seq := 5 }] } : State) 1), opened_writes ({ live with rcd.buf := [{ record0 with seq := 3 }, { record0 with seq := 5 }] } : State) 0x0C0020 1 (by decide) (by decide) (by decide)⟩,
   ⟨0, ({ live with rcd.buf := [{ record0 with seq := 3 }, { record0 with seq := 5 }], sup.sessions := [{ Session.fresh 0 none with st := .opened, level := 1, cursor := some 3, cseq := 4 }] } : State), 3, ⟨_, rfl, by decide⟩, by decide⟩,
   ⟨0, ({ live with rcd.buf := [{ record0 with seq := 3 }, { record0 with seq := 5 }], sup.sessions := [{ Session.fresh 0 none with st := .opened, level := 1, cursor := some 3, cseq := 4 }] } : State), { Session.fresh 0 none with st := .opened, level := 1, cursor := some 3, cseq := 4 }, ⟨_, rfl, by decide⟩, by decide⟩,
   ⟨[record0], record0, by decide⟩,
   ⟨[record0], record0, record0, by decide⟩,
   ⟨[record0], record0, by decide⟩,
   ⟨[record0], record0, record0, by decide⟩,
   ⟨{ record0 with seq := 3 }, ({ live with rcd.buf := [{ record0 with seq := 3 }, { record0 with seq := 5 }], lane.eff := 0x1000 } : State), by decide⟩,
   ⟨live, by decide⟩,
   ⟨0, 0x5A5A, (opened ({ live with lane.eff := 0x1000 } : State) 2), opened_writes ({ live with lane.eff := 0x1000 } : State) 0x0C0088 2 (by decide) (by decide) (by decide), by decide, by decide, by decide, by decide⟩,
   ⟨0, 0xA5A5, (opened ({ live with lane.eff := 0x1000, rcd.legStat := 1, rcd.legSess := some 0, rcd.buf := [{ record0 with seq := 3 }, { record0 with seq := 5 }] } : State) 2), opened_writes ({ live with lane.eff := 0x1000, rcd.legStat := 1, rcd.legSess := some 0, rcd.buf := [{ record0 with seq := 3 }, { record0 with seq := 5 }] } : State) 0x0C0088 2 (by decide) (by decide) (by decide), by decide, by decide, by decide, by decide, by decide, by decide⟩,
   ⟨0, 7, (opened ({ live with lane.eff := 0x1000, rcd.legStat := 1 } : State) 2), opened_writes ({ live with lane.eff := 0x1000, rcd.legStat := 1 } : State) 0x0C0088 2 (by decide) (by decide) (by decide), by decide, by decide, by decide, by decide⟩,
   ⟨({ live with rcd.legStat := 1 } : State), by decide⟩⟩

theorem witness_SelfAndPlannedTests :
    (∃ (s : State), s.idleTime = true ∧ s.crt.lock = true ∧ s.bgmt = true ∧ s.lge.marchDue = false) ∧
    (∃ (m : BistMemory) (s : State), s.idleTime = true ∧ s.crt.lock = true ∧ s.bgmt = true ∧ (m = .lgeProgram ∨ m = .lgeState) ∧
      s.voting = true) ∧
    (∃ (m : BistMemory) (s : State), s.idleTime = true ∧ s.crt.lock = true ∧ s.bgmt = true ∧ m = .supSram ∧ s.lane.safeLatch = false) ∧
    (∃ (s : State), s.idleTime = true ∧ s.bgmt = true ∧ s.lge.split = false ∧ s.blockLive 4 = true) ∧
    (∃ (s : State), s.idleTime = true ∧ s.bgmt = true ∧ s.lge.split = false ∧ s.blockLive 4 = true ∧ s.voting = true) ∧
    (∃ (x : SelfTest) (d : Nat) (s : State), s.crt.test = some x ∧ x.planned = false ∧ x.second = false ∧ x.thenMem = false ∧
      s.lane.st = .run ∧ s.lane.role = .excluded ∧ s.grd.gmode = .checking ∧ (s.advance (x.startAt + d * 100000)).transOf x.unit
      < 3) ∧
    (∃ (x : SelfTest) (s : State), s.crt.test = some x ∧ x.planned = false ∧ x.second = false ∧ x.thenMem = false ∧ s.lane.st = .run
      ∧ s.lane.role = .excluded ∧ s.grd.gmode = .checking) ∧
    (∃ (x : SelfTest) (d : Nat) (s : State), s.crt.test = some x ∧ x.planned = false ∧ x.second = false ∧ x.thenMem = false ∧
      s.lane.st = .run ∧ s.lane.role = .excluded ∧ s.grd.gmode = .checking ∧ 3 ≤ (s.advance (x.startAt + d * 100000)).transOf
      x.unit) ∧
    (∃ (u : Fin 5) (x : Transient) (s : State), ((s.crt.trans.find? fun y => decide (y.unit = faultUnitOf u)) = some x)) ∧
    (∃ (sid : BitVec 16) (g : Fin 3) (s : State), Authorised s sid 0x010020 (16 * g.val + 1) 2 ∧ s.crt.test = none ∧ s.crt.bistWait =
      false ∧ s.lane.st = .run) ∧
    (∃ (sid : BitVec 16) (g : Fin 3) (s : State), Authorised s sid 0x010020 (16 * g.val + 1) 2 ∧ s.crt.test = none ∧ s.crt.bistWait =
      false ∧ s.lane.st = .stop) ∧
    (∃ (sid : BitVec 16) (g : Fin 3) (s : State), Authorised s sid 0x010020 (16 * g.val + 1) 2 ∧ s.crt.test = none ∧ s.crt.bistWait =
      false ∧ s.lane.st ≠ .run ∧ s.lane.st ≠ .stop) ∧
    (∃ (sid : BitVec 16) (s : State), Authorised s sid 0x010020 2 2 ∧ s.crt.bistWait = true) ∧
    (∃ (sid : BitVec 16) (g : Fin 3) (s : State), Authorised s sid 0x010020 (16 * g.val + 1) 2 ∧ (s.crt.bistWait = true ∨
      s.crt.test.isSome = true)) ∧
    (∃ (s : State), s.bistper ≠ 0 ∧ s.crtRuns = true ∧ s.img.isSome = true ∧ s.crt.bistWait = false ∧ s.crt.test = none ∧ s.lane.st =
      .run) ∧
    (∃ (n : Nat) (s : State), s.crt.bistWait = true ∧ s.crt.test = none ∧ s.voting = true ∧ s.commitNow = some n ∧ n % 3 = s.lid ∧ ((s.setNodes.all fun k => match s.heard (n * s.cycL + s.cycC - 1) k with | some h => hPlanned h | none => false) = true)) :=
  ⟨⟨({ live with tae.phase := 11 } : State), by decide⟩,
   ⟨.lgeState, ({ live with tae.phase := 11, lane.driving := true } : State), by decide⟩,
   ⟨.supSram, ({ live with tae.phase := 11 } : State), by decide⟩,
   ⟨({ live with tae.phase := 11 } : State), by decide⟩,
   ⟨({ live with tae.phase := 11 } : State), by decide⟩,
   ⟨(selfTest .lge), 7, ({ live with crt.test := some (selfTest .lge), lane.role := .excluded, grd.gmode := .checking, lane.implicated := some .lge } : State), by decide⟩,
   ⟨(selfTest .lge), ({ live with crt.test := some (selfTest .lge), lane.role := .excluded, grd.gmode := .checking } : State), by decide⟩,
   ⟨(selfTest .lge), 7, ({ live with crt.test := some (selfTest .lge), lane.role := .excluded, grd.gmode := .checking, crt.trans := List.replicate 3 { unit := .lge, at_ := 0 } } : State), by decide⟩,
   ⟨1, { unit := faultUnitOf 1, at_ := 7 }, ({ live with crt.trans := [{ unit := faultUnitOf 1, at_ := 7 }] } : State), by decide⟩,
   ⟨0, 1, (armed live 0x010020 (16 * (1 : Fin 3).val + 1) 2), armed_authorised live 0x010020 (16 * (1 : Fin 3).val + 1) 2 (by decide) rfl (by decide) (by decide) (by decide), by decide, by decide, by decide⟩,
   ⟨0, 1, (armed ({ live with lane.st := .stop } : State) 0x010020 (16 * (1 : Fin 3).val + 1) 2), armed_authorised ({ live with lane.st := .stop } : State) 0x010020 (16 * (1 : Fin 3).val + 1) 2 (by decide) rfl (by decide) (by decide) (by decide), by decide, by decide, by decide⟩,
   ⟨0, 1, (armed ({ live with lane.st := .integrate } : State) 0x010020 (16 * (1 : Fin 3).val + 1) 2), armed_authorised ({ live with lane.st := .integrate } : State) 0x010020 (16 * (1 : Fin 3).val + 1) 2 (by decide) rfl (by decide) (by decide) (by decide), by decide, by decide, by decide, by decide⟩,
   ⟨0, (armed ({ live with crt.bistWait := true } : State) 0x010020 2 2), armed_authorised ({ live with crt.bistWait := true } : State) 0x010020 2 2 (by decide) rfl (by decide) (by decide) (by decide), by decide⟩,
   ⟨0, 1, (armed ({ live with crt.bistWait := true } : State) 0x010020 (16 * (1 : Fin 3).val + 1) 2), armed_authorised ({ live with crt.bistWait := true } : State) 0x010020 (16 * (1 : Fin 3).val + 1) 2 (by decide) rfl (by decide) (by decide) (by decide), by decide⟩,
   ⟨({ live with img := some { station0 with cfg := [(0x10024, 0x18)] } } : State), by decide⟩,
   ⟨0, ({ live with grd.gmode := .checking, crt.bistWait := true, pins.now := 2000000, lnb.node := [(1, { node0 with health := some (0xF007, 1) }), (2, { node0 with health := some (0xF007, 1) })], lnb.m := 1 } : State), by decide⟩⟩

theorem witness_SoftResetsAndGates :
    (∃ (sid : BitVec 16) (k : BitVec 4) (s : State), Authorised s sid 0x010010 k.toNat 3 ∧ s.srstState k.toNat = true ∧
      s.crt.gate.getLsbD k.toNat = true ∧ s.crt.inReset = 0 ∧ s.crt.stuck = 0) ∧
    (∃ (sid : BitVec 16) (k : BitVec 4) (s : State), Authorised s sid 0x010010 k.toNat 3 ∧ s.srstState k.toNat = false) ∧
    (∃ (k : Nat) (s : State), s.srstNext = some k ∧ s.crt.srst = .running ∧ s.crt.srstBlk = k ∧ s.crt.clken.getLsbD k = true) ∧
    (∃ (sid : BitVec 16) (v : Word) (k : Nat) (s : State), Authorised s sid 0x010004 v.toNat 3 ∧ 3 ≤ k ∧ k ≤ 12 ∧ v.getLsbD k = false
      ∧ s.crt.clken.getLsbD k = true ∧ s.crt.inReset.getLsbD k = false ∧ s.lane.st = .stop) ∧
    (∃ (sid : BitVec 16) (v : Word) (k : Nat) (s : State), Authorised s sid 0x010004 v.toNat 3 ∧ 3 ≤ k ∧ k ≤ 12 ∧ k ∈ [3, 5, 6, 7, 9]
      ∧ s.crt.clken.getLsbD k = true ∧ (s.lane.st = .run ∨ s.lane.st = .prove)) ∧
    (∃ (sid : BitVec 16) (v : Word) (k : Nat) (s : State), Authorised s sid 0x010004 v.toNat 3 ∧ 3 ≤ k ∧ k ≤ 12 ∧ v.getLsbD k = true
      ∧ s.crt.clken.getLsbD k = false ∧ s.crt.inReset.getLsbD k = false) ∧
    (∃ (k : Fin 13) (s : State), s.crt.closing.getLsbD k.val = true) :=
  ⟨⟨0, 7, (armed ({ live with lane.st := .stop } : State) 0x010010 (7 : BitVec 4).toNat 3), armed_authorised ({ live with lane.st := .stop } : State) 0x010010 (7 : BitVec 4).toNat 3 (by decide) rfl (by decide) (by decide) (by decide), by decide, by decide, by decide, by decide⟩,
   ⟨0, 7, (armed live 0x010010 (7 : BitVec 4).toNat 3), armed_authorised live 0x010010 (7 : BitVec 4).toNat 3 (by decide) rfl (by decide) (by decide) (by decide), by decide⟩,
   ⟨7, ({ live with crt.srst := .running, crt.srstBlk := 7, crt.inReset := 0x80 } : State), by decide⟩,
   ⟨0, 0x1F7E, 7, (armed ({ live with lane.st := .stop } : State) 0x010004 (0x1F7E : Word).toNat 3), armed_authorised ({ live with lane.st := .stop } : State) 0x010004 (0x1F7E : Word).toNat 3 (by decide) rfl (by decide) (by decide) (by decide), by decide, by decide, by decide, by decide, by decide, by decide⟩,
   ⟨0, 0x1F7E, 7, (armed live 0x010004 (0x1F7E : Word).toNat 3), armed_authorised live 0x010004 (0x1F7E : Word).toNat 3 (by decide) rfl (by decide) (by decide) (by decide), by decide, by decide, by decide, by decide, by decide⟩,
   ⟨0, 0x1FFE, 7, (armed ({ live with crt.clken := 0x1F7E, crt.gate := 0x1F7E } : State) 0x010004 (0x1FFE : Word).toNat 3), armed_authorised ({ live with crt.clken := 0x1F7E, crt.gate := 0x1F7E } : State) 0x010004 (0x1FFE : Word).toNat 3 (by decide) rfl (by decide) (by decide) (by decide), by decide, by decide, by decide, by decide, by decide⟩,
   ⟨7, ({ live with crt.closing := 0x80 } : State), by decide⟩⟩

theorem witness_Sessions :
    (∃ (level : BitVec 4) (s : State) (x : Session), s.supServes = true ∧ s.session 0 = some x ∧ s.levelAllowed level.toNat = true ∧
      s.lockedOut 0 = false) ∧
    (∃ (level : BitVec 4) (s : State) (x : Session), s.supServes = true ∧ s.session 0 = some x ∧ (s.levelAllowed level.toNat = false
      ∨ s.lockedOut 0 = true)) ∧
    (∃ (p : Peer) (level : BitVec 4) (s : State), s.fmpReach p.port.val = true ∧ s.fmpOpens p level.toNat = true ∧ s.session
      s.freeSession = none) ∧
    (∃ (p : Peer) (level : BitVec 4) (s : State), s.fmpReach p.port.val = true ∧ s.fmpOpens p level.toNat = false) ∧
    (∃ (sid : BitVec 16) (hi : Word) (x : Session) (s : State), TablesWf s ∧ s.supServes = true ∧ s.session sid.toNat = some x ∧ x.st
      = .challenged ∧ s.pins.now ≤ x.chalAt + 10000000000 ∧ s.respRight x (hi ++ x.respLo) = true) ∧
    (∃ (sid : BitVec 16) (hi : Word) (x : Session) (s : State), TablesWf s ∧ s.supServes = true ∧ s.session sid.toNat = some x ∧ x.st
      = .challenged ∧ s.pins.now ≤ x.chalAt + 10000000000 ∧ s.respRight x (hi ++ x.respLo) = false) ∧
    (∃ (sid : BitVec 16) (x : Session) (s : State), TablesWf s ∧ s.supServes = true ∧ s.session sid.toNat = some x ∧ x.st =
      .challenged ∧ x.chalAt + 10000000000 < s.pins.now) ∧
    (∃ (sid : BitVec 16) (x : Session) (s : State), s.session sid.toNat = some x ∧ x.st = .challenged) ∧
    (∃ (k : Fin 3) (s : State), TablesWf s ∧ (tabGet path0 k.val s.sup.paths).locked = true) ∧
    (∃ (sid : BitVec 16) (x : Session) (s : State), s.session sid.toNat = some x ∧ x.st = .opened ∧ s.supServes = true) ∧
    (∃ (sid : BitVec 16) (x : Session) (s : State), s.session sid.toNat = some x ∧ x.st = .opened) ∧
    (∃ (sid : BitVec 16) (x : Session) (k : TokenArm) (s : State), s.session sid.toNat = some x ∧ x.tok = some k) :=
  ⟨⟨2, live, (Session.fresh 0 none), by decide⟩,
   ⟨5, live, (Session.fresh 0 none), by decide⟩,
   ⟨{ ip := 0x0A000009, udp := 700, port := 0 }, 2, ({ live with img := some { station0 with cfg := [(0xA0020, 0x80000000), (0xA002C, 0xA000001)] }, fld.phyOut := true, fld.port := [(0, { port0 with link := .up100 })] } : State), by decide⟩,
   ⟨{ ip := 0x0A000009, udp := 700, port := 0 }, 5, ({ live with img := some { station0 with cfg := [(0xA0020, 0x80000000), (0xA002C, 0xA000001)] }, fld.phyOut := true, fld.port := [(0, { port0 with link := .up100 })] } : State), by decide⟩,
   ⟨0, (response.extractLsb' 32 32), answering, challenged, by decide, by decide, rfl, by decide, by decide, response_right⟩,
   ⟨0, 5, { Session.fresh 0 none with st := .challenged, reqLevel := 2, chalAt := 0 }, ({ live with sup.sessions := [{ Session.fresh 0 none with st := .challenged, reqLevel := 2, chalAt := 0 }], sup.keys := [(1, 5)] } : State), by decide, by decide, rfl, by decide, by decide, by decide⟩,
   ⟨0, { Session.fresh 0 none with st := .challenged, reqLevel := 2, chalAt := 0 }, ({ live with sup.sessions := [{ Session.fresh 0 none with st := .challenged, reqLevel := 2, chalAt := 0 }], pins.now := 10000000001 } : State), by decide, by decide, rfl, by decide, by decide⟩,
   ⟨0, { Session.fresh 0 none with st := .challenged, reqLevel := 2, chalAt := 0 }, ({ live with sup.sessions := [{ Session.fresh 0 none with st := .challenged, reqLevel := 2, chalAt := 0 }] } : State), rfl, by decide⟩,
   ⟨1, ({ live with sup.paths := [(1, { failures := 8, locked := true, since := 5 })] } : State), by decide⟩,
   ⟨0, { Session.fresh 0 none with st := .opened, level := 2 }, ({ live with sup.sessions := [{ Session.fresh 0 none with st := .opened, level := 2 }], upd.lock := some 0, rcd.frozen := true } : State), rfl, by decide, by decide⟩,
   ⟨0, { Session.fresh 0 none with st := .opened, level := 2 }, ({ live with sup.sessions := [{ Session.fresh 0 none with st := .opened, level := 2 }], upd.lock := some 0, upd.write := some { slot := true, written := [1], hdr := none, cur := 1, buf := [] } } : State), rfl, by decide⟩,
   ⟨0, { Session.fresh 0 none with tok := some { value := 5, tcnt := 1, at_ := 0 } }, { value := 5, tcnt := 1, at_ := 0 }, ({ live with sup.sessions := [{ Session.fresh 0 none with tok := some { value := 5, tcnt := 1, at_ := 0 } }] } : State), rfl, by decide⟩⟩

theorem witness_RegistersWritten :
    (∃ (i : Instr) (sid : BitVec 16) (a : BitVec 24) (v : Word), asWrite i = some (sid, a, v)) ∧
    (∃ (sid : BitVec 16) (s : State), MayWrite s sid 0x01000C 2) ∧
    (∃ (sid : BitVec 16) (s : State), MayWrite s sid 0x030008 2) ∧
    (∃ (sid : BitVec 16) (s : State), MayWrite s sid 0x040008 2) ∧
    (∃ (sid : BitVec 16) (s : State), MayWrite s sid 0x090050 2) ∧
    (∃ (sid : BitVec 16) (s : State), MayWrite s sid 0x0C0008 2) ∧
    (∃ (sid : BitVec 16) (s : State), MayWrite s sid 0x030028 2) ∧
    (∃ (sid : BitVec 16) (s : State), MayWrite s sid 0x0D0040 2) ∧
    (∃ (sid : BitVec 16) (s : State), MayWrite s sid 0x0D0050 2) ∧
    (∃ (s : State), s.supServes = true) ∧
    (∃ (s : State), s.supServes = false) ∧
    (∃ (s : State), MayWrite s 0 0x10 1) ∧
    (∃ (a : BitVec 24), a.toNat % 4 ≠ 0) ∧
    (∃ (i : Instr) (sid : BitVec 16) (a : BitVec 24) (v : Word) (l : Nat) (s : State), asWrite i = some (sid, a, v) ∧ cmdLevel
      a.toNat v.toNat = some l ∧ ¬ Authorised s sid a.toNat v.toNat l) :=
  ⟨⟨(.stop 0), 0, 0x28, 3, by decide⟩,
   ⟨0, (opened ({ live with crt.evt := 7, tae.evt := 7, lge.evt := 7, lnb.sevt := 7, rcd.evt := 7 } : State) 2), opened_writes ({ live with crt.evt := 7, tae.evt := 7, lge.evt := 7, lnb.sevt := 7, rcd.evt := 7 } : State) 0x01000C 2 (by decide) (by decide) (by decide)⟩,
   ⟨0, (opened ({ live with crt.evt := 7, tae.evt := 7, lge.evt := 7, lnb.sevt := 7, rcd.evt := 7 } : State) 2), opened_writes ({ live with crt.evt := 7, tae.evt := 7, lge.evt := 7, lnb.sevt := 7, rcd.evt := 7 } : State) 0x030008 2 (by decide) (by decide) (by decide)⟩,
   ⟨0, (opened ({ live with crt.evt := 7, tae.evt := 7, lge.evt := 7, lnb.sevt := 7, rcd.evt := 7 } : State) 2), opened_writes ({ live with crt.evt := 7, tae.evt := 7, lge.evt := 7, lnb.sevt := 7, rcd.evt := 7 } : State) 0x040008 2 (by decide) (by decide) (by decide)⟩,
   ⟨0, (opened ({ live with crt.evt := 7, tae.evt := 7, lge.evt := 7, lnb.sevt := 7, rcd.evt := 7 } : State) 2), opened_writes ({ live with crt.evt := 7, tae.evt := 7, lge.evt := 7, lnb.sevt := 7, rcd.evt := 7 } : State) 0x090050 2 (by decide) (by decide) (by decide)⟩,
   ⟨0, (opened ({ live with crt.evt := 7, tae.evt := 7, lge.evt := 7, lnb.sevt := 7, rcd.evt := 7 } : State) 2), opened_writes ({ live with crt.evt := 7, tae.evt := 7, lge.evt := 7, lnb.sevt := 7, rcd.evt := 7 } : State) 0x0C0008 2 (by decide) (by decide) (by decide)⟩,
   ⟨0, (opened ({ live with crt.evt := 7, tae.evt := 7, lge.evt := 7, lnb.sevt := 7, rcd.evt := 7 } : State) 2), opened_writes ({ live with crt.evt := 7, tae.evt := 7, lge.evt := 7, lnb.sevt := 7, rcd.evt := 7 } : State) 0x030028 2 (by decide) (by decide) (by decide)⟩,
   ⟨0, (opened ({ live with crt.evt := 7, tae.evt := 7, lge.evt := 7, lnb.sevt := 7, rcd.evt := 7 } : State) 2), opened_writes ({ live with crt.evt := 7, tae.evt := 7, lge.evt := 7, lnb.sevt := 7, rcd.evt := 7 } : State) 0x0D0040 2 (by decide) (by decide) (by decide)⟩,
   ⟨0, (opened ({ live with crt.evt := 7, tae.evt := 7, lge.evt := 7, lnb.sevt := 7, rcd.evt := 7 } : State) 2), opened_writes ({ live with crt.evt := 7, tae.evt := 7, lge.evt := 7, lnb.sevt := 7, rcd.evt := 7 } : State) 0x0D0050 2 (by decide) (by decide) (by decide)⟩,
   ⟨live, by decide⟩,
   ⟨({ live with lane.supHalted := true } : State), by decide⟩,
   ⟨(opened ({ live with lane.attn := 7 } : State) 1), opened_writes ({ live with lane.attn := 7 } : State) 0x10 1 (by decide) (by decide) (by decide)⟩,
   ⟨0x29, by decide⟩,
   ⟨(.stop 0), 0, 0x28, 3, 2, live, by decide, by decide, not_authorised⟩⟩

theorem witness_MapRequests :
    (∃ (bytes : List Byte) (s : State), s.supServes = true ∧ mapLen (bytes.headD 0).toNat ≤ bytes.length ∧ crc8 (bytes.take (mapLen
      (bytes.headD 0).toNat - 1)) ≠ bytes.getD (mapLen (bytes.headD 0).toNat - 1) 0) ∧
    (∃ (bytes : List Byte) (s : State), (s.supServes = false ∨ bytes.length < mapLen (bytes.headD 0).toNat)) ∧
    (∃ (a : BitVec 24) (x : Session) (s : State), s.supServes = true ∧ s.session 0 = some x ∧ a.toNat % 4 = 0 ∧ (a.toNat < 0x10000 ∨
      x.holds 1 = true) ∧ s.absent a.toNat = false) ∧
    (∃ (a : BitVec 24) (x : Session) (s : State), s.supServes = true ∧ s.session 0 = some x ∧ a.toNat % 4 = 0 ∧ 0x10000 ≤ a.toNat ∧
      x.holds 1 = false) ∧
    (∃ (a : BitVec 24) (v : Word) (x : Session) (s : State), s.supServes = true ∧ s.session 0 = some x ∧ a.toNat % 4 = 0 ∧ (writeNeed
      0 a.toNat v.toNat).met x = false) ∧
    (∃ (a : BitVec 24) (v : Word) (x : Session) (s : State) (l : Nat), s.supServes = true ∧ s.session 0 = some x ∧ a.toNat % 4 = 0 ∧
      writeNeed 0 a.toNat v.toNat = .cmd l ∧ x.holds l = true ∧ s.tokenOk x a.toNat v.toNat = false) ∧
    (∃ (a : BitVec 24) (v : Word) (x : Session) (s : State), s.supServes = true ∧ s.session 0 = some x ∧ a.toNat % 4 = 0 ∧ (writeNeed
      0 a.toNat v.toNat).met x = true ∧ (∀ l, writeNeed 0 a.toNat v.toNat = .cmd l → s.tokenOk x a.toNat v.toNat = true) ∧
      s.absent a.toNat = false ∧ s.gated a.toNat = false) :=
  ⟨⟨[0, 0, 0, 4, 1], live, by decide +kernel⟩,
   ⟨[], live, by decide⟩,
   ⟨4, (Session.fresh 0 none), live, by decide⟩,
   ⟨0x010000, (Session.fresh 0 none), live, by decide⟩,
   ⟨0x03002C, 5, (Session.fresh 0 none), live, by decide⟩,
   ⟨0x03002C, 5, { Session.fresh 0 none with st := .opened, level := 2 }, ({ live with sup.sessions := [{ Session.fresh 0 none with st := .opened, level := 2 }] } : State), 2, by decide⟩,
   ⟨0x030028, 5, { Session.fresh 0 none with st := .opened, level := 2 }, ({ live with sup.sessions := [{ Session.fresh 0 none with st := .opened, level := 2 }] } : State), by decide, by decide, by decide, by decide, plain_not_cmd, by decide, by decide⟩⟩

theorem witness_FmpDatagrams :
    (∃ (p : Peer) (s : State), (s.fmpReach p.port.val = false ∨ s.fmpFull p.port.val = true)) ∧
    (∃ (p : Peer) (bytes : List Byte) (s : State), s.fmpReach p.port.val = true ∧ s.fmpFull p.port.val = false ∧ (bytes.length ≠
      fmpLen (beNat (slice 8 1 bytes)) ∨ slice 0 2 bytes ≠ [0x01#8, 0x01#8])) ∧
    (∃ (p : Peer) (bytes : List Byte) (x : Session) (s : State), s.fmpReach p.port.val = true ∧ s.fmpFull p.port.val = false ∧ beNat
      (slice 2 2 bytes) ≠ 0 ∧ s.session (beNat (slice 2 2 bytes)) = some x ∧ (x.src ≠ some p ∨ (x.st = .opened ∧ bytes.drop
      (bytes.length - 8) ≠ fmpTag x (bytes.take (bytes.length - 8))))) ∧
    (∃ (p : Peer) (x : Session) (seq : Word) (a : BitVec 24) (s : State), s.fmpReach p.port.val = true ∧ s.fmpFull p.port.val = false
      ∧ s.session x.num = some x ∧ x.num ≠ 0 ∧ x.num < 65536 ∧ x.src = some p ∧ x.st = .opened ∧ seq.toNat = (x.seq + 1) %
      4294967296 ∧ a.toNat % 4 = 0 ∧ s.absent a.toNat = false ∧ (a.toNat < 0x10000 ∨ x.holds 1 = true)) ∧
    (∃ (p : Peer) (x : Session) (seq : Word) (s : State), s.fmpReach p.port.val = true ∧ s.fmpFull p.port.val = false ∧ s.session
      x.num = some x ∧ x.num ≠ 0 ∧ x.num < 65536 ∧ x.src = some p ∧ x.st = .opened ∧ seq.toNat = x.seq ∧ x.cached ≠ [] ∧ x.seq <
      4294967296) ∧
    (∃ (p : Peer) (x : Session) (seq : Word) (s : State), s.fmpReach p.port.val = true ∧ s.fmpFull p.port.val = false ∧ s.session
      x.num = some x ∧ x.num ≠ 0 ∧ x.num < 65536 ∧ x.src = some p ∧ x.st = .opened ∧ seq.toNat ≠ (x.seq + 1) % 4294967296 ∧
      seq.toNat ≠ x.seq) :=
  ⟨⟨{ ip := 0x0A000009, udp := 700, port := 0 }, live, by decide⟩,
   ⟨{ ip := 0x0A000009, udp := 700, port := 0 }, [], ({ live with img := some { station0 with cfg := [(0xA0020, 0x80000000), (0xA002C, 0xA000001)] }, fld.phyOut := true, fld.port := [(0, { port0 with link := .up100 })] } : State), by decide⟩,
   ⟨{ ip := 5, udp := 700, port := 0 }, [1, 1, 0, 3], { Session.fresh 3 (some { ip := 0x0A000009, udp := 700, port := 0 }) with st := .opened, level := 2, seq := 4, cached := [1] }, ({ live with img := some { station0 with cfg := [(0xA0020, 0x80000000), (0xA002C, 0xA000001)] }, fld.phyOut := true, fld.port := [(0, { port0 with link := .up100 })], sup.sessions := [Session.fresh 0 none, { Session.fresh 3 (some { ip := 0x0A000009, udp := 700, port := 0 }) with st := .opened, level := 2, seq := 4, cached := [1] }] } : State), by decide⟩,
   ⟨{ ip := 0x0A000009, udp := 700, port := 0 }, { Session.fresh 3 (some { ip := 0x0A000009, udp := 700, port := 0 }) with st := .opened, level := 2, seq := 4, cached := [1] }, 5, 4, ({ live with img := some { station0 with cfg := [(0xA0020, 0x80000000), (0xA002C, 0xA000001)] }, fld.phyOut := true, fld.port := [(0, { port0 with link := .up100 })], sup.sessions := [Session.fresh 0 none, { Session.fresh 3 (some { ip := 0x0A000009, udp := 700, port := 0 }) with st := .opened, level := 2, seq := 4, cached := [1] }] } : State), by decide⟩,
   ⟨{ ip := 0x0A000009, udp := 700, port := 0 }, { Session.fresh 3 (some { ip := 0x0A000009, udp := 700, port := 0 }) with st := .opened, level := 2, seq := 4, cached := [1] }, 4, ({ live with img := some { station0 with cfg := [(0xA0020, 0x80000000), (0xA002C, 0xA000001)] }, fld.phyOut := true, fld.port := [(0, { port0 with link := .up100 })], sup.sessions := [Session.fresh 0 none, { Session.fresh 3 (some { ip := 0x0A000009, udp := 700, port := 0 }) with st := .opened, level := 2, seq := 4, cached := [1] }] } : State), by decide⟩,
   ⟨{ ip := 0x0A000009, udp := 700, port := 0 }, { Session.fresh 3 (some { ip := 0x0A000009, udp := 700, port := 0 }) with st := .opened, level := 2, seq := 4, cached := [1] }, 9, ({ live with img := some { station0 with cfg := [(0xA0020, 0x80000000), (0xA002C, 0xA000001)] }, fld.phyOut := true, fld.port := [(0, { port0 with link := .up100 })], sup.sessions := [Session.fresh 0 none, { Session.fresh 3 (some { ip := 0x0A000009, udp := 700, port := 0 }) with st := .opened, level := 2, seq := 4, cached := [1] }] } : State), by decide⟩⟩

theorem witness_EveryStepKeepsLaneRules :
    (∃ (s : State) (t : State), LaneRules s ∧ step s = .next t) ∧
    (∃ (s : State), LaneRules s ∧ s.lane.safeLatch = true ∧ s.pins.powered = true) ∧
    (∃ (s : State), LaneRules s ∧ s.lane.safeLatch = true ∧ s.pins.powered = true ∧ s.lane.attnEn.getLsbD 0 = true) ∧
    (∃ (n : Nat) (s : State), (s.voutBall n = some true ∨ s.ldrvBall n = some true)) :=
  ⟨⟨live, _, by decide, rfl⟩,
   ⟨({ live with lane.st := .safe, lane.safeLatch := true } : State), by decide⟩,
   ⟨({ live with lane.st := .safe, lane.safeLatch := true } : State), by decide⟩,
   ⟨0, ({ live with lane.driving := true, vio.vout := [(0, { vout0 with wave := { start := 0, stop := none, rise := none, ball := .asDriven } })] } : State), by decide⟩⟩

theorem witness_EveryStepKeepsTheCanonicalForm :
    (∃ (s : State) (t : State), TablesWf s ∧ step s = .next t) ∧
    (∃ (s : State) (t : State), ReplicasWf s ∧ (∀ st rest, s.pending ≠ .loadEnd st :: rest) ∧ step s = .next t) :=
  ⟨⟨live, _, by decide, rfl⟩,
   ⟨live, _, by decide, by simp [live, State.reset], rfl⟩⟩

theorem witness_FamilyFrames :
    (∃ (i : Instr) (s : State) (t : State), exec i s = .next t ∧ familyOf i = .logic) ∧
    (∃ (i : Instr) (s : State) (t : State), exec i s = .next t ∧ familyOf i = .logic ∧ t.lane.role = s.lane.role) ∧
    (∃ (i : Instr) (s : State) (t : State), exec i s = .next t ∧ familyOf i = .laneBus) ∧
    (∃ (i : Instr) (s : State) (t : State), exec i s = .next t ∧ familyOf i = .can) ∧
    (∃ (i : Instr) (s : State) (t : State), exec i s = .next t ∧ familyOf i = .field) ∧
    (∃ (i : Instr) (s : State) (t : State), exec i s = .next t ∧ familyOf i = .measurement) ∧
    (∃ (i : Instr) (s : State) (t : State), exec i s = .next t ∧ familyOf i = .measurement ∧ t.lane.role = s.lane.role) ∧
    (∃ (i : Instr) (s : State) (t : State), exec i s = .next t ∧ familyOf i = .lamp) ∧
    (∃ (i : Instr) (s : State) (t : State), exec i s = .next t ∧ familyOf i = .lamp ∧ t.lane.role = s.lane.role) ∧
    (∃ (i : Instr) (s : State) (t : State), exec i s = .next t ∧ familyOf i = .vital) ∧
    (∃ (i : Instr) (s : State) (t : State), exec i s = .next t ∧ familyOf i = .vital ∧ t.lane.role = s.lane.role) ∧
    (∃ (i : Instr) (s : State) (t : State), exec i s = .next t ∧ familyOf i = .recorder) ∧
    (∃ (i : Instr) (s : State) (t : State), exec i s = .next t ∧ familyOf i = .angle) :=
  ⟨⟨(.fence .none), ({ live with lge.scan := true } : State), _, rfl, by decide⟩,
   ⟨(.fence .none), ({ live with lge.scan := true } : State), _, rfl, by decide, by decide⟩,
   ⟨.carrierInvalid, live, _, rfl, by decide⟩,
   ⟨(.busoffRecovered 0), live, _, rfl, by decide⟩,
   ⟨(.portSingle 0), live, _, rfl, by decide⟩,
   ⟨.refReady, live, _, rfl, by decide⟩,
   ⟨.refReady, live, _, rfl, by decide, by decide⟩,
   ⟨.learnEnd, live, _, rfl, by decide⟩,
   ⟨.learnEnd, live, _, rfl, by decide, by decide⟩,
   ⟨(.voutLiveExpire 0), live, _, rfl, by decide⟩,
   ⟨(.voutLiveExpire 0), live, _, rfl, by decide, by decide⟩,
   ⟨.flushPeriod, live, _, rfl, by decide⟩,
   ⟨.slewEnd, live, _, rfl, by decide⟩⟩

theorem witness_PowerClockAndLoadComplete :
    (∃ (s : State), s.pins.powered = false) ∧
    (∃ (s : State), s.pins.powered = true) ∧
    (∃ (s0 : BitVec 14) (s1 : BitVec 14) (s2 : BitVec 14) (s : State), s.pins.powered = true ∧ s.pins.resetN = false ∧ s.lane.st =
      .reset ∧ s.pins.lowRails = [] ∧ (s0.getLsbD 11 = true → s.pins.pfailHigh = true) ∧ s0 = s1 ∧ s1 = s2) ∧
    (∃ (s0 : BitVec 14) (s1 : BitVec 14) (s2 : BitVec 14) (s : State), s.pins.powered = true ∧ s.pins.resetN = true ∧ s.lane.st =
      .reset ∧ s.lane.strapAcc = false ∧ 1 ≤ s.lane.strapTry ∧ s.lane.strapTry < 16 ∧ s.pins.lowRails = [] ∧ (s0.getLsbD 11 =
      true → s.pins.pfailHigh = true) ∧ s0 = s1 ∧ s1 = s2) ∧
    (∃ (s : State), s.crt.attempt = true ∧ s.crt.amp = false ∧ s.crtRuns = true ∧ s.pins.now ≤ s.crt.attemptAt + 20000000) ∧
    (∃ (s : State), s.crt.attempt = true ∧ s.crt.amp = true ∧ s.crtRuns = true ∧ s.pins.now + 32000 ≤ s.crt.ampAt + 200000000) ∧
    (∃ (s : State), s.crt.attempt = true ∧ s.crtRuns = true) ∧
    (∃ (s : State), s.crt.attempt = false ∧ s.crt.xval = false ∧ s.crtRuns = true) ∧
    (∃ (s : State), s.crt.xval = true ∧ s.crtRuns = true ∧ s.lane.st = .clock ∧ s.crt.lock = false) ∧
    (∃ (s : State), s.crt.xval = true ∧ s.crtRuns = true ∧ (s.lane.st ≠ .clock ∨ s.crt.lock = true) ∧ s.crt.rootLost = true) ∧
    (∃ (s : State), s.tae.ctOff.isSome = true ∧ s.crt.align = false ∧ s.crt.lock = true) ∧
    (∃ (s : State), s.crt.lock = true ∧ s.crtRuns = true ∧ s.crt.xval = true ∧ s.crt.rootsel = false ∧ s.crt.rval = true) ∧
    (∃ (s : State), s.crt.lock = true ∧ s.crtRuns = true ∧ s.crt.rval = true ∧ s.crt.rootsel = true ∧ s.crt.xval = true ∧
      s.lnb.recadm = true) ∧
    (∃ (m : Monitor) (s : State), m ≠ .xmon ∧ m ≠ .rmon ∧ s.crt.lock = true ∧ s.crtRuns = true ∧ s.lane.safeLatch = false) ∧
    (∃ (b : Bool) (s : State), s.crt.lock = true ∧ s.crtRuns = true ∧ s.crt.rootsel = !b ∧ (if b then s.crt.rval else s.crt.xval &&
      !s.crt.rval) = true) ∧
    (∃ (s : State), s.crt.lock = true ∧ s.crtRuns = true) ∧
    (∃ (s : State), s.crt.lock = true ∧ s.lane.supHalted = false ∧ s.lane.safeLatch = false) ∧
    (∃ (f : Bool) (m : Bool) (l : Bool) (s : State), s.lane.st = .test ∧ s.lane.sfault = 0 ∧ f = true ∧ m = true ∧ l = true) ∧
    (∃ (chip : Chip) (k : Fin 255) (data : List Byte) (h : Header) (s : State), data.length = 65536 ∧ s.lane.st = .load ∧
      s.lane.sfault = 0 ∧ s.upd.runSlot.isSome = true ∧ (s.nvw = true → chip = .norA) ∧ s.upd.hdr = some h ∧ k.val < h.nblk ∧ 1
      ≤ k.val ∧ s.blockQueued chip k.val = true) ∧
    (∃ (st : Station) (s : State), s.lane.st = .load ∧ s.lane.sfault = 0 ∧ s.upd.runSlot.isSome = true ∧ s.loadChecks st = .pass ∧
      s.upd.fromShadow = false) ∧
    (∃ (s : State), s.mea.bufon = true ∧ s.mea.rdy = false ∧ s.blockLive 8 = true) ∧
    (∃ (s : State), s.mea.bufon = true ∧ s.mea.rdy = true ∧ s.blockLive 8 = true) ∧
    (∃ (r : CalResult) (s : State), TablesWf s ∧ s.mea.rdy = true ∧ s.mea.calDone = false ∧ s.blockLive 8 = true ∧ calPass r.off
      r.gain = true) ∧
    (∃ (n : Nat) (s : State), s.hasCt = true ∧ s.ct ≤ n * s.logicNs ∧ s.lane.st = .run ∧ s.lane.holdPend = false) ∧
    (∃ (s : State), s.hasCt = true ∧ s.beforeScan = true ∧ s.lge.scan = false ∧ s.blockLive 4 = true ∧ s.crt.test = none) ∧
    (∃ (n : Fin 32) (s : State), s.voting = true ∧ 3 ≤ (s.vout n.val).outvoted) ∧
    (∃ (g : Fin 16) (s : State), s.voting = true ∧ 3 ≤ (s.group g.val).outvoted) ∧
    (∃ (ch : Fin 32) (k : Fin 4) (s : State), s.voting = true ∧ 8 ≤ (s.lamp ch.val).mis.getD k.val 0) :=
  ⟨⟨State.reset, by decide⟩,
   ⟨live, by decide⟩,
   ⟨0x11, 0x11, 0x11, ({ State.reset with pins.powered := true, lane.st := .reset } : State), by decide⟩,
   ⟨0x11, 0x11, 0x11, ({ State.reset with pins.powered := true, lane.st := .reset, pins.resetN := true, lane.strapTry := 15 } : State), by decide⟩,
   ⟨({ State.reset with pins.powered := true, lane.st := .clock, crt.attempt := true } : State), by decide⟩,
   ⟨({ State.reset with pins.powered := true, lane.st := .clock, crt.attempt := true, crt.amp := true, crt.winGood := 1023, crt.winLast := some 51200 } : State), by decide⟩,
   ⟨({ State.reset with pins.powered := true, lane.st := .clock, crt.attempt := true } : State), by decide⟩,
   ⟨({ State.reset with pins.powered := true, lane.st := .clock } : State), by decide⟩,
   ⟨({ State.reset with pins.powered := true, lane.st := .clock, crt.xval := true } : State), by decide⟩,
   ⟨({ live with crt.rootLost := true, rcd.late := [(5, 0x100, 0x102, [1])] } : State), by decide⟩,
   ⟨({ live with crt.align := false, crt.timevHeld := true, tae.timev := false } : State), by decide⟩,
   ⟨({ live with crt.rval := true } : State), by decide⟩,
   ⟨({ live with crt.rootsel := true, crt.rval := true, lnb.recadm := true } : State), by decide⟩,
   ⟨.pmon, ({ live with lane.driving := true } : State), by decide⟩,
   ⟨true, ({ live with crt.rval := true } : State), by decide⟩,
   ⟨({ live with lane.driving := true } : State), by decide⟩,
   ⟨({ live with lane.driving := true } : State), by decide⟩,
   ⟨true, true, true, ({ live with lane.st := .test, img := none } : State), by decide⟩,
   ⟨.norB, 1, (List.replicate 65536 0), { hdr0 with nblk := 2 }, ({ live with lane.st := .load, img := none, tae.timev := false, tae.ctOff := none, lnb.bstate := .config, upd.runSlot := some false, upd.hdr := some { hdr0 with nblk := 2 } } : State), List.length_replicate, by decide, by decide, by decide, by decide, by decide, by decide, by decide, by decide⟩,
   ⟨station1, loaded, by decide, by decide, by decide, loaded_passes, by decide⟩,
   ⟨({ live with mea.bufon := true } : State), by decide⟩,
   ⟨({ live with mea.bufon := true, mea.rdy := true, mea.si0.phase := .parallel } : State), by decide⟩,
   ⟨{ chan := 2, off := 5, gain := 4194304 }, ({ live with mea.rdy := true } : State), by decide⟩,
   ⟨1, ({ live with lane.driving := true } : State), by decide⟩,
   ⟨({ live with tae.phase := 1 } : State), by decide⟩,
   ⟨3, ({ live with vio.vout := [(3, { vout0 with outvoted := 3 })] } : State), by decide⟩,
   ⟨3, ({ live with lmp.group := [(3, { aspect0 with outvoted := 3 })] } : State), by decide⟩,
   ⟨3, 1, ({ live with lmp.lamp := [(3, { lamp0 with mis := [0, 8, 0, 0] })] } : State), by decide⟩⟩

theorem witness_ProgramInstructionsComplete :
    (∃ (a : BitVec 20) (s : State), LogicReady s ∧ cellKind a.toNat = some .bit ∧ s.lge.rung0.stack = []) ∧
    (∃ (x : Bool) (a : BitVec 20) (s : State), LogicReady s ∧ cellKind a.toNat = some .bit ∧ s.lge.rung0.acc = some x) ∧
    (∃ (rs : Bool) (s : State), LogicReady s ∧ (rs = true → s.lge.rung0.stack = [])) ∧
    (∃ (x : Bool) (a : BitVec 20) (s : State), LogicReady s ∧ cellKind a.toNat = some .bit ∧ s.lge.rung0.acc = some x ∧
      s.lge.rung0.stack.length < 16) ∧
    (∃ (x : Bool) (s : State), LogicReady s ∧ s.lge.rung0.acc = some x ∧ s.lge.rung0.stack.length < 16) ∧
    (∃ (x : Bool) (y : Bool) (op : BlockOp) (l : List BlockEntry) (s : State), LogicReady s ∧ s.lge.rung0.acc = some x ∧ s.lge.rung0.stack = { saved := some y, op := op } :: l) ∧
    (∃ (x : Bool) (a : BitVec 20) (s : State), LogicReady s ∧ bufCount s.lge.buf0 < 1536 ∧ cellKind a.toNat = some .bit ∧
      s.lge.rung0.acc = some x ∧ storable s.station a.toNat = true) ∧
    (∃ (a : BitVec 20) (s : State), LogicReady s ∧ bufCount s.lge.buf0 < 1536 ∧ cellKind a.toNat = some .bit ∧ storable s.station
      a.toNat = true ∧ s.lge.rung0.acc = some true) ∧
    (∃ (x : Bool) (a : BitVec 20) (p : Word) (start : W64) (run : Bool) (q : Bool) (s : State), LogicReady s ∧ bufCount s.lge.buf0 ≤
      1534 ∧ cellKind a.toNat = some .timer ∧ storable s.station a.toNat = true ∧ s.lge.rung0.acc = some x ∧ Operand s a.toNat =
      .timer p start run q) ∧
    (∃ (a : BitVec 20) (s : State), LogicReady s ∧ cellKind a.toNat = some .timer ∧ s.lge.rung0.stack = []) ∧
    (∃ (x : Bool) (a : BitVec 20) (s : State), LogicReady s ∧ cellKind a.toNat = some .timer ∧ s.lge.rung0.acc = some x) ∧
    (∃ (x : Bool) (m : Bool) (q : Bool) (a : BitVec 20) (s : State), LogicReady s ∧ bufCount s.lge.buf0 < 1536 ∧ cellKind a.toNat =
      some .edge ∧ storable s.station a.toNat = true ∧ s.lge.rung0.acc = some x ∧ Operand s a.toNat = .edge m q) ∧
    (∃ (w : BitVec 14) (s : State), LogicReady s ∧ wordOk w.toNat = true ∧ s.lge.rung0.stack = []) ∧
    (∃ (x : Bool) (w : BitVec 14) (s : State), LogicReady s ∧ wordOk w.toNat = true ∧ s.lge.rung0.acc = some x) ∧
    (∃ (w : BitVec 14) (s : State), LogicReady s ∧ bufCount s.lge.buf0 < 1536 ∧ wordOk w.toNat = true ∧ storable s.station (0x40000 +
      w.toNat) = true ∧ s.lge.rung0.acc = some true) ∧
    (∃ (s : State), LogicReady s) ∧
    (∃ (s : State), LogicReady s ∧ s.lge.rung0.stack = []) ∧
    (∃ (w : Word) (s : State), s.lgeRuns = true ∧ insDecode w = none) ∧
    (∃ (s : State), s.lge.drain = some false ∧ s.lge.split = false) ∧
    (∃ (s : State), s.lge.drain = some true ∧ s.lge.split = false) :=
  ⟨⟨0, ({ live with lge.scan := true } : State), by decide⟩,
   ⟨true, 0, ({ live with lge.scan := true, lge.rung0.acc := some true } : State), by decide⟩,
   ⟨true, ({ live with lge.scan := true } : State), by decide⟩,
   ⟨true, 0, ({ live with lge.scan := true, lge.rung0.acc := some true } : State), by decide⟩,
   ⟨true, ({ live with lge.scan := true, lge.rung0.acc := some true } : State), by decide⟩,
   ⟨true, true, .and, [], ({ live with lge.scan := true, lge.rung0.acc := some true, lge.rung0.stack := [{ saved := some true, op := .and }] } : State), by decide⟩,
   ⟨true, 0, ({ live with lge.scan := true, lge.rung0.acc := some true } : State), by decide⟩,
   ⟨0, ({ live with lge.scan := true, lge.rung0.acc := some true } : State), by decide⟩,
   ⟨true, 0x50000, 5, 0, true, true, ({ live with lge.scan := true, lge.rung0.acc := some true, lge.rep0.cells := [(0x50000, .timer 5 0 true true)] } : State), by decide⟩,
   ⟨0x50000, ({ live with lge.scan := true } : State), by decide⟩,
   ⟨true, 0x50000, ({ live with lge.scan := true, lge.rung0.acc := some true } : State), by decide⟩,
   ⟨true, false, true, 0x60000, ({ live with lge.scan := true, lge.rung0.acc := some true, lge.rep0.cells := [(0x60000, .edge false true)] } : State), by decide⟩,
   ⟨3, ({ live with lge.scan := true } : State), by decide⟩,
   ⟨true, 3, ({ live with lge.scan := true, lge.rung0.acc := some true } : State), by decide⟩,
   ⟨3, ({ live with lge.scan := true, lge.rung0.acc := some true } : State), by decide⟩,
   ⟨({ live with lge.scan := true } : State), by decide⟩,
   ⟨({ live with lge.scan := true } : State), by decide⟩,
   ⟨0, ({ live with lge.scan := true, lane.driving := true } : State), by decide⟩,
   ⟨({ live with lge.drain := some false, lge.buf0 := [{ tag := 4, addr := 0, content := .bit true true }] } : State), by decide⟩,
   ⟨({ live with lge.drain := some true, lge.buf0 := [{ tag := 4, addr := 0, content := .bit true true }] } : State), by decide⟩⟩

theorem witness_VoteAndInterfacesComplete :
    (∃ (s : State), s.lge.candidate = true ∧ s.grdRuns = true ∧ s.lge.split = false ∧ (s.lane.st = .prove ∨ s.lane.st = .run ∨
      s.lane.st = .hold)) ∧
    (∃ (k : Nat) (s : State), s.grdRuns = true ∧ (s.advanceCt (1000 * k)).passViolations = []) ∧
    (∃ (s : State), s.grd.armed = true ∧ s.crt.inReset.getLsbD 5 = false ∧ s.crt.test = none ∧ s.grd.masked = false ∧
      s.lane.safeLatch = false) ∧
    (∃ (l : List (Nat × Word)) (s : State), s.grd.gmode ≠ .notLoaded ∧ s.grdLive = true ∧ grdCrc s.station l = grdTcrc s.station) ∧
    (∃ (s : State), s.grdRuns = true ∧ s.grd.commFrom = true ∧ s.afterCommit = true ∧ gatherImage s.station s.lge.rep1 = s.grd.comm) ∧
    (∃ (s : State), s.grdRuns = true ∧ s.grd.gmode = .checking ∧ s.grd.commFrom = true ∧ s.afterCommit = true ∧ gatherImage s.station
      s.lge.rep1 ≠ s.grd.comm ∧ s.voting = true ∧ (s.checking = true ∨ s.fallbackUnmet ≠ 0)) ∧
    (∃ (sid : BitVec 16) (s : State), Authorised s sid 0x050034 1 2 ∧ s.grd.gmode = .fallback ∧ s.voting = true) ∧
    (∃ (a : Nat) (b : Nat) (s : State), s.lane.st = .run ∧ s.lane.role = .holding ∧ s.tae.phase = 8 ∧ s.grd.fbExit = none ∧
      s.votingPeers = [a, b] ∧ s.outputReady = true ∧ s.imageClass a = .equal ∧ s.imageClass b = .equal) ∧
    (∃ (s : State), s.voting = true ∧ 3 ≤ s.lane.reportCnt) ∧
    (∃ (n : Nat) (t0 : Nat) (s : State), s.hasCt = true ∧ s.img.isSome = true ∧ s.lane.st = .run ∧ s.lane.role = .holding ∧
      s.commitOf = some t0 ∧ t0 + s.cycC * s.basicNs ≠ s.inp.t0 ∧ NoOtherSlot s 256 64 ∧ s.grd.fbExit = none ∧ s.lane.commitOk =
      true ∧ s.yields = false ∧ s.blockLive 6 = true ∧ TablesWf s ∧ n < 32) ∧
    (∃ (s : State), s.lane.st = .prove ∧ s.lane.proved = false ∧ s.hasCt = true ∧ s.lane.commitDue = some s.inp.t0 ∧ s.inp.t0 + 10 ≤
      s.ct ∧ (s.lane.joining = true ∨ s.prvcyc ≤ s.lane.proveCnt)) ∧
    (∃ (n : Nat) (s : State), s.lane.st = .run ∧ s.lane.role = .excluded ∧ s.lane.computing = true ∧ s.confirmCycles ≤
      s.lane.confirmCnt ∧ 2 ≤ s.votingPeers.length ∧ s.setRoleShown ≠ .excluded ∧ s.crt.test = none ∧ s.tae.timev = true ∧
      TablesWf s ∧ n < 32) ∧
    (∃ (m : Nat) (s : State), s.busTime = true ∧ s.blockLive 9 = true ∧ m = s.lnb.m + 1) ∧
    (∃ (k : Fin 2) (s : State), s.voting = true ∧ 2 ≤ (s.nodeView (s.peer k.val)).silent) ∧
    (∃ (s : State), s.lane.st = .run ∧ (s.lane.role = .standby ∨ s.lane.role = .shadow) ∧ 2 ≤ s.lane.holdersMissing ∧ s.tenSeconds
      s.lane.ownHealthy = true) ∧
    (∃ (x : Switch) (n : Nat) (s : State), s.lane.switch = some x ∧ x.cycle = some n ∧ x.committed = false ∧ s.hasCt = true ∧
      x.program = false ∧ s.voting = true) ∧
    (∃ (x : Switch) (n : Nat) (s : State), s.lane.switch = some x ∧ x.cycle = some n ∧ x.committed = true ∧ s.hasCt = true ∧ s.voting
      = true ∧ x.back = false) ∧
    (∃ (ch : Fin 2) (x : Nat) (up : Bool) (c : Crossings) (s : State), s.angleLoops = true ∧ s.crossingOf ch.val = some (x, up) ∧ tabGet { ts := [], pos := false } ch.val s.tae.lastX = c ∧ c.ts.headD 0 < x ∧ ch.val ≠ s.refChan) ∧
    (∃ (ch : Fin 2) (x : Nat) (l : List Nat) (s : State), s.angleLoops = true ∧ ch.val = s.refChan ∧ s.tae.angv = true ∧ (tabGet { ts := [], pos := false } ch.val s.tae.lastX).ts = x :: l ∧ s.tae.missX < 3) ∧
    (∃ (s : State), s.angleLoops = true ∧ s.tae.slew = true ∧ 0 < s.tae.runFreq) ∧
    (∃ (n : Fin 256) (a : Nat) (s : State), s.aslotOn n.val = true ∧ firedNow s.pins.now n.val s.tae.aFired = false ∧ s.aslotRef
      n.val = false ∧ s.blockLive 7 = true ∧ TablesWf s ∧ NoOtherSlot s n.val 64 ∧ s.ownReach (s.aslotAng n.val) (s.slotFrom
      n.val s.tae.aFired) = a ∧ (s.advance a).commitEdge = false ∧ s.aslotAct n.val = 0x11) ∧
    (∃ (n : Fin 64) (a : Nat) (s : State), s.tslotOn n.val = true ∧ firedNow s.pins.now n.val s.tae.tFired = false ∧ s.blockLive 7 =
      true ∧ bits (s.tslotCtl n.val) 8 8 = 0x11 ∧ TablesWf s ∧ NoOtherSlot s 256 n.val ∧ s.clockAt (nextAt (s.ctAt (s.slotFrom
      n.val s.tae.tFired)) (s.tslotBase n.val) (s.tslotOffset n.val)) = a ∧ (s.advance a).commitEdge = false) ∧
    (∃ (ch : Fin 32) (p : Nat) (s : State), TablesWf s ∧ (s.lamp ch.val).pulse = some p ∧ (s.lamp ch.val).suspended = false ∧ (s.lamp
      ch.val).pulseHit = true) ∧
    (∃ (ch : Fin 32) (e : Nat) (s : State), (s.lamp ch.val).blankTo = some e) ∧
    (∃ (ch : Fin 32) (e : Nat) (s : State), (s.lamp ch.val).inrushTo = some e) ∧
    (∃ (ch : Fin 50) (s : State), TablesWf s ∧ s.img.isSome = true ∧ meaEn s.station ch.val = true ∧ s.blockLive 8 = true) ∧
    (∃ (k : Fin 2) (n : Nat) (c : Bool) (r : Bool) (s : State), meaRoten s.station = true ∧ s.mea.rdy = true ∧ s.mea.calDone = true ∧
      (s.si k.val).phase = .idle ∧ s.img.isSome = true ∧ s.blockLive 8 = true ∧ s.rotationChan k.val = some (n, c, r)) ∧
    (∃ (k : Fin 2) (off : Int) (gain : Nat) (s : State), TablesWf s ∧ s.blockLive 8 = true ∧ (s.si k.val).switchDue = false ∧ (s.si
      k.val).phase = .selfCal ∧ calPass off gain = true) ∧
    (∃ (k : Fin 2) (s : State), (s.si k.val).switchDue = true ∧ s.blockLive 8 = true ∧ (s.si k.val).back = false ∧ (s.si k.val).phase
      = .parallel) ∧
    (∃ (k : Fin 2) (s : State), TablesWf s ∧ (s.si k.val).switchDue = true ∧ s.blockLive 8 = true ∧ (s.si k.val).back = false ∧ (s.si
      k.val).phase = .returning) ∧
    (∃ (ch : Fin 48) (s : State), s.img.isSome = true ∧ meaEn s.station ch.val = true ∧ s.mea.calDone = true ∧ (s.meaOf ch.val).stale
      = false ∧ s.blockLive 8 = true) ∧
    (∃ (n : Fin 64) (b : Bool) (s : State), TablesWf s ∧ s.vio.tpoAct = true ∧ s.vinEn n.val = true ∧ s.blockLive 6 = true ∧ (s.vin
      n.val).filtered = !b) ∧
    (∃ (n : Fin 64) (s : State), TablesWf s ∧ s.tae.timev = true ∧ s.img.isSome = true ∧ s.listener = false ∧ s.blockLive 6 = true ∧
      s.vinEn n.val = true ∧ s.vio.tpoAct = false) ∧
    (∃ (k : Fin 4) (j : Fin 16) (s : State), TablesWf s ∧ s.img.isSome = true ∧ s.blockLive 6 = true ∧ s.vinEn (16 * k.val + j.val) =
      true) ∧
    (∃ (n : Fin 32) (x : Nat) (e : Nat) (s : State), (s.vout n.val).wave.ball = .asDriven ∧ (s.vout n.val).wave.stop = some x ∧ x ≤
      s.pins.now ∧ (s.vout n.val).wave.lastRise s.pins.now s.voutPhase 100000 = some e) ∧
    (∃ (s : State), TablesWf s ∧ s.img.isSome = true ∧ s.blockLive 6 = true ∧ s.voting = true) ∧
    (∃ (m : Fin 32) (n : Fin 32) (b : Bool) (s : State), s.vio.vfb.getLsbD m.val = !b ∧ s.img.isSome = true ∧ s.blockLive 6 = true ∧
      s.monEn n.val = true ∧ s.monSel n.val = m.val ∧ (s.vout n.val).mon = .dropped ∧ (b != s.monPol n.val) = true ∧ TablesWf s) ∧
    (∃ (n : Fin 32) (s : State), s.monEn n.val = true ∧ ((s.vout n.val).mon = .picking ∨ (s.vout n.val).mon = .dropping)) ∧
    (∃ (s : State), s.pins.powered = true ∧ s.pins.restartLvl = false ∧ s.pins.restartQual = true ∧ s.lane.window = true ∧ HeldSafe s
      ∧ s.lane.supHalted = false ∧ s.pins.now ≤ s.lane.windowAt + 60000000000) ∧
    (∃ (s : State), s.pins.powered = true ∧ s.pins.restartLvl = false ∧ s.pins.restartQual = false) ∧
    (∃ (s : State), s.lane.window = true) ∧
    (∃ (ch : Fin 32) (x : Nat) (e : Nat) (s : State), (s.lamp ch.val).wave.ball = .asDriven ∧ (s.lamp ch.val).wave.stop = some x ∧ x
      ≤ s.pins.now ∧ (s.lamp ch.val).wave.lastRise s.pins.now s.lampPhase 20000 = some e) ∧
    (∃ (s : State), TablesWf s ∧ s.img.isSome = true ∧ s.blockLive 7 = true ∧ s.voting = true) ∧
    (∃ (r : LearnRun) (s : State), s.lmp.learn = some r) ∧
    (∃ (k : Fin 2) (s : State), s.pins.powered = true ∧ s.lane.safeLatch = false ∧ s.lane.st = .run ∧ (if k = 0 then s.lane.cons1
      else s.lane.cons0) = false) ∧
    (∃ (s : State), s.pins.powered = true) ∧
    (∃ (s : State), s.pins.powered = true ∧ s.lane.safeLatch = false ∧ s.pfen = true ∧ s.crtRuns = true ∧ s.crt.rootLost = false) :=
  ⟨⟨({ live with lge.candidate := true, grd.gmode := .checking } : State), by decide⟩,
   ⟨0, ({ live with grd.gmode := .checking } : State), by decide⟩,
   ⟨({ live with grd.armed := true, lane.driving := true } : State), by decide⟩,
   ⟨[], ({ live with grd.gmode := .checking } : State), by decide⟩,
   ⟨({ live with grd.gmode := .checking, grd.commFrom := true, pins.now := 3000000 } : State), by decide +kernel⟩,
   ⟨({ live with grd.gmode := .checking, grd.commFrom := true, grd.comm := [(0, (true, true))], pins.now := 3000000 } : State), by decide +kernel⟩,
   ⟨0, (armed ({ live with grd.gmode := .fallback, lane.driving := true } : State) 0x050034 1 2), armed_authorised ({ live with grd.gmode := .fallback, lane.driving := true } : State) 0x050034 1 2 (by decide) rfl (by decide) (by decide) (by decide), by decide, by decide⟩,
   ⟨1, 2, ({ live with lge.candidate := true, grd.chkok := true, tae.phase := 8, lnb.node := [(1, { node0 with outValid := true, outWords := [0, 0], health := some (7, 0) }), (2, { node0 with outValid := true, outWords := [0, 0], health := some (7, 0) })] } : State), by decide⟩,
   ⟨({ live with lane.reportCnt := 3 } : State), by decide⟩,
   ⟨3, 0, ({ live with lane.commitOk := true, tae.phase := 9, grd.cand := some [(5, (true, true))], lane.commitDue := some 0 } : State), by decide +kernel⟩,
   ⟨({ live with lane.st := .prove, lane.joining := true, lane.commitDue := some 0, pins.now := 10 } : State), by decide⟩,
   ⟨3, ({ live with lane.role := .excluded, lane.computing := true, lane.confirmCnt := 8, lnb.node := [(1, shows 7), (2, shows 7)] } : State), by decide⟩,
   ⟨1, live, by decide⟩,
   ⟨0, ({ live with lnb.node := [(1, { node0 with silent := 2 })] } : State), by decide⟩,
   ⟨({ live with lane.role := .standby, lane.holdersMissing := 2, lane.ownHealthy := 10000 } : State), by decide⟩,
   ⟨{ toSet := false, cycle := some 1, program := false, back := false, own := true, committed := false }, 1, ({ live with lane.switch := some { toSet := false, cycle := some 1, program := false, back := false, own := true, committed := false } } : State), by decide⟩,
   ⟨{ toSet := true, cycle := some 1, program := false, back := false, own := true, committed := true }, 1, ({ live with lane.switch := some { toSet := true, cycle := some 1, program := false, back := false, own := true, committed := true }, lane.driving := true } : State), by decide⟩,
   ⟨1, 30000000, true, { ts := [20000000], pos := false }, ({ live with tae.loopOn := true, mea.rdy := true, mea.calDone := true, mea.chan := [(40, { mea0 with fastQ := true, fastHist := [{ t := 30050000, ang := 0, v := 20000, q := true }, { t := 30025000, ang := 0, v := -20000, q := true }] }), (41, { mea0 with fastQ := true, fastHist := [{ t := 30050000, ang := 0, v := 20000, q := true }, { t := 30025000, ang := 0, v := -20000, q := true }] })], tae.lastX := [(1, { ts := [20000000], pos := false })] } : State), by decide⟩,
   ⟨0, 20000000, [], ({ live with tae.loopOn := true, mea.rdy := true, mea.calDone := true, mea.chan := [(40, { mea0 with fastQ := true, fastHist := [{ t := 30050000, ang := 0, v := 20000, q := true }, { t := 30025000, ang := 0, v := -20000, q := true }] }), (41, { mea0 with fastQ := true, fastHist := [{ t := 30050000, ang := 0, v := 20000, q := true }, { t := 30025000, ang := 0, v := -20000, q := true }] })], tae.lastX := [(0, { ts := [20000000], pos := false })], tae.angv := true } : State), by decide⟩,
   ⟨({ live with tae.loopOn := true, mea.rdy := true, mea.calDone := true, mea.chan := [(40, { mea0 with fastQ := true, fastHist := [{ t := 30050000, ang := 0, v := 20000, q := true }, { t := 30025000, ang := 0, v := -20000, q := true }] }), (41, { mea0 with fastQ := true, fastHist := [{ t := 30050000, ang := 0, v := 20000, q := true }, { t := 30025000, ang := 0, v := -20000, q := true }] })], tae.slew := true, tae.slewLeft := 100, tae.runFreq := 50000 } : State), by decide⟩,
   ⟨0, ({ live with img := some { station0 with cfg := [(0x31004, 0x80001102), (0x70108, 0x80000001)] }, tae.loopOn := true, tae.freq := 50000, tae.runFreq := 50000 } : State).ownReach (({ live with img := some { station0 with cfg := [(0x31004, 0x80001102), (0x70108, 0x80000001)] }, tae.loopOn := true, tae.freq := 50000, tae.runFreq := 50000 } : State).aslotAng 0) (({ live with img := some { station0 with cfg := [(0x31004, 0x80001102), (0x70108, 0x80000001)] }, tae.loopOn := true, tae.freq := 50000, tae.runFreq := 50000 } : State).slotFrom 0 ({ live with img := some { station0 with cfg := [(0x31004, 0x80001102), (0x70108, 0x80000001)] }, tae.loopOn := true, tae.freq := 50000, tae.runFreq := 50000 } : State).tae.aFired), ({ live with img := some { station0 with cfg := [(0x31004, 0x80001102), (0x70108, 0x80000001)] }, tae.loopOn := true, tae.freq := 50000, tae.runFreq := 50000 } : State), by decide +kernel⟩,
   ⟨0, ({ live with img := some { station0 with cfg := [(0x31804, 0x80001102), (0x70108, 0x80000001)] } } : State).clockAt (nextAt (({ live with img := some { station0 with cfg := [(0x31804, 0x80001102), (0x70108, 0x80000001)] } } : State).ctAt (({ live with img := some { station0 with cfg := [(0x31804, 0x80001102), (0x70108, 0x80000001)] } } : State).slotFrom 0 ({ live with img := some { station0 with cfg := [(0x31804, 0x80001102), (0x70108, 0x80000001)] } } : State).tae.tFired)) (({ live with img := some { station0 with cfg := [(0x31804, 0x80001102), (0x70108, 0x80000001)] } } : State).tslotBase 0) (({ live with img := some { station0 with cfg := [(0x31804, 0x80001102), (0x70108, 0x80000001)] } } : State).tslotOffset 0)), ({ live with img := some { station0 with cfg := [(0x31804, 0x80001102), (0x70108, 0x80000001)] } } : State), by decide +kernel⟩,
   ⟨2, 9, ({ live with lmp.lamp := [(2, { lamp0 with pulse := some 9, pulseHit := true })] } : State), by decide⟩,
   ⟨2, 9, ({ live with lmp.lamp := [(2, { lamp0 with blankTo := some 9 })] } : State), by decide⟩,
   ⟨2, 9, ({ live with lmp.lamp := [(2, { lamp0 with inrushTo := some 9 })] } : State), by decide⟩,
   ⟨2, ({ live with img := some { station0 with cfg := [(0x81080, 0x80000000)] }, mea.rdy := true, mea.calDone := true } : State), by decide⟩,
   ⟨0, 2, true, false, ({ live with img := some { station0 with cfg := [(0x81080, 0x80000000)] }, mea.rdy := true, mea.calDone := true, mea.calWait := some 2 } : State), by decide⟩,
   ⟨0, 5, 4194304, ({ live with mea.si0 := { StandIn.reset with chan := 2, phase := .selfCal } } : State), by decide⟩,
   ⟨0, ({ live with mea.si0 := { StandIn.reset with chan := 2, phase := .parallel, switchDue := true }, lane.st := .integrate } : State), by decide⟩,
   ⟨0, ({ live with mea.si0 := { StandIn.reset with chan := 2, phase := .returning, switchDue := true, newOff := 5, newGain := 4194305 }, lane.st := .integrate } : State), by decide⟩,
   ⟨2, ({ live with img := some { station0 with cfg := [(0x81080, 0x80000000)] }, mea.calDone := true } : State), by decide⟩,
   ⟨3, true, ({ live with img := some { station0 with cfg := [(0x6010C, 0x8000001E)] }, vio.tpoAct := true } : State), by decide⟩,
   ⟨3, ({ live with img := some { station0 with cfg := [(0x6010C, 0x8000001E)] } } : State), by decide⟩,
   ⟨0, 3, ({ live with img := some { station0 with cfg := [(0x6010C, 0x8000001E)] } } : State), by decide⟩,
   ⟨3, 150000, 100000, ({ live with vio.vout := [(3, { vout0 with wave := { start := 0, stop := some 150000, rise := none, ball := .asDriven } })], pins.now := 260000 } : State), by decide⟩,
   ⟨({ live with lane.driving := true } : State), by decide⟩,
   ⟨7, 3, true, ({ live with img := some { station0 with cfg := [(0x6020C, 0xC7000000)] } } : State), by decide⟩,
   ⟨3, ({ live with img := some { station0 with cfg := [(0x6020C, 0xC7000000)] }, vio.vout := [(3, { vout0 with mon := .picking })] } : State), by decide⟩,
   ⟨({ ({ live with lane.st := .safe, lane.safeLatch := true, lane.scause := 2, lane.smask := 2 } : State) with lane.window := true, pins.restartQual := true } : State), by decide⟩,
   ⟨live, by decide⟩,
   ⟨({ ({ live with lane.st := .safe, lane.safeLatch := true, lane.scause := 2, lane.smask := 2 } : State) with lane.window := true } : State), by decide⟩,
   ⟨2, 50000, 40000, ({ live with lmp.lamp := [(2, { lamp0 with wave := { start := 0, stop := some 50000, rise := none, ball := .asDriven } })], pins.now := 60000 } : State), by decide⟩,
   ⟨({ live with lane.driving := true } : State), by decide⟩,
   ⟨{ chan := 2, periods := 16, startAt := 0 }, ({ live with lmp.learn := some { chan := 2, periods := 16, startAt := 0 } } : State), by decide⟩,
   ⟨0, ({ live with lane.driving := true, lane.cons0 := true } : State), by decide⟩,
   ⟨live, by decide⟩,
   ⟨({ live with lane.eff := 0x800, lane.driving := true } : State), by decide⟩⟩

theorem witness_BusCommandsComplete :
    (∃ (w : Fin 512) (s : State) (p : PendFrame), MaySend s w ∧ fidUse s.station (winList s.station w.val % 1024) = 4 ∧ s.outputReady
      = true ∧ (AtSlot s w).framePending (winList s.station w.val % 1024) = some p ∧ p.at_ + 2000 ≤ (AtSlot s w).pins.now) ∧
    (∃ (w : Fin 512) (s : State) (j : Nat) (p : PendFrame), winEn s.station w.val = true ∧ winArb s.station w.val = true ∧ winPresent
      s.station s.ccl w.val s.lnb.m = true ∧ s.busDrives = true ∧ s.lnb.arbSkip ≠ some w.val ∧ (s.voting = true → s.outputReady
      = true) ∧ (AtRound s w).roundRank w.val = some (j, p) ∧ (AtRound s w).roundRoom w.val j p.payload.length = true ∧ p.at_ +
      2000 ≤ (AtRound s w).clockAt (s.placeStart w.val 0)) ∧
    (∃ (f : BitVec 10) (s : State), s.busDrives = true ∧ fidEn s.station f.toNat = true ∧ fidOwner s.station f.toNat = s.node) ∧
    (∃ (f : RxFrame) (c : Copy) (s : State), TablesWf s ∧ FrameJudged s 0 f c .valid ∧ hNode c.hdr ≠ s.node) ∧
    (∃ (f : RxFrame) (c : Copy) (s : State), TablesWf s ∧ FrameJudged s 1 f c .valid ∧ hNull c.hdr = false ∧ (s.advance (frameEnd
      f)).fidIndex (hNode c.hdr) 1 (hFid c.hdr) = (s.nodeView (hNode c.hdr)).inNext ∧ ((s.nodeView (hNode c.hdr)).inValid = true
      ∨ (s.nodeView (hNode c.hdr)).inNext = 0)) ∧
    (∃ (f : RxFrame) (c : Copy) (s : State), TablesWf s ∧ FrameJudged s 4 f c .valid ∧ hNull c.hdr = false ∧ (s.advance (frameEnd
      f)).fidIndex (hNode c.hdr) 4 (hFid c.hdr) = (s.nodeView (hNode c.hdr)).outNext ∧ ((s.nodeView (hNode c.hdr)).outValid =
      true ∨ (s.nodeView (hNode c.hdr)).outNext = 0)) ∧
    (∃ (f : RxFrame) (c : Copy) (w0 : Word) (w1 : Word) (tg : Telegram) (fid : Nat) (i : Nat) (s : State), FrameJudged s 2 f c .valid
      ∧ hNode c.hdr ≠ s.node ∧ s.voting = true ∧ c.payload = [w0, w1] ∧ s.holdsTelegrams = [tg] ∧ tg.conn = w0.toNat ∧ tg.seq =
      w1.toNat ∧ (fidsOf s.station s.node 3).head? = some fid ∧ connOf s.station w0.toNat = some i) ∧
    (∃ (f : RxFrame) (c : Copy) (tg : Telegram) (s : State), TablesWf s ∧ FrameJudged s 3 f c .valid ∧ hNode c.hdr ≠ s.node ∧ tg =
      telegramRead (c.payload.getD 3 0 ++ c.payload.getD 2 0) ((wordsToBytes (c.payload.drop 5)).take (bits (c.payload.getD 4
      0).toNat 16 16)) ∧ bits (c.payload.getD 4 0).toNat 0 16 = 0 ∧ bits (c.payload.getD 4 0).toNat 16 16 ≤ (wordsToBytes
      (c.payload.drop 5)).length ∧ s.codeMatches (c.payload.getD 0 0).toNat (c.payload.getD 3 0 ++ c.payload.getD 2 0)
      ((wordsToBytes (c.payload.drop 5)).take (bits (c.payload.getD 4 0).toNat 16 16)) = true ∧ tg.conn = (c.payload.getD 0
      0).toNat ∧ tg.seq = (c.payload.getD 1 0).toNat ∧ tg.digest ∈ s.lackingNow ∧ s.lnb.fetchPart = []) ∧
    (∃ (f : RxFrame) (c : Copy) (s : State), FrameJudged s 5 f c .valid ∧ winArb s.station f.win.val = true ∧ hNode c.hdr ∈
      s.otherNodes) ∧
    (∃ (f : RxFrame) (c : Copy) (s : State), FrameJudged s 6 f c .valid ∧ (s.peerIndex (hNode c.hdr)).isSome = true) ∧
    (∃ (f : RxFrame) (c : Copy) (s : State), s.rxLive = true ∧ s.coldCopy f = some c ∧ hNode c.hdr ≠ s.node ∧ (s.lnb.bstate = .listen
      ∨ s.lnb.bstate = .wait)) ∧
    (∃ (s : State) (k : Nat), s.rxLive = true ∧ s.busTime = true ∧ s.windowAt s.ct = some k ∧ winArb s.station k = true) ∧
    (∃ (s : State), s.rxLive = true ∧ s.lnb.bstate = .listen) ∧
    (∃ (s : State), s.lnb.bstate = .listen ∧ s.blockLive 9 = true ∧ s.syncNode = true ∧ s.lane.st ≠ .safe) ∧
    (∃ (s : State), s.lnb.bstate = .swarm ∧ s.blockLive 9 = true) ∧
    (∃ (s : State), s.lnb.bstate = .wait ∧ s.blockLive 9 = true ∧ s.syncNode = true ∧ s.lane.st ≠ .safe) ∧
    (∃ (c : Int) (s : State), s.lnb.bstate = .active ∧ s.syncNode = true ∧ s.lnb.corrNow = none ∧ s.blockLive 9 = true ∧
      offsetCorrection (s.lnb.devs ++ [0]) = some c) ∧
    (∃ (s : State), s.lnb.bstate = .active ∧ s.tae.timev = false ∧ 2 ≤ s.lnb.precise ∧ s.blockLive 9 = true ∧ s.crt.align = true) ∧
    (∃ (s : State), (s.lnb.bstate = .lead ∨ s.lnb.bstate = .follow) ∧ 2 ≤ s.formers.length ∧ s.blockLive 9 = true) ∧
    (∃ (s : State), s.lnb.bstate = .lead ∧ 7 ≤ s.lnb.m ∧ s.formers.length < 2 ∧ s.blockLive 9 = true) ∧
    (∃ (s : State), s.lnb.bstate = .listen ∧ 16 ≤ s.lnb.att ∧ s.syncNode = true ∧ s.blockLive 9 = true) ∧
    (∃ (s : State), s.lnb.bstate = .integrating ∧ 2 ≤ s.lnb.goodRun ∧ s.blockLive 9 = true) ∧
    (∃ (s : State), s.lnb.bstate = .active ∧ (2 ≤ s.lnb.coarse ∨ 2 ≤ s.lnb.bndRun) ∧ s.blockLive 9 = true) ∧
    (∃ (s : State), s.lnb.bstate = .passive ∧ 8 ≤ s.lnb.goodRun ∧ s.blockLive 9 = true) ∧
    (∃ (s : State), (s.lnb.bstate = .integrating ∨ s.lnb.bstate = .active ∨ s.lnb.bstate = .passive) ∧ 4 ≤ s.lnb.noSync ∧ s.blockLive
      9 = true) ∧
    (∃ (n : Fin 8) (s : State), (s.nodeView n.val).scRejected = true ∧ (s.nodeView n.val).scDeclared = false ∧ s.rxLive = true) ∧
    (∃ (r : Nat) (s : State), s.lnb.rref = some r ∧ s.lnb.bstate = .active ∧ r ≠ s.node ∧ s.lnb.recadm = false ∧ 64 ≤ s.lnb.recRun ∧
      s.blockLive 9 = true) ∧
    (∃ (k : Fin 4) (s : State), s.lnb.recadm = true ∧ (if k = 3 then s.lnb.bstate ≠ .active else s.lnb.bstate = .active ∧ (k = 2 ↔
      s.lnb.rref ≠ some s.lnb.recRef)) ∧ (s.crt.rootsel = false ∨ s.crt.xval = true)) ∧
    (∃ (s : State), s.lane.st = .integrate ∧ s.lane.digestDue = true ∧ s.tae.timev = true ∧ s.digestReady = true ∧ s.digestPasses =
      true) ∧
    (∃ (p : Fin 2) (s : State), TablesWf s ∧ s.fldRuns = true ∧ s.fld.phyOut = true ∧ portEn s.station p.val = true) ∧
    (∃ (p : Fin 2) (ok : Bool) (b : List Byte) (s : State), TablesWf s ∧ s.portUp p.val = true ∧ (ok = false ∨ b.length < 60 ∨ 1518 <
      b.length ∨ (beNat (slice 0 6 b) ≠ portMac s.station p.val ∧ beNat (slice 0 6 b) ≠ 0xFFFFFFFFFFFF))) ∧
    (∃ (p : Fin 2) (ok : Bool) (b : List Byte) (s : State), TablesWf s ∧ s.portUp p.val = true ∧ ethJudge s.station p.val (fmpPort
      s.station) (fmpOn s.station p.val) ok b ≠ .drop) ∧
    (∃ (p : Fin 2) (ip : Word) (s : State), s.portUp p.val = true ∧ fldArp s.station = true ∧ ip.toNat = portIp s.station p.val) ∧
    (∃ (p : Fin 2) (ip : Word) (s : State), s.portUp p.val = true ∧ fldIcmp s.station = true ∧ ip.toNat = portIp s.station p.val ∧
      ((s.port p.val).icmpSecond ≠ s.pins.now / 1000000000 ∨ (s.port p.val).icmpCount < 10)) ∧
    (∃ (p : Fin 2) (ip : Word) (b : List Byte) (c : Nat) (s : State), s.portUp p.val = true ∧ s.judgesCopies = true ∧ TablesWf s ∧
      mimanConn s.station ip.toNat b = some c ∧ (s.conn c).copies < connRxcop s.station c ∧ s.connSt c ≠ 2 ∧ s.fld.held = [] ∧
      Config.cmac (tabGet 0#128 c s.fld.keys) (b.take (b.length - 8)) = BitVec.ofNat 64 (beNat (b.drop (b.length - 8)))) ∧
    (∃ (p : Fin 2) (x : Nat) (s : State), s.fldRuns = true ∧ portEn s.station p.val = true ∧ (s.port p.val).acceptedAt = none ∧
      (s.port p.val).singleAt = none ∧ (s.port (1 - p.val)).acceptedAt = some x ∧ s.pins.now < x + 1000000000) ∧
    (∃ (c : Fin 2) (f : CanFrame) (s : State) (m : Nat), f.wellFormed = true ∧ s.canWorks c.val = true ∧ (f.fdf && f.rtr) = false ∧
      (f.brs && !f.fdf) = false ∧ (canFden s.station c.val || !f.fdf) = true ∧ rxMaps s.station = [m] ∧ mapCtrl s.station m =
      c.val ∧ mapIde s.station m = f.ide ∧ mapFdf s.station m = f.fdf ∧ f.rtr = false ∧ mapId s.station m = canId f.ide
      f.ident.toNat ∧ 8 * f.data.length = (mapCells s.station m).2) ∧
    (∃ (c : Fin 2) (s : State), s.canWorks c.val = true ∧ (s.can c.val).onWire = none ∧ s.offers c.val ≠ []) ∧
    (∃ (c : Fin 2) (e : Nat) (s : State), TablesWf s ∧ s.canWorks c.val = true ∧ (s.can c.val).onWire = some (.queue e) ∧ (s.txEntry
      e).st = .started) ∧
    (∃ (c : Fin 2) (e : Nat) (s : State), TablesWf s ∧ s.canWorks c.val = true ∧ (s.can c.val).onWire = some (.queue e) ∧ (s.txEntry
      e).st = .started ∧ (s.can c.val).estate = .active) ∧
    (∃ (c : Fin 2) (tec : Nat) (s : State), TablesWf s ∧ s.canWorks c.val = true ∧ tec < 256) ∧
    (∃ (c : Fin 2) (s : State), TablesWf s ∧ s.img.isSome = true ∧ s.blockLive 11 = true ∧ (s.can c.val).estate = .busoff ∧ (s.can
      c.val).recovering = true) ∧
    (∃ (c : Fin 2) (s : State), s.img.isSome = true ∧ s.blockLive 11 = true ∧ canEn s.station c.val = true ∧ canTmen s.station c.val
      = true ∧ s.tae.timev = true ∧ s.lane.st ≠ .safe) :=
  ⟨⟨2, ({ live with img := some { station0 with cfg := [(0x91020, 0x800003E8), (0x91024, 0xFA0), (0x91028, 0x2800009), (0x94024, 0x84800000)] }, lge.candidate := true, grd.chkok := true } : State), { fid := 9, payload := [0, 0], mirror := false, at_ := 0 }, by decide⟩,
   ⟨2, ({ live with img := some { station0 with cfg := [(0x91020, 0xC00003E8), (0x91024, 0xFA0), (0x91028, 0x2800000), (0x93000, 0x9), (0x94024, 0x83800000)] }, lge.candidate := true, grd.chkok := true, lnb.pendTx := [{ fid := 9, payload := [5, 6], mirror := false, at_ := 0 }] } : State), 0, { fid := 9, payload := [5, 6], mirror := false, at_ := 0 }, by decide⟩,
   ⟨9, ({ live with img := some { station0 with cfg := [(0x94024, 0x83800000)] } } : State), by decide⟩,
   ⟨{ win := 2, rank := 0, x := some (copyOf 10160 9 1 [7, 0] false), y := some (copyOf 10160 9 1 [7, 0] false), carrierX := true, carrierY := true }, (copyOf 10160 9 1 [7, 0] false), ({ live with img := some { station0 with cfg := [(0x91020, 0x880003E8), (0x91024, 0xFA0), (0x91028, 0x2800009), (0x94024, 0x90800000)] } } : State), by decide +kernel⟩,
   ⟨{ win := 2, rank := 0, x := some (copyOf 10160 9 1 [1, 2] false), y := some (copyOf 10160 9 1 [1, 2] false), carrierX := true, carrierY := true }, (copyOf 10160 9 1 [1, 2] false), ({ live with img := some { station0 with cfg := [(0x91020, 0x880003E8), (0x91024, 0xFA0), (0x91028, 0x2800009), (0x94024, 0x91800000)] } } : State), by decide +kernel⟩,
   ⟨{ win := 2, rank := 0, x := some (copyOf 10160 9 1 [1, 2] false), y := some (copyOf 10160 9 1 [1, 2] false), carrierX := true, carrierY := true }, (copyOf 10160 9 1 [1, 2] false), ({ live with img := some { station0 with cfg := [(0x91020, 0x880003E8), (0x91024, 0xFA0), (0x91028, 0x2800009), (0x94024, 0x94800000)] } } : State), by decide +kernel⟩,
   ⟨{ win := 2, rank := 0, x := some (copyOf 10160 9 1 [1, 2] false), y := some (copyOf 10160 9 1 [1, 2] false), carrierX := true, carrierY := true }, (copyOf 10160 9 1 [1, 2] false), 1, 2, telegram0, 11, 0, ({ live with img := some { station0 with cfg := [(0x91020, 0x880003E8), (0x91024, 0xFA0), (0x91028, 0x2800009), (0x94024, 0x92800000), (0x9402C, 0x83800000), (0xA1000, 0x1), (0xA1008, 0x8001100C)] }, fld.captured := [{ tg := telegram0, reported := false, deferred := false }] } : State), by decide +kernel⟩,
   ⟨replyFrame, replyCopy, replyTelegram, lacking, by decide +kernel, reply_judged, by decide +kernel, rfl, by decide +kernel, by decide +kernel, reply_code, by decide +kernel, by decide +kernel, reply_lacking, by decide +kernel⟩,
   ⟨{ win := 2, rank := 0, x := some (copyOf 10160 9 3 [5, 6] false), y := some (copyOf 10160 9 3 [5, 6] false), carrierX := true, carrierY := true }, (copyOf 10160 9 3 [5, 6] false), ({ live with img := some { station0 with cfg := [(0x91020, 0xF80003E8), (0x91024, 0xFA0), (0x91028, 0x2800000), (0x93000, 0x9), (0x94024, 0xB5800000)] } } : State), by decide +kernel⟩,
   ⟨{ win := 2, rank := 0, x := some (copyOf 10160 9 1 [1, 2] false), y := some (copyOf 10160 9 1 [1, 2] false), carrierX := true, carrierY := true }, (copyOf 10160 9 1 [1, 2] false), ({ live with img := some { station0 with cfg := [(0x91020, 0x880003E8), (0x91024, 0xFA0), (0x91028, 0x2800009), (0x94024, 0x96800000)] }, lane.reintReq := true, lane.role := .excluded } : State), by decide +kernel⟩,
   ⟨{ win := 0, rank := 0, x := some (coldCopyOf 9 1), y := none, carrierX := true, carrierY := false }, (coldCopyOf 9 1), ({ live with img := some { station0 with cfg := [(0x94024, 0x97800000), (0x94020, 0x87800000)] }, lnb.bstate := .listen, tae.ctOff := none, tae.timev := false } : State), by decide +kernel⟩,
   ⟨({ live with img := some { station0 with cfg := [(0x91020, 0xF8000000), (0x91024, 0xFA0), (0x91028, 0x2800000)] } } : State), 2, by decide⟩,
   ⟨({ live with img := some { station0 with cfg := [(0x94024, 0x97800000), (0x94020, 0x87800000)] }, lnb.bstate := .listen, tae.ctOff := none, tae.timev := false } : State), by decide⟩,
   ⟨({ live with img := some { station0 with cfg := [(0x90044, 0x1), (0x94020, 0x87800000)] }, lnb.bstate := .listen, tae.ctOff := none } : State), by decide⟩,
   ⟨({ live with img := some { station0 with cfg := [(0x94024, 0x97800000), (0x94020, 0x87800000)] }, lnb.bstate := .swarm, tae.ctOff := none, tae.timev := false, lnb.listenAt := 9 } : State), by decide⟩,
   ⟨({ live with img := some { station0 with cfg := [(0x90044, 0x1), (0x94020, 0x87800000)] }, lnb.bstate := .wait, tae.ctOff := none } : State), by decide⟩,
   ⟨2, ({ live with img := some { station0 with cfg := [(0x90044, 0x1)] }, lnb.devs := [4, 9, 2, 0] } : State), by decide⟩,
   ⟨({ live with tae.timev := false, lnb.precise := 2 } : State), by decide⟩,
   ⟨({ live with img := some { station0 with cfg := [(0x94024, 0x97800000), (0x94020, 0x87800000)] }, lnb.bstate := .lead, tae.timev := false, lnb.ownSyncNow := true, lnb.ownSyncLast := true, lnb.node := [(1, { node0 with syncNow := true, syncLast := true })] } : State), by decide⟩,
   ⟨({ live with img := some { station0 with cfg := [(0x94024, 0x97800000), (0x94020, 0x87800000)] }, lnb.bstate := .lead, tae.ctOff := none, tae.timev := false, lnb.m := 7 } : State), by decide⟩,
   ⟨({ live with img := some { station0 with cfg := [(0x90044, 0x1)] }, lnb.bstate := .listen, lnb.att := 16 } : State), by decide⟩,
   ⟨({ live with lnb.bstate := .integrating, lnb.goodRun := 2, tae.timev := false } : State), by decide⟩,
   ⟨({ live with lnb.coarse := 2 } : State), by decide⟩,
   ⟨({ live with lnb.bstate := .passive, lnb.goodRun := 8, tae.timev := false } : State), by decide⟩,
   ⟨({ live with lnb.noSync := 4 } : State), by decide⟩,
   ⟨3, ({ live with lnb.node := [(3, { node0 with scRejected := true })] } : State), by decide⟩,
   ⟨1, ({ live with lnb.rref := some 1, lnb.recRun := 64 } : State), by decide⟩,
   ⟨3, ({ live with lnb.recadm := true, crt.rval := true, lnb.bstate := .passive } : State), by decide⟩,
   ⟨({ live with lane.st := .integrate, lane.digestDue := true, lnb.node := [(1, shows 0x45), (2, shows 0x45)] } : State), by decide⟩,
   ⟨0, ({ live with img := some { station0 with cfg := [(0xA0020, 0x80000000), (0xA002C, 0xA000001)] }, fld.phyOut := true } : State), by decide⟩,
   ⟨0, false, [], ({ live with img := some { station0 with cfg := [(0xA0020, 0x80000000), (0xA002C, 0xA000001)] }, fld.phyOut := true, fld.port := [(0, { port0 with link := .up100 })] } : State), by decide⟩,
   ⟨0, true, arpFrame, ({ live with img := some { station0 with cfg := [(0xA0020, 0x80000000), (0xA002C, 0xA000001)] }, fld.phyOut := true, fld.port := [(0, { port0 with link := .up100 })] } : State), by decide⟩,
   ⟨0, 0x0A000001, ({ live with img := some { station0 with cfg := [(0xA0020, 0x80000000), (0xA002C, 0xA000001), (0xA0000, 0xC000B806)] }, fld.phyOut := true, fld.port := [(0, { port0 with link := .up100 })] } : State), by decide⟩,
   ⟨0, 0x0A000001, ({ live with img := some { station0 with cfg := [(0xA0020, 0x80000000), (0xA002C, 0xA000001), (0xA0000, 0xC000B806)] }, fld.phyOut := true, fld.port := [(0, { port0 with link := .up100 })] } : State), by decide⟩,
   ⟨0, 0x0A000005, (telegramOf 5 (Config.cmac 0 (telegramHead 5))), 0, ({ live with img := some { station0 with cfg := [(0xA0020, 0x80000000), (0xA002C, 0xA000001), (0xA1000, 0x1), (0xA1008, 0x8001100C), (0xAA000, 0xA000005)] }, fld.phyOut := true, fld.port := [(0, { port0 with link := .up100 })] } : State), by decide, by decide, by decide, by decide, by decide, by decide, by decide, telegramOf_right 5 0⟩,
   ⟨0, 0, ({ live with img := some { station0 with cfg := [(0xA0020, 0x80000000), (0xA002C, 0xA000001)] }, fld.port := [(1, { port0 with acceptedAt := some 0 })] } : State), by decide⟩,
   ⟨0, { canFrame0 with dlc := 1, ident := 0x123, data := [5] }, ({ live with img := some { station0 with cfg := [(0xB0020, 0xC000000A), (0xB0420, 0x80000123), (0xB0424, 0x10000)] }, cab.ctl := [(0, { can0 with estate := .active })] } : State), 2, by decide⟩,
   ⟨0, ({ live with img := some { station0 with cfg := [(0xB0020, 0xC000000A)] }, cab.ctl := [(0, { can0 with estate := .active })], cab.txq := [(4, { tx0 with st := .pending })] } : State), by decide⟩,
   ⟨0, 4, ({ live with img := some { station0 with cfg := [(0xB0020, 0xC000000A)] }, cab.ctl := [(0, { can0 with estate := .active, onWire := some (.queue 4) })], cab.txq := [(4, { tx0 with st := .started })] } : State), by decide⟩,
   ⟨0, 4, ({ live with img := some { station0 with cfg := [(0xB0020, 0xC000000A)] }, cab.ctl := [(0, { can0 with estate := .active, onWire := some (.queue 4) })], cab.txq := [(4, { tx0 with st := .started })] } : State), by decide⟩,
   ⟨0, 130, ({ live with img := some { station0 with cfg := [(0xB0020, 0xC000000A)] }, cab.ctl := [(0, { can0 with estate := .active })] } : State), by decide⟩,
   ⟨0, ({ live with img := some { station0 with cfg := [(0xB0020, 0xC000000A)] }, cab.ctl := [(0, { can0 with estate := .busoff, recovering := true, tecN := 256 })] } : State), by decide⟩,
   ⟨0, ({ live with img := some { station0 with cfg := [(0xB0020, 0x8800000A)] } } : State), by decide⟩⟩

theorem witness_RecorderTestsAndSessionsComplete :
    (∃ (sev : Fin 6) (data : List Byte) (s : State), data.length = 8 ∧ s.crt.rootLost = false ∧ s.recOpen = true ∧ s.cfgField
      0x0C0000 1 0 4 ≤ sev.val ∧ s.rcd.frozen = false ∧ s.rcd.buf.length < 8192) ∧
    (∃ (s : State), s.recRuns = true ∧ s.rcd.frozen = false) ∧
    (∃ (s : State), s.rcd.flush = true ∧ s.rcd.frozen = false ∧ s.recRuns = true ∧ 1 ≤ s.rcd.msize ∧ s.rcd.pages = [] ∧ s.rcd.buf ≠
      [] ∧ s.rcd.buf.length ≤ 128 ∧ s.rcd.drops = []) ∧
    (∃ (s : State), s.rcd.flush = true ∧ s.rcd.frozen = false ∧ s.recRuns = true ∧ 1 ≤ s.rcd.msize) ∧
    (∃ (s : State), s.rcd.frzWait = true ∧ s.rcd.flush = false ∧ s.recRuns = true) ∧
    (∃ (s : State), s.rcd.frozen = true ∧ s.recRuns = true) ∧
    (∃ (s : State), s.rcd.legStat = 1) ∧
    (∃ (s : State), s.idleTime = true ∧ s.crt.lock = true ∧ s.bgmt = true ∧ s.lge.marchDue = false) ∧
    (∃ (m : BistMemory) (s : State), s.idleTime = true ∧ s.crt.lock = true ∧ s.bgmt = true ∧ (m = .lgeProgram ∨ m = .lgeState) ∧
      s.voting = true) ∧
    (∃ (m : BistMemory) (s : State), s.idleTime = true ∧ s.crt.lock = true ∧ s.bgmt = true ∧ m = .supSram ∧ s.lane.safeLatch = false) ∧
    (∃ (s : State), s.idleTime = true ∧ s.bgmt = true ∧ s.lge.split = false ∧ s.blockLive 4 = true) ∧
    (∃ (s : State), s.idleTime = true ∧ s.bgmt = true ∧ s.lge.split = false ∧ s.blockLive 4 = true ∧ s.voting = true) ∧
    (∃ (s : State), s.bistper ≠ 0 ∧ s.crtRuns = true ∧ s.img.isSome = true ∧ s.crt.bistWait = false ∧ s.crt.test = none ∧ s.lane.st =
      .run) ∧
    (∃ (n : Nat) (s : State), s.crt.bistWait = true ∧ s.crt.test = none ∧ s.voting = true ∧ s.commitNow = some n ∧ n % 3 = s.lid ∧ ((s.setNodes.all fun k => match s.heard (n * s.cycL + s.cycC - 1) k with | some h => hPlanned h | none => false) = true)) ∧
    (∃ (x : SelfTest) (d : Nat) (s : State), s.crt.test = some x ∧ x.planned = false ∧ x.second = false ∧ x.thenMem = false ∧
      s.lane.st = .run ∧ s.lane.role = .excluded ∧ s.grd.gmode = .checking ∧ (s.advance (x.startAt + d * 100000)).transOf x.unit
      < 3) ∧
    (∃ (u : Fin 5) (x : Transient) (s : State), ((s.crt.trans.find? fun y => decide (y.unit = faultUnitOf u)) = some x)) ∧
    (∃ (k : Fin 13) (s : State), s.crt.closing.getLsbD k.val = true) ∧
    (∃ (k : Nat) (s : State), s.srstNext = some k ∧ s.crt.srst = .running ∧ s.crt.srstBlk = k ∧ s.crt.clken.getLsbD k = true) ∧
    (∃ (s : State) (g : Nat), s.crt.svTarget = some g ∧ s.fuseReady = true ∧ s.crt.sv < g ∧ s.crt.sv < 255) ∧
    (∃ (e : Nat) (s : State), s.upd.confEnd = some e ∧ s.upd.conf = true ∧ s.upd.confNew = true) ∧
    (∃ (w : ImageWrite) (s : State), s.upd.op = some .open ∧ s.upd.write = some w) ∧
    (∃ (a : BitVec 24) (v : Word) (x : Session) (s : State), s.supServes = true ∧ s.session 0 = some x ∧ a.toNat % 4 = 0 ∧ (writeNeed
      0 a.toNat v.toNat).met x = true ∧ (∀ l, writeNeed 0 a.toNat v.toNat = .cmd l → s.tokenOk x a.toNat v.toNat = true) ∧
      s.absent a.toNat = false ∧ s.gated a.toNat = false) ∧
    (∃ (a : BitVec 24) (x : Session) (s : State), s.supServes = true ∧ s.session 0 = some x ∧ a.toNat % 4 = 0 ∧ (a.toNat < 0x10000 ∨
      x.holds 1 = true) ∧ s.absent a.toNat = false) ∧
    (∃ (p : Peer) (x : Session) (seq : Word) (a : BitVec 24) (s : State), s.fmpReach p.port.val = true ∧ s.fmpFull p.port.val = false
      ∧ s.session x.num = some x ∧ x.num ≠ 0 ∧ x.num < 65536 ∧ x.src = some p ∧ x.st = .opened ∧ seq.toNat = (x.seq + 1) %
      4294967296 ∧ a.toNat % 4 = 0 ∧ s.absent a.toNat = false ∧ (a.toNat < 0x10000 ∨ x.holds 1 = true)) ∧
    (∃ (sid : BitVec 16) (s : State), MayWrite s sid 0x01000C 2) ∧
    (∃ (s : State), s.blockLive 3 = true) ∧
    (∃ (level : BitVec 4) (s : State) (x : Session), s.supServes = true ∧ s.session 0 = some x ∧ s.levelAllowed level.toNat = true ∧
      s.lockedOut 0 = false) ∧
    (∃ (p : Peer) (level : BitVec 4) (s : State), s.fmpReach p.port.val = true ∧ s.fmpOpens p level.toNat = true ∧ s.session
      s.freeSession = none) ∧
    (∃ (sid : BitVec 16) (x : Session) (s : State), s.session sid.toNat = some x ∧ x.st = .opened ∧ s.supServes = true) ∧
    (∃ (sid : BitVec 16) (hi : Word) (x : Session) (s : State), TablesWf s ∧ s.supServes = true ∧ s.session sid.toNat = some x ∧ x.st
      = .challenged ∧ s.pins.now ≤ x.chalAt + 10000000000 ∧ s.respRight x (hi ++ x.respLo) = true) ∧
    (∃ (sid : BitVec 16) (x : Session) (k : TokenArm) (s : State), s.session sid.toNat = some x ∧ x.tok = some k) ∧
    (∃ (sid : BitVec 16) (x : Session) (s : State), s.session sid.toNat = some x ∧ x.st = .challenged) ∧
    (∃ (k : Fin 3) (s : State), TablesWf s ∧ (tabGet path0 k.val s.sup.paths).locked = true) ∧
    (∃ (sid : BitVec 16) (x : Session) (s : State), s.session sid.toNat = some x ∧ x.st = .opened) :=
  ⟨⟨4, (List.replicate 8 1), live, by decide⟩,
   ⟨live, by decide⟩,
   ⟨({ live with rcd.flush := true, rcd.msize := 16, rcd.buf := [record0] } : State), by decide⟩,
   ⟨({ live with rcd.flush := true, rcd.msize := 16 } : State), by decide⟩,
   ⟨({ live with rcd.frzWait := true } : State), by decide⟩,
   ⟨({ live with rcd.frozen := true, rcd.buf := [record0] } : State), by decide⟩,
   ⟨({ live with rcd.legStat := 1 } : State), by decide⟩,
   ⟨({ live with tae.phase := 11 } : State), by decide⟩,
   ⟨.lgeState, ({ live with tae.phase := 11, lane.driving := true } : State), by decide⟩,
   ⟨.supSram, ({ live with tae.phase := 11 } : State), by decide⟩,
   ⟨({ live with tae.phase := 11 } : State), by decide⟩,
   ⟨({ live with tae.phase := 11 } : State), by decide⟩,
   ⟨({ live with img := some { station0 with cfg := [(0x10024, 0x18)] } } : State), by decide⟩,
   ⟨0, ({ live with grd.gmode := .checking, crt.bistWait := true, pins.now := 2000000, lnb.node := [(1, { node0 with health := some (0xF007, 1) }), (2, { node0 with health := some (0xF007, 1) })], lnb.m := 1 } : State), by decide⟩,
   ⟨(selfTest .lge), 7, ({ live with crt.test := some (selfTest .lge), lane.role := .excluded, grd.gmode := .checking, lane.implicated := some .lge } : State), by decide⟩,
   ⟨1, { unit := faultUnitOf 1, at_ := 7 }, ({ live with crt.trans := [{ unit := faultUnitOf 1, at_ := 7 }] } : State), by decide⟩,
   ⟨7, ({ live with crt.closing := 0x80 } : State), by decide⟩,
   ⟨7, ({ live with crt.srst := .running, crt.srstBlk := 7, crt.inReset := 0x80 } : State), by decide⟩,
   ⟨({ live with crt.svTarget := some 3, crt.vfuse := true } : State), 3, by decide⟩,
   ⟨9, ({ live with upd.confEnd := some 9, upd.conf := true, upd.confNew := true } : State), by decide⟩,
   ⟨{ slot := true, written := [1], hdr := none, cur := 1, buf := [] }, ({ live with upd.op := some .open, upd.write := some { slot := true, written := [1], hdr := none, cur := 1, buf := [] }, upd.lock := some 0 } : State), by decide⟩,
   ⟨0x030028, 5, { Session.fresh 0 none with st := .opened, level := 2 }, ({ live with sup.sessions := [{ Session.fresh 0 none with st := .opened, level := 2 }] } : State), by decide, by decide, by decide, by decide, plain_not_cmd, by decide, by decide⟩,
   ⟨4, (Session.fresh 0 none), live, by decide⟩,
   ⟨{ ip := 0x0A000009, udp := 700, port := 0 }, { Session.fresh 3 (some { ip := 0x0A000009, udp := 700, port := 0 }) with st := .opened, level := 2, seq := 4, cached := [1] }, 5, 4, ({ live with img := some { station0 with cfg := [(0xA0020, 0x80000000), (0xA002C, 0xA000001)] }, fld.phyOut := true, fld.port := [(0, { port0 with link := .up100 })], sup.sessions := [Session.fresh 0 none, { Session.fresh 3 (some { ip := 0x0A000009, udp := 700, port := 0 }) with st := .opened, level := 2, seq := 4, cached := [1] }] } : State), by decide⟩,
   ⟨0, (opened ({ live with crt.evt := 7, tae.evt := 7, lge.evt := 7, lnb.sevt := 7, rcd.evt := 7 } : State) 2), opened_writes ({ live with crt.evt := 7, tae.evt := 7, lge.evt := 7, lnb.sevt := 7, rcd.evt := 7 } : State) 0x01000C 2 (by decide) (by decide) (by decide)⟩,
   ⟨live, by decide⟩,
   ⟨2, live, (Session.fresh 0 none), by decide⟩,
   ⟨{ ip := 0x0A000009, udp := 700, port := 0 }, 2, ({ live with img := some { station0 with cfg := [(0xA0020, 0x80000000), (0xA002C, 0xA000001)] }, fld.phyOut := true, fld.port := [(0, { port0 with link := .up100 })] } : State), by decide⟩,
   ⟨0, { Session.fresh 0 none with st := .opened, level := 2 }, ({ live with sup.sessions := [{ Session.fresh 0 none with st := .opened, level := 2 }], upd.lock := some 0, rcd.frozen := true } : State), rfl, by decide, by decide⟩,
   ⟨0, (response.extractLsb' 32 32), answering, challenged, by decide, by decide, rfl, by decide, by decide, response_right⟩,
   ⟨0, { Session.fresh 0 none with tok := some { value := 5, tcnt := 1, at_ := 0 } }, { value := 5, tcnt := 1, at_ := 0 }, ({ live with sup.sessions := [{ Session.fresh 0 none with tok := some { value := 5, tcnt := 1, at_ := 0 } }] } : State), rfl, by decide⟩,
   ⟨0, { Session.fresh 0 none with st := .challenged, reqLevel := 2, chalAt := 0 }, ({ live with sup.sessions := [{ Session.fresh 0 none with st := .challenged, reqLevel := 2, chalAt := 0 }] } : State), rfl, by decide⟩,
   ⟨1, ({ live with sup.paths := [(1, { failures := 8, locked := true, since := 5 })] } : State), by decide⟩,
   ⟨0, { Session.fresh 0 none with st := .opened, level := 2 }, ({ live with sup.sessions := [{ Session.fresh 0 none with st := .opened, level := 2 }], upd.lock := some 0, upd.write := some { slot := true, written := [1], hdr := none, cur := 1, buf := [] } } : State), rfl, by decide⟩⟩

theorem witness_CommandWritesComplete :
    (∃ (sid : BitVec 16) (s : State), Authorised s sid 0x28 1 2 ∧ s.lane.st ≠ .safe ∧ s.lane.safeLatch = false ∧ s.ctlRuns = false) ∧
    (∃ (sid : BitVec 16) (s : State), Authorised s sid 0x28 2 2 ∧ s.lane.st = .safe ∧ s.ctlRuns = false ∧ s.lane.smask.testBit 3 =
      false) ∧
    (∃ (sid : BitVec 16) (s : State), Authorised s sid 0x28 3 2 ∧ s.ctlRuns = false ∧ s.lane.st = .run) ∧
    (∃ (sid : BitVec 16) (s : State), Authorised s sid 0x28 4 3 ∧ s.ctlRuns = false ∧ s.lane.st = .run ∧ (s.mode = 1 ∨ s.mode = 2)) ∧
    (∃ (sid : BitVec 16) (s : State), Authorised s sid 0x28 5 3 ∧ s.ctlRuns = false ∧ s.lane.st = .hold) ∧
    (∃ (sid : BitVec 16) (s : State), Authorised s sid 0x28 6 2 ∧ s.ctlRuns = false ∧ s.lane.st = .stop) ∧
    (∃ (sid : BitVec 16) (s : State), Authorised s sid 0x28 7 3 ∧ s.ctlRuns = false ∧ s.switchoverOk = true) ∧
    (∃ (sid : BitVec 16) (x : Switch) (s : State), Authorised s sid 0x28 8 3 ∧ s.lane.switch = some x ∧ x.own = true ∧ x.program =
      false ∧ x.committed = false) ∧
    (∃ (sid : BitVec 16) (hi : BitVec 16) (s : State), Authorised s sid 0x03002C hi.toNat 2 ∧ s.tae.timev = true ∧ s.wallOwn = false) ∧
    (∃ (sid : BitVec 16) (s : State), Authorised s sid 0x040018 1 3 ∧ s.lge.stepKind = none ∧ s.lane.st = .hold ∧ s.atRegion s.lge.pc
      = true) ∧
    (∃ (sid : BitVec 16) (s : State), Authorised s sid 0x040018 2 3 ∧ s.lge.stepKind = none ∧ s.lane.st = .hold) ∧
    (∃ (sid : BitVec 16) (s : State), Authorised s sid 0x040018 3 3 ∧ s.lge.stepKind = none ∧ s.lane.st = .hold) ∧
    (∃ (sid : BitVec 16) (s : State), Authorised s sid 0x040018 4 3 ∧ s.lge.stepKind = none ∧ s.lane.st = .hold) ∧
    (∃ (s : State), s.lane.st = .hold ∧ s.lge.stepKind.isSome = true ∧ s.lge.drain = none ∧ s.stepEnded = true) ∧
    (∃ (sid : BitVec 16) (n : Fin 32) (s : State), Authorised s sid 0x060034 n.val 2 ∧ (s.vout n.val).lockout = true ∧ (s.monEn n.val
      && s.picked n.val) = false ∧ ackPending s.vio.acks = false) ∧
    (∃ (sid : BitVec 16) (g : Fin 8) (s : State), Authorised s sid 0x070014 g.val 2 ∧ s.lmp.iso.getLsbD g.val = true ∧
      ((s.lmp.acks.any fun a => a.own) = false)) ∧
    (∃ (sid : BitVec 16) (ch : Fin 32) (cyc : BitVec 8) (s : State), Authorised s sid 0x07001C (256 * cyc.toNat + ch.val) 3 ∧ (s.mode
      = 1 ∨ s.mode = 2) ∧ chEn s.station ch.val = true ∧ s.lmp.learn = none ∧ 16 ≤ cyc.toNat) ∧
    (∃ (sid : BitVec 16) (ch : BitVec 6) (s : State), Authorised s sid 0x080028 (64 + ch.toNat) 2 ∧ ch.toNat < 48 ∧ meaEn s.station
      ch.toNat = true ∧ (s.si 0).busy = false ∧ (s.si 1).busy = false ∧ s.mea.calWait = none) ∧
    (∃ (sid : BitVec 16) (ch : BitVec 6) (s : State), Authorised s sid 0x080028 (128 + ch.toNat) 2 ∧ s.mea.calWait = some ch.toNat) ∧
    (∃ (sid : BitVec 16) (k : BitVec 4) (s : State), Authorised s sid 0x010010 k.toNat 3 ∧ s.srstState k.toNat = true ∧
      s.crt.gate.getLsbD k.toNat = true ∧ s.crt.inReset = 0 ∧ s.crt.stuck = 0) ∧
    (∃ (sid : BitVec 16) (v : Word) (k : Nat) (s : State), Authorised s sid 0x010004 v.toNat 3 ∧ 3 ≤ k ∧ k ≤ 12 ∧ v.getLsbD k = false
      ∧ s.crt.clken.getLsbD k = true ∧ s.crt.inReset.getLsbD k = false ∧ s.lane.st = .stop) ∧
    (∃ (sid : BitVec 16) (v : Word) (k : Nat) (s : State), Authorised s sid 0x010004 v.toNat 3 ∧ 3 ≤ k ∧ k ≤ 12 ∧ v.getLsbD k = true
      ∧ s.crt.clken.getLsbD k = false ∧ s.crt.inReset.getLsbD k = false) ∧
    (∃ (sid : BitVec 16) (g : Fin 3) (s : State), Authorised s sid 0x010020 (16 * g.val + 1) 2 ∧ s.crt.test = none ∧ s.crt.bistWait =
      false ∧ s.lane.st = .stop) ∧
    (∃ (sid : BitVec 16) (g : Fin 3) (s : State), Authorised s sid 0x010020 (16 * g.val + 1) 2 ∧ s.crt.test = none ∧ s.crt.bistWait =
      false ∧ s.lane.st = .run) ∧
    (∃ (sid : BitVec 16) (s : State), Authorised s sid 0x010020 2 2 ∧ s.crt.bistWait = true) ∧
    (∃ (sid : BitVec 16) (s : State) (h : Header), Authorised s sid 0x010034 1 3 ∧ s.upd.hdr = some h ∧ s.crt.ikd = none ∧ (s.mode =
      1 ∨ s.mode = 3) ∧ s.vfok = true) ∧
    (∃ (sid : BitVec 16) (s : State) (e : Nat), MayWrite s sid 0x0B0004 2 ∧ s.freeEntry = some e ∧ canAllowed s.stagedFrame = true) ∧
    (∃ (sid : BitVec 16) (e : Fin 32) (s : State), MayWrite s sid 0x0B0008 2 ∧ (s.txEntry e.val).st = .pending) ∧
    (∃ (sid : BitVec 16) (s : State), MayWrite s sid 0x0B0010 2) ∧
    (∃ (sid : BitVec 16) (e : Fin 32) (s : State), TablesWf s ∧ MayWrite s sid (0x0B0200 + 4 * e.val) 2 ∧ (s.txEntry e.val).st =
      .completed) ∧
    (∃ (sid : BitVec 16) (c : Fin 2) (s : State), MayWrite s sid (0x0B002C + 64 * c.val) 2 ∧ (s.can c.val).estate = .busoff) ∧
    (∃ (sid : BitVec 16) (s : State), MayWrite s sid 0x0C0020 1) ∧
    (∃ (sid : BitVec 16) (s : State) (c : Nat), MayWrite s sid 0x0C0020 1 ∧ s.cursorOf sid.toNat = some c) ∧
    (∃ (sid : BitVec 16) (s : State) (x : Session), MayWrite s sid 0x0C0020 1 ∧ s.session sid.toNat = some x) ∧
    (∃ (sid : BitVec 16) (s : State), Authorised s sid 0x0C0060 1 2 ∧ s.rcd.frozen = false ∧ s.rcd.frzWait = false ∧ s.rcd.legStat ≠
      1) ∧
    (∃ (sid : BitVec 16) (s : State), Authorised s sid 0x0C0060 2 2 ∧ s.rcd.frozen = true) ∧
    (∃ (r : Record) (s : State), s.legServes = true ∧ s.legRecord = some r) ∧
    (∃ (sid : BitVec 16) (key : BitVec 16) (s : State), MayWrite s sid 0x0C0088 2 ∧ s.cmpt = true ∧ s.rcd.frozen = false ∧
      s.rcd.legStat ≠ 1 ∧ key.toNat = 0x5A5A) ∧
    (∃ (sid : BitVec 16) (s : State), Authorised s sid 0x0D0000 1 3 ∧ s.upd.lock = none ∧ s.updRuns = false ∧ s.writeAllowed = true) ∧
    (∃ (sid : BitVec 16) (w : ImageWrite) (s : State), Authorised s sid 0x0D0000 2 3 ∧ s.upd.lock = some sid.toNat ∧ s.updRuns =
      false ∧ s.upd.write = some w ∧ (w.hdr.isSome = true ∨ s.upd.blk = 0)) ∧
    (∃ (sid : BitVec 16) (w : ImageWrite) (s : State), Authorised s sid 0x0D0000 3 3 ∧ s.upd.lock = some sid.toNat ∧ s.updRuns =
      false ∧ s.upd.write = some w) ∧
    (∃ (sid : BitVec 16) (w : ImageWrite) (s : State), Authorised s sid 0x0D0000 4 3 ∧ s.ownSwitch true = false ∧ s.upd.lock = some
      sid.toNat ∧ s.upd.write = some w) ∧
    (∃ (sid : BitVec 16) (w : ImageWrite) (s : State), Authorised s sid 0x0D0000 5 3 ∧ s.updRuns = false ∧ s.upd.lock = some
      sid.toNat ∧ s.upd.write = some w) ∧
    (∃ (sid : BitVec 16) (s : State), Authorised s sid 0x0D0000 6 3 ∧ s.updRuns = false ∧ s.activateOk sid.toNat = true ∧
      s.lane.safeLatch = false) ∧
    (∃ (sid : BitVec 16) (d : Bool) (s : State), Authorised s sid 0x0D0000 (7 + 256 * bitNat d) 3 ∧ s.updRuns = false ∧ s.handoverOk
      d = true) ∧
    (∃ (sid : BitVec 16) (s : State), Authorised s sid 0x0D0000 8 3 ∧ s.updRuns = false ∧ s.onlineOk = true) ∧
    (∃ (sid : BitVec 16) (s : State), Authorised s sid 0x0D0000 9 3 ∧ s.updRuns = false ∧ s.forceOk = true) ∧
    (∃ (sid : BitVec 16) (s : State), Authorised s sid 0x0D0000 10 3 ∧ s.updRuns = false ∧ s.forced s.upd.faddr = true ∧ s.upd.faddr
      ∉ s.upd.unforce) ∧
    (∃ (sid : BitVec 16) (s : State), Authorised s sid 0x0D0000 11 2 ∧ s.updRuns = false ∧ s.lane.st = .load ∧ (s.lane.sfault = 0x1D
      ∨ s.lane.sfault = 0x1E)) ∧
    (∃ (sid : BitVec 16) (s : State), MayWrite s sid 0x0D000C 2 ∧ s.upd.lock = some sid.toNat) ∧
    (∃ (sid : BitVec 16) (s : State), TablesWf s ∧ MayWrite s sid 0x0D0010 2 ∧ s.upd.lock = some sid.toNat ∧ s.upd.ptr < 65536) :=
  ⟨⟨0, (armed ({ live with lane.driving := true } : State) 0x28 1 2), armed_authorised ({ live with lane.driving := true } : State) 0x28 1 2 (by decide) rfl (by decide) (by decide) (by decide), by decide, by decide, by decide⟩,
   ⟨0, (armed ({ live with lane.st := .safe, lane.safeLatch := true, lane.scause := 2, lane.smask := 2 } : State) 0x28 2 2), armed_authorised ({ live with lane.st := .safe, lane.safeLatch := true, lane.scause := 2, lane.smask := 2 } : State) 0x28 2 2 (by decide) rfl (by decide) (by decide) (by decide), by decide, by decide, by decide⟩,
   ⟨0, (armed ({ live with lane.driving := true, lge.scan := true } : State) 0x28 3 2), armed_authorised ({ live with lane.driving := true, lge.scan := true } : State) 0x28 3 2 (by decide) rfl (by decide) (by decide) (by decide), by decide, by decide⟩,
   ⟨0, (armed ({ live with lane.pin := 0x80, lane.driving := true } : State) 0x28 4 3), armed_authorised ({ live with lane.pin := 0x80, lane.driving := true } : State) 0x28 4 3 (by decide) rfl (by decide) (by decide) (by decide), by decide, by decide, by decide⟩,
   ⟨0, (armed ({ live with lane.st := .hold, lge.buf0 := [{ tag := 4, addr := 0, content := .bit true true }] } : State) 0x28 5 3), armed_authorised ({ live with lane.st := .hold, lge.buf0 := [{ tag := 4, addr := 0, content := .bit true true }] } : State) 0x28 5 3 (by decide) rfl (by decide) (by decide) (by decide), by decide, by decide⟩,
   ⟨0, (armed ({ live with lane.st := .stop } : State) 0x28 6 2), armed_authorised ({ live with lane.st := .stop } : State) 0x28 6 2 (by decide) rfl (by decide) (by decide) (by decide), by decide, by decide⟩,
   ⟨0, (armed ({ live with lane.otherHealthy := 10000 } : State) 0x28 7 3), armed_authorised ({ live with lane.otherHealthy := 10000 } : State) 0x28 7 3 (by decide) rfl (by decide) (by decide) (by decide), by decide, by decide⟩,
   ⟨0, { toSet := false, cycle := some 1, program := false, back := false, own := true, committed := false }, (armed ({ live with lane.switch := some { toSet := false, cycle := some 1, program := false, back := false, own := true, committed := false } } : State) 0x28 8 3), armed_authorised ({ live with lane.switch := some { toSet := false, cycle := some 1, program := false, back := false, own := true, committed := false } } : State) 0x28 8 3 (by decide) rfl (by decide) (by decide) (by decide), by decide, by decide, by decide, by decide⟩,
   ⟨0, 5, (armed live 0x03002C (5 : BitVec 16).toNat 2), armed_authorised live 0x03002C (5 : BitVec 16).toNat 2 (by decide) rfl (by decide) (by decide) (by decide), by decide, by decide⟩,
   ⟨0, (armed ({ live with lane.st := .hold } : State) 0x040018 1 3), armed_authorised ({ live with lane.st := .hold } : State) 0x040018 1 3 (by decide) rfl (by decide) (by decide) (by decide), by decide, by decide, by decide⟩,
   ⟨0, (armed ({ live with lane.st := .hold } : State) 0x040018 2 3), armed_authorised ({ live with lane.st := .hold } : State) 0x040018 2 3 (by decide) rfl (by decide) (by decide) (by decide), by decide, by decide⟩,
   ⟨0, (armed ({ live with lane.st := .hold } : State) 0x040018 3 3), armed_authorised ({ live with lane.st := .hold } : State) 0x040018 3 3 (by decide) rfl (by decide) (by decide) (by decide), by decide, by decide⟩,
   ⟨0, (armed ({ live with lane.st := .hold } : State) 0x040018 4 3), armed_authorised ({ live with lane.st := .hold } : State) 0x040018 4 3 (by decide) rfl (by decide) (by decide) (by decide), by decide, by decide⟩,
   ⟨({ live with lane.st := .hold, lge.stepKind := some .scan, lge.candidate := true } : State), by decide⟩,
   ⟨0, 3, (armed ({ live with vio.vout := [(3, { vout0 with lockout := true })] } : State) 0x060034 (3 : Fin 32).val 2), armed_authorised ({ live with vio.vout := [(3, { vout0 with lockout := true })] } : State) 0x060034 (3 : Fin 32).val 2 (by decide) rfl (by decide) (by decide) (by decide), by decide, by decide, by decide⟩,
   ⟨0, 3, (armed ({ live with lmp.iso := 8 } : State) 0x070014 (3 : Fin 8).val 2), armed_authorised ({ live with lmp.iso := 8 } : State) 0x070014 (3 : Fin 8).val 2 (by decide) rfl (by decide) (by decide) (by decide), by decide, by decide⟩,
   ⟨0, 2, 16, (armed ({ live with img := some { station0 with cfg := [(0x70108, 0x80000001)] }, lane.pin := 0x80 } : State) 0x07001C (256 * (16 : BitVec 8).toNat + (2 : Fin 32).val) 3), armed_authorised ({ live with img := some { station0 with cfg := [(0x70108, 0x80000001)] }, lane.pin := 0x80 } : State) 0x07001C (256 * (16 : BitVec 8).toNat + (2 : Fin 32).val) 3 (by decide) rfl (by decide) (by decide) (by decide), by decide, by decide, by decide, by decide⟩,
   ⟨0, 2, (armed ({ live with img := some { station0 with cfg := [(0x81080, 0x80000000)] } } : State) 0x080028 (64 + (2 : BitVec 6).toNat) 2), armed_authorised ({ live with img := some { station0 with cfg := [(0x81080, 0x80000000)] } } : State) 0x080028 (64 + (2 : BitVec 6).toNat) 2 (by decide) rfl (by decide) (by decide) (by decide), by decide, by decide, by decide, by decide, by decide⟩,
   ⟨0, 2, (armed ({ live with mea.calWait := some 2 } : State) 0x080028 (128 + (2 : BitVec 6).toNat) 2), armed_authorised ({ live with mea.calWait := some 2 } : State) 0x080028 (128 + (2 : BitVec 6).toNat) 2 (by decide) rfl (by decide) (by decide) (by decide), by decide⟩,
   ⟨0, 7, (armed ({ live with lane.st := .stop } : State) 0x010010 (7 : BitVec 4).toNat 3), armed_authorised ({ live with lane.st := .stop } : State) 0x010010 (7 : BitVec 4).toNat 3 (by decide) rfl (by decide) (by decide) (by decide), by decide, by decide, by decide, by decide⟩,
   ⟨0, 0x1F7E, 7, (armed ({ live with lane.st := .stop } : State) 0x010004 (0x1F7E : Word).toNat 3), armed_authorised ({ live with lane.st := .stop } : State) 0x010004 (0x1F7E : Word).toNat 3 (by decide) rfl (by decide) (by decide) (by decide), by decide, by decide, by decide, by decide, by decide, by decide⟩,
   ⟨0, 0x1FFE, 7, (armed ({ live with crt.clken := 0x1F7E, crt.gate := 0x1F7E } : State) 0x010004 (0x1FFE : Word).toNat 3), armed_authorised ({ live with crt.clken := 0x1F7E, crt.gate := 0x1F7E } : State) 0x010004 (0x1FFE : Word).toNat 3 (by decide) rfl (by decide) (by decide) (by decide), by decide, by decide, by decide, by decide, by decide⟩,
   ⟨0, 1, (armed ({ live with lane.st := .stop } : State) 0x010020 (16 * (1 : Fin 3).val + 1) 2), armed_authorised ({ live with lane.st := .stop } : State) 0x010020 (16 * (1 : Fin 3).val + 1) 2 (by decide) rfl (by decide) (by decide) (by decide), by decide, by decide, by decide⟩,
   ⟨0, 1, (armed live 0x010020 (16 * (1 : Fin 3).val + 1) 2), armed_authorised live 0x010020 (16 * (1 : Fin 3).val + 1) 2 (by decide) rfl (by decide) (by decide) (by decide), by decide, by decide, by decide⟩,
   ⟨0, (armed ({ live with crt.bistWait := true } : State) 0x010020 2 2), armed_authorised ({ live with crt.bistWait := true } : State) 0x010020 2 2 (by decide) rfl (by decide) (by decide) (by decide), by decide⟩,
   ⟨0, (armed ({ live with lane.pin := 0x80, crt.vfuse := true, upd.hdr := some hdr0 } : State) 0x010034 1 3), hdr0, armed_authorised ({ live with lane.pin := 0x80, crt.vfuse := true, upd.hdr := some hdr0 } : State) 0x010034 1 3 (by decide) rfl (by decide) (by decide) (by decide), by decide, by decide, by decide, by decide⟩,
   ⟨0, (opened live 2), 0, opened_writes live 0x0B0004 2 (by decide) (by decide) (by decide), by decide, by decide⟩,
   ⟨0, 4, (opened ({ live with cab.txq := [(4, { tx0 with st := .pending })] } : State) 2), opened_writes ({ live with cab.txq := [(4, { tx0 with st := .pending })] } : State) 0x0B0008 2 (by decide) (by decide) (by decide), by decide⟩,
   ⟨0, (opened ({ live with cab.rxq := [{ ctrl := 0, frame := canFrame0, sof := 0 }] } : State) 2), opened_writes ({ live with cab.rxq := [{ ctrl := 0, frame := canFrame0, sof := 0 }] } : State) 0x0B0010 2 (by decide) (by decide) (by decide)⟩,
   ⟨0, 4, (opened ({ live with cab.txq := [(4, { tx0 with st := .completed })] } : State) 2), by decide, opened_writes ({ live with cab.txq := [(4, { tx0 with st := .completed })] } : State) (0x0B0200 + 4 * (4 : Fin 32).val) 2 (by decide) (by decide) (by decide), by decide⟩,
   ⟨0, 1, (opened ({ live with cab.ctl := [(1, { can0 with estate := .busoff })] } : State) 2), opened_writes ({ live with cab.ctl := [(1, { can0 with estate := .busoff })] } : State) (0x0B002C + 64 * (1 : Fin 2).val) 2 (by decide) (by decide) (by decide), by decide⟩,
   ⟨0, (opened ({ live with rcd.buf := [{ record0 with seq := 3 }, { record0 with seq := 5 }] } : State) 1), opened_writes ({ live with rcd.buf := [{ record0 with seq := 3 }, { record0 with seq := 5 }] } : State) 0x0C0020 1 (by decide) (by decide) (by decide)⟩,
   ⟨0, ({ live with rcd.buf := [{ record0 with seq := 3 }, { record0 with seq := 5 }], sup.sessions := [{ Session.fresh 0 none with st := .opened, level := 1, cursor := some 3, cseq := 4 }] } : State), 3, ⟨_, rfl, by decide⟩, by decide⟩,
   ⟨0, ({ live with rcd.buf := [{ record0 with seq := 3 }, { record0 with seq := 5 }], sup.sessions := [{ Session.fresh 0 none with st := .opened, level := 1, cursor := some 3, cseq := 4 }] } : State), { Session.fresh 0 none with st := .opened, level := 1, cursor := some 3, cseq := 4 }, ⟨_, rfl, by decide⟩, by decide⟩,
   ⟨0, (armed live 0x0C0060 1 2), armed_authorised live 0x0C0060 1 2 (by decide) rfl (by decide) (by decide) (by decide), by decide, by decide, by decide⟩,
   ⟨0, (armed ({ live with rcd.frozen := true } : State) 0x0C0060 2 2), armed_authorised ({ live with rcd.frozen := true } : State) 0x0C0060 2 2 (by decide) rfl (by decide) (by decide) (by decide), by decide⟩,
   ⟨{ record0 with seq := 3 }, ({ live with rcd.buf := [{ record0 with seq := 3 }, { record0 with seq := 5 }], lane.eff := 0x1000 } : State), by decide⟩,
   ⟨0, 0x5A5A, (opened ({ live with lane.eff := 0x1000 } : State) 2), opened_writes ({ live with lane.eff := 0x1000 } : State) 0x0C0088 2 (by decide) (by decide) (by decide), by decide, by decide, by decide, by decide⟩,
   ⟨0, (armed ({ live with upd.runSlot := some false, upd.slot0 := confirmedSlot } : State) 0x0D0000 1 3), armed_authorised ({ live with upd.runSlot := some false, upd.slot0 := confirmedSlot } : State) 0x0D0000 1 3 (by decide) rfl (by decide) (by decide) (by decide), by decide, by decide, by decide⟩,
   ⟨0, { slot := true, written := [1], hdr := none, cur := 1, buf := [] }, (armed ({ live with upd.lock := some 0, upd.write := some { slot := true, written := [1], hdr := none, cur := 1, buf := [] }, upd.blk := 0 } : State) 0x0D0000 2 3), armed_authorised ({ live with upd.lock := some 0, upd.write := some { slot := true, written := [1], hdr := none, cur := 1, buf := [] }, upd.blk := 0 } : State) 0x0D0000 2 3 (by decide) rfl (by decide) (by decide) (by decide), by decide, by decide, by decide, by decide⟩,
   ⟨0, { slot := true, written := [1], hdr := none, cur := 1, buf := [] }, (armed ({ live with upd.lock := some 0, upd.write := some { slot := true, written := [1], hdr := none, cur := 1, buf := [] } } : State) 0x0D0000 3 3), armed_authorised ({ live with upd.lock := some 0, upd.write := some { slot := true, written := [1], hdr := none, cur := 1, buf := [] } } : State) 0x0D0000 3 3 (by decide) rfl (by decide) (by decide) (by decide), by decide, by decide, by decide⟩,
   ⟨0, { slot := true, written := [1], hdr := none, cur := 1, buf := [] }, (armed ({ live with upd.lock := some 0, upd.write := some { slot := true, written := [1], hdr := none, cur := 1, buf := [] } } : State) 0x0D0000 4 3), armed_authorised ({ live with upd.lock := some 0, upd.write := some { slot := true, written := [1], hdr := none, cur := 1, buf := [] } } : State) 0x0D0000 4 3 (by decide) rfl (by decide) (by decide) (by decide), by decide, by decide, by decide⟩,
   ⟨0, { slot := true, written := [1], hdr := none, cur := 1, buf := [] }, (armed ({ live with upd.lock := some 0, upd.write := some { slot := true, written := [1], hdr := none, cur := 1, buf := [] } } : State) 0x0D0000 5 3), armed_authorised ({ live with upd.lock := some 0, upd.write := some { slot := true, written := [1], hdr := none, cur := 1, buf := [] } } : State) 0x0D0000 5 3 (by decide) rfl (by decide) (by decide) (by decide), by decide, by decide, by decide⟩,
   ⟨0, (armed ({ live with lane.role := .standby, upd.runSlot := some false, upd.slot1 := slotOf .complete } : State) 0x0D0000 6 3), armed_authorised ({ live with lane.role := .standby, upd.runSlot := some false, upd.slot1 := slotOf .complete } : State) 0x0D0000 6 3 (by decide) rfl (by decide) (by decide) (by decide), by decide, by decide, by decide⟩,
   ⟨0, true, (armed ({ live with lane.otherHealthy := 10000, lnb.node := [(3, shows 0x27)] } : State) 0x0D0000 (7 + 256 * bitNat (true : Bool)) 3), armed_authorised ({ live with lane.otherHealthy := 10000, lnb.node := [(3, shows 0x27)] } : State) 0x0D0000 (7 + 256 * bitNat (true : Bool)) 3 (by decide) rfl (by decide) (by decide) (by decide), by decide, by decide⟩,
   ⟨0, (armed ({ live with img := some { station0 with params := [{ sym := 7, addr := 0x40000, timer := false, min := 0, max := 9 }] }, upd.olsym := 7, upd.olval := 3, upd.olcyc := 200 } : State) 0x0D0000 8 3), armed_authorised ({ live with img := some { station0 with params := [{ sym := 7, addr := 0x40000, timer := false, min := 0, max := 9 }] }, upd.olsym := 7, upd.olval := 3, upd.olcyc := 200 } : State) 0x0D0000 8 3 (by decide) rfl (by decide) (by decide) (by decide), by decide, by decide⟩,
   ⟨0, (armed ({ live with lane.pin := 0x80, upd.faddr := 0x3F000, upd.fval := 1 } : State) 0x0D0000 9 3), armed_authorised ({ live with lane.pin := 0x80, upd.faddr := 0x3F000, upd.fval := 1 } : State) 0x0D0000 9 3 (by decide) rfl (by decide) (by decide) (by decide), by decide, by decide⟩,
   ⟨0, (armed ({ live with upd.faddr := 0x3F000, upd.forces := [(0x3F000, 1)] } : State) 0x0D0000 10 3), armed_authorised ({ live with upd.faddr := 0x3F000, upd.forces := [(0x3F000, 1)] } : State) 0x0D0000 10 3 (by decide) rfl (by decide) (by decide) (by decide), by decide, by decide, by decide⟩,
   ⟨0, (armed ({ live with lane.st := .load, img := none, tae.timev := false, tae.ctOff := none, lnb.bstate := .config, lane.sfault := 0x1D } : State) 0x0D0000 11 2), armed_authorised ({ live with lane.st := .load, img := none, tae.timev := false, tae.ctOff := none, lnb.bstate := .config, lane.sfault := 0x1D } : State) 0x0D0000 11 2 (by decide) rfl (by decide) (by decide) (by decide), by decide, by decide, by decide⟩,
   ⟨0, (opened ({ live with upd.lock := some 0 } : State) 2), opened_writes ({ live with upd.lock := some 0 } : State) 0x0D000C 2 (by decide) (by decide) (by decide), by decide⟩,
   ⟨0, (opened ({ live with upd.lock := some 0 } : State) 2), by decide, opened_writes ({ live with upd.lock := some 0 } : State) 0x0D0010 2 (by decide) (by decide) (by decide), by decide, by decide⟩⟩

end Sys2Proof.Tests
end

section
/-! PROOF. A write of a register by its address (R4, R601, R604): what the access rule of the address makes of it, and the commands
that are such writes. -/

namespace Sys2Proof.Machine

open Sys2Proof.Safety

/-! ### A write under its access rule -/

/-- Every CMD register stands at a multiple of 4. -/
theorem cmdLevel_aligned {a v l : Nat} (h : cmdLevel a v = some l) : a % 4 = 0 := by
  unfold cmdLevel at h
  split at h <;> simp at h ⊢

theorem exec_registerWrite (sid : BitVec 16) (a : BitVec 24) (v : Word) (s : State) :
    exec (.registerWrite sid a v) s = execRegisterWrite sid a v s := rfl

/-- A write to a CMD register goes through the check of session, level and token (R4, R598). -/
theorem registerWrite_cmd {a : BitVec 24} {v : Word} {l : Nat} (sid : BitVec 16) (s : State)
    (h : cmdLevel a.toNat v.toNat = some l) : exec (.registerWrite sid a v) s =
      .next (s.command sid.toNat a.toNat v.toNat l fun t => t.regWrite sid.toNat a.toNat v) := by
  have need : writeNeed sid.toNat a.toNat v.toNat = .cmd l := by simp [writeNeed, h]
  simp [exec_registerWrite, execRegisterWrite, cmdLevel_aligned h, need]

/-- A write to an RW or W1C register in a session that may write it takes effect (R4, R599). -/
theorem registerWrite_mayWrite {a : BitVec 24} {v : Word} {l : Nat} {sid : BitVec 16} {s : State} (aligned : a.toNat % 4 = 0)
    (need : writeNeed sid.toNat a.toNat v.toNat = .plain l) (h : MayWrite s sid a.toNat l) : exec (.registerWrite sid a v) s =
      .next ((TokenSpent s sid).writeBlock sid.toNat (a.toNat / 0x10000) (a.toNat % 0x10000) v) := by
  simp [exec_registerWrite, execRegisterWrite, aligned, need, State.plainWrite_mayWrite _ h, State.regWrite]

/-- A write to an RO, CFG or reserved address consumes the token at most (R4, R5). -/
theorem registerWrite_readOnly {a : BitVec 24} {v : Word} (sid : BitVec 16) (s : State) (aligned : a.toNat % 4 = 0)
    (need : writeNeed sid.toNat a.toNat v.toNat = .none) : exec (.registerWrite sid a v) s =
      .next (if s.supServes then TokenSpent s sid else s) := by
  simp [exec_registerWrite, execRegisterWrite, aligned, need]

/-- A write at an address that is no multiple of 4 is none. -/
theorem registerWrite_unaligned {a : BitVec 24} (sid : BitVec 16) (v : Word) (s : State) (h : a.toNat % 4 ≠ 0) :
    exec (.registerWrite sid a v) s = .next s := by
  simp [exec_registerWrite, execRegisterWrite, h]

/-- A refused write to a CMD register leaves everything but the session's token, CRT.EVT and the ATTN bits (R4, R562, R598). -/
theorem State.command_refused_only (s : State) (sid : BitVec 16) (addr value level : Nat) (f : State → State)
    (h : ¬ Authorised s sid addr value level) :
    { s.command sid.toNat addr value level f with
      sup.sessions := s.sup.sessions, crt.evt := s.crt.evt, lane.attn := s.lane.attn } = s ∧
    ((s.command sid.toNat addr value level f).sup.sessions = s.sup.sessions ∨
      (s.command sid.toNat addr value level f).sup = (TokenSpent s sid).sup) := by
  rcases s.command_else sid addr value level f h with e | e | e
  · rw [e]
    exact ⟨rfl, .inl rfl⟩
  · rw [e]
    exact ⟨rfl, .inr rfl⟩
  · rw [e]
    refine ⟨?_, .inr (State.evtCrt_sup _ 3)⟩
    unfold State.evtCrt State.attnEvt
    split <;> rfl

/-! ### Words that carry an operand -/

theorem bits_eq_div_mod (v lo n : Nat) : bits v lo n = v / 2 ^ lo % 2 ^ n := by rw [bits, Nat.shiftRight_eq_div_pow]

theorem toNat_wordOfNat {n : Nat} (h : n < 4294967296) : (BitVec.ofNat 32 n).toNat = n := by
  rw [BitVec.toNat_ofNat, Nat.mod_eq_of_lt h]

/-- The word that asks for a group is read as that request out of CRT.BISTCMD (R580). -/
theorem State.bistCmd_request (s : State) (g : Fin 3) : s.bistCmd (16 * g.val + 1) = s.bistWrite g.val := by
  have op : (16 * g.val + 1) % 8 = 1 := by omega
  have grp : bits (16 * g.val + 1) 4 2 = g.val := by
    rw [bits_eq_div_mod]
    omega
  simp [State.bistCmd, op, grp]

/-- So is a START with its channel out of MEA.CALCMD (R327). -/
theorem State.calCmd_start (s : State) (c : BitVec 6) : s.calCmd (64 + c.toNat) = s.calStart c.toNat := by
  have op : bits (64 + c.toNat) 6 2 = 1 := by
    rw [bits_eq_div_mod]
    omega
  have chan : (64 + c.toNat) % 64 = c.toNat := by omega
  simp [State.calCmd, op, chan]

/-- And an ABORT with its channel. -/
theorem State.calCmd_abort (s : State) (c : BitVec 6) : s.calCmd (128 + c.toNat) = s.calAbort c.toNat := by
  have op : bits (128 + c.toNat) 6 2 = 2 := by
    rw [bits_eq_div_mod]
    omega
  have chan : (128 + c.toNat) % 64 = c.toNat := by omega
  simp [State.calCmd, op, chan]

/-- And an OPEN with its level out of GLB.SESSCMD (R613). -/
theorem State.sessCmd_open (s : State) (level : BitVec 4) : s.sessCmd 0 (256 * level.toNat + 1) = s.mapOpen level.toNat := by
  have op : (256 * level.toNat + 1) % 4 = 1 := by omega
  have asked : bits (256 * level.toNat + 1) 8 4 = level.toNat := by
    rw [bits_eq_div_mod]
    omega
  simp [State.sessCmd, op, asked]

/-! ### The registers whose word carries an operand (the register tables of the blocks) -/

theorem registerWrite_sesscmd (v : Word) (s : State) : exec (.registerWrite 0 0x40 v) s =
    .next (if s.supServes then (s.useToken 0).sessCmd 0 v.toNat else s) := rfl
theorem registerWrite_srst (sid : BitVec 16) (v : Word) (s : State) : exec (.registerWrite sid 0x010010 v) s =
    .next (s.command sid.toNat 0x010010 v.toNat 3 fun t => t.srstWrite (v.toNat % 16)) := rfl
theorem registerWrite_bistcmd (sid : BitVec 16) (v : Word) (s : State) : exec (.registerWrite sid 0x010020 v) s =
    .next (s.command sid.toNat 0x010020 v.toNat 2 fun t => t.bistCmd v.toNat) := rfl
theorem registerWrite_wsethi (sid : BitVec 16) (v : Word) (s : State) : exec (.registerWrite sid 0x03002C v) s =
    .next (s.command sid.toNat 0x03002C v.toNat 2 fun t => t.wallSet (v.toNat % 65536)) := rfl
theorem registerWrite_lockack (sid : BitVec 16) (v : Word) (s : State) : exec (.registerWrite sid 0x060034 v) s =
    .next (s.command sid.toNat 0x060034 v.toNat 2 fun t => t.lockAck (v.toNat % 32)) := rfl
theorem registerWrite_isoack (sid : BitVec 16) (v : Word) (s : State) : exec (.registerWrite sid 0x070014 v) s =
    .next (s.command sid.toNat 0x070014 v.toNat 2 fun t => t.isoAck (v.toNat % 8)) := rfl
theorem registerWrite_lrn (sid : BitVec 16) (v : Word) (s : State) : exec (.registerWrite sid 0x07001C v) s =
    .next (s.command sid.toNat 0x07001C v.toNat 3 fun t => t.learnWrite (v.toNat % 32) (bits v.toNat 8 8)) := rfl
theorem registerWrite_calcmd (sid : BitVec 16) (v : Word) (s : State) : exec (.registerWrite sid 0x080028 v) s =
    .next (s.command sid.toNat 0x080028 v.toNat 2 fun t => t.calCmd v.toNat) := rfl
theorem registerWrite_txcncl (sid : BitVec 16) (v : Word) (s : State) : exec (.registerWrite sid 0x0B0008 v) s =
    .next (s.plainWrite sid.toNat 0x0B0008 2 fun t => t.txCancel (v.toNat % 32)) := rfl
theorem registerWrite_legkey (sid : BitVec 16) (v : Word) (s : State) : exec (.registerWrite sid 0x0C0088 v) s =
    .next (s.legkeyWrite sid.toNat (v.toNat % 65536)) := rfl

/-! ### Commands as writes -/

/-- OPEN on MAP is the write of GLB.SESSCMD (R596). -/
theorem registerWrite_open (level : BitVec 4) (s : State) :
    exec (.registerWrite 0 0x40 (BitVec.ofNat 32 (256 * level.toNat + 1))) s = exec (.sessionOpen none level) s := by
  have word : (BitVec.ofNat 32 (256 * level.toNat + 1)).toNat = 256 * level.toNat + 1 := toNat_wordOfNat (by omega)
  rw [registerWrite_sesscmd, word, State.sessCmd_open]
  rfl

/-- A command of a session is the write that it names: the word is fixed, or its fields are the command's operands. -/
theorem registerWrite_asWrite (i : Instr) (sid : BitVec 16) (a : BitVec 24) (v : Word) (s : State)
    (h : asWrite i = some (sid, a, v)) : exec (.registerWrite sid a v) s = exec i s := by
  cases i
  case makesafe | restart | stop | hold | leavehold | resume | switchover | abortsw => cases h; rfl
  case gateCloseWrite | gateOpenWrite | bistAbort | keyburn => cases h; rfl
  case capture | stepRung | stepRegion | stepScan | fallbackExitCommand => cases h; rfl
  case post | receiveAcknowledgement | oldest | newest | nextRec | prevRec | seek | freeze | unfreeze => cases h; rfl
  case updOpen | block | finish | abort | release | activate | online | force | unforce | reload => cases h; rfl
  case blkWrite | bdataWrite => cases h; rfl
  case handover _ d => cases h; cases d <;> rfl
  case busoffRecoveryRequest _ c => cases h; fin_cases c <;> rfl
  case entryRelease _ e => cases h; fin_cases e <;> rfl
  case softReset _ b =>
    cases h
    rw [registerWrite_srst, BitVec.toNat_setWidth_of_le (by decide), Nat.mod_eq_of_lt b.isLt]
    rfl
  case wallTimeSet _ hi =>
    cases h
    rw [registerWrite_wsethi, BitVec.toNat_setWidth_of_le (by decide), Nat.mod_eq_of_lt hi.isLt]
    rfl
  case legkeyWrite _ k =>
    cases h
    rw [registerWrite_legkey, BitVec.toNat_setWidth_of_le (by decide), Nat.mod_eq_of_lt k.isLt]
    rfl
  case lockoutAcknowledgement _ n =>
    cases h
    rw [registerWrite_lockack, toNat_wordOfNat (by omega), Nat.mod_eq_of_lt n.isLt]
    rfl
  case isolationAcknowledgement _ g =>
    cases h
    rw [registerWrite_isoack, toNat_wordOfNat (by omega), Nat.mod_eq_of_lt g.isLt]
    rfl
  case cancel _ e =>
    cases h
    rw [registerWrite_txcncl, toNat_wordOfNat (by omega), Nat.mod_eq_of_lt e.isLt]
    rfl
  case learn _ c n =>
    cases h
    have chan : (256 * n.toNat + c.val) % 32 = c.val := by omega
    have cyc : bits (256 * n.toNat + c.val) 8 8 = n.toNat := by
      rw [bits_eq_div_mod]
      omega
    rw [registerWrite_lrn, toNat_wordOfNat (by omega), chan, cyc]
    rfl
  case bistRequest _ g =>
    cases h
    rw [registerWrite_bistcmd, toNat_wordOfNat (by omega)]
    simp only [State.bistCmd_request]
    rfl
  case calibrate _ c =>
    cases h
    rw [registerWrite_calcmd, toNat_wordOfNat (by omega)]
    simp only [State.calCmd_start]
    rfl
  case calibrateAbort _ c =>
    cases h
    rw [registerWrite_calcmd, toNat_wordOfNat (by omega)]
    simp only [State.calCmd_abort]
    rfl
  all_goals exact nomatch h

/-- Settles O48: each command of a session is the write that it names, so that a refused one is a refused write; every other
write follows from the access rule of its address. -/
theorem registersWritten : Obligations.RegistersWritten := by
  refine ⟨registerWrite_asWrite, registerWrite_open, fun _ _ _ => rfl, fun sid v s => ?_, ?_, ?_, ?_⟩
  · refine ⟨?_, ?_, ?_, ?_, ?_, ?_, ?_, ?_, ?_, ?_⟩
    iterate 8 exact fun h => ⟨_, registerWrite_mayWrite rfl rfl h, rfl⟩
    · exact fun h => ⟨_, registerWrite_readOnly sid s rfl rfl, by rw [h]; rfl⟩
    · exact fun h => ⟨_, registerWrite_readOnly sid s rfl rfl, by rw [h]; rfl⟩
  · exact fun v s h => ⟨_, registerWrite_mayWrite rfl rfl h, rfl⟩
  · exact fun sid a v s h => ⟨s, registerWrite_unaligned sid v s h, rfl⟩
  · intro i sid a v l s hi hl h
    have write : exec i s = _ := (registerWrite_asWrite i sid a v s hi).symm.trans (registerWrite_cmd sid s hl)
    exact ⟨_, write, s.command_refused_only sid a.toNat v.toNat l _ h⟩

end Sys2Proof.Machine
end

section
/-! PROOF. The recorder (R518 to R534): what a record and a flush leave of it, where a record enters the buffer, where a flush puts
the records, and how a freeze ends. -/

namespace Sys2Proof.Machine

/-! ### The commands of this part (the dispatch of their meanings) -/

theorem exec_recordCreate (sev : Fin 6) (src code : BitVec 16) (data : List Byte) (s : State) :
    exec (.recordCreate sev src code data) s = execRecordCreate sev src code data s := rfl
theorem exec_flushPeriod (s : State) : exec .flushPeriod s = execFlushPeriod s := rfl
theorem exec_recFlush (ok : Bool) (s : State) : exec (.recFlush ok) s = execRecFlush ok s := rfl
theorem exec_freezeStart (s : State) : exec .freezeStart s = execFreezeStart s := rfl
theorem exec_freezeCommit (s : State) : exec .freezeCommit s = execFreezeCommit s := rfl
theorem exec_legkeyTimeout (s : State) : exec .legkeyTimeout s = execLegkeyTimeout s := rfl

/-! ### What records and flushes leave -/

/-- `t` is `s` but for what a record changes: the buffer with SEQ, the counts of drops, the flags, and the ATTN bits. -/
def RecordsOnly (s t : State) : Prop := ∃ buf seq lost drops evt flush late a,
  t = { s with rcd.buf := buf, rcd.seqNext := seq, rcd.lostcnt := lost, rcd.drops := drops, rcd.evt := evt, rcd.flush := flush,
               rcd.late := late, lane.attn := a }

theorem RecordsOnly.refl (s : State) : RecordsOnly s s := ⟨_, _, _, _, _, _, _, _, rfl⟩

theorem RecordsOnly.trans {s t u : State} (h : RecordsOnly s t) (k : RecordsOnly t u) : RecordsOnly s u := by
  obtain ⟨_, _, _, _, _, _, _, _, rfl⟩ := h
  obtain ⟨_, _, _, _, _, _, _, _, rfl⟩ := k
  exact ⟨_, _, _, _, _, _, _, _, rfl⟩

theorem RecordsOnly.ite {s t u : State} {c : Prop} [Decidable c] (h : RecordsOnly s t) (k : RecordsOnly s u) :
    RecordsOnly s (if c then t else u) := by
  split
  · exact h
  · exact k

theorem RecordsOnly.attn (s : State) (k : Nat) : RecordsOnly s (s.attn k) := ⟨_, _, _, _, _, _, _, _, rfl⟩

theorem RecordsOnly.evtRec (s : State) (k : Nat) : RecordsOnly s (s.evtRec k) := by
  unfold State.evtRec State.attnEvt
  split <;> exact ⟨_, _, _, _, _, _, _, _, rfl⟩

theorem RecordsOnly.recDrop (s : State) (c v : Nat) : RecordsOnly s (s.recDrop c v) :=
  RecordsOnly.trans ⟨_, _, _, _, _, _, _, _, rfl⟩ (RecordsOnly.evtRec _ 1)

theorem RecordsOnly.recPut (s : State) (r : Record) : RecordsOnly s (s.recPut r) :=
  RecordsOnly.ite (RecordsOnly.trans ⟨_, _, _, _, _, _, _, _, rfl⟩ (RecordsOnly.recDrop _ _ _))
    (RecordsOnly.ite (RecordsOnly.trans ⟨_, _, _, _, _, _, _, _, rfl⟩ (RecordsOnly.recDrop _ _ _)) ⟨_, _, _, _, _, _, _, _, rfl⟩)

theorem RecordsOnly.recMake (s : State) (sev src code : Nat) (data : List Nat) : RecordsOnly s (s.recMake sev src code data) :=
  have put := RecordsOnly.trans ⟨_, _, _, _, _, _, _, _, rfl⟩ (RecordsOnly.recPut _ _)
  have flagged := RecordsOnly.ite (put.trans (RecordsOnly.attn _ 2)) put
  RecordsOnly.ite (flagged.trans ⟨_, _, _, _, _, _, _, _, rfl⟩) flagged

theorem RecordsOnly.record (s : State) (sev src code : Nat) (data : List Nat) : RecordsOnly s (s.record sev src code data) :=
  RecordsOnly.ite (RecordsOnly.refl s) (RecordsOnly.ite ⟨_, _, _, _, _, _, _, _, rfl⟩
    (RecordsOnly.ite (RecordsOnly.recMake s _ _ _ _) (RecordsOnly.refl s)))

theorem RecordsOnly.lostRecords (s : State) : RecordsOnly s s.lostRecords := by
  have fold : ∀ (l : List (Nat × Nat × Nat)) (t : State), RecordsOnly t
      (l.foldl (fun t d => t.record 3 0x0C00 0x0C02 (le 4 d.2.1 ++ [d.2.2, d.1])) t) := by
    intro l
    induction l with
    | nil => exact RecordsOnly.refl
    | cons d l ih => exact fun t => (RecordsOnly.record t _ _ _ _).trans (ih _)
  exact RecordsOnly.trans ⟨_, _, _, _, _, _, _, _, rfl⟩ (fold _ _)

/-- `t` is `s` but for what a flush changes: what a record does, and the memory with its control area. -/
def FlushOnly (s t : State) : Prop := ∃ pages ctlA ctlB buf seq lost drops evt flush late a,
  t = { s with rcd.pages := pages, rcd.ctlA := ctlA, rcd.ctlB := ctlB, rcd.buf := buf, rcd.seqNext := seq, rcd.lostcnt := lost,
               rcd.drops := drops, rcd.evt := evt, rcd.flush := flush, rcd.late := late, lane.attn := a }

theorem RecordsOnly.flushOnly {s t : State} (h : RecordsOnly s t) : FlushOnly s t := by
  obtain ⟨_, _, _, _, _, _, _, _, rfl⟩ := h
  exact ⟨_, _, _, _, _, _, _, _, _, _, _, rfl⟩

theorem FlushOnly.trans {s t u : State} (h : FlushOnly s t) (k : FlushOnly t u) : FlushOnly s u := by
  obtain ⟨_, _, _, _, _, _, _, _, _, _, _, rfl⟩ := h
  obtain ⟨_, _, _, _, _, _, _, _, _, _, _, rfl⟩ := k
  exact ⟨_, _, _, _, _, _, _, _, _, _, _, rfl⟩

theorem FlushOnly.ite {s t u : State} {c : Prop} [Decidable c] (h : FlushOnly s t) (k : FlushOnly s u) :
    FlushOnly s (if c then t else u) := by
  split
  · exact h
  · exact k

theorem FlushOnly.flushRecs : ∀ (l : List Record) (s : State), FlushOnly s (s.flushRecs l)
  | [], s => (RecordsOnly.refl s).flushOnly
  | r :: rs, s => by
    unfold State.flushRecs
    split
    · exact FlushOnly.trans ⟨_, _, _, _, _, _, _, _, _, _, _, rfl⟩ (FlushOnly.flushRecs rs _)
    · exact (RecordsOnly.recDrop s _ _).flushOnly.trans (FlushOnly.flushRecs rs _)

theorem FlushOnly.flushWrite (s : State) : FlushOnly s s.flushWrite :=
  have copied := FlushOnly.trans ⟨_, _, _, _, _, _, _, _, _, _, _, rfl⟩ (FlushOnly.flushRecs _ _)
  copied.trans ⟨_, _, _, _, _, _, _, _, _, _, _, rfl⟩

theorem FlushOnly.flushNow (s : State) (ok : Bool) : FlushOnly s (s.flushNow ok) :=
  have w := FlushOnly.flushWrite s
  have idle : RecordsOnly s { s with rcd.flush := false } := ⟨_, _, _, _, _, _, _, _, rfl⟩
  FlushOnly.ite idle.flushOnly
    (FlushOnly.ite ((idle.trans (RecordsOnly.evtRec _ 0)).trans (RecordsOnly.record _ _ _ _ _)).flushOnly
      (FlushOnly.ite w (FlushOnly.ite (w.trans (RecordsOnly.lostRecords _).flushOnly) w)))

/-- Records leave the memory as it is. -/
theorem RecordsOnly.memory_eq {s t : State} (h : RecordsOnly s t) :
    t.rcd.pages = s.rcd.pages ∧ t.rcd.ctlA = s.rcd.ctlA ∧ t.rcd.ctlB = s.rcd.ctlB := by
  obtain ⟨_, _, _, _, _, _, _, _, rfl⟩ := h
  exact ⟨rfl, rfl, rfl⟩

/-- Records and flushes leave the freeze as it is. -/
theorem FlushOnly.freeze_eq {s t : State} (h : FlushOnly s t) :
    t.rcd.frozen = s.rcd.frozen ∧ t.rcd.frzWait = s.rcd.frzWait ∧ t.rcd.frz = s.rcd.frz := by
  obtain ⟨_, _, _, _, _, _, _, _, _, _, _, rfl⟩ := h
  exact ⟨rfl, rfl, rfl⟩

/-! ### Records (R518) -/

/-- DATA of eight bytes is written as it is given (R517). -/
theorem recData_bytes {l : List Byte} (h : l.length = 8) : recData (l.map BitVec.toNat) = l := by
  have same : (l.map BitVec.toNat).map (BitVec.ofNat 8) = l := by simp [Function.comp_def]
  rw [recData, same, List.take_append_of_le_length (by omega), List.take_of_length_le (by omega)]

/-- A record made outside a freeze enters the buffer at its end, where there is room (R520). -/
theorem State.recMake_buf (s : State) (sev src code : Nat) (data : List Nat) (h : s.rcd.frozen = false)
    (k : s.rcd.buf.length < 8192) : ∃ r, (s.recMake sev src code data).rcd.buf = s.rcd.buf ++ [r] ∧ r.seq = s.rcd.seqNext ∧
      r.code = code ∧ r.data = recData data := by
  simp only [State.recMake, State.recPut, h, Bool.false_and, Bool.false_eq_true, if_false, Nat.not_le.mpr k]
  split <;> split <;> exact ⟨_, rfl, rfl, rfl, rfl⟩

/-- A record of MINSEV or above is made while REC accepts records and the root clock is there (R518, R520). -/
theorem State.record_open (s : State) {sev : Nat} (src code : Nat) (data : List Nat) (sevOk : s.cfgField 0x0C0000 1 0 4 ≤ sev)
    (clock : s.crt.rootLost = false) (rec : s.recOpen = true) :
    s.record sev src code data = s.recMake sev src code data := by
  simp [State.record, Nat.not_lt.mpr sevOk, clock, rec]

theorem recordCreate_buf (sev : Fin 6) (src code : BitVec 16) (data : List Byte) (s : State) (len : data.length = 8)
    (clock : s.crt.rootLost = false) (rec : s.recOpen = true) (sevOk : s.cfgField 0x0C0000 1 0 4 ≤ sev.val)
    (h : s.rcd.frozen = false) (k : s.rcd.buf.length < 8192) :
    ∃ t, exec (.recordCreate sev src code data) s = .next t ∧
      ∃ r, t.rcd.buf = s.rcd.buf ++ [r] ∧ r.seq = s.rcd.seqNext ∧ r.code = code.toNat ∧ r.data = data := by
  obtain ⟨r, buf, seq, cod, dat⟩ := s.recMake_buf sev.val src.toNat code.toNat (data.map BitVec.toNat) h k
  refine ⟨_, ?_, r, buf, seq, cod, dat.trans (recData_bytes len)⟩
  simp [exec_recordCreate, execRecordCreate, len, State.record_open s _ _ _ sevOk clock rec]

/-! ### Flushes (R520, R523) -/

/-- A flush is due at the next multiple of 100 ms of MONO. -/
theorem flushPeriod_due (s : State) (runs : s.recRuns = true) (h : s.rcd.frozen = false) :
    exec .flushPeriod s = .next { s with pins.now := (s.pins.now / 100000000 + 1) * 100000000, rcd.flush := true } := by
  have later : max s.pins.now ((s.pins.now / 100000000 + 1) * 100000000) = (s.pins.now / 100000000 + 1) * 100000000 := by omega
  simp [exec_flushPeriod, execFlushPeriod, runs, h, State.advance, later]

/-- Records join the only page of a memory while it has room. -/
theorem State.flushRecs_page : ∀ (l : List Record) (s : State) (q : List Record), s.rcd.pages = [{ recs := q }] →
    q.length + l.length ≤ 128 → s.flushRecs l = { s with rcd.pages := [{ recs := q ++ l }] }
  | [], s, q, h, _ => by
    rw [List.append_nil, ← h]
    rfl
  | r :: l, s, q, h, k => by
    have room : q.length < 128 := by simp at k; omega
    have put : pagePut s.rcd.msize s.rcd.pages r = some [{ recs := q ++ [r] }] := by simp [pagePut, h, room]
    have rest := State.flushRecs_page l { s with rcd.pages := [{ recs := q ++ [r] }] } (q ++ [r]) rfl (by simp at k ⊢; omega)
    simp only [State.flushRecs, put]
    rw [rest, List.append_assoc]
    rfl

/-- The records of one page go to a memory never written as its first page. -/
theorem State.flushRecs_empty (l : List Record) (s : State) (h : s.rcd.pages = []) (mib : 1 ≤ s.rcd.msize) (held : l ≠ [])
    (k : l.length ≤ 128) : s.flushRecs l = { s with rcd.pages := [{ recs := l }] } := by
  cases l with
  | nil => exact absurd rfl held
  | cons r l =>
    have room : 0 < pagesOf s.rcd.msize := by simp [pagesOf]; omega
    have put : pagePut s.rcd.msize s.rcd.pages r = some [{ recs := [r] }] := by simp [pagePut, h, room]
    simp only [State.flushRecs, put]
    exact State.flushRecs_page l { s with rcd.pages := [{ recs := [r] }] } [r] rfl (by simp at k ⊢; omega)

theorem State.flushWrite_firstPage (s : State) (h : s.rcd.pages = []) (mib : 1 ≤ s.rcd.msize) (held : s.rcd.buf ≠ [])
    (k : s.rcd.buf.length ≤ 128) :
    s.flushWrite.rcd.pages = [{ recs := s.rcd.buf }] ∧ s.flushWrite.rcd.buf = [] ∧ s.flushWrite.rcd.drops = s.rcd.drops := by
  have recs := State.flushRecs_empty s.rcd.buf { s with rcd.buf := [], rcd.flush := false } h mib held k
  simp only [State.flushWrite, recs, and_self]

/-- A flush of at most 128 records into a memory never written fills its first page. -/
theorem recFlush_firstPage (s : State) (due : s.rcd.flush = true) (h : s.rcd.frozen = false) (runs : s.recRuns = true)
    (mib : 1 ≤ s.rcd.msize) (new : s.rcd.pages = []) (held : s.rcd.buf ≠ []) (k : s.rcd.buf.length ≤ 128)
    (noDrops : s.rcd.drops = []) :
    ∃ t, exec (.recFlush true) s = .next t ∧ t.rcd.pages = [{ recs := s.rcd.buf }] ∧ t.rcd.buf = [] := by
  obtain ⟨pages, buf, drops⟩ := s.flushWrite_firstPage new mib held k
  have mem : s.rcd.msize ≠ 0 := by omega
  have now : s.flushNow true = s.flushWrite := by simp [State.flushNow, mem, drops, noDrops]
  refine ⟨_, ?_, pages, buf⟩
  simp [exec_recFlush, execRecFlush, due, h, runs, now]

/-- A flush whose write or read-back fails leaves the memory as it is (R519). -/
theorem recFlush_failed (s : State) (due : s.rcd.flush = true) (h : s.rcd.frozen = false) (runs : s.recRuns = true)
    (mib : 1 ≤ s.rcd.msize) :
    ∃ t, exec (.recFlush false) s = .next t ∧ t.rcd.pages = s.rcd.pages ∧ t.rcd.ctlA = s.rcd.ctlA := by
  have mem : s.rcd.msize ≠ 0 := by omega
  have recs : RecordsOnly s ((({ s with rcd.flush := false } : State).evtRec 0).record 4 0x0C00 0x0C06 [3]) :=
    (RecordsOnly.trans ⟨_, _, _, _, _, _, _, _, rfl⟩ (RecordsOnly.evtRec _ 0)).trans (RecordsOnly.record _ _ _ _ _)
  refine ⟨_, ?_, recs.memory_eq.1, recs.memory_eq.2.1⟩
  simp [exec_recFlush, execRecFlush, due, h, runs, State.flushNow, mem]

/-! ### The freeze (R529, R531) and the legacy keys (R534) -/

theorem freezeStart_frozen (s : State) (waits : s.rcd.frzWait = true) (h : s.rcd.flush = false) (runs : s.recRuns = true) :
    ∃ t, exec .freezeStart s = .next t ∧ t.rcd.frozen = true ∧ t.rcd.frzWait = false := by
  obtain ⟨frozen, wait, -⟩ := (RecordsOnly.record
    ({ s with rcd.frzWait := false, rcd.frozen := true, rcd.frzFirst := s.rcd.seqNext, rcd.frz := .running,
              rcd.frzAt := s.pins.now } : State) 1 0x0C00 0x0C04 (le 4 s.rcd.seqNext)).flushOnly.freeze_eq
  refine ⟨_, ?_, frozen, wait⟩
  simp [exec_freezeStart, execFreezeStart, waits, h, runs]

/-- A freeze that ends is over: aborted, or completed from its commit point on and where nothing aborts it (R8, R531). -/
theorem State.freezeEnd_frozen (s : State) (abort : Bool) (h : s.rcd.frozen = true) :
    (s.freezeEnd abort).rcd.frozen = false ∧ (s.freezeEnd abort).rcd.frzWait = false ∧ (s.freezeEnd abort).rcd.frz =
      if abort && decide (s.pins.now < s.rcd.frzAt + 10000000000) then .aborted else .completed := by
  simp only [State.freezeEnd, h, if_true]
  generalize hx : ({ s with rcd.frozen := _, rcd.frz := _, rcd.frzWait := _ } : State) = x
  have flush := FlushOnly.flushNow x true
  have lost := FlushOnly.ite (c := (x.flushNow true).rcd.drops = []) flush (flush.trans (RecordsOnly.lostRecords _).flushOnly)
  have recd := lost.trans (RecordsOnly.record _ 1 0x0C00 0x0C05
    ((if abort && decide (s.pins.now < s.rcd.frzAt + 10000000000) then 3 else 2) :: le 2 s.heldRecs.length)).flushOnly
  have done := (recd.trans (FlushOnly.flushNow _ true)).trans ((RecordsOnly.evtRec _ 2).trans (RecordsOnly.attn _ 3)).flushOnly
  subst hx
  exact done.freeze_eq

theorem freezeCommit_completed (s : State) (h : s.rcd.frozen = true) (runs : s.recRuns = true) :
    ∃ t, exec .freezeCommit s = .next t ∧ t.rcd.frozen = false ∧ t.rcd.frz = .completed := by
  obtain ⟨frozen, -, frz⟩ := (s.advance (s.rcd.frzAt + 10000000000)).freezeEnd_frozen false h
  refine ⟨_, ?_, frozen, by simpa using frz⟩
  simp [exec_freezeCommit, execFreezeCommit, h, runs]

theorem legkeyTimeout_void (s : State) (h : s.rcd.legStat = 1) :
    ∃ t, exec .legkeyTimeout s = .next t ∧ t.rcd.legStat = 3 ∧ t.rcd.legSess = none :=
  ⟨(s.advance (s.rcd.legAt + 1000000000)).legVoid, by simp [exec_legkeyTimeout, execLegkeyTimeout, h], rfl, rfl⟩

end Sys2Proof.Machine
end

section
/-! PROOF. Tests, soft resets and fuses (R102, R558 to R572), and the ends of a write and of the confirmation period (R483, R501). -/

namespace Sys2Proof.Machine

open Sys2Proof.Safety

/-! ### The commands of this part (the dispatch of their meanings) -/

theorem exec_selftestEnd (pass : Bool) (duration : Nat) (s : State) :
    exec (.selftestEnd pass duration) s = execSelftestEnd pass duration s := rfl
theorem exec_mbistChunk (mem : BistMemory) (ok : Bool) (s : State) : exec (.mbistChunk mem ok) s = execMbistChunk mem ok s := rfl
theorem exec_replicaCompare (attributable : Bool) (s : State) :
    exec (.replicaCompare attributable) s = execReplicaCompare attributable s := rfl
theorem exec_bistperExpire (s : State) : exec .bistperExpire s = execBistperExpire s := rfl
theorem exec_plannedBistStart (s : State) : exec .plannedBistStart s = execPlannedBistStart s := rfl
theorem exec_transientAgeOut (unit : Fin 5) (s : State) : exec (.transientAgeOut unit) s = execTransientAgeOut unit s := rfl
theorem exec_gateClosed (code : Fin 13) (s : State) : exec (.gateClosed code) s = execGateClosed code s := rfl
theorem exec_softResetDone (crcEqual : Bool) (s : State) : exec (.softResetDone crcEqual) s = execSoftResetDone crcEqual s := rfl
theorem exec_svBurnStep (readBack : Bool) (s : State) : exec (.svBurnStep readBack) s = execSvBurnStep readBack s := rfl
theorem exec_confirmationEnd (s : State) : exec .confirmationEnd s = execConfirmationEnd s := rfl
theorem exec_writeOperationDone (ok : Bool) (s : State) : exec (.writeOperationDone ok) s = execWriteOperationDone ok s := rfl

/-! ### The vote -/

theorem State.voting_iff (s : State) : s.voting = true ↔ s.lane.st = .run ∧ s.lane.role ≠ .excluded := by
  simp [State.voting]

/-- A voting lane that withdraws is EXCLUDED, with the unit implicated (R27). -/
theorem State.withdraw_excluded (s : State) (u : FaultUnit) (h : s.voting = true) :
    (s.withdraw u).lane.role = .excluded ∧ (s.withdraw u).lane.implicated = some u := by
  obtain ⟨run, role⟩ := s.voting_iff.mp h
  obtain ⟨excluded, -, -, unit, -⟩ := s.withdraw_voting u run role
  exact ⟨excluded, unit⟩

/-- A planned exclusion puts the lane into the role EXCLUDED, its drives static (R33, R569). -/
theorem State.withdrawPlanned_excluded (s : State) :
    s.withdrawPlanned.lane.role = .excluded ∧ s.withdrawPlanned.lane.planned = true ∧ s.withdrawPlanned.lane.driving = false := by
  unfold State.withdrawPlanned
  generalize hx : ({ s.wavesCut with
    lane.commitOk := false, lane.driving := false, lane.implicated := none, lane.lasting := false,
    lane.planned := true, lane.computing := false, lane.reintReq := false,
    lane.confirmCnt := 0 } : State) = x
  obtain ⟨_, _, _, lasting, -, -⟩ := State.fallbackLasting_only x
  obtain ⟨_, _, _, release⟩ := State.forcesRelease_only x.fallbackLasting
  have planned : x.fallbackLasting.forcesRelease.lane.planned = true := by
    rw [release, lasting, ← hx]
  have driving : x.fallbackLasting.forcesRelease.lane.driving = false := by
    rw [release, lasting, ← hx]
  refine ⟨State.setRole_role _ _, ?_, by rw [State.setRole_driving, driving]⟩
  unfold State.setRole
  split <;> exact planned

/-- A lockstep mismatch sets SAFE with cause 0x06 (R36, R556). -/
theorem State.lockstep_safe (s : State) (kind d0 : Nat) (h : s.lane.safeLatch = false) :
    HeldSafe (s.lockstep kind d0) ∧ (s.lockstep kind d0).lane.scause = 6 := by
  obtain ⟨st, latch, -, cause⟩ := State.enterSafe_safe
    ({ s with crt.monst := putBit s.crt.monst 18 true, lane.supHalted := true } : State) 6 h
  unfold State.lockstep
  exact ⟨⟨by rw [State.record_safeLatch, latch], by rw [State.record_st, st]⟩, by rw [State.record_scause, cause]⟩

/-! ### What a self-test leaves -/

/-- What a test and the soft resets after it leave of a lane that checks (R563, R568). -/
def TestKept (s t : State) : Prop :=
  t.lane.st = s.lane.st ∧ t.lane.role = s.lane.role ∧ t.crt.test = s.crt.test ∧ (s.grd.gmode = .checking → t.grd.gmode = .checking)

theorem TestKept.trans {s t u : State} (h : TestKept s t) (k : TestKept t u) : TestKept s u := by
  obtain ⟨st, role, test, mode⟩ := h
  obtain ⟨st', role', test', mode'⟩ := k
  exact ⟨st'.trans st, role'.trans role, test'.trans test, fun c => mode' (mode c)⟩

theorem TestKept.voting_eq {s t : State} (h : TestKept s t) : t.voting = s.voting := by
  obtain ⟨st, role, -, -⟩ := h
  rw [State.voting, st, role]
  rfl

theorem State.testReport_kept (s : State) (t : SelfTest) (fail lasting : Bool) (d : Nat) :
    TestKept s (s.testReport t fail lasting d) := by
  have shown (u : State) (w : Word) (data : List Nat) (k : TestKept s u) :
      TestKept s ((({ u with crt.bistres := w } : State).evtCrt 5).record 4 0x0100 0x0106 data) := by
    simpa [TestKept] using k
  refine shown _ _ _ ?_
  split <;> exact ⟨rfl, rfl, rfl, id⟩

theorem State.learnDone_kept (s : State) (failed : Bool) : TestKept s (s.learnDone failed) := by
  unfold State.learnDone
  split <;> simp [TestKept]

/-- The soft reset of a block that a test has run on. -/
theorem State.softBegin_kept (s : State) {k : Nat} (h : k ∈ [4, 5, 6, 7, 8]) : TestKept s (s.softBegin k) := by
  have block : TestKept s (s.blockReset k) := by
    simp only [List.mem_cons, List.not_mem_nil, or_false] at h
    rcases h with rfl | rfl | rfl | rfl | rfl
    · exact ⟨rfl, rfl, rfl, id⟩
    · exact ⟨rfl, rfl, rfl, fun c => by simp [State.blockReset, c]⟩
    · exact ⟨rfl, rfl, rfl, id⟩
    · exact s.learnDone_kept true
    · exact ⟨rfl, rfl, rfl, id⟩
  exact block

theorem State.softBegins_kept : ∀ (l : List Nat) (s : State), (∀ k ∈ l, k ∈ [4, 5, 6, 7, 8]) → TestKept s (s.softBegins l)
  | [], _, _ => ⟨rfl, rfl, rfl, id⟩
  | k :: l, s, h => (s.softBegin_kept (h k List.mem_cons_self)).trans
      (State.softBegins_kept l (s.softBegin k) fun j hj => h j (List.mem_cons_of_mem k hj))

theorem unitBlocks_tested (u : FaultUnit) : ∀ k ∈ unitBlocks u, k ∈ [4, 5, 6, 7, 8] := by
  cases u <;> decide

theorem State.grdRunEnd_kept (s : State) : TestKept s s.grdRunEnd := by
  unfold State.grdRunEnd
  split <;> exact ⟨rfl, rfl, rfl, id⟩

/-- A test of an unplanned exclusion that passes, with fewer than three transients of its unit, classes the fault transient
(R568). -/
theorem State.testEnd_transient (s : State) (x : SelfTest) (d : Nat) (planned : x.planned = false) (second : x.second = false)
    (mem : x.thenMem = false) (few : s.transOf x.unit < 3) :
    ∃ t, TestKept { s with crt.test := none } t ∧ s.testEnd x true d = t.classTransient x.unit := by
  have kept := (State.testReport_kept { s with crt.test := none } x false false d).trans
    (State.softBegins_kept _ _ (unitBlocks_tested x.unit))
  generalize ht : (({ s with crt.test := none } : State).testReport x false false d).softBegins (unitBlocks x.unit) = t at kept
  refine ⟨if x.unit = .grd then t.grdRunEnd else t, ?_, ?_⟩
  · split
    · exact kept.trans t.grdRunEnd_kept
    · exact kept
  · simp [State.testEnd, planned, second, mem, Nat.not_le.mpr few, ht]

/-- A transient of an excluded lane in RUN that checks has it request reintegration (R568). -/
theorem State.classTransient_requests (s : State) (u : FaultUnit) (run : s.lane.st = .run) (role : s.lane.role = .excluded)
    (mode : s.grd.gmode = .checking) :
    (s.classTransient u).crt.test = s.crt.test ∧ (s.classTransient u).lane.reintReq = true := by
  simp only [State.classTransient, run, role, mode, reduceCtorEq, if_false, and_self, if_true]
  unfold State.requestEntry
  split <;> exact ⟨rfl, rfl⟩

theorem selftestEnd_requests (x : SelfTest) (d : Nat) (s : State) (test : s.crt.test = some x) (planned : x.planned = false)
    (second : x.second = false) (mem : x.thenMem = false) (run : s.lane.st = .run) (role : s.lane.role = .excluded)
    (mode : s.grd.gmode = .checking) (few : (s.advance (x.startAt + d * 100000)).transOf x.unit < 3) :
    ∃ t, exec (.selftestEnd true d) s = .next t ∧ t.crt.test = none ∧ t.lane.reintReq = true := by
  obtain ⟨t, ⟨st, role', gone, mode'⟩, ends⟩ := State.testEnd_transient _ x d planned second mem few
  obtain ⟨same, requests⟩ := t.classTransient_requests x.unit (st.trans run) (role'.trans role) (mode' mode)
  exact ⟨_, by simp [exec_selftestEnd, execSelftestEnd, test, ends], same.trans gone, requests⟩

/-! ### The background tests (R102, R564) -/

theorem mbistChunk_passed (m : BistMemory) (s : State) (idle : s.idleTime = true) (lock : s.crt.lock = true) (bgmt : s.bgmt = true)
    (march : s.lge.marchDue = false) :
    ∃ t, exec (.mbistChunk m true) s = .next t ∧ t.lane = s.lane ∧ t.crt = s.crt := by
  simp only [exec_mbistChunk, execMbistChunk, idle, lock, bgmt, march, Bool.and_self, Bool.or_true, Bool.true_or, if_true, Bool.and_false,
    Bool.false_eq_true, if_false]
  refine ⟨_, rfl, ?_⟩
  split <;> exact ⟨rfl, rfl⟩

/-- A chunk of LGE memory that fails withdraws a voting lane, whether or not it serves a March test as well (R131, R564). -/
theorem mbistChunk_lgeFailed (m : BistMemory) (s : State) (idle : s.idleTime = true) (lock : s.crt.lock = true)
    (bgmt : s.bgmt = true) (lge : m = .lgeProgram ∨ m = .lgeState) (vote : s.voting = true) :
    ∃ t, exec (.mbistChunk m false) s = .next t ∧ t.lane.role = .excluded ∧ t.lane.implicated = some .lge := by
  have isLge : (decide (m = .lgeProgram) || decide (m = .lgeState)) = true := by simpa using lge
  have march : TestKept s { s with lge.marchDue := false } := ⟨rfl, rfl, rfl, id⟩
  have report := march.trans (State.testReport_kept { s with lge.marchDue := false }
    { unit := .lgeMem, planned := false, thenMem := false, inFallback := false, second := false, startAt := s.pins.now } true false 20)
  have fault (t : State) (kept : TestKept s t) :
      (t.memFault m).lane.role = .excluded ∧ (t.memFault m).lane.implicated = some .lge := by
    have event (k : Nat) : (t.evtLge k).voting = true := by
      rw [TestKept.voting_eq (s := t) (by simp [TestKept]), kept.voting_eq, vote]
    rcases lge with rfl | rfl
    · exact (t.evtLge 2).withdraw_excluded .lge (event 2)
    · exact (t.evtLge 3).withdraw_excluded .lge (event 3)
  simp only [exec_mbistChunk, execMbistChunk, idle, lock, bgmt, isLge, Bool.and_self, Bool.or_true, Bool.true_or, if_true, Bool.true_and,
    Bool.false_eq_true, if_false]
  refine ⟨_, rfl, fault _ ?_⟩
  split
  · exact report
  · exact march

theorem mbistChunk_supFailed (s : State) (idle : s.idleTime = true) (lock : s.crt.lock = true) (bgmt : s.bgmt = true)
    (latch : s.lane.safeLatch = false) :
    ∃ t, exec (.mbistChunk .supSram false) s = .next t ∧ HeldSafe t ∧ t.lane.scause = 6 := by
  obtain ⟨safe, cause⟩ := s.freeUsed.lockstep_safe 1 s.freeWord.toNat latch
  refine ⟨_, ?_, safe, cause⟩
  simp [exec_mbistChunk, execMbistChunk, idle, lock, bgmt, State.memFault]

theorem replicaCompare_mended (s : State) (idle : s.idleTime = true) (bgmt : s.bgmt = true) (split : s.lge.split = false)
    (live : s.blockLive 4 = true) : exec (.replicaCompare true) s = .next s := by
  simp [exec_replicaCompare, execReplicaCompare, idle, bgmt, split, live]

theorem replicaCompare_withdraws (s : State) (idle : s.idleTime = true) (bgmt : s.bgmt = true) (split : s.lge.split = false)
    (live : s.blockLive 4 = true) (vote : s.voting = true) :
    ∃ t, exec (.replicaCompare false) s = .next t ∧ t.lane.role = .excluded ∧ t.lane.implicated = some .lge := by
  have event : (s.evtLge 8).voting = true := by
    rw [TestKept.voting_eq (s := s) (by simp [TestKept]), vote]
  refine ⟨_, ?_, (s.evtLge 8).withdraw_excluded .lge event⟩
  simp [exec_replicaCompare, execReplicaCompare, idle, bgmt, split, live]

/-! ### Planned runs (R569) -/

/-- In RUN the group that is due waits for its commit. -/
theorem bistperExpire_waits (s : State) (per : s.bistper ≠ 0) (runs : s.crtRuns = true) (img : s.img.isSome = true)
    (wait : s.crt.bistWait = false) (test : s.crt.test = none) (run : s.lane.st = .run) :
    exec .bistperExpire s = .next
      { s.advance (s.crt.bistAt + s.bistper * 3600000000000) with
        crt.bistAt := max s.pins.now (s.crt.bistAt + s.bistper * 3600000000000), crt.bist := .waiting, crt.bistWait := true,
        crt.bistGrp := s.crt.bistNext, crt.bistNext := (s.crt.bistNext + 1) % 3 } := by
  simp [exec_bistperExpire, execBistperExpire, per, runs, img, wait, test, run, State.bistWrite]

theorem plannedBistStart_excluded (n : Nat) (s : State) (wait : s.crt.bistWait = true) (test : s.crt.test = none)
    (vote : s.voting = true) (commit : s.commitNow = some n) (turn : n % 3 = s.lid)
    (healthy : (s.setNodes.all fun k => match s.heard (n * s.cycL + s.cycC - 1) k with
      | some h => hPlanned h | none => false) = true) :
    ∃ t, exec .plannedBistStart s = .next t ∧ t.lane.role = .excluded ∧ t.lane.planned = true := by
  obtain ⟨role, planned, -⟩ := s.withdrawPlanned_excluded
  have lane : (s.withdrawPlanned.plannedTest (s.pins.now + 10)).lane = s.withdrawPlanned.lane := by
    unfold State.plannedTest
    dsimp only
    split <;> rfl
  refine ⟨s.withdrawPlanned.plannedTest (s.pins.now + 10), ?_, by rw [lane, role], by rw [lane, planned]⟩
  simp only [exec_plannedBistStart, execPlannedBistStart, commit]
  exact congrArg _ (if_pos ⟨wait, test, vote, turn, healthy⟩)

theorem transientAgeOut_counted (u : Fin 5) (x : Transient) (s : State)
    (h : (s.crt.trans.find? fun y => decide (y.unit = faultUnitOf u)) = some x) :
    ∃ t, exec (.transientAgeOut u) s = .next t ∧ t.crt.trans = s.crt.trans.erase x ∧ t.lane = s.lane :=
  ⟨{ s.advance ((x.at_ + 86400000000) * 1000) with crt.trans := s.crt.trans.erase x },
    by simp only [exec_transientAgeOut, execTransientAgeOut, h], rfl, rfl⟩

/-! ### Gates and soft resets (R558, R561) -/

/-- A bit that is cleared reads 0. -/
@[simp] theorem getLsbD_putBit_false {w : Nat} (v : BitVec w) (k : Nat) : (putBit v k false).getLsbD k = false := by
  by_cases h : k < w
  · simp [putBit, h]
  · exact BitVec.getLsbD_of_ge _ _ (by omega)

theorem gateClosed_closed (k : Fin 13) (s : State) (h : s.crt.closing.getLsbD k.val = true) :
    ∃ t, exec (.gateClosed k) s = .next t ∧ t.crt.closing.getLsbD k.val = false ∧ t.crt.gate.getLsbD k.val = false :=
  ⟨{ s with crt.closing := putBit s.crt.closing k.val false, crt.gate := putBit s.crt.gate k.val false },
    by simp only [exec_gateClosed, execGateClosed, h, if_true], getLsbD_putBit_false _ _, getLsbD_putBit_false _ _⟩

theorem State.learnFail_crt (s : State) (n : Nat) : (s.learnFail n).crt = s.crt := by
  unfold State.learnFail State.learnDone
  repeat' split
  all_goals simp

theorem State.suspStart_crt (s : State) (n : Nat) : (s.suspStart n).crt = s.crt := by
  rw [State.suspStart, State.learnFail_crt]
  rfl

theorem State.suspCheck_crt (s : State) (n : Nat) : (s.suspCheck n).crt = s.crt := by
  unfold State.suspCheck
  repeat' split
  · rfl
  · exact s.suspStart_crt n
  · rw [State.record_crt, State.pevtLmp_crt, State.suspStart_crt]
  · rfl

theorem State.suspChecks_crt : ∀ (l : List Nat) (s : State), (s.suspChecks l).crt = s.crt
  | [], _ => rfl
  | n :: l, s => by
    rw [State.suspChecks, State.suspChecks_crt l]
    split
    · exact s.suspCheck_crt n
    · rfl

theorem State.suspStarts_crt : ∀ (l : List Nat) (s : State), (s.suspStarts l).crt = s.crt
  | [], _ => rfl
  | n :: l, s => by rw [State.suspStarts, State.suspStarts_crt l, State.suspStart_crt]

theorem State.angleSusp_crt (s : State) : s.angleSusp.crt = s.crt := by
  unfold State.angleSusp
  dsimp only
  repeat' split
  all_goals simp [State.suspChecks_crt, State.suspStarts_crt]

theorem State.grdRunEnd_crt (s : State) : s.grdRunEnd.crt = s.crt := by
  unfold State.grdRunEnd
  split <;> rfl

/-- A soft reset that was commanded ends COMPLETED when its comparison agrees, and its block is released (R561). -/
theorem State.srstEnd_completed (s : State) (k : Nat) (run : s.crt.srst = .running) (blk : s.crt.srstBlk = k) :
    (s.srstEnd k true).crt.srst = .completed ∧ (s.srstEnd k true).crt.inReset.getLsbD k = false := by
  unfold State.srstEnd
  simp only [run, blk, decide_true, Bool.and_self, if_true, true_and, State.record_crt, State.evtCrt_crt]
  repeat' split
  all_goals simp [State.grdRunEnd_crt, State.suspChecks_crt, State.angleSusp_crt]

theorem softResetDone_completed (k : Nat) (s : State) (next : s.srstNext = some k) (run : s.crt.srst = .running)
    (blk : s.crt.srstBlk = k) :
    ∃ t, exec (.softResetDone true) s = .next t ∧ t.crt.srst = .completed ∧ t.crt.inReset.getLsbD k = false :=
  ⟨s.srstEnd k true, by simp only [exec_softResetDone, execSoftResetDone, next], s.srstEnd_completed k run blk⟩

/-! ### Fuses (R572), the end of the confirmation period (R501) and of an OPEN (R483) -/

theorem svBurnStep_burned (ok : Bool) (s : State) (g : Nat) (target : s.crt.svTarget = some g) (ready : s.fuseReady = true)
    (below : s.crt.sv < g) (room : s.crt.sv < 255) :
    ∃ t, exec (.svBurnStep ok) s = .next t ∧ t.crt.sv = (if ok then s.crt.sv + 1 else s.crt.sv) ∧
      t.crt.burnf = (if ok then s.crt.burnf else true) := by
  simp only [exec_svBurnStep, execSvBurnStep, target, ready, Bool.not_true, Bool.false_eq_true, if_false, below, room, and_self, if_true]
  refine ⟨_, rfl, ?_⟩
  cases ok
  · simp
  · simp only [if_true]
    split <;> simp

theorem State.imageConfirm_st (s : State) : s.imageConfirm.lane.st = s.lane.st := by
  unfold State.imageConfirm State.burnWanted State.programSlot State.setSlot
  simp only [State.record_st, State.evtUpd_lane]
  repeat' split
  all_goals rfl

theorem confirmationEnd_ends (e : Nat) (s : State) (at_ : s.upd.confEnd = some e) (conf : s.upd.conf = true)
    (new : s.upd.confNew = true) :
    ∃ t, exec .confirmationEnd s = .next t ∧ t.upd.conf = false ∧ t.lane.st = s.lane.st :=
  ⟨((s.advanceCt e).imageConfirm.confirmEntry).confEnds, by simp [exec_confirmationEnd, execConfirmationEnd, at_, conf, new], rfl,
    (s.advanceCt e).imageConfirm_st⟩

theorem writeOperationDone_opened (w : ImageWrite) (s : State) (op : s.upd.op = some .open) (write : s.upd.write = some w) :
    ∃ t, exec (.writeOperationDone true) s = .next t ∧ t.upd.cmd = .completed ∧ t.upd.op = none :=
  ⟨({ s.programSlot w.slot .writing with upd.op := none } : State).updDone,
    by simp only [exec_writeOperationDone, execWriteOperationDone, op, write, if_true], rfl, rfl⟩

end Sys2Proof.Machine
end

section
/-! PROOF. Sessions (R594 to R598): what a session reads as after a change of its copy, how a session ends, and the commands of the
exchange. -/

namespace Sys2Proof.Machine

open Sys2Proof.Safety

/-! ### The commands of this part (the dispatch of their meanings) -/

theorem exec_close (sid : BitVec 16) (s : State) : exec (.close sid) s = execClose sid s := rfl
theorem exec_sessionTimeout (sid : BitVec 16) (s : State) : exec (.sessionTimeout sid) s = execSessionTimeout sid s := rfl
theorem exec_sessionOpen (p : Option Peer) (level : BitVec 4) (s : State) :
    exec (.sessionOpen p level) s = execSessionOpen p level s := rfl
theorem exec_responseSubmit (sid : BitVec 16) (hi : Word) (s : State) :
    exec (.responseSubmit sid hi) s = execResponseSubmit sid hi s := rfl
theorem exec_challengeExpire (sid : BitVec 16) (s : State) : exec (.challengeExpire sid) s = execChallengeExpire sid s := rfl
theorem exec_lockoutExpire (path : Fin 3) (s : State) : exec (.lockoutExpire path) s = execLockoutExpire path s := rfl
theorem exec_tokenPresent (sid : BitVec 16) (hi : Word) (s : State) :
    exec (.tokenPresent sid hi) s = execTokenPresent sid hi s := rfl
theorem exec_tokenExpire (sid : BitVec 16) (s : State) : exec (.tokenExpire sid) s = execTokenExpire sid s := rfl

/-! ### A session's copy -/

theorem State.session_num {s : State} {n : Nat} {x : Session} (h : s.session n = some x) : x.num = n := by
  simpa using List.find?_some h

/-- A changed copy reads as changed. -/
theorem State.session_updSession (s : State) (n : Nat) (f : Session → Session) (num : ∀ x, x.num = n → (f x).num = n) :
    (s.updSession n f).session n = (s.session n).map f := by
  have keeps : (fun x : Session => decide (x.num = n)) ∘ (fun x => if x.num = n then f x else x) =
      fun x => decide (x.num = n) := by
    funext x
    by_cases h : x.num = n
    · simp [h, num x h]
    · simp [h]
  simp only [State.session, State.updSession, List.find?_map, keeps]
  cases found : s.sup.sessions.find? fun x => decide (x.num = n) with
  | none => rfl
  | some x =>
    have h : x.num = n := State.session_num found
    simp [h]

/-- A copy that is given up holds no session. -/
theorem State.sessDrop_none (s : State) (n : Nat) : ∀ y, (s.sessDrop n).session n = some y → y.st = .none := by
  intro y h
  unfold State.sessDrop at h
  split at h
  · next zero =>
    subst zero
    rw [State.session_updSession s 0 _ fun _ _ => rfl] at h
    obtain ⟨x, -, rfl⟩ := Option.map_eq_some_iff.mp h
    rfl
  · have listed := List.mem_of_find?_eq_some h
    simp only [List.mem_filter, decide_eq_true_eq] at listed
    exact absurd (State.session_num h) listed.2

/-- Giving up a copy changes the sessions only. -/
theorem State.sessDrop_only (s : State) (n : Nat) : ∃ l, s.sessDrop n = { s with sup.sessions := l } := by
  unfold State.sessDrop
  split <;> exact ⟨_, rfl⟩

/-- The write token spent, a session's copy is otherwise as before. -/
theorem State.session_useToken {s : State} {n : Nat} {x : Session} (h : s.session n = some x) :
    (s.useToken n).session n = some { x with tok := none, lastAt := s.pins.now } := by
  rw [State.useToken, State.session_updSession, h]
  · rfl
  · exact fun _ h => h

/-! ### The end of a session (R597) -/

theorem State.writeEnd_only (s : State) (st : CmdStatus) (code blk : Nat) :
    ∃ u r a, s.writeEnd st code blk = { s with upd := u, rcd := r, lane.attn := a } ∧ u.lock = none := by
  unfold State.writeEnd
  split
  · exact ⟨_, _, _, rfl, rfl⟩
  · next w _ =>
    generalize hx : (if st = .completed then s else s.programSlot w.slot .retired) = x
    have slots : ∃ u, x = { s with upd := u } := by
      subst hx
      unfold State.programSlot State.setSlot
      repeat' split
      all_goals exact ⟨_, rfl⟩
    obtain ⟨u, rfl⟩ := slots
    dsimp only
    generalize hy : ({ s with upd := { u with cmd := st, lock := none, op := none, write := none } } : State).evtUpd 0 = y
    obtain ⟨r, a, recd⟩ := RecorderOnly.record y 2 0x0D00 0x0D01 [code, blk]
    rw [recd]
    subst hy
    unfold State.evtUpd State.attnEvt
    split <;> exact ⟨_, _, _, rfl, rfl⟩

/-- What a session releases when it ends is its lock, its freeze and its clear sequence. -/
theorem State.sessRelease_only (s : State) (n : Nat) :
    ∃ u r a, s.sessRelease n = { s with upd := u, rcd := r, lane.attn := a } ∧ u.lock ≠ some n := by
  have lock : ∃ u r a, (if s.upd.lock = some n then s.lockEnd else s) = { s with upd := u, rcd := r, lane.attn := a } ∧
      u.lock ≠ some n := by
    split
    · obtain ⟨u, r, a, h, unlocked⟩ := s.writeEnd_only .aborted 3 0
      exact ⟨u, r, a, h, by simp [unlocked]⟩
    · next h => exact ⟨s.upd, s.rcd, s.lane.attn, rfl, h⟩
  obtain ⟨u, r, a, h, free⟩ := lock
  unfold State.sessRelease
  rw [h]
  generalize hx : ({ s with upd := u, rcd := r, lane.attn := a } : State) = x
  have freeze : RecorderOnly x (if (x.rcd.frozen || x.rcd.frzWait) && decide (x.rcd.frzSess = n) then x.freezeEnd true else x) :=
    RecorderOnly.ite (RecorderOnly.freezeEnd x true) (RecorderOnly.refl x)
  obtain ⟨r', a', ends⟩ := freeze
  dsimp only
  rw [ends, ← hx]
  split <;> exact ⟨_, _, _, rfl, free⟩

/-- A session that ends leaves everything but UPD, the recorder, the ATTN bits and the sessions; the lock is not its own. -/
theorem State.sessEnd_only (s : State) (n cause : Nat) (x : Session) (found : s.session n = some x) (opened : x.st = .opened) :
    ∃ u r a, s.sessEnd n cause =
      { s with upd := u, rcd := r, lane.attn := a, sup.sessions := (s.sessDrop n).sup.sessions } ∧ u.lock ≠ some n := by
  obtain ⟨u, r, a, rel, lock⟩ := s.sessRelease_only n
  have drop : ((s.sessRelease n).sessDrop n) =
      { s with upd := u, rcd := r, lane.attn := a, sup.sessions := (s.sessDrop n).sup.sessions } := by
    rw [rel]
    unfold State.sessDrop
    split <;> rfl
  obtain ⟨r', a', recd⟩ := RecorderOnly.record ((s.sessRelease n).sessDrop n) 1 0x0200 0x0211 [x.path, cause]
  simp only [State.sessEnd, found, opened, if_true]
  rw [recd, drop]
  split <;> exact ⟨_, _, _, rfl, lock⟩

/-- An open session that ends is no session, and holds no lock. -/
theorem State.sessEnd_ends (s : State) (n cause : Nat) (x : Session) (found : s.session n = some x) (opened : x.st = .opened) :
    (∀ y, (s.sessEnd n cause).session n = some y → y.st = .none) ∧ (s.sessEnd n cause).upd.lock ≠ some n := by
  obtain ⟨u, r, a, only, lock⟩ := s.sessEnd_only n cause x found opened
  rw [only]
  exact ⟨s.sessDrop_none n, lock⟩

theorem close_ends (sid : BitVec 16) (x : Session) (s : State) (found : s.session sid.toNat = some x) (opened : x.st = .opened)
    (serves : s.supServes = true) :
    ∃ t, exec (.close sid) s = .next t ∧ (∀ y, t.session sid.toNat = some y → y.st = .none) ∧ t.upd.lock ≠ some sid.toNat := by
  obtain ⟨ended, lock⟩ := s.sessEnd_ends sid.toNat 0 x found opened
  have write := State.session_updSession (s.sessEnd sid.toNat 0) sid.toNat (fun x => { x with scmd := sessWord 0 2 }) fun _ h => h
  refine ⟨(s.sessEnd sid.toNat 0).updSession sid.toNat fun x => { x with scmd := sessWord 0 2 }, ?_, fun y h => ?_, lock⟩
  · simp only [exec_close, execClose, serves, if_true]
    rfl
  · obtain ⟨z, hz, rfl⟩ := Option.map_eq_some_iff.mp (write.symm.trans h)
    exact ended z hz

theorem sessionTimeout_ends (sid : BitVec 16) (x : Session) (s : State) (found : s.session sid.toNat = some x)
    (opened : x.st = .opened) :
    ∃ t, exec (.sessionTimeout sid) s = .next t ∧ (∀ y, t.session sid.toNat = some y → y.st = .none) ∧
      t.upd.lock ≠ some sid.toNat := by
  refine ⟨(s.advance (x.lastAt + (if x.src.isSome then 10000000000 else 100000000))).sessEnd sid.toNat 1, ?_,
    State.sessEnd_ends (s.advance _) sid.toNat 1 x found opened⟩
  simp only [exec_sessionTimeout, execSessionTimeout, found, opened, if_true]

/-! ### The exchange (R596) -/

/-- A drawn challenge stands in the session's copy. -/
theorem State.challengeTo_challenged (s : State) (n level : Nat) (x : Session) (found : s.session n = some x) :
    ∃ y, (s.challengeTo n level).session n = some y ∧ y.src = x.src ∧ y.st = .challenged := by
  unfold State.challengeTo
  rw [State.session_updSession]
  · exact ⟨_, congrArg (Option.map _) found, rfl, rfl⟩
  · exact fun _ h => h

/-- MAP's copy stays, whatever ends in it, and the end of its session draws no challenge and unlocks no path. -/
theorem State.sessEnd_map (s : State) (cause : Nat) (x : Session) (found : s.session 0 = some x) :
    (∃ y, (s.sessEnd 0 cause).session 0 = some y) ∧ (s.sessEnd 0 cause).sup.drawn = s.sup.drawn ∧
    (s.sessEnd 0 cause).mode = s.mode ∧ (s.sessEnd 0 cause).lockedOut 0 = s.lockedOut 0 := by
  have drop : ∃ y, (s.sessDrop 0).session 0 = some y := by
    refine ⟨Session.fresh 0 none, ?_⟩
    rw [State.sessDrop, if_pos rfl, State.session_updSession s 0 _ fun _ _ => rfl, found]
    rfl
  by_cases opened : x.st = .opened
  · obtain ⟨u, r, a, only, -⟩ := s.sessEnd_only 0 cause x found opened
    rw [only]
    exact ⟨drop, rfl, rfl, rfl⟩
  · obtain ⟨l, only⟩ := s.sessDrop_only 0
    have ends : s.sessEnd 0 cause = s.sessDrop 0 := by simp [State.sessEnd, found, opened]
    rw [ends]
    refine ⟨drop, ?_⟩
    rw [only]
    exact ⟨rfl, rfl, rfl⟩

theorem sessionOpen_map (level : BitVec 4) (s : State) (x : Session) (serves : s.supServes = true) (found : s.session 0 = some x)
    (allowed : s.levelAllowed level.toNat = true) (free : s.lockedOut 0 = false) :
    ∃ t, exec (.sessionOpen none level) s = .next t ∧ t.sup.drawn = s.sup.drawn + 1 ∧
      ∃ y, t.session 0 = some y ∧ y.st = .challenged := by
  obtain ⟨⟨y, copy⟩, drawn, mode, lock⟩ := (s.useToken 0).sessEnd_map 2 _ (State.session_useToken found)
  generalize hu : (s.useToken 0).sessEnd 0 2 = u at copy drawn mode lock
  generalize ht : u.updSession 0 (fun x => { x with scmd := sessWord level.toNat 1 }) = t
  have copied : t.session 0 = some { y with scmd := sessWord level.toNat 1 } := by
    rw [← ht, State.session_updSession, copy]
    · rfl
    · exact fun _ h => h
  have asked : (t.levelAllowed level.toNat && !t.lockedOut 0) = true := by
    have sameLevel : t.levelAllowed level.toNat = s.levelAllowed level.toNat := by
      rw [← ht]
      show (_ || _ && decide (u.mode = 3)) = (_ || _ && decide (s.mode = 3))
      rw [mode]
      rfl
    have sameLock : t.lockedOut 0 = s.lockedOut 0 := by
      rw [← ht]
      exact lock
    rw [sameLevel, sameLock, allowed, free]
    rfl
  obtain ⟨z, challenged, -, st⟩ := t.challengeTo_challenged 0 level.toNat _ copied
  refine ⟨t.challengeTo 0 level.toNat, ?_, ?_, z, challenged, st⟩
  · simp only [exec_sessionOpen, execSessionOpen, serves, if_true, State.mapOpen, hu, ht, asked]
  · show t.sup.drawn + 1 = s.sup.drawn + 1
    rw [← ht]
    exact congrArg (· + 1) drawn

/-- A copy added under a number that no session holds is the session of that number. -/
theorem State.session_append (s : State) (x : Session) (next : Nat) (free : s.session x.num = none) :
    ({ s with sup.sessions := s.sup.sessions ++ [x], sup.nextSess := next } : State).session x.num = some x := by
  have old : s.sup.sessions.find? (fun y => decide (y.num = x.num)) = none := free
  simp [State.session, List.find?_append, old]

/-- OPEN on FMP puts its source into a free copy (R596). -/
theorem sessionOpen_fmp (p : Peer) (level : BitVec 4) (s : State) (reach : s.fmpReach p.port.val = true)
    (opens : s.fmpOpens p level.toNat = true) (free : s.session s.freeSession = none) :
    ∃ t, exec (.sessionOpen (some p) level) s = .next t ∧
      ∃ y, t.session s.freeSession = some y ∧ y.src = some p ∧ y.st = .challenged := by
  have found := s.session_append { Session.fresh s.freeSession (some p) with scmd := sessWord level.toNat 1 }
    (s.freeSession % 65535 + 1) free
  obtain ⟨y, copy, src, st⟩ := State.challengeTo_challenged _ s.freeSession level.toNat _ found
  refine ⟨_, ?_, y, copy, src, st⟩
  simp only [exec_sessionOpen, execSessionOpen, reach, if_true, State.fmpOpen, opens]

theorem tablesWf_paths {s : State} (h : TablesWf s) : tabWf (fun _ => path0) s.sup.paths = true := by
  obtain ⟨-, -, -, -, -, -, -, -, -, -, -, paths, -⟩ := h
  exact paths

theorem State.respHi_right (s : State) (n : Nat) (hi : Word) (x : Session) (found : s.session n = some x)
    (challenged : x.st = .challenged) (intime : s.pins.now ≤ x.chalAt + 10000000000)
    (right : s.respRight x (hi ++ x.respLo) = true) :
    (s.respHi n hi).sup.paths = tabUpd path0 x.path (fun p => { p with failures := 0, locked := false }) s.sup.paths := by
  unfold State.respHi
  rw [found]
  dsimp only
  rw [if_pos challenged, if_pos intime, if_pos right, State.record_sup]
  rfl

/-- The right response within 10 s frees the path (R596). -/
theorem responseSubmit_right (sid : BitVec 16) (hi : Word) (x : Session) (s : State) (wf : TablesWf s) (serves : s.supServes = true)
    (found : s.session sid.toNat = some x) (challenged : x.st = .challenged) (intime : s.pins.now ≤ x.chalAt + 10000000000)
    (right : s.respRight x (hi ++ x.respLo) = true) :
    ∃ t, exec (.responseSubmit sid hi) s = .next t ∧ (tabGet path0 x.path t.sup.paths).failures = 0 ∧
      (tabGet path0 x.path t.sup.paths).locked = false := by
  have paths := State.respHi_right _ sid.toNat hi _ (State.session_useToken found) challenged intime right
  have entry := tabGet_tabUpd_self (fun _ => path0) x.path (fun p => { p with failures := 0, locked := false }) (tablesWf_paths wf)
  refine ⟨(s.useToken sid.toNat).respHi sid.toNat hi, by simp only [exec_responseSubmit, execResponseSubmit, serves, if_true], ?_⟩
  rw [paths]
  exact ⟨congrArg PathLock.failures entry, congrArg PathLock.locked entry⟩

theorem challengeExpire_ends (sid : BitVec 16) (x : Session) (s : State) (found : s.session sid.toNat = some x)
    (challenged : x.st = .challenged) :
    ∃ t, exec (.challengeExpire sid) s = .next t ∧ t.pins.now = max s.pins.now (x.chalAt + 10000000000) ∧
      ∀ y, t.session sid.toNat = some y → y.st = .none := by
  refine ⟨(s.advance (x.chalAt + 10000000000)).sessDrop sid.toNat, ?_, ?_, State.sessDrop_none _ _⟩
  · simp only [exec_challengeExpire, execChallengeExpire, found, challenged, if_true]
  · obtain ⟨l, only⟩ := (s.advance (x.chalAt + 10000000000)).sessDrop_only sid.toNat
    rw [only]
    rfl

theorem lockoutExpire_frees (k : Fin 3) (s : State) (wf : TablesWf s) (locked : (tabGet path0 k.val s.sup.paths).locked = true) :
    ∃ t, exec (.lockoutExpire k) s = .next t ∧ (tabGet path0 k.val t.sup.paths).locked = false ∧ t.lane = s.lane := by
  let p := tabGet path0 k.val s.sup.paths
  let u := s.advance (p.since + lockNs p)
  refine ⟨{ u with sup.paths := tabSet path0 k.val { p with locked := false } u.sup.paths }, ?_, ?_, rfl⟩
  · simp only [exec_lockoutExpire, execLockoutExpire, locked, if_true]
    rfl
  · exact congrArg PathLock.locked (tabGet_tabSet_self (fun _ => path0) k.val _ (tablesWf_paths wf))

/-! ### Tokens (R598) -/

theorem tokenPresent_armed (sid : BitVec 16) (x : Session) (s : State) (hi : Word) (found : s.session sid.toNat = some x)
    (opened : x.st = .opened) (serves : s.supServes = true) :
    ∃ t, exec (.tokenPresent sid hi) s = .next t ∧ ∃ y, t.session sid.toNat = some y ∧
      y.tok = some { value := hi ++ x.tokLo, tcnt := x.tcnt, at_ := s.pins.now } := by
  refine ⟨(s.useToken sid.toNat).tokHi sid.toNat hi, by simp only [exec_tokenPresent, execTokenPresent, serves, if_true], ?_⟩
  rw [State.tokHi, State.session_updSession, State.session_useToken found]
  · exact ⟨_, rfl, by simp [opened]⟩
  · intro y h
    split <;> exact h

theorem tokenExpire_void (sid : BitVec 16) (x : Session) (k : TokenArm) (s : State) (found : s.session sid.toNat = some x)
    (armed : x.tok = some k) :
    ∃ t, exec (.tokenExpire sid) s = .next t ∧ t.pins.now = max s.pins.now (k.at_ + 1000000000) ∧
      ∃ y, t.session sid.toNat = some y ∧ y = { x with tok := none } := by
  refine ⟨(s.advance (k.at_ + 1000000000)).updSession sid.toNat fun y => { y with tok := none },
    by simp only [exec_tokenExpire, execTokenExpire, found, armed], rfl, { x with tok := none }, ?_, rfl⟩
  rw [State.session_updSession]
  · exact congrArg (Option.map _) found
  · exact fun _ h => h

end Sys2Proof.Machine
end

section
/-! PROOF. Requests of one word on MAP and on FMP (R586 to R593): what the bytes of a request read as, what a read and a write of one
register come to, and the answers. -/

namespace Sys2Proof.Machine

open Sys2Proof.Safety

/-! ### The commands of this part (the dispatch of their meanings) -/

theorem exec_mapRequest (bytes : List Byte) (s : State) : exec (.mapRequest bytes) s = execMapRequest bytes s := rfl
theorem exec_fmpDatagram (p : Peer) (bytes : List Byte) (s : State) :
    exec (.fmpDatagram p bytes) s = execFmpDatagram p bytes s := rfl

/-! ### Bytes of a request -/

/-- The bytes that stand at an offset. -/
theorem slice_middle {o n : Nat} (front mid back : List Byte) (h : front.length = o) (k : mid.length = n) :
    slice o n (front ++ (mid ++ back)) = mid := by
  rw [slice, List.drop_left' h, List.take_left' k]

theorem beNat_address (a : BitVec 24) : beNat (beBytes 3 a.toNat) = a.toNat := by
  rw [beNat_beBytes]
  exact Nat.mod_eq_of_lt a.isLt

theorem beNat_word (v : Word) : beNat (beBytes 4 v.toNat) = v.toNat := by
  rw [beNat_beBytes]
  exact Nat.mod_eq_of_lt v.isLt

/-- One word of data reads as it was written. -/
theorem reqWords_one (v : Word) : reqWords 1 (beBytes 4 v.toNat) = [v] := by
  have bytes : slice 0 4 (beBytes 4 v.toNat) = beBytes 4 v.toNat := List.take_of_length_le (by simp)
  simp [reqWords, bytes, beNat_word]

/-- A request of one word has one address. -/
theorem burstAddrs_one {cmd : Nat} (one : cmd % 32 = 0) (a : BitVec 24) : burstAddrs cmd a.toNat = [a.toNat] := by
  have h := a.isLt
  have wrap : a.toNat % 16777216 = a.toNat := Nat.mod_eq_of_lt h
  simp [burstAddrs, one, wrap]

/-! ### One word read or written -/

/-- A read of one register of a block that answers: its effect, and its value. -/
theorem State.request_read (s : State) (x : Session) (a : BitVec 24) (data : List Byte) (aligned : a.toNat % 4 = 0)
    (level : a.toNat < 0x10000 ∨ x.holds 1 = true) (answers : s.absent a.toNat = false) :
    s.request x 0 a.toNat data = (s.readEffect a.toNat, 0x80, [s.readReg x a.toNat]) := by
  have observer : (decide (a.toNat < 65536) || x.holds 1) = true := by simpa using level
  have op : bits 0 6 2 = 0 := rfl
  simp [State.request, op, aligned, burstAddrs_one (cmd := 0) rfl, State.readRequest, observer, State.readBurst, answers]

/-- A write of one register under its access rule, to a block that answers: the token is spent, and the write has its effect. -/
theorem State.request_write (s : State) (x : Session) (a : BitVec 24) (v : Word) (aligned : a.toNat % 4 = 0)
    (met : (writeNeed x.num a.toNat v.toNat).met x = true)
    (token : ∀ l, writeNeed x.num a.toNat v.toNat = .cmd l → s.tokenOk x a.toNat v.toNat = true)
    (answers : s.absent a.toNat = false) (ungated : s.gated a.toNat = false) :
    s.request x 0x40 a.toNat (beBytes 4 v.toNat) = ((s.useToken x.num).regWrite x.num a.toNat v, 0x80, []) := by
  have op : bits 0x40 6 2 = 1 := rfl
  have answers' : (s.useToken x.num).absent a.toNat = false := answers
  have ungated' : (s.useToken x.num).gated a.toNat = false := ungated
  have written : (s.useToken x.num).writeBurst x.num [(a.toNat, v)] = ((s.useToken x.num).regWrite x.num a.toNat v, true) := by
    simp [State.writeBurst, answers', ungated']
  have served : s.writeRequest x [(a.toNat, v)] = ((s.useToken x.num).regWrite x.num a.toNat v, 0x80) := by
    cases need : writeNeed x.num a.toNat v.toNat with
    | cmd l =>
      rw [need] at met
      simp [State.writeRequest, need, met, token l need, written]
    | none | free | session | plain l =>
      rw [need] at met
      simp [State.writeRequest, need, met, written]
  simp [State.request, op, aligned, burstAddrs_one (cmd := 0x40) rfl, reqWords_one, served]

/-- A read changes the latch of CTHI and the legacy cursor at most. -/
theorem State.readEffect_only (s : State) (a : Nat) : ∃ x r, s.readEffect a = { s with tae := x, rcd := r } := by
  unfold State.readEffect State.legRead
  repeat' split
  all_goals exact ⟨_, _, rfl⟩

/-! ### MAP (R586) -/

/-- A request on MAP of the length of its command is served as its bytes say: its CRC is right. -/
theorem mapRequest_served (cmd : Byte) (a : BitVec 24) (data : List Byte) (s : State) (serves : s.supServes = true)
    (len : data.length + 5 = mapLen cmd.toNat) :
    exec (.mapRequest (mapBytes cmd a data)) s = .next (s.mapServe cmd.toNat (cmd :: beBytes 3 a.toNat ++ data)) := by
  have front : (cmd :: beBytes 3 a.toNat ++ data).length = mapLen cmd.toNat - 1 := by simp; omega
  have whole : mapLen cmd.toNat ≤ (mapBytes cmd a data).length := by simp [mapBytes]; omega
  have body : (mapBytes cmd a data).take (mapLen cmd.toNat - 1) = cmd :: beBytes 3 a.toNat ++ data := List.take_left' front
  have crc : (mapBytes cmd a data).getD (mapLen cmd.toNat - 1) 0 = crc8 (cmd :: beBytes 3 a.toNat ++ data) := by
    rw [← front]
    simp [mapBytes]
  have head : (mapBytes cmd a data).headD 0 = cmd := rfl
  simp only [exec_mapRequest, execMapRequest, head, serves, whole, and_self, if_true, body, crc]

/-- The request of MAP's session, at the instant of its activity. -/
theorem State.mapServe_session (s : State) (cmd : Byte) (a : BitVec 24) (data : List Byte) (x : Session)
    (found : s.session 0 = some x) : s.mapServe cmd.toNat (cmd :: beBytes 3 a.toNat ++ data) =
      ((Active s 0).request { x with lastAt := s.pins.now } cmd.toNat a.toNat data).1.mapAnswer
        ((Active s 0).request { x with lastAt := s.pins.now } cmd.toNat a.toNat data).2.1
        ((Active s 0).request { x with lastAt := s.pins.now } cmd.toNat a.toNat data).2.2 := by
  have copy : (Active s 0).session 0 = some { x with lastAt := s.pins.now } := by
    rw [State.session_updSession, found]
    · rfl
    · exact fun _ h => h
  have addr : slice 1 3 (cmd :: beBytes 3 a.toNat ++ data) = beBytes 3 a.toNat :=
    slice_middle [cmd] (beBytes 3 a.toNat) data rfl (by simp)
  have rest : (cmd :: beBytes 3 a.toNat ++ data).drop 4 = data := List.drop_left' (by simp)
  simp only [State.mapServe, copy, addr, beNat_address, rest]

/-- A write of one register on MAP is executed and answered 0x80 (R589). -/
theorem mapRequest_write (a : BitVec 24) (v : Word) (x : Session) (s : State) (serves : s.supServes = true)
    (found : s.session 0 = some x) (aligned : a.toNat % 4 = 0) (met : (writeNeed 0 a.toNat v.toNat).met x = true)
    (token : ∀ l, writeNeed 0 a.toNat v.toNat = .cmd l → s.tokenOk x a.toNat v.toNat = true)
    (answers : s.absent a.toNat = false) (ungated : s.gated a.toNat = false) :
    exec (.mapRequest (mapBytes 0x40 a (beBytes 4 v.toNat))) s = .next
      (((TokenSpent (Active s 0) 0).regWrite 0 a.toNat v).send (.map [0x80#8, crc8 [0x80#8]])) := by
  have num : x.num = 0 := State.session_num found
  have met' : (writeNeed x.num a.toNat v.toNat).met { x with lastAt := s.pins.now } = true := by rw [num]; exact met
  have token' : ∀ l, writeNeed x.num a.toNat v.toNat = .cmd l →
      (Active s 0).tokenOk { x with lastAt := s.pins.now } a.toNat v.toNat = true := by rw [num]; exact token
  have request := (Active s 0).request_write { x with lastAt := s.pins.now } a v aligned met' token' answers ungated
  rw [mapRequest_served 0x40 a _ s serves (by rw [length_beBytes]; rfl), s.mapServe_session 0x40 a _ x found,
    show (0x40 : Byte).toNat = 0x40 from rfl, request]
  show Host.Outcome.next ((((Active s 0).useToken x.num).regWrite x.num a.toNat v).mapAnswer 0x80 []) = _
  rw [num]
  rfl

/-- A read of one register on MAP is answered 0x80 with its value (R589). -/
theorem mapRequest_read (a : BitVec 24) (x : Session) (s : State) (serves : s.supServes = true) (found : s.session 0 = some x)
    (aligned : a.toNat % 4 = 0) (level : a.toNat < 0x10000 ∨ x.holds 1 = true) (answers : s.absent a.toNat = false) :
    ∃ t, exec (.mapRequest (mapBytes 0 a [])) s = .next t ∧ t.lane = s.lane ∧ ∃ r,
      t.pins.sent = .map (r ++ [crc8 r]) :: s.pins.sent ∧
      r = 0x80#8 :: beBytes 4 ((Active s 0).readReg { x with lastAt := s.pins.now } a.toNat).toNat := by
  have request := (Active s 0).request_read { x with lastAt := s.pins.now } a [] aligned level answers
  obtain ⟨tae, rcd, only⟩ := (Active s 0).readEffect_only a.toNat
  refine ⟨((Active s 0).readEffect a.toNat).mapAnswer 0x80 [(Active s 0).readReg { x with lastAt := s.pins.now } a.toNat], ?_, ?_,
    _, ?_, rfl⟩
  · rw [mapRequest_served 0 a _ s serves rfl, s.mapServe_session 0 a _ x found, show (0 : Byte).toNat = 0 from rfl, request]
  · rw [only]
    rfl
  · rw [only]
    simp [State.mapAnswer, wordBytes, State.updSession]

/-! ### FMP (R591, R592) -/

/-- The bytes of a request on FMP before its TAG. -/
def fmpUntagged (x : Session) (seq : Word) (cmd : Byte) (a : BitVec 24) (data : List Byte) : List Byte :=
  [0x01#8, 0x01#8] ++ beBytes 2 x.num ++ beBytes 4 seq.toNat ++ [cmd] ++ beBytes 3 a.toNat ++ data

section
variable (x : Session) (seq : Word) (cmd : Byte) (a : BitVec 24) (data : List Byte)

theorem fmpRequest_eq : fmpRequest x seq cmd a data = fmpUntagged x seq cmd a data ++ fmpTag x (fmpUntagged x seq cmd a data) := rfl

theorem length_fmpTag (b : List Byte) : (fmpTag x b).length = 8 := by simp [fmpTag]

theorem length_fmpUntagged : (fmpUntagged x seq cmd a data).length = data.length + 12 := by
  simp [fmpUntagged]
  omega

theorem length_fmpRequest : (fmpRequest x seq cmd a data).length = data.length + 20 := by
  rw [fmpRequest_eq, List.length_append, length_fmpUntagged, length_fmpTag]

/-- The fields of a request, one after the other. -/
theorem fmpRequest_fields : fmpRequest x seq cmd a data = [0x01#8, 0x01#8] ++ (beBytes 2 x.num ++ (beBytes 4 seq.toNat ++ ([cmd] ++
    (beBytes 3 a.toNat ++ (data ++ fmpTag x (fmpUntagged x seq cmd a data)))))) := by
  simp [fmpRequest_eq, fmpUntagged]

theorem fmpRequest_version : slice 0 2 (fmpRequest x seq cmd a data) = [0x01#8, 0x01#8] := by
  rw [fmpRequest_fields]
  rfl

theorem fmpRequest_session (h : x.num < 65536) : beNat (slice 2 2 (fmpRequest x seq cmd a data)) = x.num := by
  rw [fmpRequest_fields, slice_middle (o := 2) [0x01#8, 0x01#8] (beBytes 2 x.num) _ rfl (by simp), beNat_beBytes]
  exact Nat.mod_eq_of_lt h

theorem fmpRequest_seq : beNat (slice 4 4 (fmpRequest x seq cmd a data)) = seq.toNat := by
  rw [fmpRequest_fields, ← List.append_assoc,
    slice_middle (o := 4) _ (beBytes 4 seq.toNat) _ (by simp) (by simp), beNat_word]

theorem fmpRequest_cmd : beNat (slice 8 1 (fmpRequest x seq cmd a data)) = cmd.toNat := by
  rw [fmpRequest_fields, ← List.append_assoc, ← List.append_assoc, slice_middle (o := 8) (n := 1) _ [cmd] _ (by simp) rfl]
  simp [beNat, leNat]

theorem fmpRequest_address : beNat (slice 9 3 (fmpRequest x seq cmd a data)) = a.toNat := by
  rw [fmpRequest_fields, ← List.append_assoc, ← List.append_assoc, ← List.append_assoc,
    slice_middle (o := 9) _ (beBytes 3 a.toNat) _ (by simp) (by simp), beNat_address]

theorem fmpRequest_untagged :
    (fmpRequest x seq cmd a data).take ((fmpRequest x seq cmd a data).length - 8) = fmpUntagged x seq cmd a data := by
  rw [length_fmpRequest, fmpRequest_eq]
  exact List.take_left' (length_fmpUntagged x seq cmd a data)

theorem fmpRequest_tag : (fmpRequest x seq cmd a data).drop ((fmpRequest x seq cmd a data).length - 8) =
    fmpTag x (fmpUntagged x seq cmd a data) := by
  rw [length_fmpRequest, fmpRequest_eq]
  exact List.drop_left' (length_fmpUntagged x seq cmd a data)

theorem fmpUntagged_data : (fmpUntagged x seq cmd a data).drop 12 = data := List.drop_left' (by simp)

end

/-- A datagram of an open session with its TAG goes to the session's requests. -/
theorem fmpDatagram_tagged (p : Peer) (x : Session) (seq : Word) (cmd : Byte) (a : BitVec 24) (data : List Byte) (s : State)
    (reach : s.fmpReach p.port.val = true) (room : s.fmpFull p.port.val = false) (found : s.session x.num = some x)
    (fmp : x.num ≠ 0) (num : x.num < 65536) (src : x.src = some p) (opened : x.st = .opened)
    (len : data.length + 20 = fmpLen cmd.toNat) :
    exec (.fmpDatagram p (fmpRequest x seq cmd a data)) s =
      .next ((s.fmpTaken p.port.val).fmpTagged x p cmd.toNat a.toNat seq.toNat data) := by
  have copy : (s.fmpTaken p.port.val).session x.num = some x := found
  have served : (s.fmpTaken p.port.val).fmpServe p (fmpRequest x seq cmd a data) =
      (s.fmpTaken p.port.val).fmpTagged x p cmd.toNat a.toNat seq.toNat data := by
    simp only [State.fmpServe, fmpRequest_session x seq cmd a data num, fmp, if_false, copy, src, if_true, opened, fmpRequest_tag,
      fmpRequest_untagged, fmpRequest_cmd, fmpRequest_address, fmpRequest_seq, fmpUntagged_data]
  simp only [exec_fmpDatagram, execFmpDatagram, reach, room, and_self, if_true, fmpRequest_cmd, length_fmpRequest, len, fmpRequest_version, served]

/-- A read of one register with the next SEQ on FMP is answered 0x80 with its value, under the session's TAG, and the answer is
kept (R592). -/
theorem fmpDatagram_read (p : Peer) (x : Session) (seq : Word) (a : BitVec 24) (s : State) (reach : s.fmpReach p.port.val = true)
    (room : s.fmpFull p.port.val = false) (found : s.session x.num = some x) (fmp : x.num ≠ 0) (num : x.num < 65536)
    (src : x.src = some p) (opened : x.st = .opened) (next : seq.toNat = (x.seq + 1) % 4294967296) (aligned : a.toNat % 4 = 0)
    (answers : s.absent a.toNat = false) (level : a.toNat < 0x10000 ∨ x.holds 1 = true) :
    ∃ t, exec (.fmpDatagram p (fmpRequest x seq 0 a [])) s = .next t ∧ t.lane = s.lane ∧
      ∃ b y w, t.pins.sent = .fmp p b :: s.pins.sent ∧ t.session x.num = some y ∧ y.seq = seq.toNat ∧ y.cached = b ∧
        b = fmpBody x.num seq.toNat 0x80 a.toNat [w] ++ fmpTag x (fmpBody x.num seq.toNat 0x80 a.toNat [w]) := by
  generalize hu : (s.fmpTaken p.port.val).updSession x.num
    (fun y => { y with lastAt := (s.fmpTaken p.port.val).pins.now, seq := seq.toNat }) = u
  have copy : u.session x.num = some { x with lastAt := s.pins.now, seq := seq.toNat } := by
    rw [← hu, State.session_updSession]
    · exact congrArg (Option.map _) found
    · exact fun _ h => h
  have pins : u.pins = s.pins := by rw [← hu]; rfl
  have lane : u.lane = s.lane := by rw [← hu]; rfl
  have answers' : u.absent a.toNat = false := by rw [← hu]; exact answers
  have request := u.request_read x a [] aligned level answers'
  obtain ⟨tae, rcd, only⟩ := u.readEffect_only a.toNat
  generalize hv : u.readEffect a.toNat = v at request only
  have kept : v.session x.num = some { x with lastAt := s.pins.now, seq := seq.toNat } := by rw [only]; exact copy
  have bytes (ws : List Word) : v.fmpBytes x.num seq.toNat 0x80 a.toNat ws =
      fmpBody x.num seq.toNat 0x80 a.toNat ws ++ fmpTag x (fmpBody x.num seq.toNat 0x80 a.toNat ws) := by
    simp only [State.fmpBytes, kept, fmp, opened, ne_eq, not_false_eq_true, and_self, if_true]
    rfl
  let b := v.fmpBytes x.num seq.toNat 0x80 a.toNat [u.readReg x a.toNat]
  refine ⟨(v.updSession x.num fun y => { y with cached := b }).send (.fmp p b), ?_, ?_, b,
    { x with lastAt := s.pins.now, seq := seq.toNat, cached := b }, u.readReg x a.toNat, ?_, ?_, rfl, rfl, bytes _⟩
  · rw [fmpDatagram_tagged p x seq 0 a [] s reach room found fmp num src opened rfl]
    simp only [State.fmpTagged, next, if_true]
    rw [← next, hu, show (0 : Byte).toNat = 0 from rfl, request]
  · rw [only]
    exact lane
  · rw [only]
    exact congrArg _ (congrArg Pins.sent pins)
  · show (v.updSession x.num _).session x.num = _
    rw [State.session_updSession, kept]
    · rfl
    · exact fun _ h => h

end Sys2Proof.Machine
end

section
/-! PROOF. The completion of the commands of the recorder, of the self-tests and of the sessions. -/

namespace Sys2Proof.Machine

open Sys2Proof.Safety

/-! ### The commands of this part (the dispatch of their meanings) -/

theorem exec_ctloRead (s : State) : exec .ctloRead s = execCtloRead s := rfl

theorem ctloRead_latches (s : State) (live : s.blockLive 3 = true) :
    exec .ctloRead s = .next { s with tae.cthi := BitVec.ofNat 32 (s.ct / 4294967296) } := by
  simp only [exec_ctloRead, execCtloRead, live, if_true]

/-- Settles O59: each command by its own completion, in the order of the statement. -/
theorem recorderTestsAndSessionsComplete : Obligations.RecorderTestsAndSessionsComplete :=
  ⟨recordCreate_buf, flushPeriod_due, recFlush_firstPage, recFlush_failed, freezeStart_frozen, freezeCommit_completed,
   legkeyTimeout_void, mbistChunk_passed, mbistChunk_lgeFailed,
   fun _ s idle lock bgmt sup latch => sup ▸ mbistChunk_supFailed s idle lock bgmt latch, replicaCompare_mended,
   replicaCompare_withdraws, bistperExpire_waits, plannedBistStart_excluded, selftestEnd_requests, transientAgeOut_counted,
   gateClosed_closed, fun k s next run blk _ => softResetDone_completed k s next run blk, svBurnStep_burned, confirmationEnd_ends,
   writeOperationDone_opened, mapRequest_write,
   fun a x s serves found aligned level answers =>
     have ⟨t, next, _, r, sent, _⟩ := mapRequest_read a x s serves found aligned level answers
     ⟨t, next, r, sent⟩,
   fun p x seq a s reach room found fmp num src opened seqNext aligned answers level =>
     have ⟨t, next, _, b, _, _, sent, _⟩ :=
       fmpDatagram_read p x seq a s reach room found fmp num src opened seqNext aligned answers level
     ⟨t, next, b, sent⟩,
   fun _ _ _ may => registerWrite_mayWrite rfl rfl may, ctloRead_latches, sessionOpen_map, sessionOpen_fmp, close_ends,
   responseSubmit_right, tokenPresent_armed, tokenExpire_void, challengeExpire_ends, lockoutExpire_frees, sessionTimeout_ends⟩

end Sys2Proof.Machine
end
section
/-! PROOF. What a command may make of the SAFE latch, the lane state, the role and the drives (R15, R34, R606): the core of the lane, and the
rules of the shared operations. -/

namespace Sys2Proof.Machine

open Sys2Proof.Safety

/-! ### The core of the lane -/

/-- What the rules of SAFE, of the roles and of RUN speak of: the SAFE latch, the lane state, the role, the drives (R15, R34), and
the consent declared on both XIN (R23). -/
structure LaneCore where
  safeLatch : Bool
  st : LaneState
  role : Role
  driving : Bool
  cons0 : Bool
  cons1 : Bool

def Lane.core : Lane → LaneCore
  | { safeLatch := l, st := x, role := r, driving := d, cons0 := a, cons1 := b, .. } => ⟨l, x, r, d, a, b⟩

/-- The core of a lane reads off whatever its fields were last set to. -/
@[simp] theorem Lane.core_mk : ∀ st e1 latch e3 e4 e5 e6 role e8 e9 e10 e11 e12 e13 e14 e15 e16 e17 e18 e19 e20 e21 e22
      e23 e24 e25 e26 e27 e28 e29 cons0 cons1 e32 e33 e34 e35 e36 e37 e38 e39 e40 e41 e42 e43 e44 e45 driving e47 e48 e49
      e50 e51 e52 e53 e54 e55 e56 e57,
    Lane.core ⟨st, e1, latch, e3, e4, e5, e6, role, e8, e9, e10, e11, e12, e13, e14, e15, e16, e17, e18, e19, e20, e21,
      e22, e23, e24, e25, e26, e27, e28, e29, cons0, cons1, e32, e33, e34, e35, e36, e37, e38, e39, e40, e41, e42, e43,
      e44, e45, driving, e47, e48, e49, e50, e51, e52, e53, e54, e55, e56, e57⟩ =
      ⟨latch, st, role, driving, cons0, cons1⟩ := by
  intros
  rfl

/-- Another role, other drives, another lane state; the rest of the core as it is. -/
def LaneCore.withRole (c : LaneCore) (r : Role) : LaneCore := { c with role := r }
@[inherit_doc LaneCore.withRole]
def LaneCore.withDriving (c : LaneCore) (d : Bool) : LaneCore := { c with driving := d }
@[inherit_doc LaneCore.withRole]
def LaneCore.withSt (c : LaneCore) (x : LaneState) : LaneCore := { c with st := x }

@[simp] theorem LaneCore.withRole_st (c : LaneCore) (r : Role) : (c.withRole r).st = c.st := rfl
@[simp] theorem LaneCore.withDriving_st (c : LaneCore) (d : Bool) : (c.withDriving d).st = c.st := rfl
@[simp] theorem LaneCore.withRole_role (c : LaneCore) (r : Role) : (c.withRole r).role = r := rfl
@[simp] theorem LaneCore.withDriving_role (c : LaneCore) (d : Bool) : (c.withDriving d).role = c.role := rfl

@[simp] theorem LaneCore.mk_role (l : Lane) (r : Role) :
    LaneCore.mk l.safeLatch l.st r l.driving l.cons0 l.cons1 = l.core.withRole r := rfl
@[simp] theorem LaneCore.mk_driving (l : Lane) (d : Bool) :
    LaneCore.mk l.safeLatch l.st l.role d l.cons0 l.cons1 = l.core.withDriving d := rfl
@[simp low] theorem LaneCore.mk_role_driving (l : Lane) (r : Role) (d : Bool) :
    LaneCore.mk l.safeLatch l.st r d l.cons0 l.cons1 = (l.core.withRole r).withDriving d := rfl
@[simp high] theorem LaneCore.mk_fields (l : Lane) : LaneCore.mk l.safeLatch l.st l.role l.driving l.cons0 l.cons1 = l.core := rfl

@[simp] theorem State.lane_ite (c : Prop) [Decidable c] (s t : State) :
    (if c then s else t).lane = if c then s.lane else t.lane := apply_ite _ _ _ _

@[simp] theorem Lane.core_ite (c : Prop) [Decidable c] (l m : Lane) :
    (if c then l else m).core = if c then l.core else m.core := apply_ite _ _ _ _

@[simp] theorem State.record_cons0 (s : State) (sev src code : Nat) (data : List Nat) :
    (s.record sev src code data).lane.cons0 = s.lane.cons0 := by
  obtain ⟨_, _, h⟩ := RecorderOnly.record s sev src code data
  rw [h]

@[simp] theorem State.record_cons1 (s : State) (sev src code : Nat) (data : List Nat) :
    (s.record sev src code data).lane.cons1 = s.lane.cons1 := by
  obtain ⟨_, _, h⟩ := RecorderOnly.record s sev src code data
  rw [h]

theorem RecorderOnly.core_eq {s t : State} (h : RecorderOnly s t) : t.lane.core = s.lane.core := by
  obtain ⟨_, _, rfl⟩ := h
  rfl

@[simp] theorem State.record_core (s : State) (sev src code : Nat) (data : List Nat) :
    (s.record sev src code data).lane.core = s.lane.core := (RecorderOnly.record s sev src code data).core_eq

@[simp] theorem State.putCells_core (s : State) (l : List (Nat × Cell)) : (s.putCells l).lane.core = s.lane.core :=
  congrArg Lane.core (State.putCells_lane l s)

@[simp] theorem State.connsClose_core (s : State) (l : List Nat) : (s.connsClose l).lane.core = s.lane.core :=
  congrArg Lane.core (State.connsClose_lane l s)

theorem State.foldl_lane {α : Type} {f : State → α → State} (h : ∀ s a, (f s a).lane = s.lane) (l : List α) (s : State) :
    (l.foldl f s).lane = s.lane := by
  induction l generalizing s with
  | nil => rfl
  | cons a l ih => rw [List.foldl_cons, ih, h]

/-- A fold over a list leaves what each of its steps leaves. -/
theorem State.foldl_core {α : Type} {f : State → α → State} (h : ∀ s a, (f s a).lane.core = s.lane.core) (l : List α)
    (s : State) :
    (l.foldl f s).lane.core = s.lane.core := by
  induction l generalizing s with
  | nil => rfl
  | cons a l ih => rw [List.foldl_cons, ih, h]

/-! ### What a command may make of the core -/

/-- What everything but a reset of the lane and the T0 of a logic cycle may do: SAFE stays SAFE, and RUN is not entered. -/
structure LaneCore.Moves (a b : LaneCore) : Prop where
  held : a.safeLatch = true → a.st = .safe → b.safeLatch = true ∧ b.st = .safe
  run : b.st = .run → a.st = .run

@[simp] theorem LaneCore.Moves.refl (c : LaneCore) : c.Moves c := ⟨And.intro, id⟩

theorem LaneCore.Moves.trans {a b c : LaneCore} (h : a.Moves b) (k : b.Moves c) : a.Moves c :=
  ⟨fun l x => let ⟨l', x'⟩ := h.held l x; k.held l' x', h.run ∘ k.run⟩

@[simp] theorem LaneCore.moves_ite (c : LaneCore) (p : Prop) [Decidable p] (a b : LaneCore) :
    c.Moves (if p then a else b) ↔ (p → c.Moves a) ∧ (¬ p → c.Moves b) := by
  split <;> simp [*]

@[simp] theorem LaneCore.moves_withRole {c d : LaneCore} {r : Role} : c.Moves (d.withRole r) ↔ c.Moves d :=
  ⟨fun h => ⟨h.held, h.run⟩, fun h => ⟨h.held, h.run⟩⟩

@[simp] theorem LaneCore.moves_withDriving {c d : LaneCore} {b : Bool} : c.Moves (d.withDriving b) ↔ c.Moves d :=
  ⟨fun h => ⟨h.held, h.run⟩, fun h => ⟨h.held, h.run⟩⟩

/-- A lane outside SAFE passes to another state than RUN. -/
theorem LaneCore.Moves.leaves {c : LaneCore} {x : LaneState} (open_ : c.st ≠ .safe) (hr : x ≠ .run) : c.Moves (c.withSt x) :=
  ⟨fun _ k => absurd k open_, fun k => absurd k hr⟩

/-! ### The shared operations -/

@[simp] theorem State.setRole_core (s : State) (r : Role) : (s.setRole r).lane.core = s.lane.core.withRole r := by
  unfold State.setRole
  split
  · subst r; rfl
  · rfl

@[simp] theorem State.setRole_cons0 (s : State) (r : Role) : (s.setRole r).lane.cons0 = s.lane.cons0 :=
  congrArg LaneCore.cons0 (State.setRole_core s r)

@[simp] theorem State.setRole_cons1 (s : State) (r : Role) : (s.setRole r).lane.cons1 = s.lane.cons1 :=
  congrArg LaneCore.cons1 (State.setRole_core s r)

theorem State.setSt_core (s : State) {x : LaneState} (h : s.lane.core.st ≠ x) (k : x ≠ .run) :
    (s.setSt x).lane.core = (s.lane.core.withSt x).withRole .holding := by
  have h' : s.lane.st ≠ x := h
  simp only [State.setSt, h', k, if_false]
  rfl

/-- A lane outside SAFE passes to another state than RUN. -/
theorem State.setSt_moves {c : LaneCore} {s : State} {x : LaneState} (m : c.Moves s.lane.core)
    (open_ : s.lane.core.st ≠ .safe)
    (hr : x ≠ .run) : c.Moves (s.setSt x).lane.core := by
  by_cases ne : s.lane.core.st = x
  · rwa [State.setSt, if_pos (show s.lane.st = x from ne)]
  · rw [State.setSt_core s ne hr, LaneCore.moves_withRole]
    exact m.trans (.leaves open_ hr)

@[simp] theorem State.forcesRelease_core (s : State) : s.forcesRelease.lane.core = s.lane.core := by
  obtain ⟨_, _, _, h⟩ := State.forcesRelease_only s
  rw [h]
  rfl

@[simp] theorem State.wavesCut_lane (s : State) : s.wavesCut.lane = s.lane := rfl

@[simp] theorem State.leaveVote_core (s : State) : s.leaveVote.lane.core = s.lane.core.withDriving false := by
  have closed : (if s.lane.st = .run then s.connsClose (connList s.station) else s).wavesCut.lane.core = s.lane.core := by simp
  exact congrArg (LaneCore.withDriving · false) closed

@[simp] theorem State.fallbackLasting_core (s : State) : s.fallbackLasting.lane.core = s.lane.core := by
  obtain ⟨_, _, _, h, _⟩ := State.fallbackLasting_only s
  rw [h]
  rfl

end Sys2Proof.Machine
end
section
/-! PROOF. The operations that leave the core of the lane as it is. -/

namespace Sys2Proof.Machine

open Sys2Proof.Safety

/-! ### The state image -/

@[simp] theorem State.imageInit_lane (s : State) : (s.imageInit).lane = s.lane := rfl

/-! ### The shared operations -/

@[simp] theorem State.advanceCt_lane (s : State) (t : Nat) : (s.advanceCt t).lane = s.lane := rfl

@[simp] theorem State.recDrop_core (s : State) (cause sev : Nat) : (s.recDrop cause sev).lane.core = s.lane.core := by
  simp [State.recDrop]

@[simp] theorem State.recPut_core (s : State) (r : Record) : (s.recPut r).lane.core = s.lane.core := by
  simp [State.recPut]

@[simp] theorem State.recMake_core (s : State) (sev src code : Nat) (data : List Nat) :
    (s.recMake sev src code data).lane.core = s.lane.core := by
  simp [State.recMake]

@[simp] theorem State.recordLate_core (s : State) : s.recordLate.lane.core = s.lane.core
    := (RecorderOnly.recordLate s).core_eq

@[simp] theorem State.flushRecs_core (s : State) (l : List Record) : (s.flushRecs l).lane.core = s.lane.core := by
  induction l generalizing s with
  | nil => rfl
  | cons a l ih =>
    simp only [State.flushRecs]
    split <;> simp [ih]

@[simp] theorem State.lostRecords_core (s : State) : s.lostRecords.lane.core = s.lane.core
    := (RecorderOnly.lostRecords s).core_eq

@[simp] theorem State.flushWrite_core (s : State) : (s.flushWrite).lane.core = s.lane.core := by
  simp [State.flushWrite]

@[simp] theorem State.flushNow_core (s : State) (ok : Bool) : (s.flushNow ok).lane.core = s.lane.core := by
  simp [State.flushNow]

@[simp] theorem State.freezeEnd_core (s : State) (abort : Bool) : (s.freezeEnd abort).lane.core = s.lane.core := by
  simp [State.freezeEnd]

@[simp] theorem State.wallStep_core (s : State) (woff : Int) (wallv : Bool) (cause : Nat) :
    (s.wallStep woff wallv cause).lane.core = s.lane.core := by
  simp [State.wallStep]

@[simp] theorem State.forceRecord_core (s : State) (a what : Nat) : (s.forceRecord a what).lane.core = s.lane.core := by
  simp [State.forceRecord]

@[simp] theorem State.learnDone_core (s : State) (failed : Bool) : (s.learnDone failed).lane.core = s.lane.core := by
  unfold State.learnDone
  split <;> simp

@[simp] theorem State.learnFail_core (s : State) (n : Nat) : (s.learnFail n).lane.core = s.lane.core := by
  unfold State.learnFail
  split <;> simp

@[simp] theorem State.learnDark_core (s : State) : (s.learnDark).lane.core = s.lane.core := by
  unfold State.learnDark
  split <;> simp

@[simp] theorem State.lampsDark_core (s0 : State) : (s0.lampsDark).lane.core = s0.lane.core := by
  simp [State.lampsDark]

@[simp] theorem State.canFail_core (s : State) (cause : Nat) (f : TxEntry → Bool) :
    (s.canFail cause f).lane.core = s.lane.core := by
  simp [State.canFail]

@[simp] theorem State.canSafe_core (s : State) : (s.canSafe).lane.core = s.lane.core := by
  simp [State.canSafe]

@[simp] theorem State.lgeHalt_lane (s : State) : (s.lgeHalt).lane = s.lane := rfl

@[simp] theorem State.entryDrop_core (s : State) : (s.entryDrop).lane.core = s.lane.core := by
  simp [State.entryDrop]

@[simp] theorem State.ctlOvertaken_core (s0 : State) : (s0.ctlOvertaken).lane.core = s0.lane.core := by
  unfold State.ctlOvertaken
  dsimp only
  (repeat' split) <;> simp

@[simp] theorem State.maskPatch_lane (s : State) (m : Nat) : (s.maskPatch m).lane = s.lane := by
  simp [State.maskPatch]

@[simp] theorem State.fallbackRecord_core (s : State) (row : Nat) : (s.fallbackRecord row).lane.core = s.lane.core := by
  simp [State.fallbackRecord]

/-! ### Sessions -/

@[simp] theorem State.updSession_lane (s : State) (n : Nat) (f : Session → Session) : (s.updSession n f).lane = s.lane := rfl

@[simp] theorem State.command_core {s : State} {f : State → State} (h : ∀ t, (f t).lane.core = t.lane.core)
    (sid addr value level : Nat) : (s.command sid addr value level f).lane.core = s.lane.core := by
  unfold State.command
  split <;> simp [h]

@[simp] theorem State.plainWrite_core {s : State} {f : State → State} (h : ∀ t, (f t).lane.core = t.lane.core)
    (sid addr level : Nat) : (s.plainWrite sid addr level f).lane.core = s.lane.core := by
  unfold State.plainWrite
  split <;> simp [h]

@[simp] theorem State.cmdRecord_core (s : State) (op sid : Nat) : (s.cmdRecord op sid).lane.core = s.lane.core := by
  simp [State.cmdRecord]

/-! ### The cabinet bus -/

@[simp] theorem State.updCan_lane (s : State) (c : Nat) (f : CanCtl → CanCtl) : (s.updCan c f).lane = s.lane := rfl

@[simp] theorem State.updTx_lane (s : State) (e : Nat) (f : TxEntry → TxEntry) : (s.updTx e f).lane = s.lane := rfl

@[simp] theorem State.updMap_lane (s : State) (m : Nat) (f : MapState → MapState) : (s.updMap m f).lane = s.lane := rfl

@[simp] theorem State.mapTimeout_core (s : State) (t0 m : Nat) : (s.mapTimeout t0 m).lane.core = s.lane.core := by
  simp [State.mapTimeout]

@[simp] theorem State.mapTimeouts_core (s : State) (t0 : Nat) : (s.mapTimeouts t0).lane.core = s.lane.core :=
  State.foldl_core (fun _ _ => by simp) _ _

@[simp] theorem State.mapCommit_core (s : State) (n : Nat) (sends : Bool) (img : List Bool) (m : Nat) :
    (s.mapCommit n sends img m).lane.core = s.lane.core := by
  simp [State.mapCommit]

@[simp] theorem State.mapsCommit_core (s : State) (n : Nat) (sends : Bool) (img : List Bool) :
    (s.mapsCommit n sends img).lane.core = s.lane.core := by
  unfold State.mapsCommit
  split
  · exact State.foldl_core (fun _ _ => by simp) _ _
  · rfl

@[simp] theorem State.lonelyEnd_core (s : State) (c : Nat) : (s.lonelyEnd c).lane.core = s.lane.core := by
  simp [State.lonelyEnd]

@[simp] theorem State.offerBack_lane (s : State) (c : Nat) : (s.offerBack c).lane = s.lane := by
  unfold State.offerBack
  split <;> simp

@[simp] theorem State.canPassive_core (s : State) (c : Nat) (was : CanEState) :
    (s.canPassive c was).lane.core = s.lane.core := by
  simp [State.canPassive]

@[simp] theorem State.canRecover_lane (s : State) (c : Nat) : (s.canRecover c).lane = s.lane := by
  simp [State.canRecover]

@[simp] theorem State.rxQueue_core (s : State) (c : Nat) (f : CanFrame) (stamp : Nat) :
    (s.rxQueue c f stamp).lane.core = s.lane.core := by
  simp [State.rxQueue]

@[simp] theorem State.slaveStamp_lane (s : State) (c : Nat) (f : CanFrame) (stamp : Nat) :
    (s.slaveStamp c f stamp).lane = s.lane := by
  simp [State.slaveStamp]

@[simp] theorem State.txPost_lane (s : State) : (s.txPost).lane = s.lane := by
  unfold State.txPost
  split <;> simp

@[simp] theorem State.txCancel_core (s : State) (e : Nat) : (s.txCancel e).lane.core = s.lane.core := by
  unfold State.txCancel
  split <;> simp

@[simp] theorem State.txRelease_lane (s : State) (e : Nat) : (s.txRelease e).lane = s.lane := by
  unfold State.txRelease
  split <;> simp

/-! ### Supply angle and set angle -/

@[simp] theorem State.angleRebase_lane (s : State) : (s.angleRebase).lane = s.lane := rfl

/-! ### The logic engine -/

@[simp] theorem State.hold0_lane (s : State) (a : Nat) (c : Cell) : (s.hold0 a c).lane = s.lane := rfl

@[simp] theorem State.hold1_lane (s : State) (a : Nat) (c : Cell) : (s.hold1 a c).lane = s.lane := rfl

@[simp] theorem State.takeStore_core (s : State) (half1 : Bool) (w : Option (Nat × Cell)) :
    (s.takeStore half1 w).lane.core = s.lane.core := by
  unfold State.takeStore
  split <;> simp

@[simp] theorem State.drainBuf_lane (s : State) : (s.drainBuf).lane = s.lane := by
  simp [State.drainBuf]

/-! ### The Guardian -/

@[simp] theorem State.fallbackEnter_core (s : State) (gath : Bool) : (s.fallbackEnter gath).lane.core = s.lane.core := by
  simp [State.fallbackEnter]

@[simp] theorem State.guardianEvent_core (s : State) (k : Nat) : (s.guardianEvent k).lane.core = s.lane.core := by
  simp [State.guardianEvent]

/-! ### Lamps and lamp proving -/

@[simp] theorem State.updLamp_lane (s : State) (n : Nat) (f : LampState → LampState) : (s.updLamp n f).lane = s.lane := rfl

@[simp] theorem State.updGroup_lane (s : State) (g : Nat) (f : AspectState → AspectState) :
    (s.updGroup g f).lane = s.lane := rfl

@[simp] theorem State.lampWave_lane (s : State) (n : Nat) : (s.lampWave n).lane = s.lane := by
  simp [State.lampWave]

@[simp] theorem State.expectSet_core (s : State) (n : Nat) (e : Expectation) :
    (s.expectSet n e).lane.core = s.lane.core := by
  simp [State.expectSet]

@[simp] theorem State.lampRefresh_core (s : State) (n : Nat) : (s.lampRefresh n).lane.core = s.lane.core := by
  simp [State.lampRefresh]

@[simp] theorem State.lampsRefresh_core (s : State) (l : List Nat) : (s.lampsRefresh l).lane.core = s.lane.core := by
  induction l generalizing s with
  | nil => rfl
  | cons a l ih => simp [State.lampsRefresh, ih]

@[simp] theorem State.lampsOffFor_lane (s : State) (g : Nat) (b : Option Nat) (l : List Nat) :
    (s.lampsOffFor g b l).lane = s.lane := by
  induction l generalizing s with
  | nil => rfl
  | cons a l ih => simp [State.lampsOffFor, ih]

@[simp] theorem State.lampsOnFor_lane (s : State) (g : Nat) (b : Option Nat) (l : List Nat) :
    (s.lampsOnFor g b l).lane = s.lane := by
  induction l generalizing s with
  | nil => rfl
  | cons a l ih => simp [State.lampsOnFor, ih]

@[simp] theorem State.aspectStart_lane (s : State) (g : Nat) (b : Option Nat) : (s.aspectStart g b).lane = s.lane := by
  simp [State.aspectStart]

@[simp] theorem State.aspectFire_lane (s : State) (g : Nat) : (s.aspectFire g).lane = s.lane := by
  unfold State.aspectFire
  dsimp only
  split <;> simp

@[simp] theorem State.reportsTaken_lane (s : State) (failed : List Nat) (l : List Nat) :
    (s.reportsTaken failed l).lane = s.lane := by
  induction l generalizing s with
  | nil => rfl
  | cons a l ih => simp [State.reportsTaken, ih]

@[simp] theorem State.fallbackFire_core (s : State) (g : Nat) : (s.fallbackFire g).lane.core = s.lane.core := by
  unfold State.fallbackFire
  split <;> simp

@[simp] theorem State.directFire_lane (s : State) (g : Nat) (l : List Nat) : (s.directFire g l).lane = s.lane := by
  induction l generalizing s with
  | nil => rfl
  | cons a l ih => simp [State.directFire, ih]

@[simp] theorem State.switchFire_core (s : State) (g : Nat) : (s.switchFire g).lane.core = s.lane.core := by
  simp [State.switchFire]

@[simp] theorem State.latchClear_lane (s : State) (g : Nat) (l : List Nat) : (s.latchClear g l).lane = s.lane := by
  induction l generalizing s with
  | nil => rfl
  | cons a l ih => simp [State.latchClear, ih]

@[simp] theorem State.lampCommit_core (s : State) (read : Nat → Bool) (g : Nat) :
    (s.lampCommit read g).lane.core = s.lane.core := by
  unfold State.lampCommit
  split <;> simp

@[simp] theorem State.lampsCommit_core (s : State) (read : Nat → Bool) (l : List Nat) :
    (s.lampsCommit read l).lane.core = s.lane.core := by
  induction l generalizing s with
  | nil => rfl
  | cons a l ih => simp [State.lampsCommit, ih]

@[simp] theorem State.latchAgreed_core (s : State) (g : Nat) : (s.latchAgreed g).lane.core = s.lane.core := by
  unfold State.latchAgreed
  split <;> simp

@[simp] theorem State.fallbackAgreed_core (s : State) (g : Nat) : (s.fallbackAgreed g).lane.core = s.lane.core := by
  unfold State.fallbackAgreed
  dsimp only
  (repeat' split) <;> simp

@[simp] theorem State.fallbacksAgreed_core (s : State) (l : List Nat) : (s.fallbacksAgreed l).lane.core = s.lane.core := by
  induction l generalizing s with
  | nil => rfl
  | cons a l ih => simp [State.fallbacksAgreed, ih]

@[simp] theorem State.flashOn_core (s : State) (g : Nat) : (s.flashOn g).lane.core = s.lane.core := by
  simp [State.flashOn]

@[simp] theorem State.flashOff_core (s : State) (g : Nat) : (s.flashOff g).lane.core = s.lane.core := by
  simp [State.flashOff]

@[simp] theorem State.flashAdopt_core (s : State) (g : Nat) : (s.flashAdopt g).lane.core = s.lane.core := by
  simp [State.flashAdopt]

@[simp] theorem State.flashesAdopt_core (s : State) (l : List Nat) : (s.flashesAdopt l).lane.core = s.lane.core := by
  induction l generalizing s with
  | nil => rfl
  | cons a l ih => simp [State.flashesAdopt, ih]

@[simp] theorem State.darkPulse_lane (s : State) (n : Nat) : (s.darkPulse n).lane = s.lane := by
  simp [State.darkPulse]

@[simp] theorem State.proveDark_lane (s : State) (n : Nat) : (s.proveDark n).lane = s.lane := rfl

@[simp] theorem State.windowSet_lane (s : State) (n : Nat) (o : Bool) : (s.windowSet n o).lane = s.lane := rfl

@[simp] theorem State.suspStart_core (s : State) (n : Nat) : (s.suspStart n).lane.core = s.lane.core := by
  simp [State.suspStart]

@[simp] theorem State.suspCheck_core (s : State) (n : Nat) : (s.suspCheck n).lane.core = s.lane.core := by
  simp [State.suspCheck]

@[simp] theorem State.suspChecks_core (s : State) (l : List Nat) : (s.suspChecks l).lane.core = s.lane.core := by
  induction l generalizing s with
  | nil => rfl
  | cons a l ih => simp [State.suspChecks, ih]

@[simp] theorem State.suspStarts_core (s : State) (l : List Nat) : (s.suspStarts l).lane.core = s.lane.core := by
  induction l generalizing s with
  | nil => rfl
  | cons a l ih => simp [State.suspStarts, ih]

@[simp] theorem State.angleSusp_core (s : State) : (s.angleSusp).lane.core = s.lane.core := by
  simp [State.angleSusp]

@[simp] theorem State.oobEvidence_core (s : State) (n pt : Nat) (v : Int) (t : Nat) :
    (s.oobEvidence n pt v t).lane.core = s.lane.core := by
  simp [State.oobEvidence]

@[simp] theorem State.oobClear_lane (s : State) (n t : Nat) : (s.oobClear n t).lane = s.lane := by
  simp [State.oobClear]

@[simp] theorem State.darkSample_core (s : State) (n pt : Nat) : (s.darkSample n pt).lane.core = s.lane.core := by
  simp [State.darkSample]

@[simp] theorem State.litSample_core (s : State) (n pt : Nat) : (s.litSample n pt).lane.core = s.lane.core := by
  simp [State.litSample]

@[simp] theorem State.classify_core (s : State) (n pt : Nat) (v : Int) : (s.classify n pt v).lane.core = s.lane.core := by
  simp [State.classify]

@[simp] theorem State.learnSample_lane (s : State) (n pt : Nat) (v : Int) (t : Nat) :
    (s.learnSample n pt v t).lane = s.lane := by
  unfold State.learnSample
  split <;> simp

@[simp] theorem State.pulseSample_lane (s : State) (n : Nat) (v : Int) (t : Nat) : (s.pulseSample n v t).lane = s.lane := by
  unfold State.pulseSample
  split <;> simp

@[simp] theorem State.sampleJudge_core (s : State) (n : Nat) (v : Int) (t : Nat) :
    (s.sampleJudge n v t).lane.core = s.lane.core := by
  simp [State.sampleJudge]

@[simp] theorem State.lampSample_core (s : State) (n : Nat) (y : Int) (t : Nat) :
    (s.lampSample n y t).lane.core = s.lane.core := by
  unfold State.lampSample
  dsimp only
  (repeat' split) <;> simp

@[simp] theorem State.provingCount_lane (s : State) (n : Nat) : (s.provingCount n).lane = s.lane := rfl

@[simp] theorem State.provingCounts_lane (s : State) (l : List Nat) : (s.provingCounts l).lane = s.lane := by
  induction l generalizing s with
  | nil => rfl
  | cons a l ih => simp [State.provingCounts, ih]

@[simp] theorem State.isolateAgreed_core (s : State) (g : Nat) : (s.isolateAgreed g).lane.core = s.lane.core := by
  unfold State.isolateAgreed
  dsimp only
  (repeat' split) <;> simp

@[simp] theorem State.isolatesAgreed_core (s : State) (l : List Nat) : (s.isolatesAgreed l).lane.core = s.lane.core := by
  induction l generalizing s with
  | nil => rfl
  | cons a l ih => simp [State.isolatesAgreed, ih]

@[simp] theorem State.isoAck_lane (s : State) (g : Nat) : (s.isoAck g).lane = s.lane := by
  simp [State.isoAck]

@[simp] theorem State.isoAckApply_core (s : State) (a : PendingAck) : (s.isoAckApply a).lane.core = s.lane.core := by
  simp [State.isoAckApply]

@[simp] theorem State.learnWrite_lane (s : State) (ch cyc : Nat) : (s.learnWrite ch cyc).lane = s.lane := by
  simp [State.learnWrite]

/-! ### Measurement -/

@[simp] theorem State.updMea_lane (s : State) (n : Nat) (f : MeaState → MeaState) : (s.updMea n f).lane = s.lane := rfl

@[simp] theorem State.winSample_core (s : State) (n w : Nat) (v : Int) (q : Bool) :
    (s.winSample n w v q).lane.core = s.lane.core := by
  simp [State.winSample]

@[simp] theorem State.winSamples_core (s : State) (n : Nat) (fine : Bool) (v : Int) (q : Bool) :
    (s.winSamples n fine v q).lane.core = s.lane.core := by
  simp [State.winSamples]

@[simp] theorem State.gridNote_lane (s : State) (n per t : Nat) : (s.gridNote n per t).lane = s.lane := by
  simp [State.gridNote]

@[simp] theorem State.spanReset_lane (s : State) (n : Nat) : (s.spanReset n).lane = s.lane := rfl

@[simp] theorem State.spanResets_lane (s : State) (l : List Nat) : (s.spanResets l).lane = s.lane := by
  induction l generalizing s with
  | nil => rfl
  | cons a l ih => simp [State.spanResets, ih]

@[simp] theorem State.meaAlign_lane (s : State) : s.meaAlign.lane = s.lane := State.spanResets_lane _ _

@[simp] theorem State.meaTriggers_core (s : State) (l : List Nat) : (s.meaTriggers l).lane.core = s.lane.core := by
  induction l generalizing s with
  | nil => rfl
  | cons a l ih => simp [State.meaTriggers, ih]

@[simp] theorem State.meaTrigger_core (s : State) : (s.meaTrigger).lane.core = s.lane.core := by
  simp [State.meaTrigger]

@[simp] theorem State.meaSnap_lane (s : State) : (s.meaSnap).lane = s.lane := by
  simp [State.meaSnap]

@[simp] theorem State.wordForm_lane (s : State) (n t0 : Nat) : (s.wordForm n t0).lane = s.lane := by
  simp [State.wordForm]

@[simp] theorem State.wordForms_lane (s : State) (t0 : Nat) (l : List Nat) : (s.wordForms t0 l).lane = s.lane := by
  induction l generalizing s with
  | nil => rfl
  | cons a l ih => simp [State.wordForms, ih]

@[simp] theorem State.setSi_lane (s : State) (k : Nat) (x : StandIn) : (s.setSi k x).lane = s.lane := by
  simp [State.setSi]

@[simp] theorem State.calReport_core (s : State) (x : StandIn) (st : CmdStatus) :
    (s.calReport x st).lane.core = s.lane.core := by
  simp [State.calReport]

@[simp] theorem State.siFree_lane (s : State) (k : Nat) (p : SiPhase) : (s.siFree k p).lane = s.lane := by
  simp [State.siFree]

@[simp] theorem State.siRelease_lane (s : State) (k : Nat) : (s.siRelease k).lane = s.lane := by
  simp [State.siRelease]

@[simp] theorem State.rotationFail_core (s : State) (k cause : Nat) : (s.rotationFail k cause).lane.core = s.lane.core := by
  simp [State.rotationFail]

@[simp] theorem State.siGone_core (s : State) (k : Nat) : (s.siGone k).lane.core = s.lane.core := by
  simp [State.siGone]

@[simp] theorem State.siOut_core (s : State) (k : Nat) : (s.siOut k).lane.core = s.lane.core := by
  unfold State.siOut
  dsimp only
  split <;> simp

@[simp] theorem State.switchNow_lane (s : State) : (s.switchNow).lane = s.lane := rfl

@[simp] theorem State.parallelPass_core (s : State) (k : Nat) : (s.parallelPass k).lane.core = s.lane.core := by
  simp [State.parallelPass]

@[simp] theorem State.returnFail_lane (s : State) (k : Nat) : (s.returnFail k).lane = s.lane := by
  simp [State.returnFail]

@[simp] theorem State.calStart_lane (s : State) (n : Nat) : (s.calStart n).lane = s.lane := by
  simp [State.calStart]

@[simp] theorem State.calAbortOn_core (s : State) (k : Nat) : (s.calAbortOn k).lane.core = s.lane.core := by
  unfold State.calAbortOn
  dsimp only
  split <;> simp

@[simp] theorem State.calAbort_core (s : State) (n : Nat) : (s.calAbort n).lane.core = s.lane.core := by
  simp [State.calAbort]

/-! ### Vital inputs and outputs -/

@[simp] theorem State.updVin_lane (s : State) (n : Nat) (f : VinState → VinState) : (s.updVin n f).lane = s.lane := rfl

@[simp] theorem State.updVout_lane (s : State) (n : Nat) (f : VoutState → VoutState) : (s.updVout n f).lane = s.lane := rfl

@[simp] theorem State.frameJudge_core (s : State) (lows : List (Nat × Nat)) (n : Nat) :
    (s.frameJudge lows n).lane.core = s.lane.core := by
  simp [State.frameJudge]

@[simp] theorem State.frameJudgeAll_core (s : State) (obs : List FrameObs) (l : List Nat) :
    (s.frameJudgeAll obs l).lane.core = s.lane.core := by
  induction l generalizing s with
  | nil => rfl
  | cons a l ih => simp [State.frameJudgeAll, ih]

@[simp] theorem State.frameOpen_lane (s : State) : (s.frameOpen).lane = s.lane := rfl

@[simp] theorem State.frameStartAll_lane (s : State) (l : List Nat) : (s.frameStartAll l).lane = s.lane := by
  induction l generalizing s with
  | nil => rfl
  | cons a l ih => simp [State.frameStartAll, ih]

@[simp] theorem State.frameStop_lane (s : State) : (s.frameStop).lane = s.lane := rfl

@[simp] theorem State.lineFault_lane (s : State) (k : Nat) (l : List Nat) : (s.lineFault k l).lane = s.lane := by
  induction l generalizing s with
  | nil => rfl
  | cons a l ih => simp [State.lineFault, ih]

@[simp] theorem State.voutWave_lane (s : State) (n : Nat) : (s.voutWave n).lane = s.lane := by
  simp [State.voutWave]

@[simp] theorem State.voutWaves_lane (s : State) (l : List Nat) : (s.voutWaves l).lane = s.lane := by
  induction l generalizing s with
  | nil => rfl
  | cons a l ih => simp [State.voutWaves, ih]

@[simp] theorem State.lockMonitor_core (s : State) (n : Nat) (cause : LockCause) :
    (s.lockMonitor n cause).lane.core = s.lane.core := by
  simp [State.lockMonitor]

@[simp] theorem State.monElapse_core (s : State) (n : Nat) (before : Nat → Nat → Bool) :
    (s.monElapse n before).lane.core = s.lane.core := by
  unfold State.monElapse
  split <;> simp

@[simp] theorem State.monShows_core (s : State) (n : Nat) : (s.monShows n).lane.core = s.lane.core := by
  unfold State.monShows
  split <;> simp

@[simp] theorem State.monFeedback_core (s : State) (n : Nat) : (s.monFeedback n).lane.core = s.lane.core := by
  simp [State.monFeedback]

@[simp] theorem State.monCommand_core (s0 : State) (n : Nat) : (s0.monCommand n).lane.core = s0.lane.core := by
  unfold State.monCommand
  dsimp only
  (repeat' split) <;> simp

@[simp] theorem State.monFeedbacks_core (s : State) (m : Nat) (l : List Nat) :
    (s.monFeedbacks m l).lane.core = s.lane.core := by
  induction l generalizing s with
  | nil => rfl
  | cons a l ih => simp [State.monFeedbacks, ih]

@[simp] theorem State.monProve_core (s : State) (l : List Nat) : (s.monProve l).lane.core = s.lane.core := by
  induction l generalizing s with
  | nil => rfl
  | cons a l ih => simp [State.monProve, ih]

@[simp] theorem State.lockoutAgreed_core (s : State) (l : List Nat) : (s.lockoutAgreed l).lane.core = s.lane.core := by
  induction l generalizing s with
  | nil => rfl
  | cons a l ih => simp [State.lockoutAgreed, ih]

@[simp] theorem State.lockAck_lane (s : State) (n : Nat) : (s.lockAck n).lane = s.lane := by
  simp [State.lockAck]

@[simp] theorem State.lockAckApply_core (s : State) (a : PendingAck) : (s.lockAckApply a).lane.core = s.lane.core := by
  simp [State.lockAckApply]

/-! ### Cluster time and slots -/

@[simp] theorem State.angleLoss_core (s : State) : s.angleLoss.lane.core = s.lane.core := by
  unfold State.angleLoss
  dsimp only
  split <;> simp

@[simp] theorem State.anglePull_lane (s : State) (t f : Nat) (positive : Bool) :
    (s.anglePull t f positive).lane = s.lane := rfl

@[simp] theorem State.angleLock_core (s : State) (t f : Nat) (positive : Bool) :
    (s.angleLock t f positive).lane.core = s.lane.core := by
  simp [State.angleLock]

@[simp] theorem State.angleTrack_core (s : State) (t f : Nat) (positive : Bool) :
    (s.angleTrack t f positive).lane.core = s.lane.core := by
  simp [State.angleTrack]

@[simp] theorem State.crossingTake_core (s : State) (ch t : Nat) (positive : Bool) :
    (s.crossingTake ch t positive).lane.core = s.lane.core := by
  simp [State.crossingTake]

@[simp] theorem State.slotAct_core (s0 : State) (act tgt : Nat) (inv : Bool) :
    (s0.slotAct act tgt inv).lane.core = s0.lane.core := by
  unfold State.slotAct
  split <;> simp

@[simp] theorem State.tslotFire_core (s : State) (n : Nat) : (s.tslotFire n).lane.core = s.lane.core := by
  simp [State.tslotFire]

@[simp] theorem State.aslotFire_core (s : State) (n : Nat) : (s.aslotFire n).lane.core = s.lane.core := by
  simp [State.aslotFire]

@[simp] theorem State.tslotsFire_core (s : State) (also : Nat → Bool) (l : List Nat) :
    (s.tslotsFire also l).lane.core = s.lane.core := by
  induction l generalizing s with
  | nil => rfl
  | cons a l ih => simp [State.tslotsFire, ih]

@[simp] theorem State.aslotsFire_core (s : State) (set0 : Nat) (also : Nat → Bool) (l : List Nat) :
    (s.aslotsFire set0 also l).lane.core = s.lane.core := by
  induction l generalizing s with
  | nil => rfl
  | cons a l ih => simp [State.aslotsFire, ih]

@[simp] theorem State.edgeFire_core (s : State) (set0 : Nat) (alsoT alsoA : Nat → Bool) :
    (s.edgeFire set0 alsoT alsoA).lane.core = s.lane.core := by
  simp [State.edgeFire]

@[simp] theorem State.slotsAt_core (s : State) (at_ : Nat) (alsoT alsoA : Nat → Bool) :
    (s.slotsAt at_ alsoT alsoA).lane.core = s.lane.core := by
  simp [State.slotsAt]

@[simp] theorem State.wallSet_lane (s : State) (hi : Nat) : (s.wallSet hi).lane = s.lane := by
  simp [State.wallSet]

@[simp] theorem State.wallApply_core (s : State) (n t0 : Nat) : (s.wallApply n t0).lane.core = s.lane.core := by
  unfold State.wallApply
  dsimp only
  split <;> simp

@[simp] theorem State.timevRise_core (s : State) : (s.timevRise).lane.core = s.lane.core := by
  simp [State.timevRise]

/-! ### Image slots -/

@[simp] theorem State.setSlot_lane (s : State) (k : Bool) (x : Slot) : (s.setSlot k x).lane = s.lane := by
  simp [State.setSlot]

@[simp] theorem State.programSlot_lane (s : State) (k : Bool) (st : SlotState) : (s.programSlot k st).lane = s.lane := by
  simp [State.programSlot]

@[simp] theorem State.burnWanted_lane (s : State) : (s.burnWanted).lane = s.lane := by
  simp [State.burnWanted]

@[simp] theorem State.confirmEntry_lane (s : State) : (s.confirmEntry).lane = s.lane := rfl

@[simp] theorem State.imageConfirm_core (s : State) : (s.imageConfirm).lane.core = s.lane.core := by
  simp [State.imageConfirm]

@[simp] theorem State.confEnds_lane (s : State) : (s.confEnds).lane = s.lane := rfl

@[simp] theorem State.confirmHeard_core (s : State) (node : Nat) : (s.confirmHeard node).lane.core = s.lane.core := by
  simp [State.confirmHeard]

/-! ### The lane-bus schedule -/

@[simp] theorem State.updNode_lane (s : State) (n : Nat) (f : NodeView → NodeView) : (s.updNode n f).lane = s.lane := rfl

@[simp] theorem State.mapNodes_lane (s : State) (f : Nat → NodeView → NodeView) : (s.mapNodes f).lane = s.lane :=
  State.foldl_lane (fun _ _ => by simp) _ _

@[simp] theorem State.syncClear_lane (s : State) : s.syncClear.lane = s.lane := State.mapNodes_lane _ _

@[simp] theorem State.adoptTime_core (s : State) (b : BState) (ct : Int) (at_ m : Nat) :
    (s.adoptTime b ct at_ m).lane.core = s.lane.core := by
  simp [State.adoptTime]

@[simp] theorem State.txFrame_lane (s : State) (fid : Nat) (null sync swarm mirror : Bool) (payload : List Word) :
    (s.txFrame fid null sync swarm mirror payload).lane = s.lane := rfl

/-! ### Frames received -/

@[simp] theorem State.countVerdict_core (s : State) (y : Bool) (owner : Option Nat) (v : Verdict) :
    (s.countVerdict y owner v).lane.core = s.lane.core := by
  unfold State.countVerdict
  (repeat' split) <;> simp

@[simp] theorem State.listenAgain_lane (s : State) : (s.listenAgain).lane = s.lane := by
  simp [State.listenAgain]

@[simp] theorem State.carrierLost_core (s : State) (w : Option Nat) : (s.carrierLost w).lane.core = s.lane.core := by
  unfold State.carrierLost
  (repeat' split) <;> simp

@[simp] theorem State.roundEnd_lane (s : State) (w rank len : Nat) : (s.roundEnd w rank len).lane = s.lane := rfl

@[simp] theorem State.rxNote_lane (s : State) (a : Accepted) : (s.rxNote a).lane = s.lane := rfl

@[simp] theorem State.syncTake_core (s : State) (a : Accepted) : (s.syncTake a).lane.core = s.lane.core := by
  unfold State.syncTake
  dsimp only
  split <;> simp

@[simp] theorem State.reportNoted_lane (s : State) (n : Nat) (own : Bool) : (s.reportNoted n own).lane = s.lane := rfl

@[simp] theorem State.switchEntry_core (s : State) (toSet : Bool) (t : Nat) (own : Bool) :
    (s.switchEntry toSet t own).lane.core = s.lane.core := by
  unfold State.switchEntry
  (repeat' split) <;> simp

@[simp] theorem State.consentRestore_core (s : State) (n k : Nat) (old new : Nat) :
    (s.consentRestore n k old new).lane.core = s.lane.core := by
  simp [State.consentRestore]

@[simp] theorem State.healthTake_core (s : State) (n : Nat) (h : Nat) : (s.healthTake n h).lane.core = s.lane.core := by
  unfold State.healthTake
  dsimp only
  split <;> simp

@[simp] theorem State.inputTake_lane (s : State) (a : Accepted) : (s.inputTake a).lane = s.lane := by
  simp [State.inputTake]

@[simp] theorem State.outputTake_lane (s : State) (a : Accepted) : (s.outputTake a).lane = s.lane := by
  simp [State.outputTake]

@[simp] theorem State.fetchAnswer_lane (s : State) : ∀ l : List Word, (s.fetchAnswer l).lane = s.lane
  | [] | [_] => rfl
  | c :: q :: l => by
    rw [State.fetchAnswer, State.fetchAnswer_lane _ l]
    split <;> rfl

@[simp] theorem State.fetchTake_lane (s : State) (a : Accepted) : (s.fetchTake a).lane = s.lane := by
  simp [State.fetchTake]

@[simp] theorem State.coldCount_core (s : State) (y : Bool) (o : Option Copy) :
    (s.coldCount y o).lane.core = s.lane.core := by
  cases o with
  | none => rfl
  | some c => simp [State.coldCount]

@[simp] theorem State.coldBoundary_core (s : State) (y : Bool) (o : Option Copy) :
    (s.coldBoundary y o).lane.core = s.lane.core := by
  cases o with
  | none => rfl
  | some c =>
    simp only [State.coldBoundary]
    (repeat' split) <;> simp

/-! ### Frames sent -/

@[simp] theorem State.frameGone_lane (s : State) (fid : Nat) : (s.frameGone fid).lane = s.lane := by
  unfold State.frameGone
  split <;> simp

@[simp] theorem State.entrySent_core (s : State) (t : Nat) (e : Entry) : (s.entrySent t e).lane.core = s.lane.core := by
  unfold State.entrySent
  dsimp only
  split <;> simp

@[simp] theorem State.entriesSent_core (s : State) (t : Nat) (l : List Entry) :
    (s.entriesSent t l).lane.core = s.lane.core := by
  induction l generalizing s with
  | nil => rfl
  | cons a l ih => simp [State.entriesSent, ih]

@[simp] theorem State.mirrorEntry_lane (s : State) (t : Nat) : (s.mirrorEntry t).lane = s.lane := by
  unfold State.mirrorEntry
  split <;> simp

@[simp] theorem State.statusSend_core (s : State) (fid t : Nat) : (s.statusSend fid t).lane.core = s.lane.core := by
  simp [State.statusSend]

/-! ### Cold start and synchronisation -/

@[simp] theorem State.swarmSend_lane (s : State) : (s.swarmSend).lane = s.lane := by
  unfold State.swarmSend
  split <;> simp

@[simp] theorem State.syncShift_lane (s : State) : s.syncShift.lane = s.lane := State.mapNodes_lane _ _

@[simp] theorem State.ctRebase_lane (s : State) : (s.ctRebase).lane = s.lane := rfl

@[simp] theorem State.ctCorrect_lane (s : State) (a rho : Int) : (s.ctCorrect a rho).lane = s.lane := rfl

@[simp] theorem State.cycleEnd_lane (s : State) : (s.cycleEnd).lane = s.lane := by
  simp [State.cycleEnd]

@[simp] theorem State.wallAdopt_core (s : State) : (s.wallAdopt).lane.core = s.lane.core := by
  unfold State.wallAdopt
  dsimp only
  split <;> simp

@[simp] theorem State.attemptStart_lane (s : State) : (s.attemptStart).lane = s.lane := rfl

@[simp] theorem State.recRevoke_core (s : State) (cause : Nat) : (s.recRevoke cause).lane.core = s.lane.core := by
  simp [State.recRevoke]

/-! ### The field network -/

@[simp] theorem State.updPort_lane (s : State) (p : Nat) (f : PortState → PortState) : (s.updPort p f).lane = s.lane := rfl

@[simp] theorem State.updConn_lane (s : State) (c : Nat) (f : ConnState → ConnState) : (s.updConn c f).lane = s.lane := rfl

@[simp] theorem State.portDrop_lane (s : State) (p : Nat) : (s.portDrop p).lane = s.lane := rfl

@[simp] theorem State.cmacFail_core (s : State) (p c : Nat) : (s.cmacFail p c).lane.core = s.lane.core := by
  simp [State.cmacFail]

@[simp] theorem State.copyAccept_core (s : State) (p c : Nat) (t : Telegram) (up : Bool) :
    (s.copyAccept p c t up).lane.core = s.lane.core := by
  simp [State.copyAccept]

@[simp] theorem State.mimanJudge_core (s : State) (p c : Nat) (b : List Byte) :
    (s.mimanJudge p c b).lane.core = s.lane.core := by
  simp [State.mimanJudge]

@[simp] theorem State.captureTelegrams_core (s : State) : (s.captureTelegrams).lane.core = s.lane.core := by
  simp [State.captureTelegrams]

@[simp] theorem State.recapture_lane (s : State) : (s.recapture).lane = s.lane := rfl

@[simp] theorem State.connUp_core (s : State) (c sl : Nat) : (s.connUp c sl).lane.core = s.lane.core := by
  simp [State.connUp]

@[simp] theorem State.connSafe_core (s : State) (c cause : Nat) : (s.connSafe c cause).lane.core = s.lane.core := by
  simp [State.connSafe]

@[simp] theorem State.engineStep_core (s : State) (c : Nat) (e : Engine) (t : Telegram) :
    (s.engineStep c e t).1.lane.core = s.lane.core := by
  unfold State.engineStep
  dsimp only
  (repeat' split) <;> simp

@[simp] theorem State.engineSteps_core (s : State) (c : Nat) (e : Engine) (l : List Telegram) :
    (s.engineSteps c e l).1.lane.core = s.lane.core := by
  induction l generalizing s e with
  | nil => rfl
  | cons t l ih => simp [State.engineSteps, ih]

@[simp] theorem State.engineWatch_core (s : State) (c : Nat) (e : Engine) :
    (s.engineWatch c e).1.lane.core = s.lane.core := by
  unfold State.engineWatch
  dsimp only
  (repeat' split) <;> simp

@[simp] theorem State.connProcess_core (s : State) (c : Nat) : (s.connProcess c).lane.core = s.lane.core := by
  unfold State.connProcess
  dsimp only
  (repeat' split) <;> simp

@[simp] theorem State.connsProcess_core (s : State) (l : List Nat) : (s.connsProcess l).lane.core = s.lane.core := by
  induction l generalizing s with
  | nil => rfl
  | cons a l ih => simp [State.connsProcess, ih]

@[simp] theorem State.telegramOut_lane (s : State) (bytes : List Byte) (l : List (Nat × Nat)) :
    (s.telegramOut bytes l).lane = s.lane := by
  induction l generalizing s with
  | nil => rfl
  | cons a l ih =>
    simp only [State.telegramOut]
    split <;> simp [ih]

@[simp] theorem State.telegramDue_lane (s : State) (c tcommit : Nat) (send : Bool) (payload : List Byte) (ty : Nat) :
    (s.telegramDue c tcommit send payload ty).lane = s.lane := by
  simp [State.telegramDue]

@[simp] theorem State.telegramsDue_lane (s : State) (c tcommit : Nat) (send : Bool) (payload : List Byte) (l : List Nat) :
    (s.telegramsDue c tcommit send payload l).lane = s.lane := by
  induction l generalizing s with
  | nil => rfl
  | cons a l ih => simp [State.telegramsDue, ih]

@[simp] theorem State.telegramsCommit_lane (s : State) (n tcommit : Nat) (send : Bool) (read : Nat → Bool) (l : List Nat) :
    (s.telegramsCommit n tcommit send read l).lane = s.lane := by
  induction l generalizing s with
  | nil => rfl
  | cons a l ih => simp [State.telegramsCommit, ih]

/-! ### T0 of a logic cycle -/

@[simp] theorem State.wordsForm_lane (s : State) : (s.wordsForm).lane = s.lane := by
  simp [State.wordsForm]

@[simp] theorem State.capture_core (s : State) (t0 n : Nat) : (s.capture t0 n).lane.core = s.lane.core := by
  simp [State.capture]

@[simp] theorem State.commitSet_core (s : State) (t0 : Nat) : (s.commitSet t0).lane.core = s.lane.core := by
  simp [State.commitSet]

@[simp] theorem State.commitClear_core (s : State) : (s.commitClear).lane.core = s.lane.core := rfl

@[simp] theorem State.cycleClear_core (s0 : State) (t0 : Nat) : (s0.cycleClear t0).lane.core = s0.lane.core := by
  simp [State.cycleClear]

@[simp] theorem State.cycleCapture_core (s : State) (t0 n : Nat) : (s.cycleCapture t0 n).lane.core = s.lane.core := by
  simp [State.cycleCapture]

@[simp] theorem State.runSlotEnter_core (s : State) (r : Role) : (s.runSlotEnter r).lane.core = s.lane.core := by
  simp [State.runSlotEnter]

@[simp] theorem State.cycleTime_core (s : State) (t0 n : Nat) : (s.cycleTime t0 n).lane.core = s.lane.core := by
  simp only [State.cycleTime, State.wordsForm_lane]
  rw [State.foldl_core fun _ _ => by simp]
  dsimp only
  rw [State.foldl_core fun _ _ => by simp]
  simp

/-! ### T_IA -/

@[simp] theorem State.requestEntry_lane (s : State) : (s.requestEntry).lane = s.lane := by
  simp [State.requestEntry]

@[simp] theorem State.transferWrite_core (s : State) : (s.transferWrite).lane.core = s.lane.core := by
  simp [State.transferWrite]

@[simp] theorem State.transferApply_core (s : State) : (s.transferApply).lane.core = s.lane.core := by
  simp [State.transferApply]

@[simp] theorem State.mirrorApply_core (s : State) : (s.mirrorApply).lane.core = s.lane.core := by
  simp [State.mirrorApply]

@[simp] theorem State.logAppend_lane (s : State) (sym : Word) (v : Int) (preset : Bool) :
    (s.logAppend sym v preset).lane = s.lane := by
  simp [State.logAppend]

@[simp] theorem State.paramWrite_lane (s : State) (p : ParamEntry) (v : Word) : (s.paramWrite p v).lane = s.lane := by
  unfold State.paramWrite
  split <;> simp

@[simp] theorem State.onlineApply_core (s : State) (c : OnlineChange) : (s.onlineApply c).lane.core = s.lane.core := by
  unfold State.onlineApply
  split <;> simp

@[simp] theorem State.onlinesApply_core (s : State) : s.onlinesApply.lane.core = s.lane.core :=
  State.foldl_core (fun _ _ => by simp) _ _

@[simp] theorem State.forcesApply_lane (s : State) : s.forcesApply.lane = s.lane := State.putCells_lane _ s

@[simp] theorem State.splitApply_core (s : State) : (s.splitApply).lane.core = s.lane.core := by
  unfold State.splitApply
  split <;> simp

@[simp] theorem State.scanStart_lane (s : State) : (s.scanStart).lane = s.lane := by
  simp [State.scanStart]

@[simp] theorem State.agreedFollow_core (s : State) : (s.agreedFollow).lane.core = s.lane.core := by
  simp [State.agreedFollow]

/-! ### T_commit -/

@[simp] theorem State.report_lane (s : State) (n : Nat) (c : ImageClass) : (s.report n c).lane = s.lane := rfl

@[simp] theorem State.consentWithdraw_core (s : State) (n : Nat) : (s.consentWithdraw n).lane.core = s.lane.core := by
  unfold State.consentWithdraw
  split <;> simp

@[simp] theorem State.compareHolding_core (s : State) : (s.compareHolding).lane.core = s.lane.core := rfl

@[simp] theorem State.confirmStep_core (s : State) : (s.confirmStep).lane.core = s.lane.core := rfl

@[simp] theorem State.reportsClose_core (s : State) : (s.reportsClose).lane.core = s.lane.core := rfl

@[simp] theorem State.guardSwap_lane (s : State) : (s.guardSwap).lane = s.lane := rfl

@[simp] theorem State.slotsAct_core (s : State) (l : List Nat) : (s.slotsAct l).lane.core = s.lane.core := by
  induction l generalizing s with
  | nil => rfl
  | cons a l ih => simp [State.slotsAct, ih]

@[simp] theorem State.setAngleAdopt_core (s : State) (t0 : Nat) : (s.setAngleAdopt t0).lane.core = s.lane.core := by
  unfold State.setAngleAdopt
  split <;> simp

@[simp] theorem State.voutCommit_core (s : State) (read : Nat → Bool) (n : Nat) :
    (s.voutCommit read n).lane.core = s.lane.core := by
  simp [State.voutCommit]

@[simp] theorem State.voutsCommit_core (s : State) (read : Nat → Bool) (l : List Nat) :
    (s.voutsCommit read l).lane.core = s.lane.core := by
  induction l generalizing s with
  | nil => rfl
  | cons a l ih => simp [State.voutsCommit, ih]

@[simp] theorem State.drivesOn_core (s : State) : (s.drivesOn).lane.core = s.lane.core := by
  simp [State.drivesOn]

@[simp] theorem State.queueFrames_lane (s : State) (use : Nat) (es : List (List Word)) :
    (s.queueFrames use es).lane = s.lane := by
  unfold State.queueFrames
  split <;> simp

@[simp] theorem State.mirrorForm_lane (s : State) (n : Nat) : (s.mirrorForm n).lane = s.lane := by
  simp [State.mirrorForm]

@[simp] theorem State.transfersSend_lane (s : State) (l : List Nat) : (s.transfersSend l).lane = s.lane := by
  induction l generalizing s with
  | nil => rfl
  | cons a l ih => simp [State.transfersSend, ih]

@[simp] theorem State.targetedStart_lane (s : State) : (s.targetedStart).lane = s.lane := by
  unfold State.targetedStart
  split <;> simp

@[simp] theorem State.commitDone_core (s : State) (t0 : Nat) : (s.commitDone t0).lane.core = s.lane.core := by
  simp [State.commitDone]

@[simp] theorem State.lockoutsTake_lane (s : State) (l : List Nat) : (s.lockoutsTake l).lane = s.lane := by
  induction l generalizing s with
  | nil => rfl
  | cons a l ih => simp [State.lockoutsTake, ih]

@[simp] theorem State.paramsLog_lane (s : State) (l : List ParamEntry) : (s.paramsLog l).lane = s.lane := by
  induction l generalizing s with
  | nil => rfl
  | cons a l ih => simp [State.paramsLog, ih]

/-! ### Basic cycles -/

@[simp] theorem State.singleCount_core (s : State) (n : Nat) : (s.singleCount n).lane.core = s.lane.core := by
  simp [State.singleCount]

@[simp] theorem State.singleCounts_core (s : State) (l : List Nat) : (s.singleCounts l).lane.core = s.lane.core := by
  induction l generalizing s with
  | nil => rfl
  | cons a l ih => simp [State.singleCounts, ih]

@[simp] theorem State.guardCompare_core (s : State) (diff : Nat) : (s.guardCompare diff).lane.core = s.lane.core := by
  simp [State.guardCompare]

@[simp] theorem State.recCount_lane (s : State) : (s.recCount).lane = s.lane := rfl

@[simp] theorem State.syncCounts_lane (s : State) : s.syncCounts.lane = s.lane := by
  simp [State.syncCounts]

@[simp] theorem State.setCounts_core (s : State) (c : Nat) : (s.setCounts c).lane.core = s.lane.core := rfl

@[simp] theorem State.integrateStep_core (s : State) (c : Nat) : (s.integrateStep c).lane.core = s.lane.core := by
  simp [State.integrateStep]

@[simp] theorem State.switchoverEntry_lane (s : State) (toSet : Bool) : (s.switchoverEntry toSet).lane = s.lane := rfl

@[simp] theorem State.supSwitchover_lane (s : State) : (s.supSwitchover).lane = s.lane := by
  simp [State.supSwitchover]

@[simp] theorem State.handoverEnded_core (s : State) (back : Bool) (status : Nat) :
    (s.handoverEnded back status).lane.core = s.lane.core := by
  simp [State.handoverEnded]

@[simp] theorem State.switchFail_core (s : State) (x : Switch) : (s.switchFail x).lane.core = s.lane.core := by
  simp [State.switchFail]

@[simp] theorem State.switchOut_core (s : State) (x : Switch) : (s.switchOut x).lane.core = s.lane.core := by
  simp [State.switchOut]

@[simp] theorem State.switchDone_core (s : State) (x : Switch) : (s.switchDone x).lane.core = s.lane.core := by
  simp [State.switchDone]

/-! ### The recorder -/

@[simp] theorem State.freezeWrite_lane (s : State) (sid : Nat) : (s.freezeWrite sid).lane = s.lane := by
  simp [State.freezeWrite]

@[simp] theorem State.cursorTo_lane (s : State) (sid : Nat) (r : Option Record) (want : Option Nat) :
    (s.cursorTo sid r want).lane = s.lane := by
  unfold State.cursorTo
  split <;> simp

@[simp] theorem State.cursorOp_lane (s : State) (sid op : Nat) : (s.cursorOp sid op).lane = s.lane := by
  unfold State.cursorOp
  (repeat' split) <;> simp

@[simp] theorem State.cursorWrite_core (s : State) (sid op : Nat) : (s.cursorWrite sid op).lane.core = s.lane.core := by
  simp [State.cursorWrite]

@[simp] theorem State.legRead_lane (s : State) : (s.legRead).lane = s.lane := by
  unfold State.legRead
  (repeat' split) <;> simp

@[simp] theorem State.legVoid_lane (s : State) : (s.legVoid).lane = s.lane := rfl

@[simp] theorem State.recClear_core (s : State) (level path : Nat) : (s.recClear level path).lane.core = s.lane.core := by
  simp [State.recClear]

@[simp] theorem State.legKey_core (s : State) (sid key : Nat) : (s.legKey sid key).lane.core = s.lane.core := by
  unfold State.legKey
  (repeat' split) <;> simp

@[simp] theorem State.legkeyWrite_core (s : State) (sid key : Nat) : (s.legkeyWrite sid key).lane.core = s.lane.core := by
  simp [State.legkeyWrite]

/-! ### Clocks, gates and self-tests -/

@[simp] theorem State.startFault_core (s : State) (code : Nat) (more : List Nat) :
    (s.startFault code more).lane.core = s.lane.core := by
  simp [State.startFault]

@[simp] theorem State.recFault_core (s : State) (path : Nat) (fault : Nat) :
    (s.recFault path fault).lane.core = s.lane.core := by
  simp [State.recFault]

@[simp] theorem State.recStart_core (s : State) (density : Option Nat) : (s.recStart density).lane.core = s.lane.core := by
  unfold State.recStart
  dsimp only
  (repeat' split) <;> simp

@[simp] theorem State.refSwitch_core (s : State) (toRec : Bool) (why : Nat) :
    (s.refSwitch toRec why).lane.core = s.lane.core := by
  simp [State.refSwitch]

@[simp] theorem State.classLasting_core (s : State) (u : FaultUnit) : (s.classLasting u).lane.core = s.lane.core := by
  simp [State.classLasting]

@[simp] theorem State.grdRunEnd_lane (s : State) : (s.grdRunEnd).lane = s.lane := by
  simp [State.grdRunEnd]

@[simp] theorem State.testReport_core (s : State) (t : SelfTest) (fail lasting : Bool) (duration : Nat) :
    (s.testReport t fail lasting duration).lane.core = s.lane.core := by
  rw [State.testReport, State.record_core, State.evtCrt_lane, Lane.core_mk]
  split <;> rfl

@[simp] theorem State.classTransient_core (s : State) (u : FaultUnit) : (s.classTransient u).lane.core = s.lane.core := by
  simp [State.classTransient]

@[simp] theorem State.plannedEnd_core (s : State) (pass : Bool) : (s.plannedEnd pass).lane.core = s.lane.core := by
  unfold State.plannedEnd
  dsimp only
  (repeat' split) <;> simp

@[simp] theorem State.plannedTest_lane (s : State) (at_ : Nat) : (s.plannedTest at_).lane = s.lane := by
  simp [State.plannedTest]

@[simp] theorem State.bistWrite_lane (s : State) (g : Nat) : (s.bistWrite g).lane = s.lane := by
  simp [State.bistWrite]

@[simp] theorem State.bistAbortWrite_core (s : State) : (s.bistAbortWrite).lane.core = s.lane.core := by
  unfold State.bistAbortWrite
  (repeat' split) <;> simp

@[simp] theorem State.keyburnWrite_core (s : State) : (s.keyburnWrite).lane.core = s.lane.core := by
  unfold State.keyburnWrite
  split <;> simp

/-! ### Resets and straps -/

@[simp] theorem State.sessionsEndReset_core (s : State) (l : List Session) :
    (s.sessionsEndReset l).lane.core = s.lane.core := by
  induction l generalizing s with
  | nil => rfl
  | cons a l ih => simp [State.sessionsEndReset, ih]

@[simp] theorem State.pfailRecord_core (s : State) : (s.pfailRecord).lane.core = s.lane.core := by
  simp [State.pfailRecord]

/-! ### TEST and LOAD -/

@[simp] theorem State.recordOpen_core (s : State) (src : Nat) (data : List Nat) :
    (s.recordOpen src data).lane.core = s.lane.core := by
  simp [State.recordOpen]

@[simp] theorem State.slotMatch_core (s : State) (k : Bool) : (s.slotMatch k).lane.core = s.lane.core := by
  simp [State.slotMatch]

@[simp] theorem State.readsClear_lane (s : State) : (s.readsClear).lane = s.lane := rfl

@[simp] theorem State.selectOld_core (s : State) : (s.selectOld).lane.core = s.lane.core := by
  unfold State.selectOld
  dsimp only
  (repeat' split) <;> simp

@[simp] theorem State.slotSelect_core (s : State) : (s.slotSelect).lane.core = s.lane.core := by
  unfold State.slotSelect
  dsimp only
  (repeat' split) <;> simp

@[simp] theorem State.blockGood_lane (s : State) (k : Nat) (b : List Byte) : (s.blockGood k b).lane = s.lane := by
  simp [State.blockGood]

@[simp] theorem State.blockBad_core (s : State) (chip : Chip) (k : Nat) : (s.blockBad chip k).lane.core = s.lane.core := by
  unfold State.blockBad
  split <;> simp

@[simp] theorem State.settingDropped_core (s : State) (e : SettingsEntry) :
    (s.settingDropped e).lane.core = s.lane.core := by
  simp [State.settingDropped]

@[simp] theorem State.skipsRecord_core (s : State) (l : List SettingsEntry) : (s.skipsRecord l).lane.core = s.lane.core := by
  induction l generalizing s with
  | nil => rfl
  | cons a l ih => simp [State.skipsRecord, ih]

@[simp] theorem State.logCopy_core (s : State) (st : Station) (k : Bool) (l : List SettingsEntry) :
    (s.logCopy st k l).lane.core = s.lane.core := by
  induction l generalizing s with
  | nil => rfl
  | cons a l ih =>
    simp only [State.logCopy]
    split <;> simp [ih]

@[simp] theorem State.withImage_core (s : State) (st : Station) : (s.withImage st).lane.core = s.lane.core := rfl

@[simp] theorem State.install_core (s : State) (st : Station) : (s.install st).lane.core = s.lane.core := by
  simp [State.install]

@[simp] theorem State.schemaNote_lane (s : State) : (s.schemaNote).lane = s.lane := by
  unfold State.schemaNote
  split <;> simp

@[simp] theorem State.tablesLoaded_lane (s : State) (st : Station) (code : Nat) :
    (s.tablesLoaded st code).lane = s.lane := by
  simp [State.tablesLoaded]

/-! ### Updates -/

@[simp] theorem State.updDone_core (s : State) : (s.updDone).lane.core = s.lane.core := rfl

@[simp] theorem State.updRefuse_lane (s : State) : (s.updRefuse).lane = s.lane := rfl

@[simp] theorem State.updBusy_core (s : State) : (s.updBusy).lane.core = s.lane.core := by
  simp [State.updBusy]

@[simp] theorem State.updOp_core {s : State} {f : State → State} (h : (f s).lane.core = s.lane.core) :
    (s.updOp f).lane.core = s.lane.core := by
  simp [State.updOp, h]

@[simp] theorem State.updHeld_core {s : State} {f : State → State} (h : (f s).lane.core = s.lane.core) (sid : Nat) :
    (s.updHeld sid f).lane.core = s.lane.core := by
  unfold State.updHeld
  split <;> simp [h]

@[simp] theorem State.writeEnd_core (s : State) (st : CmdStatus) (code blk : Nat) :
    (s.writeEnd st code blk).lane.core = s.lane.core := by
  unfold State.writeEnd
  split <;> simp

@[simp] theorem State.openWrite_core (s : State) (sid : Nat) : (s.openWrite sid).lane.core = s.lane.core := by
  unfold State.openWrite
  split <;> simp

@[simp] theorem State.blockWrite_lane (s : State) : (s.blockWrite).lane = s.lane := by
  unfold State.blockWrite
  split <;> simp

@[simp] theorem State.finishWrite_lane (s : State) : (s.finishWrite).lane = s.lane := by
  simp [State.finishWrite]

@[simp] theorem State.blockDone_core (s : State) (w : ImageWrite) (ok : Bool) :
    (s.blockDone w ok).lane.core = s.lane.core := by
  simp [State.blockDone]

@[simp] theorem State.finishDone_core (s : State) (w : ImageWrite) (ok : Bool) :
    (s.finishDone w ok).lane.core = s.lane.core := by
  unfold State.finishDone
  (repeat' split) <;> simp

@[simp] theorem State.lockEnd_core (s : State) : (s.lockEnd).lane.core = s.lane.core := by
  simp [State.lockEnd]

@[simp] theorem State.updAbort_core (s : State) (sid : Nat) : (s.updAbort sid).lane.core = s.lane.core := by
  unfold State.updAbort
  (repeat' split) <;> simp

@[simp] theorem State.updRelease_core (s : State) (sid : Nat) : (s.updRelease sid).lane.core = s.lane.core := by
  simp [State.updRelease]

@[simp] theorem State.windowArm_core (s : State) : (s.windowArm).lane.core = s.lane.core := rfl

@[simp] theorem State.updHandover_core (s : State) (dropf : Bool) : (s.updHandover dropf).lane.core = s.lane.core :=
  State.updOp_core (by dsimp only; split <;> rfl)

@[simp] theorem State.updOnline_core (s : State) : (s.updOnline).lane.core = s.lane.core := by
  simp [State.updOnline]

@[simp] theorem State.updForce_core (s : State) : (s.updForce).lane.core = s.lane.core := by
  simp [State.updForce]

@[simp] theorem State.updUnforce_core (s : State) : (s.updUnforce).lane.core = s.lane.core := by
  simp [State.updUnforce]

@[simp] theorem State.updReload_core (s : State) : (s.updReload).lane.core = s.lane.core := by
  simp [State.updReload]

@[simp] theorem State.blkSet_lane (s : State) (sid : Nat) (v : Word) : (s.blkSet sid v).lane = s.lane := by
  simp [State.blkSet]

@[simp] theorem State.bdataSet_lane (s : State) (sid : Nat) (v : Word) : (s.bdataSet sid v).lane = s.lane := by
  simp [State.bdataSet]

/-! ### Lane commands -/

@[simp] theorem State.ctlDone_core (s : State) : (s.ctlDone).lane.core = s.lane.core := rfl

@[simp] theorem State.ctlRefuse_core (s : State) : (s.ctlRefuse).lane.core = s.lane.core := rfl

@[simp] theorem State.ctlOp_core {s : State} {f : State → State} (h : ∀ t, (f t).lane.core = t.lane.core) (op sid : Nat)
    (ok : Bool) : (s.ctlOp op sid ok f).lane.core = s.lane.core := by
  simp [State.ctlOp, h]

@[simp] theorem State.restartCmd_core (s : State) (sid : Nat) : (s.restartCmd sid).lane.core = s.lane.core :=
  State.ctlOp_core (f := State.windowArm) (fun _ => rfl) _ _ _

@[simp] theorem State.resumeCmd_core (s : State) (sid : Nat) : (s.resumeCmd sid).lane.core = s.lane.core := by
  simp [State.resumeCmd]

@[simp] theorem State.switchoverCmd_core (s : State) (sid : Nat) : (s.switchoverCmd sid).lane.core = s.lane.core := by
  simp [State.switchoverCmd]

@[simp] theorem State.abortSwitch_core (s : State) (sid : Nat) : (s.abortSwitch sid).lane.core = s.lane.core := by
  unfold State.abortSwitch
  dsimp only
  (repeat' split) <;> simp

@[simp] theorem State.holdCapture_core (s : State) : s.holdCapture.lane.core = s.lane.core := by
  rw [State.holdCapture, State.forcesApply_lane, State.putCells_core, State.capture_core]

@[simp] theorem State.stepBegin_lane (s : State) (k : StepKind) : (s.stepBegin k).lane = s.lane := rfl

@[simp] theorem State.stepRefuse_lane (s : State) : (s.stepRefuse).lane = s.lane := rfl

@[simp] theorem State.stepCmd_core (s : State) (op : Nat) : (s.stepCmd op).lane.core = s.lane.core := by
  unfold State.stepCmd
  (repeat' split) <;> simp

@[simp] theorem State.stepWrite_core (s : State) (sid op : Nat) : (s.stepWrite sid op).lane.core = s.lane.core := by
  simp [State.stepWrite]

/-! ### The register map -/

@[simp] theorem State.readEffect_lane (s : State) (a : Nat) : (s.readEffect a).lane = s.lane := by
  simp [State.readEffect]

/-! ### Maintenance access -/

@[simp] theorem State.sessRelease_core (s : State) (sid : Nat) : (s.sessRelease sid).lane.core = s.lane.core := by
  simp [State.sessRelease]

@[simp] theorem State.sessDrop_lane (s : State) (sid : Nat) : (s.sessDrop sid).lane = s.lane := by
  simp [State.sessDrop]

@[simp] theorem State.sessEnd_core (s : State) (sid cause : Nat) : (s.sessEnd sid cause).lane.core = s.lane.core := by
  unfold State.sessEnd
  split <;> simp

@[simp] theorem State.challengeTo_lane (s : State) (sid level : Nat) : (s.challengeTo sid level).lane = s.lane := rfl

@[simp] theorem State.mapOpen_core (s : State) (level : Nat) : (s.mapOpen level).lane.core = s.lane.core := by
  simp [State.mapOpen]

@[simp] theorem State.fmpOpen_lane (s : State) (p : Peer) (level : Nat) : (s.fmpOpen p level).lane = s.lane := by
  simp [State.fmpOpen]

@[simp] theorem State.respHi_core (s : State) (sid : Nat) (hi : Word) : (s.respHi sid hi).lane.core = s.lane.core := by
  unfold State.respHi
  split <;> simp

@[simp] theorem State.tokHi_lane (s : State) (sid : Nat) (hi : Word) : (s.tokHi sid hi).lane = s.lane := rfl

@[simp] theorem State.sessCmd_core (s : State) (sid : Nat) (v : Nat) : (s.sessCmd sid v).lane.core = s.lane.core := by
  unfold State.sessCmd
  split <;> simp

@[simp] theorem State.bistCmd_core (s : State) (v : Nat) : (s.bistCmd v).lane.core = s.lane.core := by
  simp [State.bistCmd]

@[simp] theorem State.calCmd_core (s : State) (v : Nat) : (s.calCmd v).lane.core = s.lane.core := by
  simp [State.calCmd]

@[simp] theorem State.frzCmd_core (s : State) (sid v : Nat) : (s.frzCmd sid v).lane.core = s.lane.core := by
  simp [State.frzCmd]

@[simp] theorem State.mapAnswer_lane (s : State) (status : Nat) (ws : List Word) :
    (s.mapAnswer status ws).lane = s.lane := rfl

@[simp] theorem State.fmpTaken_lane (s : State) (p : Nat) : (s.fmpTaken p).lane = s.lane := rfl

@[simp] theorem State.fmpAnswer_lane (s : State) (p : Peer) (sess seq status a : Nat) (ws : List Word) :
    (s.fmpAnswer p sess seq status a ws).lane = s.lane := rfl

@[simp] theorem State.tick_lane (s : State) : (s.tick).lane = s.lane := rfl

@[simp] theorem State.withFetchWord_lane (s : State) (nbits w : Nat) : (s.withFetchWord nbits w).lane = s.lane := rfl

end Sys2Proof.Machine
end
section
/-! PROOF. The operations that change the core of the lane: what each of them may make of it. -/

namespace Sys2Proof.Machine

open Sys2Proof.Safety

/-- Entry into SAFE sets the latch with the state (R34); in SAFE it changes the mask at most. -/
@[simp] theorem State.enterSafe_moves {c : LaneCore} {s : State} (h : c.Moves s.lane.core) (cause : Nat) :
    c.Moves (s.enterSafe cause).lane.core := by
  by_cases latch : s.lane.safeLatch = true
  · unfold State.enterSafe
    rw [if_pos latch]
    split <;> simp [h]
  · have latch : s.lane.safeLatch = false := by simpa using latch
    obtain ⟨st, safe, _, _⟩ := State.enterSafe_safe s cause latch
    exact h.trans ⟨fun _ _ => ⟨safe, st⟩, fun r => absurd (st.symm.trans r) (by decide)⟩

/-- A withdrawal leaves the lane state and the latch (R27). -/
@[simp] theorem State.withdraw_moves {c : LaneCore} {s : State} (h : c.Moves s.lane.core) (u : FaultUnit) :
    c.Moves (s.withdraw u).lane.core := by
  unfold State.withdraw
  (repeat' split) <;> simp [h]

@[simp] theorem State.withdrawPlanned_moves {c : LaneCore} {s : State} (h : c.Moves s.lane.core) :
    c.Moves s.withdrawPlanned.lane.core := by
  simp [State.withdrawPlanned, h]

theorem State.command_moves {c : LaneCore} {s : State} {f : State → State} (h : c.Moves s.lane.core)
    (hf : ∀ t, c.Moves t.lane.core → c.Moves (f t).lane.core) (sid addr value level : Nat) :
    c.Moves (s.command sid addr value level f).lane.core := by
  have used := hf (s.useToken sid) (by simpa using h)
  unfold State.command
  split <;> simp [h, used]

theorem State.plainWrite_moves {c : LaneCore} {s : State} {f : State → State} (h : c.Moves s.lane.core)
    (hf : ∀ t, c.Moves t.lane.core → c.Moves (f t).lane.core) (sid addr level : Nat) :
    c.Moves (s.plainWrite sid addr level f).lane.core := by
  have used := hf (s.useToken sid) (by simpa using h)
  unfold State.plainWrite
  split <;> simp [h, used]

@[simp] theorem State.scanAbort_moves {c : LaneCore} {s : State} (h : c.Moves s.lane.core) :
    c.Moves s.scanAbort.lane.core := by
  simp [State.scanAbort, h]

@[simp] theorem State.instrDone_moves {c : LaneCore} {s : State} (h : c.Moves s.lane.core) (o0 : HalfOut)
    (o1 : Option HalfOut) :
    c.Moves (s.instrDone o0 o1).lane.core := by
  unfold State.instrDone
  split <;> simp [h]

@[simp] theorem State.runInstr_moves {c : LaneCore} {s : State} (h : c.Moves s.lane.core)
    (sem : HalfView → Rung → HalfRes) :
    c.Moves (s.runInstr sem).lane.core := by
  unfold State.runInstr
  dsimp only
  (repeat' split) <;> simp [h]

theorem State.eccThen_moves {c : LaneCore} {s : State} (h : c.Moves s.lane.core) (e : Ecc) {f : State → State}
    (hf : ∀ t, c.Moves t.lane.core → c.Moves (f t).lane.core) : c.Moves (s.eccThen e f).lane.core := by
  cases e with
  | none => exact hf s h
  | corrProgram => exact hf _ (by simp [h])
  | corrState => exact hf _ (by simp [h])
  | uncProgram => simp [State.eccThen, h]
  | uncState => simp [State.eccThen, h]

@[simp] theorem State.logic_moves {c : LaneCore} {s : State} (h : c.Moves s.lane.core) (e : Ecc) {f : State → State}
    (hf : ∀ t, c.Moves t.lane.core → c.Moves (f t).lane.core) : c.Moves (s.logic e f).lane.core := by
  unfold State.logic
  split
  · exact State.eccThen_moves h e hf
  · exact h

@[simp] theorem State.closeRegion_moves {c : LaneCore} {s : State} (h : c.Moves s.lane.core) (last : Bool) :
    c.Moves (s.closeRegion last).lane.core := by
  simp [State.closeRegion, h]

@[simp] theorem State.fallbackWithdraw_moves {c : LaneCore} {s : State} (h : c.Moves s.lane.core) (row : Nat)
    (u : FaultUnit) :
    c.Moves (s.fallbackWithdraw row u).lane.core := by
  simp [State.fallbackWithdraw, h]

@[simp] theorem State.scanFinish_moves {c : LaneCore} {s : State} (h : c.Moves s.lane.core) :
    c.Moves s.scanFinish.lane.core := by
  simp [State.scanFinish, h]

@[simp] theorem State.vetoNow_moves {c : LaneCore} {s : State} (h : c.Moves s.lane.core) (v : Violation) (kinds : Nat) :
    c.Moves (s.vetoNow v kinds).lane.core := by
  have noted : ((List.range 5).foldl (fun t k => if kinds.testBit k then t.evtGrd k else t) s).lane.core = s.lane.core :=
    State.foldl_core (fun _ _ => by simp) _ _
  unfold State.vetoNow
  dsimp only
  (repeat' split) <;> simp [noted, h]

@[simp] theorem State.guardianFault_moves {c : LaneCore} {s : State} (h : c.Moves s.lane.core) (gath : Bool) :
    c.Moves (s.guardianFault gath).lane.core := by
  simp [State.guardianFault, h]

@[simp] theorem State.grdEcc_moves {c : LaneCore} {s : State} (h : c.Moves s.lane.core) (e : GrdEcc) :
    c.Moves (s.grdEcc e).lane.core := by
  unfold State.grdEcc
  split <;> simp [h]

@[simp] theorem State.pass_moves {c : LaneCore} {s : State} (h : c.Moves s.lane.core) : c.Moves s.pass.lane.core := by
  unfold State.pass
  dsimp only
  split
  · exact State.vetoNow_moves (by simpa using h) ..
  · split <;> simpa using h

@[simp] theorem State.fallbackExit_moves {c : LaneCore} {s : State} (h : c.Moves s.lane.core) (op : Nat) :
    c.Moves (s.fallbackExit op).lane.core := by
  simp [State.fallbackExit, h]

@[simp] theorem State.chanInvalid_moves {c : LaneCore} {s : State} (h : c.Moves s.lane.core) (n : Nat) :
    c.Moves (s.chanInvalid n).lane.core := by
  simp [State.chanInvalid, h]

@[simp] theorem State.calTake_moves {c : LaneCore} {s : State} (h : c.Moves s.lane.core) (l : List CalResult) :
    c.Moves (s.calTake l).lane.core := by
  induction l generalizing s with
  | nil => exact h
  | cons a l ih => simp [State.calTake, h, ih]

@[simp] theorem State.parallelFail_moves {c : LaneCore} {s : State} (h : c.Moves s.lane.core) (k : Nat) :
    c.Moves (s.parallelFail k).lane.core := by
  simp [State.parallelFail, h]

@[simp] theorem State.rotationBack_moves {c : LaneCore} {s : State} (h : c.Moves s.lane.core) (k cause : Nat) :
    c.Moves (s.rotationBack k cause).lane.core := by
  simp [State.rotationBack, h]

@[simp] theorem State.rotationsLost_moves {c : LaneCore} {s : State} (h : c.Moves s.lane.core) (l : List Nat) :
    c.Moves (s.rotationsLost l).lane.core := by
  induction l generalizing s with
  | nil => exact h
  | cons a l ih => simp [State.rotationsLost, h, ih]

@[simp] theorem State.timevFall_moves {c : LaneCore} {s : State} (h : c.Moves s.lane.core) (u : FaultUnit) :
    c.Moves (s.timevFall u).lane.core := by
  simp [State.timevFall, h]

@[simp] theorem State.enterListen_moves {c : LaneCore} {s : State} (h : c.Moves s.lane.core) (len at_ : Nat) :
    c.Moves (s.enterListen len at_).lane.core := by
  simp [State.enterListen, h]

@[simp] theorem State.leadAbandon_moves {c : LaneCore} {s : State} (h : c.Moves s.lane.core) :
    c.Moves s.leadAbandon.lane.core := by
  simp [State.leadAbandon, h]

@[simp] theorem State.xyDecide_core (s : State) (exp : Nat) (x y : Option (Copy × Verdict)) :
    (s.xyDecide exp x y).1.lane.core = s.lane.core := by
  unfold State.xyDecide
  dsimp only
  (repeat' split) <;> simp
/-- Reception comes down to what its use makes of an accepted copy (R346 to R349). -/
theorem State.receive_moves {c : LaneCore} {s : State} (h : c.Moves s.lane.core) (use : Nat) (f : RxFrame)
    {k : State → Accepted → State} (hk : ∀ t a, c.Moves t.lane.core → c.Moves (k t a).lane.core) :
    c.Moves (s.receive use f k).lane.core := by
  unfold State.receive
  extract_lets st w place arb here s0 exp x y s1 s2 bnd wrong good s3 d
  have x1 : s1.lane.core = s.lane.core := by
    clear_value x
    cases x <;> simp [s1, s0]
  have x2 : s2.lane.core = s.lane.core := by
    clear_value y s1
    cases y <;> simp [s2, x1]
  have x3 : s3.lane.core = s.lane.core := by
    clear_value good s2
    cases good with
    | none => exact x2
    | some _ =>
      simp only [s3]
      split <;> simp [x2]
  have xd : d.1.lane.core = s.lane.core := by simp [d, x3]
  have md : c.Moves d.1.lane.core := xd ▸ h
  split
  · exact h
  split
  · exact h
  cases d.2 with
  | some a =>
    dsimp only
    have ma : c.Moves (d.1.rxNote a).lane.core := by simpa using md
    split
    · split
      · exact State.leadAbandon_moves ma
      · exact hk _ _ ma
    · split
      · split
        · exact hk _ _ (by simpa using ma)
        · exact ma
      · simpa using ma
  | none =>
    dsimp only
    split
    · exact State.leadAbandon_moves md
    · split
      · exact State.enterListen_moves md _ _
      · split
        · split
          · exact md
          · simpa using md
        · exact md

@[simp] theorem State.reportedBy_moves {c : LaneCore} {s : State} (h : c.Moves s.lane.core) (k : Nat) :
    c.Moves (s.reportedBy k).lane.core := by
  simp [State.reportedBy, h]

@[simp] theorem State.entryTake_moves {c : LaneCore} {s : State} (h : c.Moves s.lane.core) (n t : Nat) (w w1 w2 : Word) :
    c.Moves (s.entryTake n t w w1 w2).lane.core := by
  unfold State.entryTake
  dsimp only
  (repeat' split) <;> simp [h]

@[simp] theorem State.entriesTake_moves {c : LaneCore} {s : State} (h : c.Moves s.lane.core) (n t : Nat) :
    ∀ (skip : Nat) (l : List Word), c.Moves (s.entriesTake n t skip l).lane.core
  | _, [] => by simpa [State.entriesTake] using h
  | skip + 1, _ :: l => State.entriesTake_moves h n t skip l
  | 0, w :: l => State.entriesTake_moves (State.entryTake_moves h n t w _ _) n t (entryMore w) l

@[simp] theorem State.statusTake_moves {c : LaneCore} {s : State} (h : c.Moves s.lane.core) (w : Nat) (a : Accepted) :
    c.Moves (s.statusTake w a).lane.core := by
  simp [State.statusTake, h]

@[simp] theorem State.overrun_moves {c : LaneCore} {s : State} (h : c.Moves s.lane.core) : c.Moves s.overrun.lane.core := by
  simp [State.overrun, h]

@[simp] theorem State.clockLoss_moves {c : LaneCore} {s : State} (h : c.Moves s.lane.core) :
    c.Moves s.clockLoss.lane.core := by
  simp [State.clockLoss, h]

/-- A lane outside SAFE passes to HOLD (R124). -/
theorem State.enterHold_moves {c : LaneCore} {s : State} (h : c.Moves s.lane.core) (open_ : s.lane.core.st ≠ .safe) :
    c.Moves s.enterHold.lane.core := by
  unfold State.enterHold
  rw [State.cmdEnd_lane, Lane.core_mk, LaneCore.mk_fields]
  exact State.setSt_moves (by simp [h]) (by simpa using open_) (by decide)

@[simp] theorem State.agreedApply_moves {c : LaneCore} {s : State} (h : c.Moves s.lane.core) :
    c.Moves s.agreedApply.lane.core := by
  simp [State.agreedApply, h]

@[simp] theorem State.voteOutputs_moves {c : LaneCore} {s : State} (h : c.Moves s.lane.core) :
    c.Moves s.voteOutputs.lane.core := by
  unfold State.voteOutputs
  (repeat' split) <;> simp [h]

/-- A proving lane returns to INTEGRATE (R477). -/
theorem State.proveReturn_moves {c : LaneCore} {s : State} (h : c.Moves s.lane.core) (open_ : s.lane.core.st ≠ .safe) :
    c.Moves s.proveReturn.lane.core := by
  unfold State.proveReturn
  rw [State.record_core]
  exact State.setSt_moves (by simp [h]) (by simpa using open_) (by decide)

theorem State.proveClassify_moves {c : LaneCore} {s : State} (h : c.Moves s.lane.core) (open_ : s.lane.core.st ≠ .safe) :
    c.Moves s.proveClassify.lane.core := by
  unfold State.proveClassify
  dsimp only
  (repeat' split) <;> simp [h, State.proveReturn_moves h open_]

@[simp] theorem State.fallbackLeave_moves {c : LaneCore} {s : State} (h : c.Moves s.lane.core) :
    c.Moves s.fallbackLeave.lane.core := by
  unfold State.fallbackLeave
  split <;> simp [h]

@[simp] theorem State.commitOutputs_moves {c : LaneCore} {s : State} (h : c.Moves s.lane.core) (n tc : Nat) (sends : Bool) :
    c.Moves (s.commitOutputs n tc sends).lane.core := by
  simp [State.commitOutputs, h]

@[simp] theorem State.commitRun_moves {c : LaneCore} {s : State} (h : c.Moves s.lane.core) (n tc : Nat) :
    c.Moves (s.commitRun n tc).lane.core := by
  simp [State.commitRun, h]

@[simp] theorem State.roleYield_moves {c : LaneCore} {s : State} (h : c.Moves s.lane.core) :
    c.Moves s.roleYield.lane.core := by
  unfold State.roleYield
  split <;> simp [h]

@[simp] theorem State.fallbackPeers_moves {c : LaneCore} {s : State} (h : c.Moves s.lane.core) :
    c.Moves s.fallbackPeers.lane.core := by
  simp [State.fallbackPeers, h]

@[simp] theorem State.imprecise_moves {c : LaneCore} {s : State} (h : c.Moves s.lane.core) :
    c.Moves s.imprecise.lane.core := by
  unfold State.imprecise
  split <;> simp [h]

@[simp] theorem State.boundary_moves {c : LaneCore} {s : State} (h : c.Moves s.lane.core) (m diff : Nat) :
    c.Moves (s.boundary m diff).lane.core := by
  simp [State.boundary, h]

@[simp] theorem State.switchIn_moves {c : LaneCore} {s : State} (h : c.Moves s.lane.core) (x : Switch) :
    c.Moves (s.switchIn x).lane.core := by
  unfold State.switchIn
  dsimp only
  (repeat' split) <;> simp [h]

@[simp] theorem State.switchRelease_moves {c : LaneCore} {s : State} (h : c.Moves s.lane.core) (x : Switch) :
    c.Moves (s.switchRelease x).lane.core := by
  simp [State.switchRelease, h]

@[simp] theorem State.monReact_moves {c : LaneCore} {s : State} (h : c.Moves s.lane.core) (o : Monitor) :
    c.Moves (s.monReact o).lane.core := by
  cases o <;> simp [State.monReact, h]

@[simp] theorem State.crtFault_moves {c : LaneCore} {s : State} (h : c.Moves s.lane.core) :
    c.Moves s.crtFault.lane.core := by
  simp [State.crtFault, h]

@[simp] theorem State.lockstep_moves {c : LaneCore} {s : State} (h : c.Moves s.lane.core) (kind d0 : Nat) :
    c.Moves (s.lockstep kind d0).lane.core := by
  simp [State.lockstep, h]

@[simp] theorem State.blockReset_moves {c : LaneCore} {s : State} (h : c.Moves s.lane.core) (k : Nat) :
    c.Moves (s.blockReset k).lane.core := by
  have free : c.Moves s.freeUsed.lane.core := h
  unfold State.blockReset
  dsimp only
  split <;> (try split) <;> simp [h, State.timevFall_moves free]

@[simp] theorem State.softBegin_moves {c : LaneCore} {s : State} (h : c.Moves s.lane.core) (k : Nat) :
    c.Moves (s.softBegin k).lane.core := by
  simp [State.softBegin, h]

@[simp] theorem State.softBegins_moves {c : LaneCore} {s : State} (h : c.Moves s.lane.core) (l : List Nat) :
    c.Moves (s.softBegins l).lane.core := by
  induction l generalizing s with
  | nil => exact h
  | cons a l ih => simp [State.softBegins, h, ih]

@[simp] theorem State.srstWrite_moves {c : LaneCore} {s : State} (h : c.Moves s.lane.core) (k : Nat) :
    c.Moves (s.srstWrite k).lane.core := by
  simp [State.srstWrite, h]

@[simp] theorem State.srstEnd_moves {c : LaneCore} {s : State} (h : c.Moves s.lane.core) (k : Nat) (ok : Bool) :
    c.Moves (s.srstEnd k ok).lane.core := by
  simp [State.srstEnd, h]

@[simp] theorem State.clkenBit_moves {c : LaneCore} {s : State} (h : c.Moves s.lane.core) (k : Nat) (b : Bool) :
    c.Moves (s.clkenBit k b).lane.core := by
  simp [State.clkenBit, h]

@[simp] theorem State.clkenBits_moves {c : LaneCore} {s : State} (h : c.Moves s.lane.core) (v : Word) (l : List Nat) :
    c.Moves (s.clkenBits v l).lane.core := by
  induction l generalizing s with
  | nil => exact h
  | cons a l ih => simp [State.clkenBits, h, ih]

@[simp] theorem State.clkenWrite_moves {c : LaneCore} {s : State} (h : c.Moves s.lane.core) (v : Word) :
    c.Moves (s.clkenWrite v).lane.core := by
  simp [State.clkenWrite, h]

@[simp] theorem State.testEnd_moves {c : LaneCore} {s : State} (h : c.Moves s.lane.core) (t : SelfTest) (pass : Bool)
    (duration : Nat) :
    c.Moves (s.testEnd t pass duration).lane.core := by
  simp [State.testEnd, h]

@[simp] theorem State.memFault_moves {c : LaneCore} {s : State} (h : c.Moves s.lane.core) (m : BistMemory) :
    c.Moves (s.memFault m).lane.core := by
  have free : c.Moves s.freeUsed.lane.core := h
  cases m <;> simp [State.memFault, h, State.lockstep_moves free]

/-- The straps are accepted in a lane outside SAFE, which passes to CLOCK (R474). -/
theorem State.strapSample_moves {c : LaneCore} {s : State} (h : c.Moves s.lane.core) (open_ : s.lane.core.st ≠ .safe)
    (s0 s1 s2 : BitVec 14) : c.Moves (s.strapSample s0 s1 s2).lane.core := by
  unfold State.strapSample
  dsimp only
  split
  · rw [State.attemptStart_lane]
    exact State.setSt_moves (by simpa using h) (by simpa using open_) (by decide)
  · split <;> simpa using h

@[simp] theorem State.setCons_moves {c : LaneCore} {s : State} (h : c.Moves s.lane.core) (k : Fin 2) (b : Bool) :
    c.Moves (s.setCons k b).lane.core := by
  unfold State.setCons
  split <;> exact ⟨h.held, h.run⟩

theorem State.enterLoad_moves {c : LaneCore} {s : State} (h : c.Moves s.lane.core) (open_ : s.lane.core.st ≠ .safe) :
    c.Moves s.enterLoad.lane.core :=
  State.setSt_moves h open_ (by decide)

@[simp] theorem State.unusedGate_moves {c : LaneCore} {s : State} (h : c.Moves s.lane.core) (u : BitVec 13) (l : List Nat) :
    c.Moves (s.unusedGate u l).lane.core := by
  induction l generalizing s with
  | nil => exact h
  | cons a l ih => simp [State.unusedGate, h, ih]

theorem State.clkenBit_false_core (s : State) (k : Nat) : (s.clkenBit k false).lane.core = s.lane.core := by
  simp [State.clkenBit]

theorem State.unusedGate_core (s : State) (u : BitVec 13) (l : List Nat) : (s.unusedGate u l).lane.core = s.lane.core := by
  induction l generalizing s with
  | nil => rfl
  | cons k ks ih => simp [State.unusedGate, ih, State.clkenBit_false_core]

/-- The end of LOAD (R471): a lane outside SAFE passes to INTEGRATE. -/
theorem State.loadDone_moves {c : LaneCore} {s : State} (h : c.Moves s.lane.core) (open_ : s.lane.core.st ≠ .safe)
    (st : Station) :
    c.Moves (s.loadDone st).lane.core := by
  have gates := State.unusedGate_core (s.install st) st.unused ((List.range 10).map fun i => i + 3)
  have m := State.setSt_moves (x := .integrate) (s := (s.install st).unusedGate st.unused ((List.range 10).map fun i => i + 3))
    (c := c) (by simp [gates, h]) (by simpa [gates] using open_) (by decide)
  exact State.enterListen_moves (by simpa using m) _ _

theorem State.loadPass_moves {c : LaneCore} {s : State} (h : c.Moves s.lane.core) (open_ : s.lane.core.st ≠ .safe)
    (st : Station) :
    c.Moves (s.loadPass st).lane.core := by
  unfold State.loadPass
  dsimp only
  split
  · simp [h]
  · refine State.loadDone_moves ?_ ?_ _
    · split <;> simp [h]
    · split <;> simpa using open_

@[simp] theorem State.updOp_moves {c : LaneCore} {s : State} {f : State → State} (h : c.Moves s.lane.core)
    (hf : c.Moves (f s).lane.core) : c.Moves (s.updOp f).lane.core := by
  simp [State.updOp, h, hf]

@[simp] theorem State.updActivate_moves {c : LaneCore} {s : State} (h : c.Moves s.lane.core) (sid : Nat) :
    c.Moves (s.updActivate sid).lane.core := by
  simp [State.updActivate, h]

@[simp] theorem State.updCmd_moves {c : LaneCore} {s : State} (h : c.Moves s.lane.core) (sid op : Nat) (dropf : Bool) :
    c.Moves (s.updCmd sid op dropf).lane.core := by
  unfold State.updCmd
  split <;> simp [h]

@[simp] theorem State.updWrite_moves {c : LaneCore} {s : State} (h : c.Moves s.lane.core) (sid op : Nat) (dropf : Bool) :
    c.Moves (s.updWrite sid op dropf).lane.core :=
  State.command_moves h (fun _ k => State.updCmd_moves k sid op dropf) ..

@[simp] theorem State.digestDecide_moves {c : LaneCore} {s : State} (h : c.Moves s.lane.core) :
    c.Moves s.digestDecide.lane.core := by
  simp [State.digestDecide, h]

/-- A lane command is refused, or carried out on a state with the same core, its condition met. -/
theorem State.ctlOp_moves {c : LaneCore} {s : State} {f : State → State} {ok : Bool} (h : c.Moves s.lane.core)
    (hf : ok = true → ∀ t, t.lane.core = s.lane.core → c.Moves (f t).lane.core) (op sid : Nat) :
    c.Moves (s.ctlOp op sid ok f).lane.core := by
  cases ok with
  | false => simp [State.ctlOp, h]
  | true =>
    unfold State.ctlOp
    split
    · simp [h]
    · exact hf rfl _ (by simp)

@[simp] theorem State.makesafe_moves {c : LaneCore} {s : State} (h : c.Moves s.lane.core) (sid : Nat) :
    c.Moves (s.makesafe sid).lane.core :=
  State.ctlOp_moves h (fun _ t same => by simp [same, h]) 1 sid

@[simp] theorem State.stopCmd_moves {c : LaneCore} {s : State} (h : c.Moves s.lane.core) (sid : Nat) :
    c.Moves (s.stopCmd sid).lane.core := by
  refine State.ctlOp_moves h (fun ok t same => ?_) 3 sid
  have run : s.lane.core.st = .run := of_decide_eq_true ok
  rw [State.ctlDone_core]
  exact State.setSt_moves (by simp [same, h]) (by simp [same, run]) (by decide)

@[simp] theorem State.holdCmd_moves {c : LaneCore} {s : State} (h : c.Moves s.lane.core) (sid : Nat) :
    c.Moves (s.holdCmd sid).lane.core := by
  refine State.ctlOp_moves h (fun ok t same => ?_) 4 sid
  have open_ : s.lane.core.st ≠ .safe := fun e => by
    have e : s.lane.st = .safe := e
    simp [e] at ok
  split
  · simpa [same] using h
  · exact State.enterHold_moves (same ▸ h) (same ▸ open_)

@[simp] theorem State.leaveHold_moves {c : LaneCore} {s : State} (h : c.Moves s.lane.core) (sid : Nat) :
    c.Moves (s.leaveHold sid).lane.core := by
  refine State.ctlOp_moves h (fun ok t same => ?_) 5 sid
  have hold : s.lane.core.st = .hold := of_decide_eq_true ok
  rw [State.ctlDone_core]
  exact State.setSt_moves (by simp [same, h]) (by simp [same, hold]) (by decide)

@[simp] theorem State.ctlCmd_moves {c : LaneCore} {s : State} (h : c.Moves s.lane.core) (sid op : Nat) :
    c.Moves (s.ctlCmd sid op).lane.core := by
  unfold State.ctlCmd
  split <;> simp [h]

@[simp] theorem State.ctlWrite_moves {c : LaneCore} {s : State} (h : c.Moves s.lane.core) (sid op : Nat) :
    c.Moves (s.ctlWrite sid op).lane.core :=
  State.command_moves h (fun _ k => State.ctlCmd_moves k sid op) ..

@[simp] theorem State.writeGlb_moves {c : LaneCore} {s : State} (h : c.Moves s.lane.core) (sid o : Nat) (v : Word) :
    c.Moves (s.writeGlb sid o v).lane.core := by
  unfold State.writeGlb
  split <;> simp [h]

@[simp] theorem State.writeBlock_moves {c : LaneCore} {s : State} (h : c.Moves s.lane.core) (sid code o : Nat) (v : Word) :
    c.Moves (s.writeBlock sid code o v).lane.core := by
  unfold State.writeBlock
  split <;> simp [h]

@[simp] theorem State.regWrite_moves {c : LaneCore} {s : State} (h : c.Moves s.lane.core) (sid a : Nat) (v : Word) :
    c.Moves (s.regWrite sid a v).lane.core := by
  simp [State.regWrite, h]

/-! ### Requests on MAP and FMP -/

@[simp] theorem State.writeBurst_moves {c : LaneCore} {s : State} (h : c.Moves s.lane.core) (sid : Nat)
    (ws : List (Nat × Word)) :
    c.Moves (s.writeBurst sid ws).1.lane.core := by
  induction ws generalizing s with
  | nil => exact h
  | cons w ws ih =>
    unfold State.writeBurst
    (repeat' split) <;> simp [h, ih]

@[simp] theorem State.readBurst_core (s : State) (x : Session) (l : List Nat) :
    (s.readBurst x l).1.lane.core = s.lane.core := by
  induction l generalizing s with
  | nil => rfl
  | cons a l ih =>
    unfold State.readBurst
    split <;> simp [ih]

@[simp] theorem State.readRequest_core (s : State) (x : Session) (l : List Nat) :
    (s.readRequest x l).1.lane.core = s.lane.core := by
  unfold State.readRequest
  dsimp only
  (repeat' split) <;> simp

@[simp] theorem State.writeRequest_moves {c : LaneCore} {s : State} (h : c.Moves s.lane.core) (x : Session)
    (ws : List (Nat × Word)) : c.Moves (s.writeRequest x ws).1.lane.core := by
  have used : c.Moves (s.useToken x.num).lane.core := h
  unfold State.writeRequest
  dsimp only
  (repeat' split) <;> simp [h, State.writeBurst_moves used]

@[simp] theorem State.request_moves {c : LaneCore} {s : State} (h : c.Moves s.lane.core) (x : Session) (cmd a : Nat)
    (data : List Byte) : c.Moves (s.request x cmd a data).1.lane.core := by
  unfold State.request
  dsimp only
  (repeat' split) <;> simp [h]

@[simp] theorem State.halfRequest_moves {c : LaneCore} {s : State} (h : c.Moves s.lane.core) (x : Session) (resp : Bool)
    (cmd a : Nat) (data : List Byte) : c.Moves (s.halfRequest x resp cmd a data).1.lane.core := by
  unfold State.halfRequest
  dsimp only
  split <;> simp [h]

@[simp] theorem State.mapServe_moves {c : LaneCore} {s : State} (h : c.Moves s.lane.core) (cmd : Nat) (bs : List Byte) :
    c.Moves (s.mapServe cmd bs).lane.core := by
  have active : c.Moves (s.updSession 0 fun x => { x with lastAt := s.pins.now }).lane.core := h
  unfold State.mapServe
  dsimp only
  split <;> simp [h, State.request_moves active]

@[simp] theorem State.fmpOutside_moves {c : LaneCore} {s : State} (h : c.Moves s.lane.core) (p : Peer) (cmd a seq : Nat)
    (data : List Byte) :
    c.Moves (s.fmpOutside p cmd a seq data).lane.core := by
  simp [State.fmpOutside, h]

@[simp] theorem State.fmpHalf_moves {c : LaneCore} {s : State} (h : c.Moves s.lane.core) (x : Session) (p : Peer)
    (cmd a seq : Nat) (data : List Byte) :
    c.Moves (s.fmpHalf x p cmd a seq data).lane.core := by
  simp [State.fmpHalf, h]

@[simp] theorem State.fmpTagged_moves {c : LaneCore} {s : State} (h : c.Moves s.lane.core) (x : Session) (p : Peer)
    (cmd a seq : Nat) (data : List Byte) : c.Moves (s.fmpTagged x p cmd a seq data).lane.core := by
  have active : c.Moves (s.updSession x.num fun y => { y with lastAt := s.pins.now, seq := seq }).lane.core := h
  unfold State.fmpTagged
  dsimp only
  (repeat' split) <;> simp [h, State.request_moves active]

@[simp] theorem State.fmpServe_moves {c : LaneCore} {s : State} (h : c.Moves s.lane.core) (p : Peer) (bytes : List Byte) :
    c.Moves (s.fmpServe p bytes).lane.core := by
  unfold State.fmpServe
  dsimp only
  (repeat' split) <;> simp [h]

end Sys2Proof.Machine
end
section
/-! PROOF. The commands: what each may make of the core of the lane. -/

namespace Sys2Proof.Machine

open Sys2Proof.Safety

/-- Where the command completes, its state stands so to the core `c`. -/
def Leads (c : LaneCore) (o : Host.Outcome State Fault Refusal) : Prop := ∀ t, o = .next t → c.Moves t.lane.core

@[simp] theorem leads_next {c : LaneCore} {t : State} : Leads c (.next t) ↔ c.Moves t.lane.core :=
  ⟨fun h => h t rfl, fun h _ e => Host.Outcome.next.inj e ▸ h⟩

@[simp] theorem leads_fault (c : LaneCore) (x : Fault) : Leads c (.fault x) := by
  intro t e
  cases e

@[simp] theorem leads_ite {c : LaneCore} (p : Prop) [Decidable p] (a b : Host.Outcome State Fault Refusal) :
    Leads c (if p then a else b) ↔ (p → Leads c a) ∧ (¬ p → Leads c b) := by
  split <;> simp [*]

@[simp] theorem State.logic_runInstr_moves {c : LaneCore} {s : State} (h : c.Moves s.lane.core) (e : Ecc)
    (sem : HalfView → Rung → HalfRes) : c.Moves (s.logic e fun t => t.runInstr sem).lane.core :=
  State.logic_moves h e fun _ k => State.runInstr_moves k sem

@[simp] theorem State.logic_closeRegion_moves {c : LaneCore} {s : State} (h : c.Moves s.lane.core) (e : Ecc) (last : Bool) :
    c.Moves (s.logic e fun t => t.closeRegion last).lane.core :=
  State.logic_moves h e fun _ k => State.closeRegion_moves k last
/-! ### The cabinet bus -/

@[simp] theorem execCanFrameStart_leads (c : Fin 2) (sof : Nat) (s : State) :
    Leads s.lane.core (execCanFrameStart c sof s) := by
  unfold execCanFrameStart
  dsimp only
  (repeat' split) <;> simp

@[simp] theorem execCanTxComplete_leads (c : Fin 2) (s : State) : Leads s.lane.core (execCanTxComplete c s) := by
  unfold execCanTxComplete
  dsimp only
  (repeat' split) <;> simp

@[simp] theorem execCanAckError_leads (c : Fin 2) (s : State) : Leads s.lane.core (execCanAckError c s) := by
  unfold execCanAckError
  dsimp only
  (repeat' split) <;> simp

@[simp] theorem execCanError_leads (c : Fin 2) (tec rec : Nat) (s : State) :
    Leads s.lane.core (execCanError c tec rec s) := by
  unfold execCanError
  dsimp only
  (repeat' split) <;> simp

@[simp] theorem execBusoffRecovered_leads (c : Fin 2) (s : State) : Leads s.lane.core (execBusoffRecovered c s) := by
  simp [execBusoffRecovered]

@[simp] theorem execBusoffRecoveryRequest_leads (sid : BitVec 16) (c : Fin 2) (s : State) :
    Leads s.lane.core (execBusoffRecoveryRequest sid c s) := by
  simp [execBusoffRecoveryRequest]

@[simp] theorem execReferenceMessageDue_leads (c : Fin 2) (s : State) : Leads s.lane.core (execReferenceMessageDue c s) := by
  simp [execReferenceMessageDue]

@[simp] theorem execCanFrameReceived_leads (c : Fin 2) (f : CanFrame) (sof : Nat) (s : State) :
    Leads s.lane.core (execCanFrameReceived c f sof s) := by
  unfold execCanFrameReceived
  dsimp only
  (repeat' split) <;> simp

@[simp] theorem execReceiveAcknowledgement_leads (sid : BitVec 16) (s : State) :
    Leads s.lane.core (execReceiveAcknowledgement sid s) := by
  simp [execReceiveAcknowledgement]

@[simp] theorem execPost_leads (sid : BitVec 16) (s : State) : Leads s.lane.core (execPost sid s) := by
  simp [execPost]

@[simp] theorem execCancel_leads (sid : BitVec 16) (e : Fin 32) (s : State) : Leads s.lane.core (execCancel sid e s) := by
  simp [execCancel]

@[simp] theorem execEntryRelease_leads (sid : BitVec 16) (e : Fin 32) (s : State) :
    Leads s.lane.core (execEntryRelease sid e s) := by
  simp [execEntryRelease]

/-! ### The logic engine -/

@[simp] theorem execLd_leads (e : Ecc) (rs n : Bool) (m : Combine) (a : BitVec 20) (s : State) :
    Leads s.lane.core (execLd e rs n m a s) := by
  simp [execLd]

@[simp] theorem execLdc_leads (e : Ecc) (rs n : Bool) (s : State) : Leads s.lane.core (execLdc e rs n s) := by
  simp [execLdc]

@[simp] theorem execAndOpen_leads (e : Ecc) (n : Bool) (op : BlockOp) (a : BitVec 20) (s : State) :
    Leads s.lane.core (execAndOpen e n op a s) := by
  simp [execAndOpen]

@[simp] theorem execAndOpenNoOperand_leads (e : Ecc) (op : BlockOp) (s : State) :
    Leads s.lane.core (execAndOpenNoOperand e op s) := by
  simp [execAndOpenNoOperand]

@[simp] theorem execBlockClose_leads (e : Ecc) (n : Bool) (s : State) : Leads s.lane.core (execBlockClose e n s) := by
  simp [execBlockClose]

@[simp] theorem execSt_leads (e : Ecc) (n : Bool) (a : BitVec 20) (s : State) : Leads s.lane.core (execSt e n a s) := by
  simp [execSt]

@[simp] theorem execSet_leads (e : Ecc) (a : BitVec 20) (s : State) : Leads s.lane.core (execSet e a s) := by
  simp [execSet]

@[simp] theorem execRst_leads (e : Ecc) (a : BitVec 20) (s : State) : Leads s.lane.core (execRst e a s) := by
  simp [execRst]

@[simp] theorem execTon_leads (e : Ecc) (a : BitVec 20) (s : State) : Leads s.lane.core (execTon e a s) := by
  simp [execTon]

@[simp] theorem execTof_leads (e : Ecc) (a : BitVec 20) (s : State) : Leads s.lane.core (execTof e a s) := by
  simp [execTof]

@[simp] theorem execLdte_leads (e : Ecc) (rs n : Bool) (m : Combine) (a : BitVec 20) (s : State) :
    Leads s.lane.core (execLdte e rs n m a s) := by
  simp [execLdte]

@[simp] theorem execLdtr_leads (e : Ecc) (rs n : Bool) (m : Combine) (a : BitVec 20) (s : State) :
    Leads s.lane.core (execLdtr e rs n m a s) := by
  simp [execLdtr]

@[simp] theorem execEdgr_leads (e : Ecc) (a : BitVec 20) (s : State) : Leads s.lane.core (execEdgr e a s) := by
  simp [execEdgr]

@[simp] theorem execEdgf_leads (e : Ecc) (a : BitVec 20) (s : State) : Leads s.lane.core (execEdgf e a s) := by
  simp [execEdgf]

@[simp] theorem execLdeq_leads (e : Ecc) (rs : Bool) (m : Combine) (w : BitVec 14) (kl : BitVec 7) (s : State) :
    Leads s.lane.core (execLdeq e rs m w kl s) := by
  simp [execLdeq]

@[simp] theorem execLdne_leads (e : Ecc) (rs : Bool) (m : Combine) (w : BitVec 14) (kl : BitVec 7) (s : State) :
    Leads s.lane.core (execLdne e rs m w kl s) := by
  simp [execLdne]

@[simp] theorem execLdlt_leads (e : Ecc) (rs : Bool) (m : Combine) (w : BitVec 14) (kl : BitVec 7) (s : State) :
    Leads s.lane.core (execLdlt e rs m w kl s) := by
  simp [execLdlt]

@[simp] theorem execLdle_leads (e : Ecc) (rs : Bool) (m : Combine) (w : BitVec 14) (kl : BitVec 7) (s : State) :
    Leads s.lane.core (execLdle e rs m w kl s) := by
  simp [execLdle]

@[simp] theorem execLdgt_leads (e : Ecc) (rs : Bool) (m : Combine) (w : BitVec 14) (kl : BitVec 7) (s : State) :
    Leads s.lane.core (execLdgt e rs m w kl s) := by
  simp [execLdgt]

@[simp] theorem execLdge_leads (e : Ecc) (rs : Bool) (m : Combine) (w : BitVec 14) (kl : BitVec 7) (s : State) :
    Leads s.lane.core (execLdge e rs m w kl s) := by
  simp [execLdge]

@[simp] theorem execWstk_leads (e : Ecc) (w : BitVec 14) (kl : BitVec 7) (s : State) :
    Leads s.lane.core (execWstk e w kl s) := by
  simp [execWstk]

@[simp] theorem execKhi_leads (e : Ecc) (kh : BitVec 25) (s : State) : Leads s.lane.core (execKhi e kh s) := by
  simp [execKhi]

@[simp] theorem execFence_leads (e : Ecc) (s : State) : Leads s.lane.core (execFence e s) := by
  simp [execFence]

@[simp] theorem execEndScan_leads (e : Ecc) (s : State) : Leads s.lane.core (execEndScan e s) := by
  simp [execEndScan]

@[simp] theorem execReservedOpcode_leads (w : Word) (s : State) : Leads s.lane.core (execReservedOpcode w s) := by
  simp [execReservedOpcode]

@[simp] theorem execRegionDrainEnd_leads (s : State) : Leads s.lane.core (execRegionDrainEnd s) := by
  unfold execRegionDrainEnd
  (repeat' split) <;> simp

@[simp] theorem execScanEnd_leads (s : State) : Leads s.lane.core (execScanEnd s) := by
  simp [execScanEnd]

/-! ### The Guardian -/

@[simp] theorem execGatherEnd_leads (s : State) : Leads s.lane.core (execGatherEnd s) := by
  simp [execGatherEnd]

@[simp] theorem execGuardianPass_leads (k : Nat) (e : GrdEcc) (s : State) : Leads s.lane.core (execGuardianPass k e s) := by
  have checked : LaneCore.Moves s.lane.core ((s.advanceCt (1000 * k)).grdEcc e).lane.core :=
    State.grdEcc_moves (s := s.advanceCt (1000 * k)) (.refl _) e
  unfold execGuardianPass
  dsimp only
  (repeat' split) <;> simp [checked]

@[simp] theorem execGuardianStall_leads (s : State) : Leads s.lane.core (execGuardianStall s) := by
  have stalled (t : Nat) (v : Violation) (k : Nat) : LaneCore.Moves s.lane.core ((s.advance t).vetoNow v k).lane.core :=
    State.vetoNow_moves (s := s.advance t) (.refl _) v k
  simp [execGuardianStall, stalled]

@[simp] theorem execTableCrcCheck_leads (bad : List (Nat × Word)) (s : State) :
    Leads s.lane.core (execTableCrcCheck bad s) := by
  simp [execTableCrcCheck]

@[simp] theorem execRegatherCheck_leads (s : State) : Leads s.lane.core (execRegatherCheck s) := by
  simp [execRegatherCheck]

@[simp] theorem execFallbackExitCommand_leads (sid : BitVec 16) (s : State) :
    Leads s.lane.core (execFallbackExitCommand sid s) :=
  leads_next.mpr (State.command_moves (.refl _) (fun _ k => State.fallbackExit_moves k 1) ..)

/-! ### Lamps and lamp proving -/

@[simp] theorem execLampLiveExpire_leads (ch : Fin 32) (s : State) : Leads s.lane.core (execLampLiveExpire ch s) := by
  unfold execLampLiveExpire
  dsimp only
  (repeat' split) <;> simp

@[simp] theorem execLampDriveFault_leads (ch : Fin 32) (s : State) : Leads s.lane.core (execLampDriveFault ch s) := by
  simp [execLampDriveFault]

@[simp] theorem execFallbackOutvoted_leads (g : Fin 16) (s : State) : Leads s.lane.core (execFallbackOutvoted g s) := by
  simp [execFallbackOutvoted]

@[simp] theorem execDarkPulseEnd_leads (ch : Fin 32) (s : State) : Leads s.lane.core (execDarkPulseEnd ch s) := by
  unfold execDarkPulseEnd
  dsimp only
  (repeat' split) <;> simp

@[simp] theorem execBlankingEnd_leads (ch : Fin 32) (s : State) : Leads s.lane.core (execBlankingEnd ch s) := by
  unfold execBlankingEnd
  (repeat' split) <;> simp

@[simp] theorem execInrushEnd_leads (ch : Fin 32) (s : State) : Leads s.lane.core (execInrushEnd ch s) := by
  unfold execInrushEnd
  (repeat' split) <;> simp

@[simp] theorem execProvingOutvoted_leads (ch : Fin 32) (k : Fin 4) (s : State) :
    Leads s.lane.core (execProvingOutvoted ch k s) := by
  simp [execProvingOutvoted]

@[simp] theorem execIsolationAcknowledgement_leads (sid : BitVec 16) (grp : Fin 8) (s : State) :
    Leads s.lane.core (execIsolationAcknowledgement sid grp s) := by
  simp [execIsolationAcknowledgement]

@[simp] theorem execLearn_leads (sid : BitVec 16) (ch : Fin 32) (cyc : BitVec 8) (s : State) :
    Leads s.lane.core (execLearn sid ch cyc s) := by
  simp [execLearn]

@[simp] theorem execLearnEnd_leads (s : State) : Leads s.lane.core (execLearnEnd s) := by
  unfold execLearnEnd
  (repeat' split) <;> simp

/-! ### Measurement -/

@[simp] theorem execFastSample_leads (ch : Fin 50) (raw : BitVec 17) (t : Nat) (s : State) :
    Leads s.lane.core (execFastSample ch raw t s) := by
  simp [execFastSample]

@[simp] theorem execFineSample_leads (ch : Fin 50) (raw : BitVec 25) (t : Nat) (s : State) :
    Leads s.lane.core (execFineSample ch raw t s) := by
  simp [execFineSample]

@[simp] theorem execStabilityReset_leads (ch : Fin 50) (s : State) : Leads s.lane.core (execStabilityReset ch s) := by
  simp [execStabilityReset]

@[simp] theorem execRefReady_leads (s : State) : Leads s.lane.core (execRefReady s) := by
  simp [execRefReady]

@[simp] theorem execStartCalibrationEnd_leads (rs : List CalResult) (s : State) :
    Leads s.lane.core (execStartCalibrationEnd rs s) := by
  simp [execStartCalibrationEnd]

@[simp] theorem execRotationStart_leads (si : Fin 2) (s : State) : Leads s.lane.core (execRotationStart si s) := by
  unfold execRotationStart
  dsimp only
  (repeat' split) <;> simp

@[simp] theorem execRotationPhaseEnd_leads (si : Fin 2) (off : Int) (gain : Nat) (diff : Int) (s : State) :
    Leads s.lane.core (execRotationPhaseEnd si off gain diff s) := by
  have failed (t k : Nat) : LaneCore.Moves s.lane.core ((s.advance t).parallelFail k).lane.core :=
    State.parallelFail_moves (s := s.advance t) (.refl _) k
  unfold execRotationPhaseEnd
  dsimp only
  (repeat' split) <;> simp [failed]

@[simp] theorem execRotationPathSwitch_leads (si : Fin 2) (s : State) : Leads s.lane.core (execRotationPathSwitch si s) := by
  have back (k c : Nat) : LaneCore.Moves s.lane.core (s.switchNow.rotationBack k c).lane.core :=
    State.rotationBack_moves (s := s.switchNow) (.refl _) k c
  unfold execRotationPathSwitch
  dsimp only
  (repeat' split) <;> simp [back]

@[simp] theorem execRotationCommit_leads (si : Fin 2) (s : State) : Leads s.lane.core (execRotationCommit si s) := by
  simp [execRotationCommit]

@[simp] theorem execCalstale_leads (ch : Fin 48) (s : State) : Leads s.lane.core (execCalstale ch s) := by
  simp [execCalstale]

@[simp] theorem execRefLost_leads (s : State) : Leads s.lane.core (execRefLost s) := by
  simp [execRefLost]

@[simp] theorem execCalibrate_leads (sid : BitVec 16) (ch : BitVec 6) (s : State) :
    Leads s.lane.core (execCalibrate sid ch s) := by
  simp [execCalibrate]

@[simp] theorem execCalibrateAbort_leads (sid : BitVec 16) (ch : BitVec 6) (s : State) :
    Leads s.lane.core (execCalibrateAbort sid ch s) := by
  simp [execCalibrateAbort]

/-! ### Vital inputs and outputs -/

@[simp] theorem execVinFilterChange_leads (n : Fin 64) (c : LevelChange) (s : State) :
    Leads s.lane.core (execVinFilterChange n c s) := by
  simp [execVinFilterChange]

@[simp] theorem execTpoFrameStart_leads (f : Nat) (obs : List FrameObs) (s : State) :
    Leads s.lane.core (execTpoFrameStart f obs s) := by
  simp [execTpoFrameStart]

@[simp] theorem execTpoReadbackFault_leads (k : Fin 4) (s : State) : Leads s.lane.core (execTpoReadbackFault k s) := by
  simp [execTpoReadbackFault]

@[simp] theorem execVoutLiveExpire_leads (n : Fin 32) (s : State) : Leads s.lane.core (execVoutLiveExpire n s) := by
  unfold execVoutLiveExpire
  dsimp only
  (repeat' split) <;> simp

@[simp] theorem execVoutDriveFault_leads (n : Fin 32) (s : State) : Leads s.lane.core (execVoutDriveFault n s) := by
  simp [execVoutDriveFault]

@[simp] theorem execVfbFilterChange_leads (m : Fin 32) (c : LevelChange) (s : State) :
    Leads s.lane.core (execVfbFilterChange m c s) := by
  simp [execVfbFilterChange]

@[simp] theorem execMonitorBoundElapsed_leads (n : Fin 32) (s : State) :
    Leads s.lane.core (execMonitorBoundElapsed n s) := by
  unfold execMonitorBoundElapsed
  (repeat' split) <;> simp

@[simp] theorem execLockoutOutvoted_leads (n : Fin 32) (s : State) : Leads s.lane.core (execLockoutOutvoted n s) := by
  simp [execLockoutOutvoted]

@[simp] theorem execLockoutAcknowledgement_leads (sid : BitVec 16) (out : Fin 32) (s : State) :
    Leads s.lane.core (execLockoutAcknowledgement sid out s) := by
  simp [execLockoutAcknowledgement]

/-! ### Cluster time and slots -/

@[simp] theorem execZeroCrossing_leads (ch : Fin 2) (t : Nat) (rising : Bool) (s : State) :
    Leads s.lane.core (execZeroCrossing ch t rising s) := by
  simp [execZeroCrossing]

@[simp] theorem execCrossingMissing_leads (ch : Fin 2) (s : State) : Leads s.lane.core (execCrossingMissing ch s) := by
  unfold execCrossingMissing
  (repeat' split) <;> simp

@[simp] theorem execSlewEnd_leads (s : State) : Leads s.lane.core (execSlewEnd s) := by
  simp [execSlewEnd]

@[simp] theorem execAngleSlotFire_leads (n : Fin 256) (s : State) : Leads s.lane.core (execAngleSlotFire n s) := by
  simp [execAngleSlotFire]

@[simp] theorem execTimeSlotFire_leads (n : Fin 64) (s : State) : Leads s.lane.core (execTimeSlotFire n s) := by
  simp [execTimeSlotFire]

@[simp] theorem execCtloRead_leads (s : State) : Leads s.lane.core (execCtloRead s) := by
  simp [execCtloRead]

@[simp] theorem execWallTimeSet_leads (sid : BitVec 16) (hi : BitVec 16) (s : State) :
    Leads s.lane.core (execWallTimeSet sid hi s) := by
  simp [execWallTimeSet]

/-! ### Frames received -/

@[simp] theorem execStatusFrame_leads (f : RxFrame) (s : State) : Leads s.lane.core (execStatusFrame f s) :=
  leads_next.mpr (State.receive_moves (.refl _) _ f fun t a k => by simp [k])

@[simp] theorem execInputFrame_leads (f : RxFrame) (s : State) : Leads s.lane.core (execInputFrame f s) :=
  leads_next.mpr (State.receive_moves (.refl _) _ f fun t a k => by simp [k])

@[simp] theorem execOutputFrame_leads (f : RxFrame) (s : State) : Leads s.lane.core (execOutputFrame f s) :=
  leads_next.mpr (State.receive_moves (.refl _) _ f fun t a k => by simp [k])

@[simp] theorem execFetchRequest_leads (f : RxFrame) (s : State) : Leads s.lane.core (execFetchRequest f s) :=
  leads_next.mpr (State.receive_moves (.refl _) _ f fun t a k => by split <;> simp [k])

@[simp] theorem execFetchReply_leads (f : RxFrame) (s : State) : Leads s.lane.core (execFetchReply f s) :=
  leads_next.mpr (State.receive_moves (.refl _) _ f fun t a k => by split <;> simp [k])

@[simp] theorem execMirrorFrame_leads (f : RxFrame) (s : State) : Leads s.lane.core (execMirrorFrame f s) :=
  leads_next.mpr (State.receive_moves (.refl _) _ f fun t a k => by dsimp only; split <;> simp [k])

@[simp] theorem execStateTransferFrame_leads (f : RxFrame) (s : State) : Leads s.lane.core (execStateTransferFrame f s) :=
  leads_next.mpr (State.receive_moves (.refl _) _ f fun t a k => by split <;> simp [k])

@[simp] theorem execColdStartFrame_leads (f : RxFrame) (s : State) : Leads s.lane.core (execColdStartFrame f s) := by
  have led (a b : Option Copy) : LaneCore.Moves s.lane.core
      ({ (((s.advance (frameEnd f)).coldCount false a).coldCount true b) with lnb.att := 0 } : State).leadAbandon.lane.core :=
    State.leadAbandon_moves (by simp)
  unfold execColdStartFrame
  dsimp only
  (repeat' split) <;> simp [led]

@[simp] theorem execCarrierInvalid_leads (s : State) : Leads s.lane.core (execCarrierInvalid s) := by
  simp [execCarrierInvalid]

/-! ### Frames sent -/

@[simp] theorem execTransmitFrame_leads (w : Fin 512) (s : State) : Leads s.lane.core (execTransmitFrame w s) := by
  unfold execTransmitFrame
  dsimp only
  (repeat' split) <;> simp

@[simp] theorem execArbRoundStart_leads (w : Fin 512) (r : Nat) (carrier : Bool) (s : State) :
    Leads s.lane.core (execArbRoundStart w r carrier s) := by
  have round (k : Nat) : LaneCore.Moves s.lane.core (s.advanceCt (s.placeStart k 0)).overrun.lane.core :=
    State.overrun_moves (s := s.advanceCt _) (.refl _)
  unfold execArbRoundStart
  dsimp only
  (repeat' split) <;> simp [round]

@[simp] theorem execGuardianCutoff_leads (fid : BitVec 10) (s : State) : Leads s.lane.core (execGuardianCutoff fid s) := by
  simp [execGuardianCutoff]

/-! ### Cold start and synchronisation -/

@[simp] theorem execListenTimeout_leads (carrierBefore : Bool) (s : State) :
    Leads s.lane.core (execListenTimeout carrierBefore s) := by
  simp [execListenTimeout]

@[simp] theorem execWaitExpire_leads (carrierBefore : Bool) (s : State) :
    Leads s.lane.core (execWaitExpire carrierBefore s) := by
  simp [execWaitExpire]

@[simp] theorem execSwarmReadback_leads (clean : Bool) (s : State) : Leads s.lane.core (execSwarmReadback clean s) := by
  simp [execSwarmReadback]

@[simp] theorem execClusterFormed_leads (s : State) : Leads s.lane.core (execClusterFormed s) := by
  simp [execClusterFormed]

@[simp] theorem execAttemptFailed_leads (s : State) : Leads s.lane.core (execAttemptFailed s) := by
  have later (t len at_ : Nat) : LaneCore.Moves s.lane.core ((s.advanceCt t).enterListen len at_).lane.core :=
    State.enterListen_moves (s := s.advanceCt t) (.refl _) len at_
  unfold execAttemptFailed
  dsimp only
  (repeat' split) <;> simp [later]

@[simp] theorem execLoneNode_leads (s : State) : Leads s.lane.core (execLoneNode s) := by
  simp [execLoneNode]

@[simp] theorem execClockCorrection_leads (s : State) : Leads s.lane.core (execClockCorrection s) := by
  unfold execClockCorrection
  dsimp only
  (repeat' split) <;> simp

@[simp] theorem execTimevRestored_leads (s : State) : Leads s.lane.core (execTimevRestored s) := by
  simp [execTimevRestored]

@[simp] theorem execIntegrationCheckPassed_leads (s : State) : Leads s.lane.core (execIntegrationCheckPassed s) := by
  simp [execIntegrationCheckPassed]

@[simp] theorem execPassiveReturn_leads (s : State) : Leads s.lane.core (execPassiveReturn s) := by
  simp [execPassiveReturn]

@[simp] theorem execDemotion_leads (s : State) : Leads s.lane.core (execDemotion s) := by
  simp [execDemotion]

@[simp] theorem execSyncLost_leads (s : State) : Leads s.lane.core (execSyncLost s) := by
  simp [execSyncLost]

@[simp] theorem execSingleChannelLimit_leads (node : Fin 8) (s : State) :
    Leads s.lane.core (execSingleChannelLimit node s) := by
  simp [execSingleChannelLimit]

@[simp] theorem execRecoveredClockAdmitted_leads (s : State) : Leads s.lane.core (execRecoveredClockAdmitted s) := by
  unfold execRecoveredClockAdmitted
  (repeat' split) <;> simp

@[simp] theorem execRecoveredClockRevoked_leads (cause : Fin 4) (s : State) :
    Leads s.lane.core (execRecoveredClockRevoked cause s) := by
  simp [execRecoveredClockRevoked]

/-! ### The field network -/

@[simp] theorem execPhyPoll_leads (port : Fin 2) (link : LinkState) (s : State) :
    Leads s.lane.core (execPhyPoll port link s) := by
  unfold execPhyPoll
  dsimp only
  (repeat' split) <;> simp

@[simp] theorem execPortSingle_leads (port : Fin 2) (s : State) : Leads s.lane.core (execPortSingle port s) := by
  simp [execPortSingle]

@[simp] theorem execEthernetFrame_leads (port : Fin 2) (fcsOk : Bool) (bytes : List Byte) (s : State) :
    Leads s.lane.core (execEthernetFrame port fcsOk bytes s) := by
  simp [execEthernetFrame]

@[simp] theorem execArpRequest_leads (port : Fin 2) (target : Word) (s : State) :
    Leads s.lane.core (execArpRequest port target s) := by
  simp [execArpRequest]

@[simp] theorem execIcmpEchoRequest_leads (port : Fin 2) (dst : Word) (s : State) :
    Leads s.lane.core (execIcmpEchoRequest port dst s) := by
  simp [execIcmpEchoRequest]

@[simp] theorem execMimanTelegram_leads (port : Fin 2) (srcIp : Word) (bytes : List Byte) (s : State) :
    Leads s.lane.core (execMimanTelegram port srcIp bytes s) := by
  unfold execMimanTelegram
  (repeat' split) <;> simp

/-! ### T0 of a logic cycle -/

/-! ### T_IA -/

@[simp] theorem execAgreedImageApply_leads (s : State) : Leads s.lane.core (execAgreedImageApply s) := by
  simp [execAgreedImageApply]

/-! ### T_commit -/

@[simp] theorem execOutputAgreement_leads (s : State) : Leads s.lane.core (execOutputAgreement s) := by
  unfold execOutputAgreement
  rw [leads_next]
  split
  · rename_i prove
    exact State.proveClassify_moves (.refl _) (ne_of_eq_of_ne prove (by decide))
  · split
    · have left : LaneCore.Moves s.lane.core (s.fallbackLeave.reportsClose).overrun.lane.core :=
        State.overrun_moves (by simp)
      generalize (s.fallbackLeave.reportsClose).overrun = u at left
      have voted (p : Nat) : LaneCore.Moves s.lane.core (State.voteOutputs { u with tae.phase := p }).lane.core :=
        State.voteOutputs_moves (s := { u with tae.phase := p }) left
      dsimp only
      (repeat' split) <;> simp_all
    · exact .refl _

@[simp] theorem execReportLimit_leads (s : State) : Leads s.lane.core (execReportLimit s) := by
  simp [execReportLimit]

/-- T_commit before its edge fires: the set has yielded where it must, and a lane in fall-back has left it (R16, R257). -/
def State.atCommit (s : State) (t0 : Nat) : State := (s.advanceCt (t0 + s.cycC * s.basicNs)).roleYield.fallbackLeave

/-- The edge at T_commit: the set angles that take effect, and the slots that are due (R66, R181). -/
def State.commitFires (s : State) (t0 : Nat) : State :=
  let prev := s.setAngleAt ((s.ct : Int) - 10)
  let s2 := if s.lane.st = .run ∨ s.lane.st = .prove then s.setAngleAdopt t0 else s
  s2.edgeFire (if s.tae.samSet then prev else s2.setAngleAt ((s2.ct : Int) - 10)) (fun _ => false) fun _ => false

/-- The commit of a lane in RUN, where every output that it may change is ready or not (R71, R179). -/
def State.commitImages (s : State) (ready : Bool) (n tc : Nat) : State :=
  if s.lane.st = .run then { ({ s with grd.chkok := ready } : State).commitRun n tc with grd.chkok := false } else s

theorem execOutputCommit_eq {s : State} {t0 : Nat} (due : s.commitOf = some t0) (live : (s.hasCt && s.img.isSome) = true) :
    execOutputCommit s = .next ((((s.atCommit t0).commitFires t0).guardSwap.commitImages
      ((s.atCommit t0).commitFires t0).outputReady (t0 / s.logicNs) (t0 + s.cycC * s.basicNs)).commitDone t0) := by
  unfold execOutputCommit
  rw [due]
  dsimp -zeta only
  rw [if_pos live]
  extract_lets tc s1 prev s2 s3 ready s4
  have e1 : s.atCommit t0 = s1 := rfl
  have e3 : s1.commitFires t0 = s3 := rfl
  have e4 : s3.guardSwap = s4 := rfl
  have er : s3.outputReady = ready := rfl
  rw [e1, e3, e4, er]
  clear e1 e3 e4 er
  clear_value s4 ready
  rfl
theorem execOutputCommit_idle {s : State} (idle : ¬ ∃ t0, s.commitOf = some t0 ∧ (s.hasCt && s.img.isSome) = true) :
    execOutputCommit s = .next s := by
  unfold execOutputCommit
  split
  · rename_i t0 due
    rw [if_neg fun live => idle ⟨t0, due, live⟩]
  · rfl

theorem State.atCommit_moves (s : State) (t0 : Nat) : s.lane.core.Moves (s.atCommit t0).lane.core :=
  State.fallbackLeave_moves (State.roleYield_moves (s := s.advanceCt _) (.refl _))

@[simp] theorem State.commitFires_core (s : State) (t0 : Nat) : (s.commitFires t0).lane.core = s.lane.core := by
  simp [State.commitFires]

theorem State.commitImages_moves {c : LaneCore} {s : State} (h : c.Moves s.lane.core) (ready : Bool) (n tc : Nat) :
    c.Moves (s.commitImages ready n tc).lane.core := by
  have ran := State.commitRun_moves (s := { s with grd.chkok := ready }) h n tc
  simp [State.commitImages, h, ran]

@[simp] theorem execOutputCommit_leads (s : State) : Leads s.lane.core (execOutputCommit s) := by
  by_cases due : ∃ t0, s.commitOf = some t0 ∧ (s.hasCt && s.img.isSome) = true
  · obtain ⟨t0, due, live⟩ := due
    rw [execOutputCommit_eq due live, leads_next, State.commitDone_core]
    exact State.commitImages_moves (by simpa using s.atCommit_moves t0) ..
  · rw [execOutputCommit_idle due, leads_next]
    exact .refl _

@[simp] theorem execProveComplete_leads (s : State) : Leads s.lane.core (execProveComplete s) := by
  unfold execProveComplete
  (repeat' split) <;> simp

@[simp] theorem execAdmission_leads (s : State) : Leads s.lane.core (execAdmission s) := by
  simp [execAdmission]

/-! ### Basic cycles -/

@[simp] theorem execBasicCycleBoundary_leads (m guardDiff : Nat) (s : State) :
    Leads s.lane.core (execBasicCycleBoundary m guardDiff s) := by
  simp [execBasicCycleBoundary]

@[simp] theorem execPeerSilent_leads (k : Fin 2) (s : State) : Leads s.lane.core (execPeerSilent k s) := by
  simp [execPeerSilent]

@[simp] theorem execAutomaticSwitchover_leads (s : State) : Leads s.lane.core (execAutomaticSwitchover s) := by
  simp [execAutomaticSwitchover]

@[simp] theorem execSwitchoverCommit_leads (s : State) : Leads s.lane.core (execSwitchoverCommit s) := by
  have in_ (t : Nat) (x : Switch) : LaneCore.Moves s.lane.core ((s.advanceCt t).switchIn x).lane.core :=
    State.switchIn_moves (s := s.advanceCt t) (.refl _) x
  unfold execSwitchoverCommit
  dsimp only
  (repeat' split) <;> simp [in_]

@[simp] theorem execSwitchoverRelease_leads (s : State) : Leads s.lane.core (execSwitchoverRelease s) := by
  unfold execSwitchoverRelease
  (repeat' split) <;> simp

/-! ### The recorder -/

@[simp] theorem execRecordCreate_leads (sev : Fin 6) (src code : BitVec 16) (data : List Byte) (s : State) :
    Leads s.lane.core (execRecordCreate sev src code data s) := by
  unfold execRecordCreate
  split <;> simp

@[simp] theorem execFlushPeriod_leads (s : State) : Leads s.lane.core (execFlushPeriod s) := by
  unfold execFlushPeriod
  dsimp only
  (repeat' split) <;> simp

@[simp] theorem execRecFlush_leads (ok : Bool) (s : State) : Leads s.lane.core (execRecFlush ok s) := by
  simp [execRecFlush]

@[simp] theorem execFreeze_leads (sid : BitVec 16) (s : State) : Leads s.lane.core (execFreeze sid s) := by
  simp [execFreeze]

@[simp] theorem execUnfreeze_leads (sid : BitVec 16) (s : State) : Leads s.lane.core (execUnfreeze sid s) := by
  simp [execUnfreeze]

@[simp] theorem execFreezeStart_leads (s : State) : Leads s.lane.core (execFreezeStart s) := by
  simp [execFreezeStart]

@[simp] theorem execFreezeCommit_leads (s : State) : Leads s.lane.core (execFreezeCommit s) := by
  simp [execFreezeCommit]

@[simp] theorem execOldest_leads (sid : BitVec 16) (s : State) : Leads s.lane.core (execOldest sid s) := by
  simp [execOldest]

@[simp] theorem execNewest_leads (sid : BitVec 16) (s : State) : Leads s.lane.core (execNewest sid s) := by
  simp [execNewest]

@[simp] theorem execNextRec_leads (sid : BitVec 16) (s : State) : Leads s.lane.core (execNextRec sid s) := by
  simp [execNextRec]

@[simp] theorem execPrevRec_leads (sid : BitVec 16) (s : State) : Leads s.lane.core (execPrevRec sid s) := by
  simp [execPrevRec]

@[simp] theorem execSeek_leads (sid : BitVec 16) (s : State) : Leads s.lane.core (execSeek sid s) := by
  simp [execSeek]

@[simp] theorem execLegHiRead_leads (s : State) : Leads s.lane.core (execLegHiRead s) := by
  simp [execLegHiRead]

@[simp] theorem execLegkeyWrite_leads (sid : BitVec 16) (key : BitVec 16) (s : State) :
    Leads s.lane.core (execLegkeyWrite sid key s) := by
  simp [execLegkeyWrite]

@[simp] theorem execLegkeyTimeout_leads (s : State) : Leads s.lane.core (execLegkeyTimeout s) := by
  simp [execLegkeyTimeout]

/-! ### Clocks, gates and self-tests -/

@[simp] theorem execAmplitudeDetected_leads (s : State) : Leads s.lane.core (execAmplitudeDetected s) := by
  simp [execAmplitudeDetected]

/-- The end of a validation window, from the state `u` that has counted it (R548). -/
def State.windowCounted (u : State) : State :=
  if 1024 ≤ u.crt.winGood then { u with crt.attempt := false, crt.xval := true, crt.fails := 0 } else u

@[simp] theorem State.windowCounted_lane (u : State) : u.windowCounted.lane = u.lane := by
  unfold State.windowCounted
  split <;> rfl

theorem execValidationWindow_eq (count : Nat) (s : State) : ∃ u : State,
    execValidationWindow count s =
      .next (if s.crt.attempt && s.crt.amp && s.crtRuns && decide (s.pins.now + 32000 ≤ s.crt.ampAt + 200000000) then
        u.windowCounted else s) ∧ u.lane = s.lane :=
  ⟨{ s.advance (s.pins.now + 32000) with
      crt.winGood := if s.windowGood count then s.crt.winGood + 1 else 0, crt.winLast := some count }, rfl, rfl⟩

@[simp] theorem execValidationWindow_leads (count : Nat) (s : State) : Leads s.lane.core (execValidationWindow count s) := by
  obtain ⟨u, counted, lane⟩ := execValidationWindow_eq count s
  rw [counted, leads_next]
  split
  · rw [State.windowCounted_lane, lane]
    exact .refl _
  · exact .refl _

/-- The report of a missed validation attempt, from the state `u` that has counted it (R547, R550). -/
def State.attemptMissed (u : State) : State :=
  if u.lane.st = .clock then (if u.lane.sfault = 0 then u.startFault 2 [] else u) else u.record 3 0x0100 0x0103 [u.crt.fails]

@[simp] theorem State.attemptMissed_core (u : State) : u.attemptMissed.lane.core = u.lane.core := by
  unfold State.attemptMissed
  (repeat' split) <;> simp

theorem execValidationAttemptTimeout_eq (s : State) : ∃ u : State,
    execValidationAttemptTimeout s = .next (if s.crt.attempt && s.crtRuns then u.attemptMissed else s) ∧ u.lane = s.lane :=
  ⟨{ s.advance (if s.crt.amp then s.crt.ampAt + 200000000 else s.crt.attemptAt + 20000000) with
      crt.attempt := false, crt.amp := false, crt.fails := satInc 255 s.crt.fails }, rfl, rfl⟩

@[simp] theorem execValidationAttemptTimeout_leads (s : State) : Leads s.lane.core (execValidationAttemptTimeout s) := by
  obtain ⟨u, missed, lane⟩ := execValidationAttemptTimeout_eq s
  rw [missed, leads_next]
  split
  · rw [State.attemptMissed_core, lane]
    exact .refl _
  · exact .refl _

@[simp] theorem execValidationRetry_leads (s : State) : Leads s.lane.core (execValidationRetry s) := by
  simp [execValidationRetry]

@[simp] theorem execPllLock_leads (density : Option Nat) (s : State) : Leads s.lane.core (execPllLock density s) := by
  have test : s.lane.st = .clock → LaneCore.Moves s.lane.core
      ((({ s with crt.lock := true, lane.sfault := 0 } : State).setSt .test)).lane.core := fun clock =>
    State.setSt_moves (.refl s.lane.core) (by rw [show LaneCore.st _ = .clock from clock]; decide) (by decide)
  unfold execPllLock
  dsimp only
  (repeat' split) <;> simp_all

@[simp] theorem execAlignReached_leads (s : State) : Leads s.lane.core (execAlignReached s) := by
  simp [execAlignReached]

@[simp] theorem execMonitorTrip_leads (m : Monitor) (s : State) : Leads s.lane.core (execMonitorTrip m s) := by
  simp [execMonitorTrip]

@[simp] theorem execReferenceSwitch_leads (toRecovered : Bool) (s : State) :
    Leads s.lane.core (execReferenceSwitch toRecovered s) := by
  simp [execReferenceSwitch]

@[simp] theorem execWatchOscMeasure_leads (khz : Nat) (s : State) : Leads s.lane.core (execWatchOscMeasure khz s) := by
  simp [execWatchOscMeasure]

@[simp] theorem execLockstepMismatch_leads (kind : LockstepKind) (d0 : Word) (s : State) :
    Leads s.lane.core (execLockstepMismatch kind d0 s) := by
  simp [execLockstepMismatch]

@[simp] theorem execSupWatchdogTimeout_leads (d0 : Word) (s : State) : Leads s.lane.core (execSupWatchdogTimeout d0 s) := by
  simp [execSupWatchdogTimeout]

@[simp] theorem execSoftReset_leads (sid : BitVec 16) (blk : BitVec 4) (s : State) :
    Leads s.lane.core (execSoftReset sid blk s) :=
  leads_next.mpr (State.command_moves (.refl _) (fun _ k => State.srstWrite_moves k blk.toNat) ..)

@[simp] theorem execSoftResetDone_leads (crcEqual : Bool) (s : State) :
    Leads s.lane.core (execSoftResetDone crcEqual s) := by
  unfold execSoftResetDone
  (repeat' split) <;> simp

@[simp] theorem execGateCloseWrite_leads (sid : BitVec 16) (value : Word) (s : State) :
    Leads s.lane.core (execGateCloseWrite sid value s) :=
  leads_next.mpr (State.command_moves (.refl _) (fun _ k => State.clkenWrite_moves k value) ..)

@[simp] theorem execGateOpenWrite_leads (sid : BitVec 16) (value : Word) (s : State) :
    Leads s.lane.core (execGateOpenWrite sid value s) :=
  leads_next.mpr (State.command_moves (.refl _) (fun _ k => State.clkenWrite_moves k value) ..)

@[simp] theorem execGateClosed_leads (code : Fin 13) (s : State) : Leads s.lane.core (execGateClosed code s) := by
  simp [execGateClosed]

@[simp] theorem execSelftestEnd_leads (pass : Bool) (duration : Nat) (s : State) :
    Leads s.lane.core (execSelftestEnd pass duration s) := by
  unfold execSelftestEnd
  rw [leads_next]
  split
  · exact State.testEnd_moves (s := s.advance _) (.refl _) ..
  · exact .refl _

@[simp] theorem execTransientAgeOut_leads (unit : Fin 5) (s : State) : Leads s.lane.core (execTransientAgeOut unit s) := by
  unfold execTransientAgeOut
  (repeat' split) <;> simp

@[simp] theorem execMbistChunk_leads (mem : BistMemory) (ok : Bool) (s : State) :
    Leads s.lane.core (execMbistChunk mem ok s) := by
  simp [execMbistChunk]

@[simp] theorem execReplicaCompare_leads (attributable : Bool) (s : State) :
    Leads s.lane.core (execReplicaCompare attributable s) := by
  simp [execReplicaCompare]

@[simp] theorem execBistRequest_leads (sid : BitVec 16) (grp : Fin 3) (s : State) :
    Leads s.lane.core (execBistRequest sid grp s) := by
  simp [execBistRequest]

@[simp] theorem execBistAbort_leads (sid : BitVec 16) (s : State) : Leads s.lane.core (execBistAbort sid s) := by
  simp [execBistAbort]

@[simp] theorem execBistperExpire_leads (s : State) : Leads s.lane.core (execBistperExpire s) := by
  simp [execBistperExpire]

@[simp] theorem execPlannedBistStart_leads (s : State) : Leads s.lane.core (execPlannedBistStart s) := by
  unfold execPlannedBistStart
  (repeat' split) <;> simp

@[simp] theorem execVfuseChange_leads (present : Bool) (s : State) : Leads s.lane.core (execVfuseChange present s) := by
  simp [execVfuseChange]

@[simp] theorem execSvBurnStep_leads (readBack : Bool) (s : State) : Leads s.lane.core (execSvBurnStep readBack s) := by
  unfold execSvBurnStep
  (repeat' split) <;> simp

@[simp] theorem execKeyburn_leads (sid : BitVec 16) (s : State) : Leads s.lane.core (execKeyburn sid s) := by
  simp [execKeyburn]

/-! ### Resets and straps -/

@[simp] theorem execRailAbove_leads (r : Rail) (s : State) : Leads s.lane.core (execRailAbove r s) := by
  simp [execRailAbove]

@[simp] theorem execResetNRise_leads (s0 s1 s2 : BitVec 14) (s : State) : Leads s.lane.core (execResetNRise s0 s1 s2 s) := by
  unfold execResetNRise
  rw [leads_next]
  split
  · rename_i may
    simp only [Bool.and_eq_true, decide_eq_true_eq] at may
    have reset : s.lane.core.st = .reset := may.2
    dsimp only
    split
    · exact .refl s.lane.core
    · exact State.strapSample_moves (s := { s with pins.resetN := true }) (.refl s.lane.core)
        (ne_of_eq_of_ne reset (by decide)) ..
  · exact .refl _

@[simp] theorem execStrapResample_leads (s0 s1 s2 : BitVec 14) (s : State) :
    Leads s.lane.core (execStrapResample s0 s1 s2 s) := by
  unfold execStrapResample
  rw [leads_next]
  split
  · rename_i may
    simp only [Bool.and_eq_true, decide_eq_true_eq] at may
    obtain ⟨⟨⟨⟨_, reset⟩, _⟩, _⟩, _⟩ := may
    refine State.strapSample_moves ?_ ?_ ..
    · split <;> exact .refl s.lane.core
    · split <;> exact ne_of_eq_of_ne (show s.lane.core.st = .reset from reset) (by decide)
  · exact .refl _

@[simp] theorem execRestartQualified_leads (s : State) : Leads s.lane.core (execRestartQualified s) := by
  simp [execRestartQualified]

@[simp] theorem execRestartWindowExpire_leads (s : State) : Leads s.lane.core (execRestartWindowExpire s) := by
  simp [execRestartWindowExpire]

@[simp] theorem execConsentLost_leads (k : Fin 2) (s : State) : Leads s.lane.core (execConsentLost k s) := by
  simp [execConsentLost]

@[simp] theorem execConsentPresent_leads (k : Fin 2) (s : State) : Leads s.lane.core (execConsentPresent k s) := by
  have set := State.setCons_moves (s := s.advance (s.pins.now + 2000)) (.refl _) k true
  simp [execConsentPresent]
  exact fun _ => set

@[simp] theorem execPfailFall_leads (s : State) : Leads s.lane.core (execPfailFall s) := by
  simp [execPfailFall]

@[simp] theorem execPfailRise_leads (s : State) : Leads s.lane.core (execPfailRise s) := by
  simp [execPfailRise]

/-! ### TEST and LOAD -/

@[simp] theorem execTestEnd_leads (fusesOk mbistOk lbistOk norAOk norBOk : Bool) (s : State) :
    Leads s.lane.core (execTestEnd fusesOk mbistOk lbistOk norAOk norBOk s) := by
  have load : s.lane.st = .test → LaneCore.Moves s.lane.core s.enterLoad.lane.core := fun test =>
    State.enterLoad_moves (.refl _) (ne_of_eq_of_ne test (by decide))
  unfold execTestEnd
  dsimp only
  (repeat' split) <;> simp_all

@[simp] theorem execNorBlockRead_leads (chip : Chip) (k : Fin 255) (data : List Byte) (s : State) :
    Leads s.lane.core (execNorBlockRead chip k data s) := by
  unfold execNorBlockRead
  dsimp only
  (repeat' split) <;> simp

@[simp] theorem execLoadEnd_leads (st : Station) (s : State) : Leads s.lane.core (execLoadEnd st s) := by
  unfold execLoadEnd
  rw [leads_next]
  split
  · rename_i load
    split
    · exact .refl _
    · exact State.loadPass_moves (.refl _) (ne_of_eq_of_ne load.1 (by decide)) st
    · dsimp only
      split <;> simp
  · exact .refl _

/-! ### Updates -/

@[simp] theorem execWriteOperationDone_leads (ok : Bool) (s : State) : Leads s.lane.core (execWriteOperationDone ok s) := by
  unfold execWriteOperationDone
  (repeat' split) <;> simp

@[simp] theorem execUpdOpen_leads (sid : BitVec 16) (s : State) : Leads s.lane.core (execUpdOpen sid s) := by
  simp [execUpdOpen]

@[simp] theorem execBlock_leads (sid : BitVec 16) (s : State) : Leads s.lane.core (execBlock sid s) := by
  simp [execBlock]

@[simp] theorem execFinish_leads (sid : BitVec 16) (s : State) : Leads s.lane.core (execFinish sid s) := by
  simp [execFinish]

@[simp] theorem execAbort_leads (sid : BitVec 16) (s : State) : Leads s.lane.core (execAbort sid s) := by
  simp [execAbort]

@[simp] theorem execRelease_leads (sid : BitVec 16) (s : State) : Leads s.lane.core (execRelease sid s) := by
  simp [execRelease]

@[simp] theorem execActivate_leads (sid : BitVec 16) (s : State) : Leads s.lane.core (execActivate sid s) := by
  simp [execActivate]

@[simp] theorem execHandover_leads (sid : BitVec 16) (dropf : Bool) (s : State) :
    Leads s.lane.core (execHandover sid dropf s) := by
  simp [execHandover]

@[simp] theorem execOnline_leads (sid : BitVec 16) (s : State) : Leads s.lane.core (execOnline sid s) := by
  simp [execOnline]

@[simp] theorem execForce_leads (sid : BitVec 16) (s : State) : Leads s.lane.core (execForce sid s) := by
  simp [execForce]

@[simp] theorem execUnforce_leads (sid : BitVec 16) (s : State) : Leads s.lane.core (execUnforce sid s) := by
  simp [execUnforce]

@[simp] theorem execReload_leads (sid : BitVec 16) (s : State) : Leads s.lane.core (execReload sid s) := by
  simp [execReload]

@[simp] theorem execBlkWrite_leads (sid : BitVec 16) (value : Word) (s : State) :
    Leads s.lane.core (execBlkWrite sid value s) := by
  simp [execBlkWrite]

@[simp] theorem execBdataWrite_leads (sid : BitVec 16) (value : Word) (s : State) :
    Leads s.lane.core (execBdataWrite sid value s) := by
  simp [execBdataWrite]

@[simp] theorem execDigestVote_leads (s : State) : Leads s.lane.core (execDigestVote s) := by
  simp [execDigestVote]

@[simp] theorem execConfirmationEnd_leads (s : State) : Leads s.lane.core (execConfirmationEnd s) := by
  unfold execConfirmationEnd
  (repeat' split) <;> simp

/-! ### Lane commands -/

@[simp] theorem execMakesafe_leads (sid : BitVec 16) (s : State) : Leads s.lane.core (execMakesafe sid s) := by
  simp [execMakesafe]

@[simp] theorem execRestart_leads (sid : BitVec 16) (s : State) : Leads s.lane.core (execRestart sid s) := by
  simp [execRestart]

@[simp] theorem execStop_leads (sid : BitVec 16) (s : State) : Leads s.lane.core (execStop sid s) := by
  simp [execStop]

@[simp] theorem execHold_leads (sid : BitVec 16) (s : State) : Leads s.lane.core (execHold sid s) := by
  simp [execHold]

@[simp] theorem execLeavehold_leads (sid : BitVec 16) (s : State) : Leads s.lane.core (execLeavehold sid s) := by
  simp [execLeavehold]

@[simp] theorem execResume_leads (sid : BitVec 16) (s : State) : Leads s.lane.core (execResume sid s) := by
  simp [execResume]

@[simp] theorem execSwitchover_leads (sid : BitVec 16) (s : State) : Leads s.lane.core (execSwitchover sid s) := by
  simp [execSwitchover]

@[simp] theorem execAbortsw_leads (sid : BitVec 16) (s : State) : Leads s.lane.core (execAbortsw sid s) := by
  simp [execAbortsw]

@[simp] theorem execCapture_leads (sid : BitVec 16) (s : State) : Leads s.lane.core (execCapture sid s) := by
  simp [execCapture]

@[simp] theorem execStepRung_leads (sid : BitVec 16) (s : State) : Leads s.lane.core (execStepRung sid s) := by
  simp [execStepRung]

@[simp] theorem execStepRegion_leads (sid : BitVec 16) (s : State) : Leads s.lane.core (execStepRegion sid s) := by
  simp [execStepRegion]

@[simp] theorem execStepScan_leads (sid : BitVec 16) (s : State) : Leads s.lane.core (execStepScan sid s) := by
  simp [execStepScan]

@[simp] theorem execStepComplete_leads (s : State) : Leads s.lane.core (execStepComplete s) := by
  simp [execStepComplete]

/-! ### Maintenance access -/

@[simp] theorem execRegisterWrite_leads (sid : BitVec 16) (addr : BitVec 24) (value : Word) (s : State) :
    Leads s.lane.core (execRegisterWrite sid addr value s) := by
  unfold execRegisterWrite
  rw [leads_next]
  split
  · split
    · split <;> exact .refl _
    · split
      · exact State.regWrite_moves (s := s.useToken _) (.refl _) ..
      · exact .refl _
    · exact State.plainWrite_moves (.refl _) (fun _ k => State.regWrite_moves k ..) ..
    · exact State.plainWrite_moves (.refl _) (fun _ k => State.regWrite_moves k ..) ..
    · exact State.command_moves (.refl _) (fun _ k => State.regWrite_moves k ..) ..
  · exact .refl _

@[simp] theorem execMapRequest_leads (bytes : List Byte) (s : State) : Leads s.lane.core (execMapRequest bytes s) := by
  simp [execMapRequest]

@[simp] theorem execFmpDatagram_leads (p : Peer) (bytes : List Byte) (s : State) :
    Leads s.lane.core (execFmpDatagram p bytes s) := by
  have served (k : Nat) : LaneCore.Moves s.lane.core ((s.fmpTaken k).fmpServe p bytes).lane.core :=
    State.fmpServe_moves (s := s.fmpTaken k) (.refl _) p bytes
  unfold execFmpDatagram
  dsimp only
  (repeat' split) <;> simp [served]

@[simp] theorem execSessionOpen_leads (p : Option Peer) (level : BitVec 4) (s : State) :
    Leads s.lane.core (execSessionOpen p level s) := by
  unfold execSessionOpen
  (repeat' split) <;> simp

@[simp] theorem execClose_leads (sid : BitVec 16) (s : State) : Leads s.lane.core (execClose sid s) := by
  simp [execClose]

@[simp] theorem execResponseSubmit_leads (sid : BitVec 16) (hi : Word) (s : State) :
    Leads s.lane.core (execResponseSubmit sid hi s) := by
  simp [execResponseSubmit]

@[simp] theorem execTokenPresent_leads (sid : BitVec 16) (hi : Word) (s : State) :
    Leads s.lane.core (execTokenPresent sid hi s) := by
  simp [execTokenPresent]

@[simp] theorem execTokenExpire_leads (sid : BitVec 16) (s : State) : Leads s.lane.core (execTokenExpire sid s) := by
  unfold execTokenExpire
  (repeat' split) <;> simp

@[simp] theorem execChallengeExpire_leads (sid : BitVec 16) (s : State) : Leads s.lane.core (execChallengeExpire sid s) := by
  unfold execChallengeExpire
  (repeat' split) <;> simp

@[simp] theorem execLockoutExpire_leads (path : Fin 3) (s : State) : Leads s.lane.core (execLockoutExpire path s) := by
  simp [execLockoutExpire]

@[simp] theorem execSessionTimeout_leads (sid : BitVec 16) (s : State) : Leads s.lane.core (execSessionTimeout sid s) := by
  unfold execSessionTimeout
  (repeat' split) <;> simp

end Sys2Proof.Machine
end
section
/-! PROOF. How SAFE ends and how RUN begins (R25, R40, R42): the T0 of a logic cycle, the resets and the restart. -/

namespace Sys2Proof.Machine

open Sys2Proof.Safety

/-! ### The T0 of a logic cycle -/

theorem State.enterProve_moves {c : LaneCore} {s : State} (h : c.Moves s.lane.core) (open_ : s.lane.core.st ≠ .safe) :
    c.Moves s.enterProve.lane.core := by
  have proves := State.setSt_moves (x := .prove) (c := c) (s := { s with lane.proveFrom := none, lane.proveCnt := 0, lane.proved := false })
    h open_ (by decide)
  simpa [State.enterProve] using proves

/-- In SAFE nothing waits for a T0. -/
theorem State.cycleAct_safe {s : State} (safe : s.lane.core.st = .safe) (t0 n : Nat) : s.cycleAct t0 n = s := by
  have safe : s.lane.st = .safe := safe
  simp [State.cycleAct, safe]

theorem State.cycleAct_run {s : State} {t0 n : Nat} (run : (s.cycleAct t0 n).lane.core.st = .run) :
    s.lane.core.st = .run ∨ s.lane.core.cons0 = true ∨ s.lane.core.cons1 = true := by
  by_cases consent : s.lane.core.cons0 = true ∨ s.lane.core.cons1 = true
  · exact .inr consent
  · have lost : s.lane.cons0 = false ∧ s.lane.cons1 = false := by
      rw [← Bool.not_eq_true, ← Bool.not_eq_true]
      exact not_or.mp consent
    suffices m : s.lane.core.st ≠ .safe → LaneCore.Moves s.lane.core (s.cycleAct t0 n).lane.core by
      by_cases safe : s.lane.core.st = .safe
      · rw [State.cycleAct_safe safe] at run
        exact .inl run
      · exact .inl ((m safe).run run)
    intro open_
    unfold State.cycleAct
    split
    · split
      · rw [State.cmdEnd_lane, Lane.core_mk, LaneCore.mk_fields]
        exact State.setSt_moves (.refl s.lane.core) open_ (by decide)
      · exact .refl _
    · (repeat' split) <;> simp [State.enterProve_moves (.refl s.lane.core) open_]
    · simp [lost]
    · split
      · exact State.enterHold_moves (.refl _) open_
      · simp
    · exact .refl _

/-- A state at a T0 of which the T0 of a logic cycle brings something: the clock and what every lane state takes then are past. -/
theorem execLogicCycleBoundary_core {n : Nat} {s t : State} (done : execLogicCycleBoundary n s = .next t) :
    t = s ∨ ∃ (u : State) (t0 : Nat), u.lane.core = s.lane.core ∧ t.lane.core = (u.cycleAct t0 n).lane.core := by
  unfold execLogicCycleBoundary at done
  dsimp only at done
  split at done
  · obtain rfl := Host.Outcome.next.inj done
    exact .inr ⟨_, n * s.logicNs, State.cycleTime_core (s.advanceCt _) _ _, State.commitSet_core _ _⟩
  · exact .inl (Host.Outcome.next.inj done).symm

theorem cycleBoundary_held {n : Nat} {s t : State} (done : execLogicCycleBoundary n s = .next t) (held : HeldSafe s) :
    HeldSafe t := by
  obtain rfl | ⟨u, t0, same, act⟩ := execLogicCycleBoundary_core done
  · exact held
  · have core : t.lane.core = s.lane.core := by rw [act, State.cycleAct_safe (same ▸ held.2), same]
    exact ⟨(congrArg LaneCore.safeLatch core).trans held.1, (congrArg LaneCore.st core).trans held.2⟩

theorem cycleBoundary_run {n : Nat} {s t : State} (done : execLogicCycleBoundary n s = .next t) (run : t.lane.st = .run) :
    s.lane.st = .run ∨ s.lane.cons0 = true ∨ s.lane.cons1 = true := by
  obtain rfl | ⟨u, t0, same, act⟩ := execLogicCycleBoundary_core done
  · exact .inl run
  · have from_ := State.cycleAct_run (s := u) (t0 := t0) (n := n) (act ▸ (show t.lane.core.st = .run from run))
    rw [same] at from_
    exact from_

/-! ### The restart of R42 -/

theorem State.strapSample_open {s : State} (reset : s.lane.core.st = .reset) (s0 s1 s2 : BitVec 14) :
    (s.strapSample s0 s1 s2).lane.core.st ≠ .run := fun run =>
  absurd (reset.symm.trans ((State.strapSample_moves (.refl _) (ne_of_eq_of_ne reset (by decide)) s0 s1 s2).run run)) (by decide)

/-- What comes before the reset of a restart: the end of fall-back, the record, the sessions' ends, and the flush (R42). -/
def State.beforeRestart (s : State) : State :=
  let w := s.freeWord.toNat
  let f := if s.grd.gmode = .fallback then s.freeUsed.fallbackRecord 5 else s.freeUsed
  let a := (({ f with lane.ctl := .completed, lane.window := false } : State).record (bits w 16 3 % 6) 0x0200
    (bits w 0 16) []).cmdEnd
  (a.sessionsEndReset a.sup.sessions).flushNow true

/-- The lane as the reset of a restart leaves it. -/
def State.restarted (b : State) : State :=
  { b.wholeReset .reset .restart with lane.restarted := true, pins.restartLvl := true }

/-- The restart comes down to the straps' sampling in a lane that its reset left in RESET (R42). -/
theorem State.restartRun_eq (s : State) (s0 s1 s2 : BitVec 14) : s.restartRun s0 s1 s2 =
    if s.beforeRestart.restarted.resetHeld (s0.getLsbD 11) then s.beforeRestart.restarted
    else s.beforeRestart.restarted.strapSample s0 s1 s2 := rfl

theorem State.restartRun_open (s : State) (s0 s1 s2 : BitVec 14) : (s.restartRun s0 s1 s2).lane.st ≠ .run := by
  rw [State.restartRun_eq]
  split
  · exact LaneState.noConfusion
  · exact State.strapSample_open rfl s0 s1 s2

@[simp] theorem leads_refused (c : LaneCore) (x : Refusal) : Leads c (.refused x) := by
  intro t e
  cases e

/-- The commands that reset the whole lane, may restart it, or begin a logic cycle. -/
def resetsOrBegins : Instr → Bool
  | .powerOn .. | .lossOfPower | .railBelow .. | .resetNLow | .restartFilteredChange .. | .logicCycleBoundary .. => true
  | _ => false

theorem exec_leads (i : Instr) (s : State) : resetsOrBegins i = true ∨ Leads s.lane.core (exec i s) := by
  cases i <;> simp [resetsOrBegins, exec]

/-- A rise on RESTART outside an armed window, and a fall, leave the core. -/
theorem execRestartFilteredChange_core {level : Bool} {s0 s1 s2 : BitVec 14} {s t : State}
    (done : execRestartFilteredChange level s0 s1 s2 s = .next t) :
    t.lane.core = s.lane.core ∨ (level = true ∧ s.lane.window = true ∧ s.pins.restartQual = true ∧ s.lane.supHalted = false ∧
      ∃ u : State, t = u.restartRun s0 s1 s2) := by
  unfold execRestartFilteredChange at done
  obtain rfl := Host.Outcome.next.inj done
  split
  · split
    · dsimp only
      split
      · split
        · rename_i armed
          simp only [State.evtVio_lane, Bool.and_eq_true, Bool.not_eq_true', decide_eq_true_eq] at armed
          obtain ⟨⟨⟨window, _⟩, halted⟩, _⟩ := armed
          exact .inr ⟨‹_›, window, ‹_›, halted, _, rfl⟩
        · exact .inl (by simp)
      · exact .inl (by simp)
    · exact .inl (by simp)
  · exact .inl rfl

/-- Settles O8: every command but the resets of the whole lane leads from SAFE to SAFE, and in SAFE no T0 brings anything. -/
theorem onlyResetsEndSafe : Obligations.OnlyResetsEndSafe := by
  intro i s t held powered done
  obtain beyond | leads := exec_leads i s
  · cases i with
    | powerOn p r =>
      have same : execPowerOn p r s = .next s := by simp [execPowerOn, powered]
      exact .inl (Host.Outcome.next.inj (same.symm.trans done) ▸ held)
    | lossOfPower => simp
    | railBelow r => simp
    | resetNLow => simp
    | restartFilteredChange level s0 s1 s2 =>
      obtain core | ⟨rise, window, qual, halted, _⟩ := execRestartFilteredChange_core done
      · exact .inl ⟨(congrArg LaneCore.safeLatch core).trans held.1, (congrArg LaneCore.st core).trans held.2⟩
      · simp [rise, window, qual, halted]
    | logicCycleBoundary n => exact .inl (cycleBoundary_held done held)
    | _ => exact absurd beyond (by simp [resetsOrBegins])
  · exact .inl ((leads t done).held held.1 held.2)

theorem open_of_ite {p : Prop} [Decidable p] {a b t : State}
    (done : (.next (if p then a else b) : Host.Outcome State Fault Refusal) = .next t)
    (ha : a.lane.st ≠ .run) (hb : b.lane.st ≠ .run) : t.lane.st ≠ .run := by
  obtain rfl := Host.Outcome.next.inj done
  split
  · exact ha
  · exact hb

/-- Only the T0 of a logic cycle brings a lane into RUN, and only one that declares consent present (R25). -/
theorem exec_run {i : Instr} {s t : State} (done : exec i s = .next t) (run : t.lane.st = .run) (before : s.lane.st ≠ .run) :
    (∃ n, i = .logicCycleBoundary n) ∧ (s.lane.cons0 = true ∨ s.lane.cons1 = true) := by
  obtain beyond | leads := exec_leads i s
  · cases i with
    | powerOn p r => exact absurd run (open_of_ite done before LaneState.noConfusion)
    | lossOfPower => exact absurd run (open_of_ite done LaneState.noConfusion before)
    | railBelow r => exact absurd run (open_of_ite done LaneState.noConfusion before)
    | resetNLow => exact absurd run (open_of_ite done LaneState.noConfusion before)
    | restartFilteredChange level s0 s1 s2 =>
      obtain core | ⟨_, _, _, _, u, rfl⟩ := execRestartFilteredChange_core done
      · exact absurd ((congrArg LaneCore.st core).symm.trans run) before
      · exact absurd run (u.restartRun_open s0 s1 s2)
    | logicCycleBoundary n => exact ⟨⟨n, rfl⟩, (cycleBoundary_run done run).resolve_left before⟩
    | _ => exact absurd beyond (by simp [resetsOrBegins])
  · exact absurd ((leads t done).run run) before

end Sys2Proof.Machine
end
section
/-! PROOF. Single units of the state that the shared operations keep, and what a command answers under its condition. -/

namespace Sys2Proof.Machine

open Sys2Proof.Safety

/-- A fold over a list keeps what each of its steps keeps. -/
theorem State.foldl_keeps {α β : Type} (p : State → β) {f : State → α → State} (h : ∀ s a, p (f s a) = p s) (l : List α)
    (s : State) : p (l.foldl f s) = p s := by
  induction l generalizing s with
  | nil => rfl
  | cons a l ih => rw [List.foldl_cons, ih, h]

/-! ### Which of two states a unit is of -/

@[simp] theorem State.pins_ite (c : Prop) [Decidable c] (s t : State) :
    (if c then s else t).pins = if c then s.pins else t.pins :=
  apply_ite _ _ _ _

@[simp] theorem State.crt_ite (c : Prop) [Decidable c] (s t : State) :
    (if c then s else t).crt = if c then s.crt else t.crt :=
  apply_ite _ _ _ _

@[simp] theorem State.sup_ite (c : Prop) [Decidable c] (s t : State) :
    (if c then s else t).sup = if c then s.sup else t.sup :=
  apply_ite _ _ _ _

@[simp] theorem State.tae_ite (c : Prop) [Decidable c] (s t : State) :
    (if c then s else t).tae = if c then s.tae else t.tae :=
  apply_ite _ _ _ _

@[simp] theorem State.lge_ite (c : Prop) [Decidable c] (s t : State) :
    (if c then s else t).lge = if c then s.lge else t.lge :=
  apply_ite _ _ _ _

@[simp] theorem State.grd_ite (c : Prop) [Decidable c] (s t : State) :
    (if c then s else t).grd = if c then s.grd else t.grd :=
  apply_ite _ _ _ _

@[simp] theorem State.vio_ite (c : Prop) [Decidable c] (s t : State) :
    (if c then s else t).vio = if c then s.vio else t.vio :=
  apply_ite _ _ _ _

@[simp] theorem State.lmp_ite (c : Prop) [Decidable c] (s t : State) :
    (if c then s else t).lmp = if c then s.lmp else t.lmp :=
  apply_ite _ _ _ _

@[simp] theorem State.mea_ite (c : Prop) [Decidable c] (s t : State) :
    (if c then s else t).mea = if c then s.mea else t.mea :=
  apply_ite _ _ _ _

@[simp] theorem State.lnb_ite (c : Prop) [Decidable c] (s t : State) :
    (if c then s else t).lnb = if c then s.lnb else t.lnb :=
  apply_ite _ _ _ _

@[simp] theorem State.fld_ite (c : Prop) [Decidable c] (s t : State) :
    (if c then s else t).fld = if c then s.fld else t.fld :=
  apply_ite _ _ _ _

@[simp] theorem State.cab_ite (c : Prop) [Decidable c] (s t : State) :
    (if c then s else t).cab = if c then s.cab else t.cab :=
  apply_ite _ _ _ _

@[simp] theorem State.rcd_ite (c : Prop) [Decidable c] (s t : State) :
    (if c then s else t).rcd = if c then s.rcd else t.rcd :=
  apply_ite _ _ _ _

@[simp] theorem State.upd_ite (c : Prop) [Decidable c] (s t : State) :
    (if c then s else t).upd = if c then s.upd else t.upd :=
  apply_ite _ _ _ _

@[simp] theorem State.inp_ite (c : Prop) [Decidable c] (s t : State) :
    (if c then s else t).inp = if c then s.inp else t.inp :=
  apply_ite _ _ _ _

@[simp] theorem State.img_ite (c : Prop) [Decidable c] (s t : State) :
    (if c then s else t).img = if c then s.img else t.img :=
  apply_ite _ _ _ _

/-! ### What a command answers under its condition -/

theorem next_of_pos {p : Prop} [Decidable p] {a b : State} (h : p) :
    (.next (if p then a else b) : Host.Outcome State Fault Refusal) = .next a := by rw [if_pos h]

theorem next_of_neg {p : Prop} [Decidable p] {a b : State} (h : ¬ p) :
    (.next (if p then a else b) : Host.Outcome State Fault Refusal) = .next b := by rw [if_neg h]

@[simp] theorem State.setSt_supHalted (s : State) (x : LaneState) : (s.setSt x).lane.supHalted = s.lane.supHalted := by
  unfold State.setSt
  (repeat' split) <;> simp

/-! ### The state image -/

@[simp] theorem State.putCell_crt (s : State) (a : Nat) (c : Cell) : (s.putCell a c).crt = s.crt := rfl

@[simp] theorem State.putCell_pins (s : State) (a : Nat) (c : Cell) : (s.putCell a c).pins = s.pins := rfl

@[simp] theorem State.putCells_crt (s : State) (l : List (Nat × Cell)) : (s.putCells l).crt = s.crt := by
  induction l generalizing s with
  | nil => rfl
  | cons a l ih => simp [State.putCells, ih]

@[simp] theorem State.putCells_pins (s : State) (l : List (Nat × Cell)) : (s.putCells l).pins = s.pins := by
  induction l generalizing s with
  | nil => rfl
  | cons a l ih => simp [State.putCells, ih]

@[simp] theorem State.connsClose_crt (s : State) (l : List Nat) : (s.connsClose l).crt = s.crt := by
  induction l generalizing s with
  | nil => rfl
  | cons a l ih => simp [State.connsClose, ih]

@[simp] theorem State.connsClose_pins (s : State) (l : List Nat) : (s.connsClose l).pins = s.pins := by
  induction l generalizing s with
  | nil => rfl
  | cons a l ih => simp [State.connsClose, ih]

/-! ### The shared operations -/

@[simp] theorem State.record_ctl (s : State) (sev src code : Nat) (data : List Nat) :
    (s.record sev src code data).lane.ctl = s.lane.ctl := by
  obtain ⟨_, _, h⟩ := RecorderOnly.record s sev src code data
  rw [h]

@[simp] theorem State.record_supHalted (s : State) (sev src code : Nat) (data : List Nat) :
    (s.record sev src code data).lane.supHalted = s.lane.supHalted := by
  obtain ⟨_, _, h⟩ := RecorderOnly.record s sev src code data
  rw [h]

@[simp] theorem State.flushNow_safeLatch (s : State) (ok : Bool) : (s.flushNow ok).lane.safeLatch = s.lane.safeLatch := by
  obtain ⟨_, _, h⟩ := RecorderOnly.flushNow s ok
  rw [h]

@[simp] theorem State.flushNow_lge (s : State) (ok : Bool) : (s.flushNow ok).lge = s.lge := by
  obtain ⟨_, _, h⟩ := RecorderOnly.flushNow s ok
  rw [h]

@[simp] theorem State.flushNow_pins (s : State) (ok : Bool) : (s.flushNow ok).pins = s.pins := by
  obtain ⟨_, _, h⟩ := RecorderOnly.flushNow s ok
  rw [h]

@[simp] theorem State.freezeEnd_crt (s : State) (abort : Bool) : (s.freezeEnd abort).crt = s.crt := by
  obtain ⟨_, _, h⟩ := RecorderOnly.freezeEnd s abort
  rw [h]

@[simp] theorem State.freezeEnd_ctl (s : State) (abort : Bool) : (s.freezeEnd abort).lane.ctl = s.lane.ctl := by
  obtain ⟨_, _, h⟩ := RecorderOnly.freezeEnd s abort
  rw [h]

@[simp] theorem State.freezeEnd_safeLatch (s : State) (abort : Bool) :
    (s.freezeEnd abort).lane.safeLatch = s.lane.safeLatch := by
  obtain ⟨_, _, h⟩ := RecorderOnly.freezeEnd s abort
  rw [h]

@[simp] theorem State.freezeEnd_supHalted (s : State) (abort : Bool) :
    (s.freezeEnd abort).lane.supHalted = s.lane.supHalted := by
  obtain ⟨_, _, h⟩ := RecorderOnly.freezeEnd s abort
  rw [h]

@[simp] theorem State.freezeEnd_lge (s : State) (abort : Bool) : (s.freezeEnd abort).lge = s.lge := by
  obtain ⟨_, _, h⟩ := RecorderOnly.freezeEnd s abort
  rw [h]

@[simp] theorem State.freezeEnd_pins (s : State) (abort : Bool) : (s.freezeEnd abort).pins = s.pins := by
  obtain ⟨_, _, h⟩ := RecorderOnly.freezeEnd s abort
  rw [h]

@[simp] theorem State.forceRecord_crt (s : State) (a what : Nat) : (s.forceRecord a what).crt = s.crt := by
  simp [State.forceRecord]

@[simp] theorem State.forceRecord_ctl (s : State) (a what : Nat) : (s.forceRecord a what).lane.ctl = s.lane.ctl := by
  simp [State.forceRecord]

@[simp] theorem State.forceRecord_supHalted (s : State) (a what : Nat) :
    (s.forceRecord a what).lane.supHalted = s.lane.supHalted := by
  simp [State.forceRecord]

@[simp] theorem State.forceRecord_lge (s : State) (a what : Nat) : (s.forceRecord a what).lge = s.lge := by
  simp [State.forceRecord]

@[simp] theorem State.forceRecord_pins (s : State) (a what : Nat) : (s.forceRecord a what).pins = s.pins := by
  simp [State.forceRecord]

@[simp] theorem State.forcesRelease_crt (s : State) : (s.forcesRelease).crt = s.crt := by
  obtain ⟨_, _, _, h⟩ := State.forcesRelease_only s
  rw [h]

@[simp] theorem State.forcesRelease_ctl (s : State) : (s.forcesRelease).lane.ctl = s.lane.ctl := by
  obtain ⟨_, _, _, h⟩ := State.forcesRelease_only s
  rw [h]

@[simp] theorem State.forcesRelease_supHalted (s : State) : (s.forcesRelease).lane.supHalted = s.lane.supHalted := by
  obtain ⟨_, _, _, h⟩ := State.forcesRelease_only s
  rw [h]

@[simp] theorem State.forcesRelease_lge (s : State) : (s.forcesRelease).lge = s.lge := by
  obtain ⟨_, _, _, h⟩ := State.forcesRelease_only s
  rw [h]

@[simp] theorem State.forcesRelease_pins (s : State) : (s.forcesRelease).pins = s.pins := by
  obtain ⟨_, _, _, h⟩ := State.forcesRelease_only s
  rw [h]

@[simp] theorem State.wavesCut_crt (s : State) : (s.wavesCut).crt = s.crt := rfl

@[simp] theorem State.wavesCut_pins (s : State) : (s.wavesCut).pins = s.pins := rfl

@[simp] theorem State.learnDone_crt (s : State) (failed : Bool) : (s.learnDone failed).crt = s.crt := by
  unfold State.learnDone
  split <;> simp

@[simp] theorem State.learnDone_ctl (s : State) (failed : Bool) : (s.learnDone failed).lane.ctl = s.lane.ctl := by
  unfold State.learnDone
  split <;> simp

@[simp] theorem State.learnDone_supHalted (s : State) (failed : Bool) :
    (s.learnDone failed).lane.supHalted = s.lane.supHalted := by
  unfold State.learnDone
  split <;> simp

@[simp] theorem State.learnDone_lge (s : State) (failed : Bool) : (s.learnDone failed).lge = s.lge := by
  unfold State.learnDone
  split <;> simp

@[simp] theorem State.learnDone_pins (s : State) (failed : Bool) : (s.learnDone failed).pins = s.pins := by
  unfold State.learnDone
  split <;> simp

@[simp] theorem State.learnDark_crt (s : State) : (s.learnDark).crt = s.crt := by
  unfold State.learnDark
  split <;> simp

@[simp] theorem State.learnDark_ctl (s : State) : (s.learnDark).lane.ctl = s.lane.ctl := by
  unfold State.learnDark
  (repeat' split) <;> simp

@[simp] theorem State.learnDark_supHalted (s : State) : (s.learnDark).lane.supHalted = s.lane.supHalted := by
  unfold State.learnDark
  (repeat' split) <;> simp

@[simp] theorem State.learnDark_lge (s : State) : (s.learnDark).lge = s.lge := by
  unfold State.learnDark
  split <;> simp

@[simp] theorem State.learnDark_pins (s : State) : (s.learnDark).pins = s.pins := by
  unfold State.learnDark
  split <;> simp

@[simp] theorem State.lampsDark_crt (s0 : State) : (s0.lampsDark).crt = s0.crt := by
  simp [State.lampsDark]

@[simp] theorem State.lampsDark_ctl (s0 : State) : (s0.lampsDark).lane.ctl = s0.lane.ctl := by
  simp [State.lampsDark]

@[simp] theorem State.lampsDark_supHalted (s0 : State) : (s0.lampsDark).lane.supHalted = s0.lane.supHalted := by
  simp [State.lampsDark]

@[simp] theorem State.lampsDark_lge (s0 : State) : (s0.lampsDark).lge = s0.lge := by
  simp [State.lampsDark]

@[simp] theorem State.lampsDark_pins (s0 : State) : (s0.lampsDark).pins = s0.pins := by
  simp [State.lampsDark]

@[simp] theorem State.canFail_crt (s : State) (cause : Nat) (f : TxEntry → Bool) : (s.canFail cause f).crt = s.crt := by
  simp [State.canFail]

@[simp] theorem State.canFail_ctl (s : State) (cause : Nat) (f : TxEntry → Bool) :
    (s.canFail cause f).lane.ctl = s.lane.ctl := by
  unfold State.canFail
  dsimp only
  split <;> simp

@[simp] theorem State.canFail_supHalted (s : State) (cause : Nat) (f : TxEntry → Bool) :
    (s.canFail cause f).lane.supHalted = s.lane.supHalted := by
  unfold State.canFail
  dsimp only
  split <;> simp

@[simp] theorem State.canFail_lge (s : State) (cause : Nat) (f : TxEntry → Bool) : (s.canFail cause f).lge = s.lge := by
  simp [State.canFail]

@[simp] theorem State.canFail_pins (s : State) (cause : Nat) (f : TxEntry → Bool) : (s.canFail cause f).pins = s.pins := by
  simp [State.canFail]

@[simp] theorem State.canSafe_crt (s : State) : (s.canSafe).crt = s.crt := by
  simp [State.canSafe]

@[simp] theorem State.canSafe_ctl (s : State) : (s.canSafe).lane.ctl = s.lane.ctl := by
  simp [State.canSafe]

@[simp] theorem State.canSafe_supHalted (s : State) : (s.canSafe).lane.supHalted = s.lane.supHalted := by
  simp [State.canSafe]

@[simp] theorem State.canSafe_lge (s : State) : (s.canSafe).lge = s.lge := by
  simp [State.canSafe]

@[simp] theorem State.canSafe_pins (s : State) : (s.canSafe).pins = s.pins := by
  simp [State.canSafe]

@[simp] theorem State.lgeHalt_crt (s : State) : (s.lgeHalt).crt = s.crt := rfl

@[simp] theorem State.lgeHalt_pins (s : State) : (s.lgeHalt).pins = s.pins := rfl

@[simp] theorem State.entryDrop_crt (s : State) : (s.entryDrop).crt = s.crt := by
  simp [State.entryDrop]

@[simp] theorem State.entryDrop_supHalted (s : State) : (s.entryDrop).lane.supHalted = s.lane.supHalted := by
  unfold State.entryDrop
  dsimp only
  (repeat' split) <;> simp

@[simp] theorem State.entryDrop_pins (s : State) : (s.entryDrop).pins = s.pins := by
  simp [State.entryDrop]

@[simp] theorem State.ctlOvertaken_crt (s0 : State) : (s0.ctlOvertaken).crt = s0.crt := by
  unfold State.ctlOvertaken
  dsimp only
  (repeat' split) <;> simp

@[simp] theorem State.ctlOvertaken_supHalted (s0 : State) : (s0.ctlOvertaken).lane.supHalted = s0.lane.supHalted := by
  unfold State.ctlOvertaken
  dsimp only
  (repeat' split) <;> simp

@[simp] theorem State.ctlOvertaken_pins (s0 : State) : (s0.ctlOvertaken).pins = s0.pins := by
  unfold State.ctlOvertaken
  dsimp only
  (repeat' split) <;> simp

@[simp] theorem State.leaveVote_crt (s0 : State) : (s0.leaveVote).crt = s0.crt := by
  simp [State.leaveVote]

@[simp] theorem State.leaveVote_ctl (s0 : State) : (s0.leaveVote).lane.ctl = s0.lane.ctl := by
  simp [State.leaveVote, State.connsClose_lane, State.putCells_lane]

@[simp] theorem State.leaveVote_supHalted (s0 : State) : (s0.leaveVote).lane.supHalted = s0.lane.supHalted := by
  simp [State.leaveVote, State.connsClose_lane, State.putCells_lane]

@[simp] theorem State.leaveVote_pins (s0 : State) : (s0.leaveVote).pins = s0.pins := by
  simp [State.leaveVote]

@[simp] theorem State.maskPatch_crt (s : State) (m : Nat) : (s.maskPatch m).crt = s.crt := by
  simp [State.maskPatch]

@[simp] theorem State.maskPatch_pins (s : State) (m : Nat) : (s.maskPatch m).pins = s.pins := by
  simp [State.maskPatch]

@[simp] theorem State.enterSafe_crt (s : State) (cause : Nat) : (s.enterSafe cause).crt = s.crt := by
  simp [State.enterSafe]

@[simp] theorem State.enterSafe_supHalted (s : State) (cause : Nat) :
    (s.enterSafe cause).lane.supHalted = s.lane.supHalted := by
  unfold State.enterSafe
  dsimp only
  (repeat' split) <;> simp

@[simp] theorem State.enterSafe_pins (s : State) (cause : Nat) : (s.enterSafe cause).pins = s.pins := by
  simp [State.enterSafe]

/-! ### The recorder -/

@[simp] theorem State.legVoid_crt (s : State) : (s.legVoid).crt = s.crt := rfl

@[simp] theorem State.legVoid_pins (s : State) : (s.legVoid).pins = s.pins := rfl

/-! ### Resets and straps -/

@[simp] theorem State.pfailRecord_crt (s : State) : (s.pfailRecord).crt = s.crt := by
  simp [State.pfailRecord]

@[simp] theorem State.pfailRecord_pins (s : State) : (s.pfailRecord).pins = s.pins := by
  simp [State.pfailRecord]

end Sys2Proof.Machine
end
section
/-! PROOF. The causes of SAFE, consent, and how RUN is entered (R23, R25, R34 to R37, R604). -/

namespace Sys2Proof.Machine

open Sys2Proof.Safety

/-! ### Entry into SAFE -/

theorem State.ctlOvertaken_ctl {s : State} (runs : s.ctlRuns = false) (sw : s.lane.ctlSw = false) :
    s.ctlOvertaken.lane.ctl = s.lane.ctl := by
  obtain ⟨⟨⟨hold, resume⟩, _⟩, own⟩ : ((s.lane.holdPend = false ∧ s.lane.resumePend = false) ∧ s.lane.window = false) ∧
      s.ownSwitch false = false := by simpa [State.ctlRuns] using runs
  have drop : s.entryDrop.lane.ctl = s.lane.ctl ∧ s.entryDrop.lane.holdPend = false ∧ s.entryDrop.lane.resumePend = false ∧
      s.entryDrop.lane.switch = s.lane.switch := by
    unfold State.entryDrop
    dsimp only
    (repeat' split) <;> simp_all
  obtain ⟨ctl, hold', resume', switch⟩ := drop
  unfold State.ctlOvertaken
  simp only [hold', resume', Bool.or_self, Bool.false_eq_true, if_false, switch]
  split
  · rename_i x at_
    (repeat' split) <;> simp_all [State.ownSwitch]
  · exact ctl

/-- Entry into SAFE ends the scan and keeps the status of a lane command that has ended (R37). -/
theorem State.enterSafe_scan (s : State) (cause : Nat) (latch : s.lane.safeLatch = false) :
    (s.enterSafe cause).lge.scan = false := by
  simp [State.enterSafe, latch, State.lgeHalt]

theorem State.enterSafe_ctl {s : State} (cause : Nat) (latch : s.lane.safeLatch = false) (runs : s.ctlRuns = false)
    (sw : s.lane.ctlSw = false) : (s.enterSafe cause).lane.ctl = s.lane.ctl := by
  have kept := State.ctlOvertaken_ctl
    (s := { s with lane.safeLatch := true, lane.scause := cause, lane.smask := 1 <<< (cause - 1), lane.safeAt := s.pins.now,
                   lane.safeRun := decide (s.lane.st = .run) }) runs sw
  have fresh (t : State) : (t.setSt .safe).lane.ctl = t.lane.ctl := by
    unfold State.setSt
    (repeat' split) <;> simp
  rw [State.enterSafe, if_neg (by simp [latch])]
  dsimp only
  split <;> simp [fresh, State.lgeHalt, kept]

/-- What the entry into SAFE brings in a lane that is not in it (R34, R37). -/
theorem State.enterSafe_held (s : State) (cause : Nat) (latch : s.lane.safeLatch = false) :
    HeldSafe (s.enterSafe cause) ∧ (s.enterSafe cause).lane.scause = cause ∧ (s.enterSafe cause).lane.driving = false ∧
    (s.enterSafe cause).lge.scan = false := by
  obtain ⟨st, safe, drives, why⟩ := State.enterSafe_safe s cause latch
  exact ⟨⟨safe, st⟩, why, drives, State.enterSafe_scan s cause latch⟩

/-! ### Consent (R23, R25) -/

/-- The consent declared on the other XIN. -/
def State.otherCons (s : State) (k : Fin 2) : Bool := if k = 0 then s.lane.cons1 else s.lane.cons0

theorem State.setCons_eq (s : State) (k : Fin 2) (b : Bool) :
    s.setCons k b = if k = 0 then { s with lane.cons0 := b } else { s with lane.cons1 := b } := by
  simp only [State.setCons, Fin.ext_iff, Fin.val_zero]

theorem State.setCons_lost (s : State) (k : Fin 2) :
    (!(s.setCons k false).lane.cons0 && !(s.setCons k false).lane.cons1) = !s.otherCons k := by
  rw [State.setCons_eq, State.otherCons]
  split <;> simp

@[simp] theorem State.setCons_st (s : State) (k : Fin 2) (b : Bool) : (s.setCons k b).lane.st = s.lane.st := by
  unfold State.setCons
  split <;> rfl

@[simp] theorem State.setCons_safeLatch (s : State) (k : Fin 2) (b : Bool) :
    (s.setCons k b).lane.safeLatch = s.lane.safeLatch := by
  unfold State.setCons
  split <;> rfl

@[simp] theorem State.setCons_safeRun (s : State) (k : Fin 2) (b : Bool) :
    (s.setCons k b).lane.safeRun = s.lane.safeRun := by
  unfold State.setCons
  split <;> rfl

theorem execConsentLost_eq (k : Fin 2) {s : State} (powered : s.pins.powered = true) :
    execConsentLost k s = .next (if (decide (s.lane.st = .run) || (s.lane.safeLatch && s.lane.safeRun)) && !s.otherCons k then
      (s.setCons k false).enterSafe 2 else s.setCons k false) := by
  simp only [execConsentLost, powered, if_true, State.setCons_st, State.setCons_safeLatch, State.setCons_safeRun,
    Bool.and_assoc, State.setCons_lost]

theorem consentLost_safe (k : Fin 2) (s : State) (powered : s.pins.powered = true) (latch : s.lane.safeLatch = false)
    (run : s.lane.st = .run) (other : s.otherCons k = false) :
    Answers (.consentLost k) s fun t => HeldSafe t ∧ t.lane.scause = 2 ∧ t.lane.driving = false ∧ t.lge.scan = false := by
  refine ⟨_, execConsentLost_eq k powered, ?_⟩
  rw [if_pos (by simp [run, other])]
  exact State.enterSafe_held _ 2 (by simpa using latch)

theorem consentLost_only (k : Fin 2) (s : State) (powered : s.pins.powered = true)
    (one : (s.lane.st ≠ .run ∧ (s.lane.safeLatch && s.lane.safeRun) = false) ∨ s.otherCons k = true) :
    Answers (.consentLost k) s fun t => t = if k = 0 then { s with lane.cons0 := false } else { s with lane.cons1 := false } := by
  refine ⟨_, execConsentLost_eq k powered, ?_⟩
  refine (if_neg ?_).trans (s.setCons_eq k false)
  obtain ⟨out, past⟩ | other := one
  · simp [out, past]
  · simp [other]

theorem consentPresent_only (k : Fin 2) (s : State) (powered : s.pins.powered = true) :
    Answers (.consentPresent k) s fun t =>
      t.lane.cons0 = (decide (k = 0) || s.lane.cons0) ∧
      t.lane.cons1 = (decide (k = 1) || s.lane.cons1) ∧ t.lane.st = s.lane.st ∧
      t = { s with pins.now := t.pins.now, lane.cons0 := t.lane.cons0, lane.cons1 := t.lane.cons1 } := by
  refine ⟨(s.advance (s.pins.now + 2000)).setCons k true, by simp [exec, execConsentPresent, powered], ?_⟩
  fin_cases k <;> exact ⟨rfl, rfl, rfl, rfl⟩

/-! ### Power failure, lockstep and make-safe (R34, R36) -/

theorem State.pfailRecord_safeLatch (s : State) : s.pfailRecord.lane.safeLatch = s.lane.safeLatch := by
  unfold State.pfailRecord
  dsimp only
  split <;> simp [State.legVoid]

/-- A PFAIL_N fall with PFEN in effect, in CLOCK or later: with a root clock the record and the flush come with the SAFE (R521,
R626). -/
theorem execPfailFall_eq {s : State} (powered : s.pins.powered = true) : execPfailFall s =
    .next (if s.pfen && s.crtRuns && s.crt.rootLost then State.enterSafe { s with pins.pfailHigh := false } 4
      else if s.pfen && s.crtRuns then
        { ((((State.pfailRecord { s with pins.pfailHigh := false }).enterSafe 4).flushNow true).evtRec 5) with rcd.closed := true }
      else { s with pins.pfailHigh := false }) := by
  unfold execPfailFall
  rw [if_pos powered]
  rfl

theorem pfailFall_safe (s : State) (powered : s.pins.powered = true) (latch : s.lane.safeLatch = false)
    (pfen : s.pfen = true)
    (runs : s.crtRuns = true) (root : s.crt.rootLost = false) :
    Answers .pfailFall s fun t => HeldSafe t ∧ t.lane.scause = 4 ∧ t.lane.driving = false ∧ t.lge.scan = false ∧
      t.pins.pfailHigh = false ∧ t.rcd.closed = true := by
  refine ⟨_, execPfailFall_eq powered, ?_⟩
  rw [pfen, runs, root, if_neg (by simp), if_pos (by simp)]
  generalize low : State.pfailRecord { s with pins.pfailHigh := false } = u
  have latch' : u.lane.safeLatch = false := low ▸ (State.pfailRecord_safeLatch _).trans latch
  have ball : u.pins.pfailHigh = false := low ▸ congrArg Pins.pfailHigh (State.pfailRecord_pins _)
  obtain ⟨⟨safe, st⟩, why, drives, scan⟩ := State.enterSafe_held u 4 latch'
  have only := (RecorderOnly.flushNow (u.enterSafe 4) true).trans (RecorderOnly.evtRec _ 5)
  exact ⟨⟨only.safeLatch_eq.trans safe, only.st_eq.trans st⟩, only.scause_eq.trans why, only.driving_eq.trans drives,
    (congrArg Lge.scan only.lge_eq).trans scan,
    (congrArg Pins.pfailHigh (only.pins_eq.trans (State.enterSafe_pins u 4))).trans ball, rfl⟩

theorem pfailFall_only (s : State) (powered : s.pins.powered = true) (pfen : s.pfen = false) :
    Answers .pfailFall s fun t => t = { s with pins.pfailHigh := false } :=
  ⟨_, execPfailFall_eq powered, by simp only [pfen, Bool.false_and, Bool.false_eq_true, if_false]⟩

/-- A lockstep mismatch halts SUP, and shows in MONST (R556). -/
theorem State.lockstep_halts (s : State) (kind d0 : Nat) (latch : s.lane.safeLatch = false) :
    HeldSafe (s.lockstep kind d0) ∧ (s.lockstep kind d0).lane.scause = 6 ∧ (s.lockstep kind d0).lane.supHalted = true ∧
    (s.lockstep kind d0).crt.monst = putBit s.crt.monst 18 true ∧ (s.lockstep kind d0).lane.driving = false := by
  obtain ⟨held, why⟩ := State.lockstep_safe s kind d0 latch
  obtain ⟨_, _, drives, _⟩ := State.enterSafe_held
    { s with crt.monst := putBit s.crt.monst 18 true, lane.supHalted := true } 6 latch
  exact ⟨held, why, by simp [State.lockstep], by simp [State.lockstep], by simpa [State.lockstep] using drives⟩

/-- A lane command whose condition holds is accepted where none runs: its record is made, and it begins (R600). -/
theorem State.ctlOp_accepted {s : State} (idle : s.ctlRuns = false) (op sid : Nat) (f : State → State) :
    s.ctlOp op sid true f = f { s.cmdRecord op sid with lane.ctlSw := decide (op = 7) } := by
  simp [State.ctlOp, idle]

/-- The state from which an accepted lane command begins differs in the recorder and in CTLSW only. -/
theorem State.ctlOp_from (s : State) (op sid : Nat) :
    ∃ r a, ({ s.cmdRecord op sid with lane.ctlSw := decide (op = 7) } : State) =
    { s with rcd := r, lane.attn := a, lane.ctlSw := decide (op = 7) } := by
  obtain ⟨r, a, h⟩ := RecorderOnly.record s 2 0x0200 0x0213 [op, s.pathOf sid]
  exact ⟨r, a, by rw [State.cmdRecord, h]⟩

theorem makesafe_safe (sid : BitVec 16) (s : State) (auth : Authorised s sid 0x28 1 2) (st : s.lane.st ≠ .safe)
    (latch : s.lane.safeLatch = false) (idle : s.ctlRuns = false) :
    Answers (.makesafe sid) s fun t => HeldSafe t ∧ t.lane.scause = 7 ∧ t.lane.driving = false ∧ t.lane.ctl = .completed := by
  have serves : s.supServes = true := by
    obtain ⟨_, _, serves, _⟩ := auth
    exact serves
  have may : ((s.useToken sid.toNat).supServes && decide ((s.useToken sid.toNat).lane.st ≠ .safe)) = true :=
    Bool.and_eq_true_iff.mpr ⟨serves, decide_eq_true st⟩
  obtain ⟨r, a, from_⟩ := (s.useToken sid.toNat).ctlOp_from 1 sid.toNat
  refine ⟨_, congrArg Host.Outcome.next (State.command_authorised _ auth), ?_⟩
  simp only [State.ctlCmd, State.makesafe, may]
  rw [State.ctlOp_accepted (s := s.useToken _) idle, from_]
  obtain ⟨held, why, drives, _⟩ := State.enterSafe_held
    (State.ctlDone { s.useToken sid.toNat with rcd := r, lane.attn := a, lane.ctlSw := decide (1 = 7) }) 7 latch
  exact ⟨held, why, drives, State.enterSafe_ctl 7 latch idle rfl⟩

/-- Settles O6, clause by clause; RUN is entered at the T0 of a logic cycle only by `exec_run`. -/
theorem safeCausesAndConsent : Obligations.SafeCausesAndConsent :=
  ⟨consentLost_safe, consentLost_only, pfailFall_safe, pfailFall_only,
   fun _ d s lock halted latch => ⟨_, next_of_pos (by simp [lock, halted]), State.lockstep_halts s _ d.toNat latch⟩,
   fun d s lock halted latch => ⟨_, next_of_pos (by simp [lock, halted]), State.lockstep_halts s 2 d.toNat latch⟩,
   makesafe_safe, fun _ _ _ => exec_run, consentPresent_only⟩

end Sys2Proof.Machine
end
section
/-! PROOF. Power, the resets of the whole lane and the straps (R13, R454, R559, R623). -/

namespace Sys2Proof.Machine

open Sys2Proof.Safety

/-! ### The shared operations -/

@[simp] theorem State.recDrop_ctlA (s : State) (cause sev : Nat) : (s.recDrop cause sev).rcd.ctlA = s.rcd.ctlA := by
  simp [State.recDrop]

@[simp] theorem State.recDrop_ctlB (s : State) (cause sev : Nat) : (s.recDrop cause sev).rcd.ctlB = s.rcd.ctlB := by
  simp [State.recDrop]

@[simp] theorem State.recDrop_pages (s : State) (cause sev : Nat) : (s.recDrop cause sev).rcd.pages = s.rcd.pages := by
  simp [State.recDrop]

@[simp] theorem State.recPut_ctlA (s : State) (r : Record) : (s.recPut r).rcd.ctlA = s.rcd.ctlA := by
  unfold State.recPut
  (repeat' split) <;> simp

@[simp] theorem State.recPut_ctlB (s : State) (r : Record) : (s.recPut r).rcd.ctlB = s.rcd.ctlB := by
  unfold State.recPut
  (repeat' split) <;> simp

@[simp] theorem State.recPut_pages (s : State) (r : Record) : (s.recPut r).rcd.pages = s.rcd.pages := by
  unfold State.recPut
  (repeat' split) <;> simp

@[simp] theorem State.recMake_ctlA (s : State) (sev src code : Nat) (data : List Nat) :
    (s.recMake sev src code data).rcd.ctlA = s.rcd.ctlA := by
  unfold State.recMake
  dsimp only
  (repeat' split) <;> simp

@[simp] theorem State.recMake_ctlB (s : State) (sev src code : Nat) (data : List Nat) :
    (s.recMake sev src code data).rcd.ctlB = s.rcd.ctlB := by
  unfold State.recMake
  dsimp only
  (repeat' split) <;> simp

@[simp] theorem State.recMake_pages (s : State) (sev src code : Nat) (data : List Nat) :
    (s.recMake sev src code data).rcd.pages = s.rcd.pages := by
  unfold State.recMake
  dsimp only
  (repeat' split) <;> simp

@[simp] theorem State.record_startCause (s : State) (sev src code : Nat) (data : List Nat) :
    (s.record sev src code data).lane.startCause = s.lane.startCause := by
  obtain ⟨_, _, h⟩ := RecorderOnly.record s sev src code data
  rw [h]

@[simp] theorem State.record_strapAcc (s : State) (sev src code : Nat) (data : List Nat) :
    (s.record sev src code data).lane.strapAcc = s.lane.strapAcc := by
  obtain ⟨_, _, h⟩ := RecorderOnly.record s sev src code data
  rw [h]

@[simp] theorem State.record_ctlA (s : State) (sev src code : Nat) (data : List Nat) :
    (s.record sev src code data).rcd.ctlA = s.rcd.ctlA := by
  unfold State.record
  (repeat' split) <;> simp

@[simp] theorem State.record_ctlB (s : State) (sev src code : Nat) (data : List Nat) :
    (s.record sev src code data).rcd.ctlB = s.rcd.ctlB := by
  unfold State.record
  (repeat' split) <;> simp

@[simp] theorem State.record_pages (s : State) (sev src code : Nat) (data : List Nat) :
    (s.record sev src code data).rcd.pages = s.rcd.pages := by
  unfold State.record
  (repeat' split) <;> simp

@[simp] theorem State.fallbackRecord_crt (s : State) (row : Nat) : (s.fallbackRecord row).crt = s.crt := by
  simp [State.fallbackRecord]

@[simp] theorem State.fallbackRecord_st (s : State) (row : Nat) : (s.fallbackRecord row).lane.st = s.lane.st := by
  simp [State.fallbackRecord]

@[simp] theorem State.fallbackRecord_startCause (s : State) (row : Nat) :
    (s.fallbackRecord row).lane.startCause = s.lane.startCause := by
  simp [State.fallbackRecord]

@[simp] theorem State.fallbackRecord_strapAcc (s : State) (row : Nat) :
    (s.fallbackRecord row).lane.strapAcc = s.lane.strapAcc := by
  simp [State.fallbackRecord]

@[simp] theorem State.fallbackRecord_pending (s : State) (row : Nat) : (s.fallbackRecord row).pending = s.pending := by
  simp [State.fallbackRecord]

@[simp] theorem State.fallbackRecord_pins (s : State) (row : Nat) : (s.fallbackRecord row).pins = s.pins := by
  simp [State.fallbackRecord]

@[simp] theorem State.fallbackRecord_ctlA (s : State) (row : Nat) : (s.fallbackRecord row).rcd.ctlA = s.rcd.ctlA := by
  simp [State.fallbackRecord]

@[simp] theorem State.fallbackRecord_ctlB (s : State) (row : Nat) : (s.fallbackRecord row).rcd.ctlB = s.rcd.ctlB := by
  simp [State.fallbackRecord]

@[simp] theorem State.fallbackRecord_pages (s : State) (row : Nat) : (s.fallbackRecord row).rcd.pages = s.rcd.pages := by
  simp [State.fallbackRecord]

@[simp] theorem State.fallbackRecord_upd (s : State) (row : Nat) : (s.fallbackRecord row).upd = s.upd := by
  simp [State.fallbackRecord]

/-! ### The resets of the whole lane (R559) -/

theorem lastingKept_trans {s t u : State} (h : LastingKept s t) (k : LastingKept t u) : LastingKept s u := by
  obtain ⟨h1, h2, h3, h4, h5, h6, h7, h8, h9, h10⟩ := h
  obtain ⟨k1, k2, k3, k4, k5, k6, k7, k8, k9, k10⟩ := k
  exact ⟨k1.trans h1, k2.trans h2, k3.trans h3, k4.trans h4, k5.trans h5, k6.trans h6, k7.trans h7, k8.trans h8, k9.trans h9,
    k10.trans h10⟩

theorem State.wholeReset_kept (s : State) (x : LaneState) (why : StartCause) : LastingKept s (s.wholeReset x why) :=
  ⟨rfl, rfl, rfl, rfl, rfl, rfl, rfl, rfl, rfl, rfl⟩

theorem State.wholeReset_cleared (s : State) (x : LaneState) (why : StartCause) : VolatileCleared (s.wholeReset x why) :=
  ⟨rfl, rfl, rfl, rfl, rfl, rfl, rfl, rfl, rfl, rfl, rfl, rfl, rfl, rfl, rfl⟩

/-- The end of fall-back is recorded before the reset discards it (R194). -/
theorem State.fallbackRecord_kept (s : State) (row : Nat) : LastingKept s (s.fallbackRecord row) := by
  simp [LastingKept]

theorem State.resetLow_eq (s : State) :
    ∃ (u : State) (why : StartCause), s.resetLow = u.wholeReset .reset why ∧ LastingKept s u ∧
    u.pins = s.pins := by
  unfold State.resetLow
  dsimp only
  split
  · exact ⟨_, _, rfl, s.fallbackRecord_kept 5, by simp⟩
  · exact ⟨s, _, rfl, ⟨rfl, rfl, rfl, rfl, rfl, rfl, rfl, rfl, rfl, rfl⟩, rfl⟩

/-- RESET_N low, or what has its effect: the lane in RESET, the fuses and memories kept, the rest cleared, the clock as it is. -/
theorem State.resetLow_resets (s : State)
    : s.resetLow.lane.st = .reset ∧ LastingKept s s.resetLow ∧ VolatileCleared s.resetLow ∧
    s.resetLow.pins.resetN = s.pins.resetN ∧ s.resetLow.pins.now = s.pins.now := by
  obtain ⟨u, why, reset, kept, pins⟩ := s.resetLow_eq
  have resetN : u.pins.resetN = s.pins.resetN := congrArg Pins.resetN pins
  have now : u.pins.now = s.pins.now := congrArg Pins.now pins
  rw [reset]
  exact ⟨rfl, lastingKept_trans kept (u.wholeReset_kept _ _), u.wholeReset_cleared _ _, resetN, now⟩

theorem powerOn_resets (p r : Bool) (s : State) (off : s.pins.powered = false) : Answers (.powerOn p r) s fun t =>
    t.lane.st = .reset ∧ t.pins.powered = true ∧ t.pins.resetN = false ∧ t.pins.now = 0 ∧ t.lane.startCause = .powerUp ∧
    LastingKept s t ∧ VolatileCleared t :=
  ⟨_, next_of_neg (by simp [off]), rfl, rfl, rfl, rfl, rfl, s.wholeReset_kept .reset .powerUp, s.wholeReset_cleared .reset .powerUp⟩

theorem lossOfPower_resets (s : State) (on : s.pins.powered = true) : Answers .lossOfPower s fun t =>
    t.lane.st = .off ∧ t.pins.powered = false ∧ LastingKept s t ∧ VolatileCleared t :=
  ⟨_, next_of_pos on, rfl, rfl, s.wholeReset_kept .off .powerUp, s.wholeReset_cleared .off .powerUp⟩

theorem resetNLow_resets (s : State) (on : s.pins.powered = true) : Answers .resetNLow s fun t =>
    t.lane.st = .reset ∧ t.pins.resetN = false ∧ t.pins.now = s.pins.now ∧ LastingKept s t ∧ VolatileCleared t := by
  obtain ⟨st, kept, cleared, _, now⟩ := s.resetLow_resets
  exact ⟨_, next_of_pos on, st, rfl, now, kept, cleared⟩

theorem railBelow_resets (r : Rail) (s : State) (on : s.pins.powered = true) : Answers (.railBelow r) s fun t =>
    t.lane.st = .reset ∧ r ∈ t.pins.lowRails ∧ t.pins.resetN = s.pins.resetN ∧ t.pins.now = s.pins.now ∧
    LastingKept s t ∧ VolatileCleared t := by
  obtain ⟨st, kept, cleared, resetN, now⟩ := s.resetLow_resets
  refine ⟨_, next_of_pos on, st, ?_, resetN, now, kept, cleared⟩
  dsimp only
  split
  · simpa using ‹s.pins.lowRails.contains r = true›
  · simp

theorem railAbove_only (r : Rail) (s : State) (on : s.pins.powered = true) : Answers (.railAbove r) s fun t =>
    r ∉ t.pins.lowRails ∧ (∀ x, x ≠ r → (x ∈ t.pins.lowRails ↔ x ∈ s.pins.lowRails)) ∧
    t = { s with pins.lowRails := t.pins.lowRails } :=
  ⟨_, next_of_pos on, by simp, fun x ne => by simp [ne], rfl⟩

/-! ### The straps (R454, R474) -/

/-- Three agreeing samples: the straps are accepted, and the lane passes from RESET to CLOCK with an attempt at validation under
way. -/
theorem State.strapSample_agree (s : State) (s0 : BitVec 14) (reset : s.lane.st = .reset) :
    (s.strapSample s0 s0 s0).lane = { s.lane with
      pin := s0, eff := s0, strapAcc := true, strapTry := 0, st := .clock, role := .holding,
      attn := putBit s.lane.attn 1 true } ∧
    (s.strapSample s0 s0 s0).crt.attempt = true := by
  simp [State.strapSample, State.setSt, reset, State.attemptStart]

/-- Samples that differ count, and the sixteenth holds the start fault 0x01. -/
theorem State.strapSample_differ (s : State) {s0 s1 s2 : BitVec 14} (ne : ¬ (s0 = s1 ∧ s1 = s2)) :
    (s.strapSample s0 s1 s2).lane = { s.lane with
      strapTry := s.lane.strapTry + 1, sfault := if 16 ≤ s.lane.strapTry + 1 then 1 else s.lane.sfault,
      attn := if 16 ≤ s.lane.strapTry + 1 then putBit s.lane.attn 4 true else s.lane.attn } := by
  by_cases last : 16 ≤ s.lane.strapTry + 1 <;> simp [State.strapSample, ne, last]

theorem State.resetHeld_iff (s : State) (pfen : Bool) : s.resetHeld pfen = false ↔
    s.pins.resetN = true ∧ s.pins.lowRails = [] ∧ (pfen = true → s.pins.pfailHigh = true) := by
  simp [State.resetHeld, and_assoc]

theorem State.strapSample_now (s : State) (s0 s1 s2 : BitVec 14) :
    (s.strapSample s0 s1 s2).pins = { s.pins with now := max s.pins.now (s.pins.now + 2000) } := by
  unfold State.strapSample
  dsimp only
  (repeat' split) <;> simp [State.attemptStart]

theorem resetNRise_samples (s0 s1 s2 : BitVec 14) (s : State) (on : s.pins.powered = true) (low : s.pins.resetN = false)
    (reset : s.lane.st = .reset) :
    (s.pins.lowRails = [] → (s0.getLsbD 11 = true → s.pins.pfailHigh = true) →
      Answers (.resetNRise s0 s1 s2) s fun t =>
        if s0 = s1 ∧ s1 = s2 then
          t.lane.st = .clock ∧ t.lane.strapAcc = true ∧ t.lane.pin = s0 ∧ t.lane.eff = s0 ∧ t.crt.attempt = true
        else
          t.lane.st = .reset ∧ t.lane.strapAcc = s.lane.strapAcc ∧ t.lane.pin = s.lane.pin ∧ t.lane.eff = s.lane.eff ∧
          t.lane.strapTry = s.lane.strapTry + 1 ∧
          t.lane.sfault = if 16 ≤ s.lane.strapTry + 1 then 1 else s.lane.sfault) ∧
    (s.pins.lowRails ≠ [] ∨ (s0.getLsbD 11 = true ∧ s.pins.pfailHigh = false) →
      Answers (.resetNRise s0 s1 s2) s fun t => t = { s with pins.resetN := true }) := by
  have run (u : State) (step : (if ({ s with pins.resetN := true } : State).resetHeld (s0.getLsbD 11) then
      ({ s with pins.resetN := true } : State) else State.strapSample { s with pins.resetN := true } s0 s1 s2) = u) :
      exec (.resetNRise s0 s1 s2) s = .next u := step ▸ next_of_pos (by simp [on, low, reset])
  refine ⟨fun rails pfail => ?_, fun held => ⟨_, run _ (if_pos ?_), rfl⟩⟩
  · have free := (State.resetHeld_iff { s with pins.resetN := true } (s0.getLsbD 11)).mpr ⟨rfl, rails, pfail⟩
    refine ⟨_, run _ (if_neg (by rw [free]; decide)), ?_⟩
    split
    · rename_i agree
      obtain ⟨rfl, rfl⟩ := agree
      obtain ⟨lane, attempt⟩ := State.strapSample_agree { s with pins.resetN := true } s0 reset
      rw [lane]
      exact ⟨rfl, rfl, rfl, rfl, attempt⟩
    · rename_i ne
      rw [State.strapSample_differ _ ne]
      exact ⟨reset, rfl, rfl, rfl, rfl, rfl⟩
  · refine Bool.eq_true_of_not_eq_false fun free => ?_
    obtain ⟨_, rails, pfail⟩ := (State.resetHeld_iff _ _).mp free
    obtain held | ⟨strap, fell⟩ := held
    · exact held rails
    · exact absurd (pfail strap) (by simp [fell])

theorem strapResample_samples (s0 s1 s2 : BitVec 14) (s : State) (on : s.pins.powered = true) (high : s.pins.resetN = true)
    (reset : s.lane.st = .reset) (open_ : s.lane.strapAcc = false) (again : 1 ≤ s.lane.strapTry) (more : s.lane.strapTry < 16)
    (rails : s.pins.lowRails = []) (pfail : s0.getLsbD 11 = true → s.pins.pfailHigh = true) :
    Answers (.strapResample s0 s1 s2) s fun t =>
      s.pins.now + 1000000 ≤ t.pins.now ∧
      if s0 = s1 ∧ s1 = s2 then t.lane.st = .clock ∧ t.lane.strapAcc = true ∧ t.lane.pin = s0 ∧ t.lane.eff = s0
      else
        t.lane.st = .reset ∧ t.lane.strapAcc = false ∧ t.lane.pin = s.lane.pin ∧ t.lane.strapTry = s.lane.strapTry + 1 ∧
        t.lane.sfault = if 16 ≤ s.lane.strapTry + 1 then 1 else s.lane.sfault := by
  have free := (s.resetHeld_iff (s0.getLsbD 11)).mpr ⟨high, rails, pfail⟩
  have run : exec (.strapResample s0 s1 s2) s = .next ((s.advance (s.pins.now + 1000000)).strapSample s0 s1 s2) := by
    refine (next_of_pos (by simp only [on, reset, open_, more, free]; decide)).trans ?_
    rw [if_neg (by omega)]
  refine ⟨_, run, ?_, ?_⟩
  · rw [State.strapSample_now]
    simp
  · split
    · rename_i agree
      obtain ⟨rfl, rfl⟩ := agree
      obtain ⟨lane, _⟩ := State.strapSample_agree (s.advance (s.pins.now + 1000000)) s0 reset
      rw [lane]
      exact ⟨rfl, rfl, rfl, rfl⟩
    · rename_i ne
      rw [State.strapSample_differ _ ne]
      exact ⟨reset, open_, rfl, rfl, rfl⟩

theorem State.lid_straps (s : State) : s.lid = bitNat (s.lane.pin.getLsbD 0) + 2 * bitNat (s.lane.pin.getLsbD 1) := by
  simp only [State.lid, bits, BitVec.getLsbD, Nat.testBit_eq_decide_div_mod_eq, bitNat, decide_eq_true_eq, Nat.shiftRight_zero]
  split <;> split <;> omega

/-- The table of R13: the node number by the straps of set and lane. -/
theorem State.node_straps (s : State) : s.node = match s.lane.pin.getLsbD 2, s.lane.pin.getLsbD 1, s.lane.pin.getLsbD 0 with
    | false, false, false => 0
    | false, false, true => 1
    | false, true, false => 2
    | true, false, false => 3
    | true, false, true => 4
    | true, true, false => 5
    | false, true, true => 6
    | true, true, true => 7 := by
  rw [State.node, State.lid_straps, State.sid]
  cases s.lane.pin.getLsbD 0 <;> cases s.lane.pin.getLsbD 1 <;> cases s.lane.pin.getLsbD 2 <;> rfl

/-- Settles O4, clause by clause. -/
theorem resetsAndStraps : Obligations.ResetsAndStraps :=
  ⟨powerOn_resets, lossOfPower_resets, resetNLow_resets, railBelow_resets, railAbove_only, fun _ on => ⟨_, next_of_pos on, rfl⟩,
   resetNRise_samples, strapResample_samples, State.node_straps⟩

end Sys2Proof.Machine
end
section
/-! PROOF. The restart out of SAFE (R40 to R42). -/

namespace Sys2Proof.Machine

open Sys2Proof.Safety

/-! ### The shared operations -/

@[simp] theorem State.flushNow_crt (s : State) (ok : Bool) : (s.flushNow ok).crt = s.crt := by
  obtain ⟨_, _, h⟩ := RecorderOnly.flushNow s ok
  rw [h]

/-! ### Cold start and synchronisation -/

@[simp] theorem State.attemptStart_img (s : State) : (s.attemptStart).img = s.img := rfl

/-! ### Resets and straps -/

@[simp] theorem State.sessionsEndReset_crt (s : State) (l : List Session) : (s.sessionsEndReset l).crt = s.crt := by
  induction l generalizing s with
  | nil => rfl
  | cons a l ih => simp [State.sessionsEndReset, ih]

/-! ### The restart command and its window (R40, R42) -/

theorem restart_arms (sid : BitVec 16) (s : State) (auth : Authorised s sid 0x28 2 2) (safe : s.lane.st = .safe)
    (idle : s.ctlRuns = false) :
    Answers (.restart sid) s fun t =>
      (s.lane.smask.testBit 3 = false → t.lane.window = true ∧ t.lane.windowAt = s.pins.now ∧ t.lane.st = .safe) ∧
      (s.lane.smask.testBit 3 = true → t.lane.window = s.lane.window ∧ t.lane.ctl = .refused ∧ t.lane.st = .safe) := by
  have safe' : (s.useToken sid.toNat).lane.st = .safe := safe
  obtain ⟨r, a, from_⟩ := (s.useToken sid.toNat).ctlOp_from 2 sid.toNat
  refine ⟨_, congrArg Host.Outcome.next (State.command_authorised _ auth), fun open_ => ?_, fun pfail => ?_⟩
  · have may : (decide ((s.useToken sid.toNat).lane.st = .safe) && !bit (s.useToken sid.toNat).lane.smask 3) = true := by
      rw [safe', show bit (s.useToken sid.toNat).lane.smask 3 = false from open_]
      rfl
    simp only [State.ctlCmd, State.restartCmd, may]
    rw [State.ctlOp_accepted (s := s.useToken _) idle, from_]
    exact ⟨rfl, rfl, safe⟩
  · have mayNot : (decide ((s.useToken sid.toNat).lane.st = .safe) && !bit (s.useToken sid.toNat).lane.smask 3) = false := by
      rw [show bit (s.useToken sid.toNat).lane.smask 3 = true from pfail]
      simp
    simp only [State.ctlCmd, State.restartCmd, mayNot, State.ctlOp, Bool.not_false, Bool.or_true, if_true]
    exact ⟨rfl, rfl, safe⟩

theorem restartQualified_qualifies (s : State) (on : s.pins.powered = true) (low : s.pins.restartLvl = false)
    (fresh : s.pins.restartQual = false) :
    Answers .restartQualified s fun t => t.pins.restartQual = true ∧ t.lane = s.lane ∧
      t.pins.now = max s.pins.now (s.pins.restartAt + 550000000) :=
  ⟨_, next_of_pos (by simp [on, low, fresh]), rfl, rfl, rfl⟩

theorem restartWindow_expires (s : State) (window : s.lane.window = true) :
    Answers .restartWindowExpire s fun t => t.lane.window = false ∧ t.lane.ctl = .failed ∧ t.lane.st = s.lane.st ∧
      t.lane.safeLatch = s.lane.safeLatch ∧ t.pins.now = max s.pins.now (s.lane.windowAt + 60000000000) :=
  ⟨_, next_of_pos window, rfl, rfl, rfl, rfl, rfl⟩

@[simp] theorem State.beforeRestart_crt (s : State) : s.beforeRestart.crt = s.crt := by
  unfold State.beforeRestart
  dsimp only
  rw [State.flushNow_crt, State.sessionsEndReset_crt, State.cmdEnd_crt, State.record_crt]
  split <;> simp

theorem State.strapSample_kept (s : State) (s0 s1 s2 : BitVec 14) : (s.strapSample s0 s1 s2).img = s.img ∧
    (s.strapSample s0 s1 s2).crt.ikd = s.crt.ikd ∧ (s.strapSample s0 s1 s2).crt.sv = s.crt.sv := by
  unfold State.strapSample
  dsimp only
  (repeat' split) <;> simp [State.attemptStart]

/-- What the straps' sampling makes of a lane that the reset of a restart has just left, `b` being what the reset kept (R42). -/
theorem State.restarted_sampled (b : State) (s0 s1 s2 : BitVec 14) :
    (b.restarted.strapSample s0 s1 s2).lane.safeLatch = false ∧ (b.restarted.strapSample s0 s1 s2).lane.window = false ∧
    ((b.restarted.strapSample s0 s1 s2).lane.st = .reset ∨
      (s0 = s1 ∧ s1 = s2 ∧ (b.restarted.strapSample s0 s1 s2).lane.st = .clock)) ∧
    (b.restarted.strapSample s0 s1 s2).lane.startCause = .restart := by
  by_cases agree : s0 = s1 ∧ s1 = s2
  · obtain ⟨rfl, rfl⟩ := agree
    obtain ⟨lane, _⟩ := b.restarted.strapSample_agree s0 rfl
    rw [lane]
    exact ⟨rfl, rfl, .inr ⟨rfl, rfl, rfl⟩, rfl⟩
  · rw [State.strapSample_differ _ agree]
    exact ⟨rfl, rfl, .inl rfl, rfl⟩

/-- The restart of R42, whatever the straps show. -/
theorem State.restartRun_restarts (s : State) (s0 s1 s2 : BitVec 14) :
    (s.restartRun s0 s1 s2).lane.safeLatch = false ∧ (s.restartRun s0 s1 s2).lane.window = false ∧
    ((s.restartRun s0 s1 s2).lane.st = .reset ∨ (s0 = s1 ∧ s1 = s2 ∧ (s.restartRun s0 s1 s2).lane.st = .clock)) ∧
    (s.restartRun s0 s1 s2).lane.startCause = .restart ∧ (s.restartRun s0 s1 s2).img = none ∧
    (s.restartRun s0 s1 s2).crt.ikd = s.crt.ikd ∧ (s.restartRun s0 s1 s2).crt.sv = s.crt.sv := by
  have crt := s.beforeRestart_crt
  rw [State.restartRun_eq]
  generalize s.beforeRestart = b at crt
  rw [← crt]
  split
  · exact ⟨rfl, rfl, .inl rfl, rfl, rfl, rfl, rfl⟩
  · obtain ⟨latch, window, st, cause⟩ := b.restarted_sampled s0 s1 s2
    obtain ⟨img, ikd, sv⟩ := b.restarted.strapSample_kept s0 s1 s2
    exact ⟨latch, window, st, cause, img, ikd, sv⟩

theorem restart_leaves (s0 s1 s2 : BitVec 14) (s : State) (on : s.pins.powered = true) (low : s.pins.restartLvl = false)
    (qual : s.pins.restartQual = true) (window : s.lane.window = true) (held : HeldSafe s) (sup : s.lane.supHalted = false)
    (inTime : s.pins.now ≤ s.lane.windowAt + 60000000000) :
    Answers (.restartFilteredChange true s0 s1 s2) s fun t =>
      t.lane.safeLatch = false ∧ t.lane.window = false ∧ (t.lane.st = .reset ∨ (s0 = s1 ∧ s1 = s2 ∧ t.lane.st = .clock)) ∧
      t.lane.startCause = .restart ∧ t.img = none ∧ t.crt.ikd = s.crt.ikd ∧ t.crt.sv = s.crt.sv := by
  have run : exec (.restartFilteredChange true s0 s1 s2) s =
      .next ((State.evtVio { s with pins.restartLvl := true, pins.restartQual := false } 6).restartRun s0 s1 s2) := by
    refine (next_of_pos (by simp [on, low])).trans (congrArg _ ?_)
    rw [if_pos rfl, if_pos qual]
    exact if_pos (by simp [window, held.1, sup, inTime])
  obtain ⟨latch, closed, st, cause, img, ikd, sv⟩ :=
    (State.evtVio { s with pins.restartLvl := true, pins.restartQual := false } 6).restartRun_restarts s0 s1 s2
  rw [State.evtVio_crt] at ikd sv
  exact ⟨_, run, latch, closed, st, cause, img, ikd, sv⟩

/-- Settles O7, clause by clause. -/
theorem restartFromSafe : Obligations.RestartFromSafe :=
  ⟨restart_arms, restartQualified_qualifies, restart_leaves, restartWindow_expires⟩

end Sys2Proof.Machine
end
section
/-! PROOF. What an operation leaves outside the units that it touches: one equation for each operation. -/

namespace Sys2Proof.Machine

open Sys2Proof.Safety

/-! ### What lies outside the units that an operation touches -/

/-- The units that an operation may touch; of the pins the clock, the frames sent and the free words, and of the lane ATTN, on their
own. -/
structure Touch where
  now : Bool := false
  sent : Bool := false
  free : Bool := false
  pins : Bool := false
  attn : Bool := false
  lane : Bool := false
  crt : Bool := false
  sup : Bool := false
  tae : Bool := false
  lge : Bool := false
  grd : Bool := false
  vio : Bool := false
  lmp : Bool := false
  mea : Bool := false
  lnb : Bool := false
  fld : Bool := false
  cab : Bool := false
  rcd : Bool := false
  upd : Bool := false
  inp : Bool := false
  img : Bool := false

/-- The pins with what may be touched at its reset value. -/
def Pins.outside (u : Touch) (p : Pins) : Pins :=
  if u.pins then Pins.reset
  else { p with now := if u.now then 0 else p.now, sent := if u.sent then [] else p.sent, free := if u.free then 0 else p.free }

/-- The lane with what may be touched at its reset value. -/
def Lane.outside (u : Touch) (l : Lane) : Lane :=
  if u.lane then Lane.reset else { l with attn := if u.attn then 0 else l.attn }

/-- The state with every unit that may be touched at its reset value: two states that agree in it differ in those units only. -/
def State.outside (u : Touch) (s : State) : State where
  pins := s.pins.outside u
  lane := s.lane.outside u
  crt := if u.crt then State.reset.crt else s.crt
  sup := if u.sup then State.reset.sup else s.sup
  tae := if u.tae then State.reset.tae else s.tae
  lge := if u.lge then State.reset.lge else s.lge
  grd := if u.grd then State.reset.grd else s.grd
  vio := if u.vio then State.reset.vio else s.vio
  lmp := if u.lmp then State.reset.lmp else s.lmp
  mea := if u.mea then State.reset.mea else s.mea
  lnb := if u.lnb then State.reset.lnb else s.lnb
  fld := if u.fld then State.reset.fld else s.fld
  cab := if u.cab then State.reset.cab else s.cab
  rcd := if u.rcd then State.reset.rcd else s.rcd
  upd := if u.upd then State.reset.upd else s.upd
  inp := if u.inp then State.reset.inp else s.inp
  img := if u.img then State.reset.img else s.img
  pending := s.pending

@[simp] theorem Pins.outside_all {u : Touch} (h : u.pins = true) (p : Pins) : p.outside u = Pins.reset
    := by simp [Pins.outside, h]

@[simp] theorem Pins.outside_now {u : Touch} (h : u.now = true) (p : Pins) (n : Nat) :
    Pins.outside u { p with now := n } = p.outside u := by simp [Pins.outside, h]

@[simp] theorem Pins.outside_sent {u : Touch} (h : u.sent = true) (p : Pins) (l : List Sent) :
    Pins.outside u { p with sent := l } = p.outside u := by simp [Pins.outside, h]

@[simp] theorem Pins.outside_free {u : Touch} (h : u.free = true) (p : Pins) (n : Nat) :
    Pins.outside u { p with free := n } = p.outside u := by simp [Pins.outside, h]

@[simp] theorem Lane.outside_all {u : Touch} (h : u.lane = true) (l : Lane) : l.outside u = Lane.reset := by
  simp [Lane.outside, h]

@[simp] theorem Lane.outside_attn {u : Touch} (h : u.attn = true) (l : Lane) (a : BitVec 7) :
    Lane.outside u { l with attn := a } = l.outside u := by simp [Lane.outside, h]

/-- A state put together from units that are those of `s`, or that may be touched, agrees with `s` outside them. -/
@[simp] theorem State.outside_mk {u : Touch}
    {s : State} {p l xcrt xsup xtae xlge xgrd xvio xlmp xmea xlnb xfld xcab xrcd xupd xinp ximg}
    (hp : Pins.outside u p = s.pins.outside u) (hl : Lane.outside u l = s.lane.outside u)
    (hcrt : u.crt = true ∨ xcrt = s.crt) (hsup : u.sup = true ∨ xsup = s.sup) (htae : u.tae = true ∨ xtae = s.tae)
    (hlge : u.lge = true ∨ xlge = s.lge) (hgrd : u.grd = true ∨ xgrd = s.grd) (hvio : u.vio = true ∨ xvio = s.vio)
    (hlmp : u.lmp = true ∨ xlmp = s.lmp) (hmea : u.mea = true ∨ xmea = s.mea) (hlnb : u.lnb = true ∨ xlnb = s.lnb)
    (hfld : u.fld = true ∨ xfld = s.fld) (hcab : u.cab = true ∨ xcab = s.cab) (hrcd : u.rcd = true ∨ xrcd = s.rcd)
    (hupd : u.upd = true ∨ xupd = s.upd) (hinp : u.inp = true ∨ xinp = s.inp) (himg : u.img = true ∨ ximg = s.img) :
    State.outside u ⟨p, l, xcrt, xsup, xtae, xlge, xgrd, xvio, xlmp, xmea, xlnb, xfld, xcab, xrcd, xupd, xinp, ximg, s.pending⟩ =
      s.outside u := by
  have pick {α : Type} {b : Bool} {r x y : α} (h : b = true ∨ x = y) : (if b then r else x) = if b then r else y := by
    obtain rfl | rfl := h <;> rfl
  unfold State.outside
  rw [hp, hl, pick hcrt, pick hsup, pick htae, pick hlge, pick hgrd, pick hvio, pick hlmp, pick hmea, pick hlnb, pick hfld, pick hcab, pick hrcd, pick hupd, pick hinp, pick himg]

@[simp] theorem State.outside_ite (u : Touch) (c : Prop) [Decidable c] (s t : State) :
    (if c then s else t).outside u = if c then s.outside u else t.outside u := apply_ite _ _ _ _

theorem State.foldl_outside {α : Type} {u : Touch} {f : State → α → State} (h : ∀ s a, (f s a).outside u = s.outside u)
    (l : List α)
    (s : State) : (l.foldl f s).outside u = s.outside u := State.foldl_keeps (State.outside u) h l s

/-! ### Reading the agreement -/

theorem State.crt_of_outside {u : Touch} {s t : State} (h : t.outside u = s.outside u) (k : u.crt = false) : t.crt = s.crt
    := by
  simpa [State.outside, k] using congrArg State.crt h

theorem State.sup_of_outside {u : Touch} {s t : State} (h : t.outside u = s.outside u) (k : u.sup = false) : t.sup = s.sup
    := by
  simpa [State.outside, k] using congrArg State.sup h

theorem State.tae_of_outside {u : Touch} {s t : State} (h : t.outside u = s.outside u) (k : u.tae = false) : t.tae = s.tae
    := by
  simpa [State.outside, k] using congrArg State.tae h

theorem State.lge_of_outside {u : Touch} {s t : State} (h : t.outside u = s.outside u) (k : u.lge = false) : t.lge = s.lge
    := by
  simpa [State.outside, k] using congrArg State.lge h

theorem State.grd_of_outside {u : Touch} {s t : State} (h : t.outside u = s.outside u) (k : u.grd = false) : t.grd = s.grd
    := by
  simpa [State.outside, k] using congrArg State.grd h

theorem State.vio_of_outside {u : Touch} {s t : State} (h : t.outside u = s.outside u) (k : u.vio = false) : t.vio = s.vio
    := by
  simpa [State.outside, k] using congrArg State.vio h

theorem State.lmp_of_outside {u : Touch} {s t : State} (h : t.outside u = s.outside u) (k : u.lmp = false) : t.lmp = s.lmp
    := by
  simpa [State.outside, k] using congrArg State.lmp h

theorem State.mea_of_outside {u : Touch} {s t : State} (h : t.outside u = s.outside u) (k : u.mea = false) : t.mea = s.mea
    := by
  simpa [State.outside, k] using congrArg State.mea h

theorem State.lnb_of_outside {u : Touch} {s t : State} (h : t.outside u = s.outside u) (k : u.lnb = false) : t.lnb = s.lnb
    := by
  simpa [State.outside, k] using congrArg State.lnb h

theorem State.fld_of_outside {u : Touch} {s t : State} (h : t.outside u = s.outside u) (k : u.fld = false) : t.fld = s.fld
    := by
  simpa [State.outside, k] using congrArg State.fld h

theorem State.cab_of_outside {u : Touch} {s t : State} (h : t.outside u = s.outside u) (k : u.cab = false) : t.cab = s.cab
    := by
  simpa [State.outside, k] using congrArg State.cab h

theorem State.rcd_of_outside {u : Touch} {s t : State} (h : t.outside u = s.outside u) (k : u.rcd = false) : t.rcd = s.rcd
    := by
  simpa [State.outside, k] using congrArg State.rcd h

theorem State.upd_of_outside {u : Touch} {s t : State} (h : t.outside u = s.outside u) (k : u.upd = false) : t.upd = s.upd
    := by
  simpa [State.outside, k] using congrArg State.upd h

theorem State.inp_of_outside {u : Touch} {s t : State} (h : t.outside u = s.outside u) (k : u.inp = false) : t.inp = s.inp
    := by
  simpa [State.outside, k] using congrArg State.inp h

theorem State.img_of_outside {u : Touch} {s t : State} (h : t.outside u = s.outside u) (k : u.img = false) : t.img = s.img
    := by
  simpa [State.outside, k] using congrArg State.img h

theorem State.pending_of_outside {u : Touch} {s t : State} (h : t.outside u = s.outside u) : t.pending = s.pending := by
  simpa [State.outside] using congrArg State.pending h

theorem State.pins_of_outside {u : Touch} {s t : State} (h : t.outside u = s.outside u) (k : u.pins = false)
    (now : u.now = false)
    (sent : u.sent = false) (free : u.free = false) : t.pins = s.pins := by
  have pins : t.pins.outside u = s.pins.outside u := congrArg State.pins h
  simpa only [Pins.outside, k, now, sent, free, Bool.false_eq_true, if_false] using pins

/-- The clock, where it may not be touched. -/
theorem State.now_of_outside {u : Touch} {s t : State} (h : t.outside u = s.outside u) (k : u.pins = false)
    (now : u.now = false) :
    t.pins.now = s.pins.now := by
  simpa [State.outside, Pins.outside, k, now] using congrArg (fun x => x.pins.now) h

/-- The lane apart from ATTN. -/
def Lane.quiet (l : Lane) : Lane := { l with attn := 0 }

theorem State.quiet_of_outside {u : Touch} {s t : State} (h : t.outside u = s.outside u) (k : u.lane = false) :
    t.lane.quiet = s.lane.quiet := by
  have lane : t.lane.outside u = s.lane.outside u := congrArg State.lane h
  simp only [Lane.outside, k, Bool.false_eq_true, if_false] at lane
  exact (congrArg Lane.quiet lane :)

theorem Lane.core_quiet (l : Lane) : l.quiet.core = l.core := rfl

theorem State.core_of_outside {u : Touch} {s t : State} (h : t.outside u = s.outside u) (k : u.lane = false) :
    t.lane.core = s.lane.core := by
  rw [← Lane.core_quiet, State.quiet_of_outside h k, Lane.core_quiet]

/-! ### The recorder and the flags -/

theorem RecorderOnly.outside_eq {s t : State} (h : RecorderOnly s t) {u : Touch} (rcd : u.rcd = true)
    (attn : u.attn = true) :
    t.outside u = s.outside u := by
  obtain ⟨_, _, rfl⟩ := h
  simp [rcd, attn]

@[simp] theorem State.attn_outside {u : Touch} (attn : u.attn = true) (s : State) (k : Nat) :
    (s.attn k).outside u = s.outside u := by
  simp [State.attn, attn]

@[simp] theorem State.attnEvt_outside {u : Touch} (attn : u.attn = true) (s : State) (quiet : Bool) :
    (s.attnEvt quiet).outside u = s.outside u := by
  simp [State.attnEvt, attn]

@[simp] theorem State.cmdEnd_outside {u : Touch} (attn : u.attn = true) (s : State) : s.cmdEnd.outside u = s.outside u := by
  simp [State.cmdEnd, attn]

@[simp] theorem State.evtVio_outside {u : Touch} (attn : u.attn = true) (vio : u.vio = true) (s : State) (k : Nat) :
    (s.evtVio k).outside u = s.outside u := by
  simp [State.evtVio, attn, vio]

@[simp] theorem State.evtLmp_outside {u : Touch} (attn : u.attn = true) (lmp : u.lmp = true) (s : State) (k : Nat) :
    (s.evtLmp k).outside u = s.outside u := by
  simp [State.evtLmp, attn, lmp]

@[simp] theorem State.pevtLmp_outside {u : Touch} (attn : u.attn = true) (lmp : u.lmp = true) (s : State) (k : Nat) :
    (s.pevtLmp k).outside u = s.outside u := by
  simp [State.pevtLmp, attn, lmp]

@[simp] theorem State.evtCab_outside {u : Touch} (attn : u.attn = true) (cab : u.cab = true) (s : State) (k : Nat) :
    (s.evtCab k).outside u = s.outside u := by
  simp [State.evtCab, attn, cab]

@[simp] theorem State.evtUpd_outside {u : Touch} (attn : u.attn = true) (upd : u.upd = true) (s : State) (k : Nat) :
    (s.evtUpd k).outside u = s.outside u := by
  simp [State.evtUpd, attn, upd]

/-! ### The state image -/

@[simp] theorem State.putCell_outside {u : Touch} (lge : u.lge = true) (s : State) (a : Nat) (c : Cell) :
    (s.putCell a c).outside u = s.outside u := by
  simp [State.putCell, lge]

/-! ### The shared operations -/

@[simp] theorem State.send_outside {u : Touch} (sent : u.sent = true) (s : State) (x : Sent) :
    (s.send x).outside u = s.outside u := by
  simp [State.send, sent]

@[simp] theorem State.record_outside {u : Touch} (attn : u.attn = true) (rcd : u.rcd = true) (s : State)
    (sev src code : Nat) (data : List Nat) : (s.record sev src code data).outside u = s.outside u :=
  (RecorderOnly.record s sev src code data).outside_eq rcd attn

@[simp] theorem State.learnDone_outside {u : Touch} (attn : u.attn = true) (lmp : u.lmp = true) (rcd : u.rcd = true)
    (s : State) (failed : Bool) : (s.learnDone failed).outside u = s.outside u := by
  unfold State.learnDone
  split <;> simp [attn, lmp, rcd]

@[simp] theorem State.learnFail_outside {u : Touch} (attn : u.attn = true) (lmp : u.lmp = true) (rcd : u.rcd = true)
    (s : State) (n : Nat) : (s.learnFail n).outside u = s.outside u := by
  unfold State.learnFail
  split <;> simp [attn, lmp, rcd]

/-! ### The cabinet bus -/

@[simp] theorem State.updMap_outside {u : Touch} (cab : u.cab = true) (s : State) (m : Nat) (f : MapState → MapState) :
    (s.updMap m f).outside u = s.outside u := by
  simp [State.updMap, cab]

@[simp] theorem State.mapCommit_outside {u : Touch} (attn : u.attn = true) (cab : u.cab = true) (s : State) (n : Nat)
    (sends : Bool) (img : List Bool) (m : Nat) : (s.mapCommit n sends img m).outside u = s.outside u := by
  simp [State.mapCommit, attn, cab]

@[simp] theorem State.mapsCommit_outside {u : Touch} (attn : u.attn = true) (cab : u.cab = true) (s : State) (n : Nat)
    (sends : Bool) (img : List Bool) : (s.mapsCommit n sends img).outside u = s.outside u := by
  unfold State.mapsCommit
  split
  · exact State.foldl_outside (fun _ _ => by simp [attn, cab]) _ _
  · rfl

/-! ### Lamps and lamp proving -/

@[simp] theorem State.updLamp_outside {u : Touch} (lmp : u.lmp = true) (s : State) (n : Nat) (f : LampState → LampState) :
    (s.updLamp n f).outside u = s.outside u := by
  simp [State.updLamp, lmp]

@[simp] theorem State.updGroup_outside {u : Touch} (lmp : u.lmp = true) (s : State) (g : Nat)
    (f : AspectState → AspectState) : (s.updGroup g f).outside u = s.outside u := by
  simp [State.updGroup, lmp]

@[simp] theorem State.lampWave_outside {u : Touch} (lmp : u.lmp = true) (s : State) (n : Nat) :
    (s.lampWave n).outside u = s.outside u := by
  simp [State.lampWave, lmp]

@[simp] theorem State.expectSet_outside {u : Touch} (attn : u.attn = true) (lmp : u.lmp = true) (rcd : u.rcd = true)
    (s : State) (n : Nat) (e : Expectation) : (s.expectSet n e).outside u = s.outside u := by
  simp [State.expectSet, attn, lmp, rcd]

@[simp] theorem State.lampRefresh_outside {u : Touch} (attn : u.attn = true) (lmp : u.lmp = true) (rcd : u.rcd = true)
    (s : State) (n : Nat) : (s.lampRefresh n).outside u = s.outside u := by
  simp [State.lampRefresh, attn, lmp, rcd]

@[simp] theorem State.lampsRefresh_outside {u : Touch} (attn : u.attn = true) (lmp : u.lmp = true) (rcd : u.rcd = true)
    (s : State) (l : List Nat) : (s.lampsRefresh l).outside u = s.outside u := by
  induction l generalizing s with
  | nil => rfl
  | cons a l ih => simp [State.lampsRefresh, ih, attn, lmp, rcd]

@[simp] theorem State.latchClear_outside {u : Touch} (lmp : u.lmp = true) (s : State) (g : Nat) (l : List Nat) :
    (s.latchClear g l).outside u = s.outside u := by
  induction l generalizing s with
  | nil => simp [State.latchClear, lmp]
  | cons a l ih => simp [State.latchClear, ih, lmp]

@[simp] theorem State.lampCommit_outside {u : Touch} (attn : u.attn = true) (lmp : u.lmp = true) (rcd : u.rcd = true)
    (s : State) (read : Nat → Bool) (g : Nat) : (s.lampCommit read g).outside u = s.outside u := by
  unfold State.lampCommit
  split <;> simp [attn, lmp, rcd]

@[simp] theorem State.lampsCommit_outside {u : Touch} (attn : u.attn = true) (lmp : u.lmp = true) (rcd : u.rcd = true)
    (s : State) (read : Nat → Bool) (l : List Nat) : (s.lampsCommit read l).outside u = s.outside u := by
  induction l generalizing s with
  | nil => rfl
  | cons a l ih => simp [State.lampsCommit, ih, attn, lmp, rcd]

@[simp] theorem State.flashAdopt_outside {u : Touch} (attn : u.attn = true) (lmp : u.lmp = true) (rcd : u.rcd = true)
    (s : State) (g : Nat) : (s.flashAdopt g).outside u = s.outside u := by
  simp [State.flashAdopt, attn, lmp, rcd]

@[simp] theorem State.flashesAdopt_outside {u : Touch} (attn : u.attn = true) (lmp : u.lmp = true) (rcd : u.rcd = true)
    (s : State) (l : List Nat) : (s.flashesAdopt l).outside u = s.outside u := by
  induction l generalizing s with
  | nil => rfl
  | cons a l ih => simp [State.flashesAdopt, ih, attn, lmp, rcd]

/-! ### Vital inputs and outputs -/

@[simp] theorem State.updVout_outside {u : Touch} (vio : u.vio = true) (s : State) (n : Nat) (f : VoutState → VoutState) :
    (s.updVout n f).outside u = s.outside u := by
  simp [State.updVout, vio]

@[simp] theorem State.voutWave_outside {u : Touch} (vio : u.vio = true) (s : State) (n : Nat) :
    (s.voutWave n).outside u = s.outside u := by
  simp [State.voutWave, vio]

@[simp] theorem State.voutWaves_outside {u : Touch} (vio : u.vio = true) (s : State) (l : List Nat) :
    (s.voutWaves l).outside u = s.outside u := by
  induction l generalizing s with
  | nil => rfl
  | cons a l ih => simp [State.voutWaves, ih, vio]

@[simp] theorem State.lockMonitor_outside {u : Touch} (attn : u.attn = true) (vio : u.vio = true) (rcd : u.rcd = true)
    (s : State) (n : Nat) (cause : LockCause) : (s.lockMonitor n cause).outside u = s.outside u := by
  simp [State.lockMonitor, attn, vio, rcd]

@[simp] theorem State.monElapse_outside {u : Touch} (attn : u.attn = true) (vio : u.vio = true) (rcd : u.rcd = true)
    (s : State) (n : Nat) (before : Nat → Nat → Bool) : (s.monElapse n before).outside u = s.outside u := by
  unfold State.monElapse
  split <;> simp [attn, vio, rcd]

@[simp] theorem State.monShows_outside {u : Touch} (attn : u.attn = true) (vio : u.vio = true) (rcd : u.rcd = true)
    (s : State) (n : Nat) : (s.monShows n).outside u = s.outside u := by
  unfold State.monShows
  split <;> simp [attn, vio, rcd]

@[simp] theorem State.monCommand_outside {u : Touch} (attn : u.attn = true) (vio : u.vio = true) (rcd : u.rcd = true)
    (s0 : State) (n : Nat) : (s0.monCommand n).outside u = s0.outside u := by
  unfold State.monCommand
  dsimp only
  (repeat' split) <;> simp [attn, vio, rcd]

/-! ### Image slots -/

@[simp] theorem State.setSlot_outside {u : Touch} (upd : u.upd = true) (s : State) (k : Bool) (x : Slot) :
    (s.setSlot k x).outside u = s.outside u := by
  simp [State.setSlot, upd]

@[simp] theorem State.programSlot_outside {u : Touch} (upd : u.upd = true) (s : State) (k : Bool) (st : SlotState) :
    (s.programSlot k st).outside u = s.outside u := by
  simp [State.programSlot, upd]

@[simp] theorem State.burnWanted_outside {u : Touch} (crt : u.crt = true) (s : State) :
    s.burnWanted.outside u = s.outside u := by
  simp [State.burnWanted, crt]

@[simp] theorem State.imageConfirm_outside {u : Touch} (attn : u.attn = true) (crt : u.crt = true) (rcd : u.rcd = true)
    (upd : u.upd = true) (s : State) : s.imageConfirm.outside u = s.outside u := by
  simp [State.imageConfirm, attn, crt, rcd, upd]

/-! ### The field network -/

@[simp] theorem State.updPort_outside {u : Touch} (fld : u.fld = true) (s : State) (p : Nat) (f : PortState → PortState) :
    (s.updPort p f).outside u = s.outside u := by
  simp [State.updPort, fld]

@[simp] theorem State.updConn_outside {u : Touch} (fld : u.fld = true) (s : State) (c : Nat) (f : ConnState → ConnState) :
    (s.updConn c f).outside u = s.outside u := by
  simp [State.updConn, fld]

@[simp] theorem State.telegramOut_outside {u : Touch} (sent : u.sent = true) (fld : u.fld = true) (s : State)
    (bytes : List Byte) (l : List (Nat × Nat)) : (s.telegramOut bytes l).outside u = s.outside u := by
  induction l generalizing s with
  | nil => rfl
  | cons a l ih =>
    simp only [State.telegramOut]
    split <;> simp [ih, sent, fld]

@[simp] theorem State.telegramDue_outside {u : Touch} (sent : u.sent = true) (lge : u.lge = true) (fld : u.fld = true)
    (s : State) (c tcommit : Nat) (send : Bool) (payload : List Byte) (ty : Nat) :
    (s.telegramDue c tcommit send payload ty).outside u = s.outside u := by
  simp [State.telegramDue, sent, lge, fld]

@[simp] theorem State.telegramsDue_outside {u : Touch} (sent : u.sent = true) (lge : u.lge = true) (fld : u.fld = true)
    (s : State) (c tcommit : Nat) (send : Bool) (payload : List Byte) (l : List Nat) :
    (s.telegramsDue c tcommit send payload l).outside u = s.outside u := by
  induction l generalizing s with
  | nil => rfl
  | cons a l ih => simp [State.telegramsDue, ih, sent, lge, fld]

@[simp] theorem State.telegramsCommit_outside {u : Touch} (sent : u.sent = true) (lge : u.lge = true) (fld : u.fld = true)
    (s : State) (n tcommit : Nat) (send : Bool) (read : Nat → Bool) (l : List Nat) :
    (s.telegramsCommit n tcommit send read l).outside u = s.outside u := by
  induction l generalizing s with
  | nil => rfl
  | cons a l ih => simp [State.telegramsCommit, ih, sent, lge, fld]

/-! ### T0 of a logic cycle -/

@[simp] theorem State.runSlotEnter_outside {u : Touch} (attn : u.attn = true) (crt : u.crt = true) (rcd : u.rcd = true)
    (upd : u.upd = true) (s : State) (r : Role) : (s.runSlotEnter r).outside u = s.outside u := by
  simp [State.runSlotEnter, attn, crt, rcd, upd]

/-! ### T_IA -/

@[simp] theorem State.logAppend_outside {u : Touch} (upd : u.upd = true) (s : State) (sym : Word) (v : Int)
    (preset : Bool) : (s.logAppend sym v preset).outside u = s.outside u := by
  simp [State.logAppend, upd]

/-! ### T_commit -/

@[simp] theorem State.voutCommit_outside {u : Touch} (attn : u.attn = true) (vio : u.vio = true) (rcd : u.rcd = true)
    (s : State) (read : Nat → Bool) (n : Nat) : (s.voutCommit read n).outside u = s.outside u := by
  simp [State.voutCommit, attn, vio, rcd]

@[simp] theorem State.voutsCommit_outside {u : Touch} (attn : u.attn = true) (vio : u.vio = true) (rcd : u.rcd = true)
    (s : State) (read : Nat → Bool) (l : List Nat) : (s.voutsCommit read l).outside u = s.outside u := by
  induction l generalizing s with
  | nil => rfl
  | cons a l ih => simp [State.voutsCommit, ih, attn, vio, rcd]

@[simp] theorem State.drivesOn_outside {u : Touch} (attn : u.attn = true) (vio : u.vio = true) (lmp : u.lmp = true)
    (rcd : u.rcd = true) (s : State) : s.drivesOn.outside u = s.outside u := by
  simp [State.drivesOn, attn, vio, lmp, rcd]

@[simp] theorem State.queueFrames_outside {u : Touch} (lnb : u.lnb = true) (s : State) (use : Nat) (es : List (List Word)) :
    (s.queueFrames use es).outside u = s.outside u := by
  unfold State.queueFrames
  split <;> simp [lnb]

@[simp] theorem State.mirrorForm_outside {u : Touch} (lnb : u.lnb = true) (s : State) (n : Nat) :
    (s.mirrorForm n).outside u = s.outside u := by
  simp [State.mirrorForm, lnb]

@[simp] theorem State.transfersSend_outside {u : Touch} (lnb : u.lnb = true) (s : State) (l : List Nat) :
    (s.transfersSend l).outside u = s.outside u := by
  induction l generalizing s with
  | nil => simp [State.transfersSend, lnb]
  | cons a l ih => simp [State.transfersSend, ih, lnb]

@[simp] theorem State.targetedStart_outside {u : Touch} (crt : u.crt = true) (grd : u.grd = true) (s : State) :
    s.targetedStart.outside u = s.outside u := by
  unfold State.targetedStart
  split <;> simp [crt, grd]

@[simp] theorem State.lockoutsTake_outside {u : Touch} (vio : u.vio = true) (s : State) (l : List Nat) :
    (s.lockoutsTake l).outside u = s.outside u := by
  induction l generalizing s with
  | nil => rfl
  | cons a l ih => simp [State.lockoutsTake, ih, vio]

@[simp] theorem State.paramsLog_outside {u : Touch} (upd : u.upd = true) (s : State) (l : List ParamEntry) :
    (s.paramsLog l).outside u = s.outside u := by
  induction l generalizing s with
  | nil => rfl
  | cons a l ih => simp [State.paramsLog, ih, upd]

@[simp] theorem State.evtMea_outside {u : Touch} (attn : u.attn = true) (mea : u.mea = true) (s : State) (k : Nat) :
    (s.evtMea k).outside u = s.outside u := by
  simp [State.evtMea, attn, mea]

/-! ### Lamps and lamp proving -/

@[simp] theorem State.lampsOffFor_outside {u : Touch} (lmp : u.lmp = true) (s : State) (g : Nat) (b : Option Nat)
    (l : List Nat) : (s.lampsOffFor g b l).outside u = s.outside u := by
  induction l generalizing s with
  | nil => rfl
  | cons a l ih => simp [State.lampsOffFor, ih, lmp]

@[simp] theorem State.lampsOnFor_outside {u : Touch} (lmp : u.lmp = true) (s : State) (g : Nat) (b : Option Nat)
    (l : List Nat) : (s.lampsOnFor g b l).outside u = s.outside u := by
  induction l generalizing s with
  | nil => rfl
  | cons a l ih => simp [State.lampsOnFor, ih, lmp]

@[simp] theorem State.aspectStart_outside {u : Touch} (lmp : u.lmp = true) (s : State) (g : Nat) (b : Option Nat) :
    (s.aspectStart g b).outside u = s.outside u := by
  simp [State.aspectStart, lmp]

@[simp] theorem State.aspectFire_outside {u : Touch} (lmp : u.lmp = true) (s : State) (g : Nat) :
    (s.aspectFire g).outside u = s.outside u := by
  unfold State.aspectFire
  dsimp only
  split <;> simp [lmp]

@[simp] theorem State.reportsTaken_outside {u : Touch} (lmp : u.lmp = true) (s : State) (failed : List Nat) (l : List Nat) :
    (s.reportsTaken failed l).outside u = s.outside u := by
  induction l generalizing s with
  | nil => rfl
  | cons a l ih => simp [State.reportsTaken, ih, lmp]

@[simp] theorem State.fallbackFire_outside {u : Touch} (attn : u.attn = true) (lmp : u.lmp = true) (rcd : u.rcd = true)
    (s : State) (g : Nat) : (s.fallbackFire g).outside u = s.outside u := by
  unfold State.fallbackFire
  split <;> simp [attn, lmp, rcd]

@[simp] theorem State.directFire_outside {u : Touch} (lmp : u.lmp = true) (s : State) (g : Nat) (l : List Nat) :
    (s.directFire g l).outside u = s.outside u := by
  induction l generalizing s with
  | nil => rfl
  | cons a l ih => simp [State.directFire, ih, lmp]

@[simp] theorem State.switchFire_outside {u : Touch} (attn : u.attn = true) (lmp : u.lmp = true) (rcd : u.rcd = true)
    (s : State) (g : Nat) : (s.switchFire g).outside u = s.outside u := by
  simp [State.switchFire, attn, lmp, rcd]

@[simp] theorem State.flashOn_outside {u : Touch} (attn : u.attn = true) (lmp : u.lmp = true) (rcd : u.rcd = true)
    (s : State) (g : Nat) : (s.flashOn g).outside u = s.outside u := by
  simp [State.flashOn, attn, lmp, rcd]

@[simp] theorem State.flashOff_outside {u : Touch} (attn : u.attn = true) (lmp : u.lmp = true) (rcd : u.rcd = true)
    (s : State) (g : Nat) : (s.flashOff g).outside u = s.outside u := by
  simp [State.flashOff, attn, lmp, rcd]

@[simp] theorem State.darkPulse_outside {u : Touch} (lmp : u.lmp = true) (s : State) (n : Nat) :
    (s.darkPulse n).outside u = s.outside u := by
  simp [State.darkPulse, lmp]

@[simp] theorem State.windowSet_outside {u : Touch} (lmp : u.lmp = true) (s : State) (n : Nat) (o : Bool) :
    (s.windowSet n o).outside u = s.outside u := by
  simp [State.windowSet, lmp]

/-! ### Measurement -/

@[simp] theorem State.updMea_outside {u : Touch} (mea : u.mea = true) (s : State) (n : Nat) (f : MeaState → MeaState) :
    (s.updMea n f).outside u = s.outside u := by
  simp [State.updMea, mea]

@[simp] theorem State.spanReset_outside {u : Touch} (mea : u.mea = true) (s : State) (n : Nat) :
    (s.spanReset n).outside u = s.outside u := by
  simp [State.spanReset, mea]

@[simp] theorem State.spanResets_outside {u : Touch} (mea : u.mea = true) (s : State) (l : List Nat) :
    (s.spanResets l).outside u = s.outside u := by
  induction l generalizing s with
  | nil => rfl
  | cons a l ih => simp [State.spanResets, ih, mea]

@[simp] theorem State.meaAlign_outside {u : Touch} (mea : u.mea = true) (s : State) : s.meaAlign.outside u = s.outside u
    := by
  rw [State.meaAlign, State.spanResets_outside mea]
  simp [mea]

@[simp] theorem State.meaTriggers_outside {u : Touch} (attn : u.attn = true) (mea : u.mea = true) (rcd : u.rcd = true)
    (s : State) (l : List Nat) : (s.meaTriggers l).outside u = s.outside u := by
  induction l generalizing s with
  | nil => rfl
  | cons a l ih => simp [State.meaTriggers, ih, attn, mea, rcd]

@[simp] theorem State.meaTrigger_outside {u : Touch} (attn : u.attn = true) (mea : u.mea = true) (rcd : u.rcd = true)
    (s : State) : s.meaTrigger.outside u = s.outside u := by
  simp [State.meaTrigger, attn, mea, rcd]

@[simp] theorem State.meaSnap_outside {u : Touch} (mea : u.mea = true) (s : State) : s.meaSnap.outside u = s.outside u := by
  simp [State.meaSnap, mea]

/-! ### Cluster time and slots -/

@[simp] theorem State.slotAct_outside {u : Touch} (attn : u.attn = true) (tae : u.tae = true) (lmp : u.lmp = true)
    (mea : u.mea = true) (rcd : u.rcd = true) (s0 : State) (act tgt : Nat) (inv : Bool) :
    (s0.slotAct act tgt inv).outside u = s0.outside u := by
  unfold State.slotAct
  split <;> simp [attn, tae, lmp, mea, rcd]

@[simp] theorem State.tslotFire_outside {u : Touch} (attn : u.attn = true) (tae : u.tae = true) (lmp : u.lmp = true)
    (mea : u.mea = true) (rcd : u.rcd = true) (s : State) (n : Nat) : (s.tslotFire n).outside u = s.outside u := by
  simp [State.tslotFire, attn, tae, lmp, mea, rcd]

@[simp] theorem State.aslotFire_outside {u : Touch} (attn : u.attn = true) (tae : u.tae = true) (lmp : u.lmp = true)
    (mea : u.mea = true) (rcd : u.rcd = true) (s : State) (n : Nat) : (s.aslotFire n).outside u = s.outside u := by
  simp [State.aslotFire, attn, tae, lmp, mea, rcd]

@[simp] theorem State.tslotsFire_outside {u : Touch} (attn : u.attn = true) (tae : u.tae = true) (lmp : u.lmp = true)
    (mea : u.mea = true) (rcd : u.rcd = true) (s : State) (also : Nat → Bool) (l : List Nat) :
    (s.tslotsFire also l).outside u = s.outside u := by
  induction l generalizing s with
  | nil => rfl
  | cons a l ih => simp [State.tslotsFire, ih, attn, tae, lmp, mea, rcd]

@[simp] theorem State.aslotsFire_outside {u : Touch} (attn : u.attn = true) (tae : u.tae = true) (lmp : u.lmp = true)
    (mea : u.mea = true) (rcd : u.rcd = true) (s : State) (set0 : Nat) (also : Nat → Bool) (l : List Nat) :
    (s.aslotsFire set0 also l).outside u = s.outside u := by
  induction l generalizing s with
  | nil => rfl
  | cons a l ih => simp [State.aslotsFire, ih, attn, tae, lmp, mea, rcd]

@[simp] theorem State.edgeFire_outside {u : Touch} (attn : u.attn = true) (tae : u.tae = true) (lmp : u.lmp = true)
    (mea : u.mea = true) (rcd : u.rcd = true) (s : State) (set0 : Nat) (alsoT alsoA : Nat → Bool) :
    (s.edgeFire set0 alsoT alsoA).outside u = s.outside u := by
  simp [State.edgeFire, attn, tae, lmp, mea, rcd]

/-! ### T_commit -/

@[simp] theorem State.slotsAct_outside {u : Touch} (attn : u.attn = true) (tae : u.tae = true) (lmp : u.lmp = true)
    (mea : u.mea = true) (rcd : u.rcd = true) (s : State) (l : List Nat) : (s.slotsAct l).outside u = s.outside u := by
  induction l generalizing s with
  | nil => rfl
  | cons a l ih => simp [State.slotsAct, ih, attn, tae, lmp, mea, rcd]

@[simp] theorem State.setAngleAdopt_outside {u : Touch} (attn : u.attn = true) (tae : u.tae = true) (lmp : u.lmp = true)
    (mea : u.mea = true) (rcd : u.rcd = true) (s : State) (t0 : Nat) : (s.setAngleAdopt t0).outside u = s.outside u := by
  unfold State.setAngleAdopt
  split <;> simp [attn, tae, lmp, mea, rcd]

end Sys2Proof.Machine
end
section
/-! PROOF. T_commit, PROVE and admission (R32, R71, R477): the edge with no slot due, the outputs' commands, and the commit. -/

namespace Sys2Proof.Machine

open Sys2Proof.Safety

/-! ### An edge at which no slot is enabled -/

/-- No slot at all is enabled. -/
abbrev SlotsIdle (s : State) : Prop := NoOtherSlot s 256 64

theorem State.cfg_of_img {s t : State} (img : t.img = s.img) : t.cfg = s.cfg := by
  funext a d
  simp only [State.cfg, img]

theorem State.station_of_img {s t : State} (img : t.img = s.img) : t.station = s.station := congrArg (·.getD station0) img

theorem slotsIdle_of_img {s t : State} (img : t.img = s.img) (h : SlotsIdle s) : SlotsIdle t := by
  have cfg := State.cfg_of_img img
  obtain ⟨angle, time⟩ := h
  refine ⟨fun j ne => ?_, fun j ne => ?_⟩
  · rw [State.aslotEn, State.aslotCtl, cfg]
    exact angle j ne
  · rw [State.tslotCtl, cfg]
    exact time j ne

theorem SlotsIdle.angle {s : State} (h : SlotsIdle s) {j : Nat} (lt : j < 256) : s.aslotEn j = false :=
  h.1 ⟨j, lt⟩ (Nat.ne_of_lt lt)

theorem SlotsIdle.time {s : State} (h : SlotsIdle s) {j : Nat} (lt : j < 64) : bit (s.tslotCtl j) 31 = false :=
  h.2 ⟨j, lt⟩ (Nat.ne_of_lt lt)

theorem State.tslotsFire_idle {s : State} {l : List Nat} (h : ∀ j ∈ l, bit (s.tslotCtl j) 31 = false) :
    s.tslotsFire (fun _ => false) l = s := by
  induction l with
  | nil => rfl
  | cons j l ih =>
    have off : s.tslotDue j = false := by simp [State.tslotDue, State.tslotOn, h j (by simp)]
    rw [State.tslotsFire, off]
    exact ih fun i mem => h i (by simp [mem])

theorem State.aslotsFire_idle {s : State} {l : List Nat} (set0 : Nat) (h : ∀ j ∈ l, s.aslotEn j = false) :
    s.aslotsFire set0 (fun _ => false) l = s := by
  induction l with
  | nil => rfl
  | cons j l ih =>
    have off : s.aslotDue set0 j = false := by simp [State.aslotDue, State.aslotOn, h j (by simp)]
    rw [State.aslotsFire, off]
    exact ih fun i mem => h i (by simp [mem])

theorem State.edgeFire_idle {s : State} (h : SlotsIdle s) (set0 : Nat) :
    s.edgeFire set0 (fun _ => false) (fun _ => false) = s := by
  rw [State.edgeFire, State.tslotsFire_idle fun j mem => h.time (by simpa using mem),
    State.aslotsFire_idle set0 fun j mem => h.angle (by simpa using mem)]

theorem State.slotsPassed_idle {s : State} (h : SlotsIdle s) (old : Nat) (d : Int) : s.slotsPassed old d = [] := by
  rw [State.slotsPassed, List.filter_eq_nil_iff]
  intro j mem
  simp [h.angle (show j < 256 by simpa using mem)]

/-- What the set angle's adoption touches where no slot is enabled: the flashes of the aspects. -/
def adoptTouch : Touch := { attn := true, tae := true, lmp := true, rcd := true }

theorem State.setAngleAdopt_idle {s : State} (h : SlotsIdle s) (t0 : Nat) :
    (s.setAngleAdopt t0).outside adoptTouch = s.outside adoptTouch := by
  unfold State.setAngleAdopt
  split
  · rfl
  · rename_i a f _
    have idle : SlotsIdle { s with tae.samAng := a, tae.samFrq := f, tae.samT0 := t0, tae.samSet := true, tae.samHold := none } :=
      slotsIdle_of_img rfl h
    dsimp only
    simp only [State.slotsPassed_idle idle, State.slotsAct]
    split
    · rw [State.flashesAdopt_outside rfl rfl rfl]
      simp [adoptTouch]
    · split <;> simp [adoptTouch]

theorem State.commitFires_idle {s : State} (h : SlotsIdle s) (t0 : Nat) :
    (s.commitFires t0).outside adoptTouch = s.outside adoptTouch := by
  have adopted := State.setAngleAdopt_idle h t0
  have idle : SlotsIdle (s.setAngleAdopt t0) := slotsIdle_of_img (State.img_of_outside adopted rfl) h
  unfold State.commitFires
  dsimp only
  split
  · rw [State.edgeFire_idle idle, adopted]
  · rw [State.edgeFire_idle h]

/-! ### The parts of the commit (R71) -/

/-- A lane that may commit commits its outputs, and so does one that computes (R32). -/
def State.commitsOutputs (s : State) : Bool := (s.voting && s.lane.commitOk) || (s.lane.computing && s.outputReady)

/-- It drives them where its set holds and no SAFE latch or MODE forbids it. -/
def State.commitSends (s : State) : Bool :=
  (s.voting && s.lane.commitOk) && decide (s.lane.role = .holding) && !s.lane.safeLatch && decide (s.mode < 2)

/-- The outputs of the commit. -/
def State.outputsDone (s : State) (n tc : Nat) : State :=
  if s.commitsOutputs then s.commitOutputs n tc s.commitSends else s

/-- What the commit touches after the outputs: the mirror stream, the state transfers, the targeted self-test, the phase. -/
def afterTouch : Touch := { lnb := true, crt := true, grd := true, tae := true }

theorem State.commitRun_outside (s : State) (n tc : Nat) :
    (s.commitRun n tc).outside afterTouch = (s.outputsDone n tc).outside afterTouch := by
  show State.outside afterTouch { (State.targetedStart _) with tae.phase := _ } = _
  unfold State.outputsDone State.commitsOutputs State.commitSends
  (repeat' split) <;> simp [afterTouch]

/-! ### Tables whose every entry changes -/

/-- Every entry reads as changed, where the change keeps what an unlisted key reads as. -/
theorem tabGet_tabMap {α : Type} [DecidableEq α] {d : α} {f : Nat → α → α} (fix : ∀ k, f k d = d) (k : Nat) :
    ∀ {t : Tab α}, tabWf (fun _ => d) t = true → tabGet d k (tabMap d f t) = f k (tabGet d k t)
  | [], _ => (fix k).symm
  | (j, w) :: t, wf => by
    simp only [tabWf, Bool.and_eq_true, decide_eq_true_eq] at wf
    obtain ⟨⟨_, above⟩, rest⟩ := wf
    have ih := tabGet_tabMap fix k rest
    simp only [tabMap, List.map_cons, List.filter_cons] at ih ⊢
    by_cases here : k = j
    · subst here
      by_cases off : f k w = d
      · simp only [off, ne_eq, not_true, decide_false, Bool.false_eq_true, if_false, tabGet, if_true]
        rw [ih, tabGet_of_above d above, fix]
      · simp [off, tabGet]
    · split
      · simp only [tabGet, here, if_false]
        exact ih
      · simp only [tabGet, here, if_false]
        exact ih

/-! ### The outputs (R217, R221) -/

/-- The table of the outputs has its canonical form. -/
abbrev VoutsWf (s : State) : Prop := tabWf (fun _ => vout0) s.vio.vout = true

theorem State.updVout_wf {s : State} (wf : VoutsWf s) (m : Nat) (f : VoutState → VoutState) : VoutsWf (s.updVout m f) :=
  tabWf_tabUpd (fun _ => vout0) m f wf

theorem State.updVout_vout {s : State} (wf : VoutsWf s) (m n : Nat) (f : VoutState → VoutState) :
    (s.updVout m f).vout n = if n = m then f (s.vout n) else s.vout n := by
  split
  · rename_i same
    subst same
    exact tabGet_tabUpd_self (fun _ => vout0) n f wf
  · rename_i ne
    exact tabGet_tabUpd_ne vout0 vout0 f ne s.vio.vout

/-- The commands of the outputs, and the latches but that of output `m`, stand in `t` as in `s`. -/
structure CommandsKept (m : Nat) (s t : State) : Prop where
  wf : VoutsWf s → VoutsWf t
  command : VoutsWf s → ∀ n, (t.vout n).committed = (s.vout n).committed ∧ (t.vout n).effective = (s.vout n).effective
  latch : VoutsWf s → ∀ n, n ≠ m → (t.vout n).lockout = (s.vout n).lockout

theorem CommandsKept.refl (m : Nat) (s : State) : CommandsKept m s s := ⟨id, fun _ _ => ⟨rfl, rfl⟩, fun _ _ _ => rfl⟩

theorem CommandsKept.trans {m : Nat} {s t u : State} (h : CommandsKept m s t) (k : CommandsKept m t u) :
    CommandsKept m s u :=
  ⟨fun wf => k.wf (h.wf wf),
   fun wf n => ⟨(k.command (h.wf wf) n).1.trans (h.command wf n).1, (k.command (h.wf wf) n).2.trans (h.command wf n).2⟩,
   fun wf n ne => (k.latch (h.wf wf) n ne).trans (h.latch wf n ne)⟩

theorem CommandsKept.of_vout {m : Nat} {s t : State} (h : t.vio.vout = s.vio.vout) : CommandsKept m s t := by
  have same (n : Nat) : t.vout n = s.vout n := by rw [State.vout, h, State.vout]
  exact ⟨fun wf => by rw [VoutsWf, h]; exact wf, fun _ n => by simp [same], fun _ n _ => by rw [same]⟩

theorem CommandsKept.updVout (s : State) (m : Nat) {f : VoutState → VoutState}
    (h : ∀ v, (f v).committed = v.committed ∧ (f v).effective = v.effective) : CommandsKept m s (s.updVout m f) := by
  refine ⟨fun wf => State.updVout_wf wf m f, fun wf n => ?_, fun wf n ne => ?_⟩
  · rw [State.updVout_vout wf]
    split
    · exact h _
    · exact ⟨rfl, rfl⟩
  · rw [State.updVout_vout wf, if_neg ne]

theorem CommandsKept.lockMonitor (s : State) (m : Nat) (cause : LockCause) : CommandsKept m s (s.lockMonitor m cause) :=
  .trans (.updVout s m (f := fun v => { v with mon := .locked, lockout := true }) fun _ => ⟨rfl, rfl⟩)
    (.of_vout (by simp [State.lockMonitor]))

theorem CommandsKept.monElapse (s : State) (m : Nat) (before : Nat → Nat → Bool) :
    CommandsKept m s (s.monElapse m before) := by
  unfold State.monElapse
  split
  · split
    · exact .lockMonitor s m _
    · exact .refl m s
  · exact .refl m s

theorem CommandsKept.monShows (s : State) (m : Nat) : CommandsKept m s (s.monShows m) := by
  unfold State.monShows
  split
  · exact .lockMonitor s m _
  · exact .updVout s m fun _ => ⟨rfl, rfl⟩
  · exact .lockMonitor s m _
  · exact .updVout s m fun _ => ⟨rfl, rfl⟩
  · exact .refl m s

theorem CommandsKept.monCommand (s : State) (m : Nat) : CommandsKept m s (s.monCommand m) := by
  have elapsed := CommandsKept.monElapse s m fun t k => decide (t ≤ k)
  unfold State.monCommand
  dsimp only
  split
  · split
    iterate 4 exact elapsed.trans (.trans (.updVout _ m (by exact fun _ => ⟨rfl, rfl⟩)) (.monShows _ m))
    · exact elapsed
  · exact .refl m s

theorem CommandsKept.voutWave (s : State) (m : Nat) : CommandsKept m s (s.voutWave m) := by
  unfold State.voutWave
  split <;> exact .updVout s m fun _ => ⟨rfl, rfl⟩

/-- The effective command that output `n` takes for the committed value `c` (R217). -/
def State.effectiveOf (s : State) (n : Nat) (c : Bool) : Bool := c && !(s.vout n).lockout && s.voutEn n && !s.feedCut n

/-- An output takes its command; of the others' nothing changes. -/
theorem State.voutCommit_takes {s : State} (wf : VoutsWf s) (read : Nat → Bool) (m : Nat) :
    VoutsWf (s.voutCommit read m) ∧
    ((s.voutCommit read m).vout m).committed = read (0x3F080 + m) ∧
    ((s.voutCommit read m).vout m).effective = s.effectiveOf m (read (0x3F080 + m)) ∧
    ∀ n, n ≠ m → ((s.voutCommit read m).vout n).committed = (s.vout n).committed ∧
      ((s.voutCommit read m).vout n).effective = (s.vout n).effective ∧
      ((s.voutCommit read m).vout n).lockout = (s.vout n).lockout := by
  generalize taken : (s.updVout m fun v => { v with
    committed := read (0x3F080 + m), effective := s.effectiveOf m (read (0x3F080 + m)) }) = t
  have wft : VoutsWf t := taken ▸ State.updVout_wf wf m _
  have atM (n : Nat) : t.vout n = if n = m then { s.vout n with
      committed := read (0x3F080 + m), effective := s.effectiveOf m (read (0x3F080 + m)) } else s.vout n := by
    rw [← taken, State.updVout_vout wf]
  have kept : CommandsKept m t (s.voutCommit read m) := by
    have wave := CommandsKept.voutWave t m
    have done : s.voutCommit read m = if s.effectiveOf m (read (0x3F080 + m)) = (s.vout m).effective then t.voutWave m
        else (t.voutWave m).monCommand m := by rw [← taken]; rfl
    rw [done]
    split
    · exact wave
    · exact wave.trans (.monCommand _ m)
  refine ⟨kept.wf wft, ?_, ?_, fun n ne => ⟨?_, ?_, ?_⟩⟩
  · rw [(kept.command wft m).1, atM, if_pos rfl]
  · rw [(kept.command wft m).2, atM, if_pos rfl]
  · rw [(kept.command wft n).1, atM, if_neg ne]
  · rw [(kept.command wft n).2, atM, if_neg ne]
  · rw [kept.latch wft n ne, atM, if_neg ne]

/-- It depends on the latch, the image and the isolation of the feeds. -/
theorem State.effectiveOf_congr {s t : State} {n : Nat} (latch : (t.vout n).lockout = (s.vout n).lockout)
    (img : t.img = s.img)
    (iso : t.lmp.iso = s.lmp.iso) (hold : t.lmp.isoHold = s.lmp.isoHold) (c : Bool) : t.effectiveOf n c = s.effectiveOf n c := by
  simp only [State.effectiveOf, latch, State.voutEn, State.cfg_of_img img, State.feedCut, State.station_of_img img, iso, hold]

def voutTouch : Touch := { attn := true, vio := true, rcd := true }

theorem State.effectiveOf_voutCommit {s : State} (wf : VoutsWf s) (read : Nat → Bool) {m n : Nat} (ne : n ≠ m) (c : Bool) :
    (s.voutCommit read m).effectiveOf n c = s.effectiveOf n c := by
  obtain ⟨_, _, _, others⟩ := State.voutCommit_takes wf read m
  have out : (s.voutCommit read m).outside voutTouch = s.outside voutTouch := State.voutCommit_outside rfl rfl rfl s read m
  have lmp := State.lmp_of_outside out rfl
  exact State.effectiveOf_congr (others n ne).2.2 (State.img_of_outside out rfl) (congrArg Lmp.iso lmp) (congrArg Lmp.isoHold lmp) c

/-- Every output of a list takes its command, each by what held before. -/
theorem State.voutsCommit_takes (read : Nat → Bool) {n : Nat} : ∀ (l : List Nat) {s : State}, VoutsWf s → l.Nodup →
    VoutsWf (s.voutsCommit read l) ∧
    (n ∈ l → ((s.voutsCommit read l).vout n).committed = read (0x3F080 + n) ∧
      ((s.voutsCommit read l).vout n).effective = s.effectiveOf n (read (0x3F080 + n))) ∧
    (n ∉ l → ((s.voutsCommit read l).vout n).committed = (s.vout n).committed ∧
      ((s.voutsCommit read l).vout n).effective = (s.vout n).effective)
  | [], _, wf, _ => ⟨wf, by simp, fun _ => ⟨rfl, rfl⟩⟩
  | m :: l, s, wf, nodup => by
    obtain ⟨fresh, rest⟩ := List.nodup_cons.mp nodup
    obtain ⟨wf1, own, eff, others⟩ := State.voutCommit_takes wf read m
    obtain ⟨wf2, taken, left⟩ := State.voutsCommit_takes read (n := n) l wf1 rest
    refine ⟨wf2, fun mem => ?_, fun mem => ?_⟩
    · by_cases here : n = m
      · subst here
        obtain ⟨c, e⟩ := left fresh
        exact ⟨c.trans own, e.trans eff⟩
      · obtain ⟨c, e⟩ := taken ((List.mem_cons.mp mem).resolve_left here)
        exact ⟨c, e.trans (State.effectiveOf_voutCommit wf read here _)⟩
    · have ne : n ≠ m := fun e => mem (by simp [e])
      obtain ⟨c, e⟩ := left fun i => mem (by simp [i])
      obtain ⟨c', e', _⟩ := others n ne
      exact ⟨c.trans c', e.trans e'⟩

/-! ### The outputs of a commit (R217) -/

/-- The outputs' commit begins with the drives as they will be, and with no isolation held. -/
def State.commitStart (s : State) (sends : Bool) : State :=
  { (if sends then s else s.wavesCut) with lmp.isoHold := 0, lane.driving := sends }

def outputsTouch : Touch :=
  { sent := true, attn := true, lane := true, lge := true, vio := true, lmp := true, fld := true, cab := true, rcd := true }

theorem State.commitOutputs_outside (s : State) (n tc : Nat) (sends : Bool) :
    (s.commitOutputs n tc sends).outside outputsTouch = s.outside outputsTouch := by
  cases sends <;> simp [State.commitOutputs, outputsTouch, State.wavesCut]

@[simp] theorem State.commitOutputs_core (s : State) (n tc : Nat) (sends : Bool) :
    (s.commitOutputs n tc sends).lane.core = s.lane.core.withDriving sends := by
  cases sends <;> simp [State.commitOutputs]

/-- Of the outputs' own unit only their commands move. -/
theorem State.commitOutputs_vio (s : State) (n tc : Nat) (sends : Bool) : (s.commitOutputs n tc sends).vio =
    (if s.blockLive 6 then (s.commitStart sends).voutsCommit (imageBit s.station s.lge.oimg) (List.range 32)
      else s.commitStart sends).vio := by
  let others : Touch := { sent := true, attn := true, lge := true, lmp := true, fld := true, cab := true, rcd := true }
  have live : (s.commitStart sends).blockLive 6 = s.blockLive 6 := by cases sends <;> rfl
  rw [← live]
  refine State.vio_of_outside (u := others) ?_ rfl
  cases sends <;> simp [State.commitOutputs, State.commitStart, others]

/-- An output whose wave halts. -/
def VoutState.halted (now : Nat) (v : VoutState) : VoutState := { v with wave := v.wave.halt now }

/-- The halt of the waves leaves the commands and the latches. -/
theorem State.wavesCut_vout {s : State} (wf : VoutsWf s) (n : Nat) : s.wavesCut.vout n = (s.vout n).halted s.pins.now :=
  tabGet_tabMap (f := fun _ => VoutState.halted s.pins.now) (fun _ => by simp [vout0, wave0, VoutState.halted, Wave.halt]) n wf

theorem State.wavesCut_wf {s : State} (wf : VoutsWf s) : VoutsWf s.wavesCut :=
  tabWf_tabMap vout0 (fun _ => VoutState.halted s.pins.now) wf

theorem State.commitOutputs_takes {s : State} (wf : VoutsWf s) (live : s.blockLive 6 = true) (k tc : Nat) (sends : Bool)
    {n : Nat}
    (lt : n < 32) :
    ((s.commitOutputs k tc sends).vout n).committed = imageBit s.station s.lge.oimg (0x3F080 + n) ∧
    ((s.commitOutputs k tc sends).vout n).effective =
      ({ s with lmp.isoHold := 0 } : State).effectiveOf n (imageBit s.station s.lge.oimg (0x3F080 + n)) := by
  have start : VoutsWf (s.commitStart sends) ∧ ((s.commitStart sends).vout n).lockout = (s.vout n).lockout := by
    cases sends with
    | true => exact ⟨wf, rfl⟩
    | false =>
      have cut := congrArg VoutState.lockout (State.wavesCut_vout wf n)
      exact ⟨State.wavesCut_wf wf, cut⟩
  obtain ⟨wf0, latch⟩ := start
  obtain ⟨_, taken, _⟩ := State.voutsCommit_takes (imageBit s.station s.lge.oimg) (n := n) (List.range 32) wf0 List.nodup_range
  obtain ⟨committed, effective⟩ := taken (by simpa using lt)
  have vout : (s.commitOutputs k tc sends).vout n =
      ((s.commitStart sends).voutsCommit (imageBit s.station s.lge.oimg) (List.range 32)).vout n := by
    rw [State.vout, State.commitOutputs_vio, if_pos live, State.vout]
  rw [vout]
  refine ⟨committed, effective.trans (State.effectiveOf_congr (s := { s with lmp.isoHold := 0 }) latch ?_ ?_ ?_ _)⟩ <;> cases sends <;> rfl

/-! ### The commit of a lane in RUN (R71) -/

def mirrorTouch : Touch := { lnb := true }

/-- After the outputs the commit comes down to frames of the lane bus, the targeted self-test and the phase. -/
theorem State.commitRun_eq (s : State) (n tc : Nat) : ∃ x : State,
    s.commitRun n tc = { x.targetedStart with tae.phase := if tc = s.inp.t0 then s.tae.phase else 10 } ∧
    x.outside mirrorTouch = (s.outputsDone n tc).outside mirrorTouch := by
  refine ⟨_, rfl, ?_⟩
  unfold State.outputsDone State.commitsOutputs State.commitSends
  (repeat' split) <;> simp [mirrorTouch]

theorem State.targetedStart_guard (s : State)
    : s.targetedStart.grd.comm = s.grd.comm ∧ s.targetedStart.grd.cand = s.grd.cand := by
  unfold State.targetedStart
  dsimp only
  (repeat' split) <;> exact ⟨rfl, rfl⟩

def testTouch : Touch := { crt := true, grd := true }

/-- The commit, read off its outputs: the guard images, the phase, and every unit that only the outputs move. -/
theorem State.commitRun_reads (s : State) (n tc : Nat) :
    (s.commitRun n tc).grd.comm = s.grd.comm ∧ (s.commitRun n tc).grd.cand = s.grd.cand ∧
    (s.commitRun n tc).tae.phase = (if tc = s.inp.t0 then s.tae.phase else 10) ∧
    (s.commitRun n tc).vio = (s.outputsDone n tc).vio ∧ (s.commitRun n tc).fld = (s.outputsDone n tc).fld ∧
    (s.commitRun n tc).pins.now = s.pins.now ∧ (s.commitRun n tc).lane.core = (s.outputsDone n tc).lane.core := by
  obtain ⟨x, run, mirror⟩ := s.commitRun_eq n tc
  have outputs : (s.outputsDone n tc).outside outputsTouch = s.outside outputsTouch := by
    unfold State.outputsDone
    split
    · exact s.commitOutputs_outside n tc _
    · rfl
  have test : x.targetedStart.outside testTouch = x.outside testTouch := State.targetedStart_outside rfl rfl x
  have grd : x.grd = s.grd := (State.grd_of_outside mirror rfl).trans (State.grd_of_outside outputs rfl)
  have now : x.targetedStart.pins.now = s.pins.now :=
    ((State.now_of_outside test rfl rfl).trans (State.now_of_outside mirror rfl rfl)).trans (State.now_of_outside outputs rfl rfl)
  obtain ⟨comm, cand⟩ := x.targetedStart_guard
  rw [run]
  exact ⟨comm.trans (congrArg Grd.comm grd), cand.trans (congrArg Grd.cand grd), rfl,
    (State.vio_of_outside test rfl).trans (State.vio_of_outside mirror rfl),
    (State.fld_of_outside test rfl).trans (State.fld_of_outside mirror rfl), now,
    (State.core_of_outside test rfl).trans (State.core_of_outside mirror rfl)⟩

/-! ### The shared operations -/

@[simp] theorem State.learnDone_iso (s : State) (failed : Bool) : (s.learnDone failed).lmp.iso = s.lmp.iso := by
  unfold State.learnDone
  split <;> simp

@[simp] theorem State.learnFail_iso (s : State) (n : Nat) : (s.learnFail n).lmp.iso = s.lmp.iso := by
  unfold State.learnFail
  (repeat' split) <;> simp

/-! ### Lamps and lamp proving -/

@[simp] theorem State.updLamp_iso (s : State) (n : Nat) (f : LampState → LampState) :
    (s.updLamp n f).lmp.iso = s.lmp.iso := rfl

@[simp] theorem State.updGroup_iso (s : State) (g : Nat) (f : AspectState → AspectState) :
    (s.updGroup g f).lmp.iso = s.lmp.iso := rfl

@[simp] theorem State.lampWave_iso (s : State) (n : Nat) : (s.lampWave n).lmp.iso = s.lmp.iso := by
  unfold State.lampWave
  (repeat' split) <;> simp

@[simp] theorem State.expectSet_iso (s : State) (n : Nat) (e : Expectation) : (s.expectSet n e).lmp.iso = s.lmp.iso := by
  unfold State.expectSet
  (repeat' split) <;> simp

@[simp] theorem State.lampRefresh_iso (s : State) (n : Nat) : (s.lampRefresh n).lmp.iso = s.lmp.iso := by
  unfold State.lampRefresh
  split <;> simp

@[simp] theorem State.lampsRefresh_iso (s : State) (l : List Nat) : (s.lampsRefresh l).lmp.iso = s.lmp.iso := by
  induction l generalizing s with
  | nil => rfl
  | cons a l ih => simp [State.lampsRefresh, ih]

@[simp] theorem State.flashAdopt_iso (s : State) (g : Nat) : (s.flashAdopt g).lmp.iso = s.lmp.iso := by
  unfold State.flashAdopt
  dsimp only
  split <;> simp

@[simp] theorem State.flashesAdopt_iso (s : State) (l : List Nat) : (s.flashesAdopt l).lmp.iso = s.lmp.iso := by
  induction l generalizing s with
  | nil => rfl
  | cons a l ih => simp [State.flashesAdopt, ih]

/-! ### T_commit (R71, R179) -/

/-- A set that need not yield, in normal checking, comes to its commit as it is. -/
theorem State.atCommit_plain {s : State} (keeps : s.yields = false) (normal : s.grd.fbExit = none) (t0 : Nat) :
    s.atCommit t0 = s.advanceCt (t0 + s.cycC * s.basicNs) := by
  have stays : (s.advanceCt (t0 + s.cycC * s.basicNs)).roleYield = s.advanceCt (t0 + s.cycC * s.basicNs) :=
    if_neg fun yields => Bool.noConfusion (keeps.symm.trans yields)
  have here : (s.advanceCt (t0 + s.cycC * s.basicNs)).grd.fbExit = none := normal
  rw [State.atCommit, stays, State.fallbackLeave, here]

/-- The swap in normal checking: the candidate becomes the committed image. -/
theorem State.guardSwap_plain {s : State} (normal : s.grd.fbExit = none) :
    s.guardSwap.grd.comm = s.grd.cand.getD [] ∧ s.guardSwap.grd.cand = none ∧ s.guardSwap.lge = s.lge := by
  simp [State.guardSwap, normal]

/-- What the swap touches. -/
def swapTouch : Touch := { grd := true, lge := true }

theorem State.guardSwap_outside (s : State) : s.guardSwap.outside swapTouch = s.outside swapTouch := by
  simp [State.guardSwap, swapTouch]

def doneTouch : Touch := { lane := true, lge := true }

theorem State.commitDone_outside (s : State) (t0 : Nat) : (s.commitDone t0).outside doneTouch = s.outside doneTouch := by
  unfold State.commitDone
  split <;> simp [State.commitClear, doneTouch]

/-- The commit of a lane in RUN, read through its end: `v` is the lane after the swap. -/
theorem State.commitImages_reads {v : State} (run : v.lane.st = .run) (ready : Bool) (n tc t0 : Nat) :
    ∃ w : State, w = { v with grd.chkok := ready } ∧ ((v.commitImages ready n tc).commitDone t0).grd.comm = v.grd.comm ∧
      ((v.commitImages ready n tc).commitDone t0).grd.cand = v.grd.cand ∧
      ((v.commitImages ready n tc).commitDone t0).grd.chkok = false ∧
      ((v.commitImages ready n tc).commitDone t0).tae.phase = (if tc = v.inp.t0 then v.tae.phase else 10) ∧
      ((v.commitImages ready n tc).commitDone t0).vio = (w.outputsDone n tc).vio ∧
      ((v.commitImages ready n tc).commitDone t0).fld = (w.outputsDone n tc).fld ∧
      ((v.commitImages ready n tc).commitDone t0).pins.now = v.pins.now ∧
      ((v.commitImages ready n tc).commitDone t0).lane.core = (w.outputsDone n tc).lane.core := by
  generalize from_ : ({ v with grd.chkok := ready } : State) = w
  have comm : w.grd.comm = v.grd.comm := by rw [← from_]
  have cand : w.grd.cand = v.grd.cand := by rw [← from_]
  have phase : w.tae.phase = v.tae.phase ∧ w.inp.t0 = v.inp.t0 ∧ w.pins.now = v.pins.now := by rw [← from_]; exact ⟨rfl, rfl, rfl⟩
  obtain ⟨comm', cand', phase', vio', fld', now', core'⟩ := w.commitRun_reads n tc
  have images : v.commitImages ready n tc = { w.commitRun n tc with grd.chkok := false } := by
    rw [State.commitImages, if_pos run, from_]
  generalize w.commitRun n tc = r at *
  have done := State.commitDone_outside { r with grd.chkok := false } t0
  have grd := State.grd_of_outside done rfl
  refine ⟨w, rfl, ?_⟩
  rw [images, grd, State.tae_of_outside done rfl, State.vio_of_outside done rfl, State.fld_of_outside done rfl,
    State.now_of_outside done rfl rfl, State.commitDone_core]
  exact ⟨comm'.trans comm, cand'.trans cand, rfl, by rw [phase', phase.1, phase.2.1], vio', fld', now'.trans phase.2.2, core'⟩

/-! ### The edge at T_commit where no slot is enabled -/

theorem State.setAngleAdopt_iso {s : State} (h : SlotsIdle s) (t0 : Nat) : (s.setAngleAdopt t0).lmp.iso = s.lmp.iso := by
  unfold State.setAngleAdopt
  split
  · rfl
  · rename_i a f _
    have idle : SlotsIdle { s with tae.samAng := a, tae.samFrq := f, tae.samT0 := t0, tae.samSet := true, tae.samHold := none } :=
      slotsIdle_of_img rfl h
    dsimp only
    simp only [State.slotsPassed_idle idle, State.slotsAct]
    (repeat' split) <;> simp

/-- What the edge at T_commit touches where slots are due. -/
def edgeTouch : Touch := { attn := true, tae := true, lmp := true, mea := true, rcd := true }

theorem State.commitFires_outside (s : State) (t0 : Nat) : (s.commitFires t0).outside edgeTouch = s.outside edgeTouch := by
  simp [State.commitFires, edgeTouch]

theorem State.commitFires_iso {s : State} (h : SlotsIdle s) (t0 : Nat) : (s.commitFires t0).lmp.iso = s.lmp.iso := by
  have idle : SlotsIdle (s.setAngleAdopt t0) := slotsIdle_of_img (State.img_of_outside (State.setAngleAdopt_idle h t0) rfl) h
  unfold State.commitFires
  dsimp only
  split
  · rw [State.edgeFire_idle idle, State.setAngleAdopt_iso h]
  · rw [State.edgeFire_idle h]

/-- What a lane brings to its commit, `v` being the lane after the edge and the swap: all that the outputs are formed from. -/
structure Commits (s v : State) (at_ : Nat) : Prop where
  comm : v.grd.comm = s.grd.cand.getD []
  cand : v.grd.cand = none
  quiet : v.lane.quiet = s.lane.quiet
  now : v.pins.now = max s.pins.now at_
  vio : v.vio = s.vio
  fld : v.fld = s.fld
  lge : v.lge = s.lge
  img : v.img = s.img
  crt : v.crt = s.crt
  inp : v.inp = s.inp
  iso : v.lmp.iso = s.lmp.iso

theorem commits_plain {s : State} (idle : SlotsIdle s) (normal : s.grd.fbExit = none) (c t0 : Nat) :
    Commits s ((s.advanceCt c).commitFires t0).guardSwap (s.clockAt c) := by
  have idle' : SlotsIdle (s.advanceCt c) := slotsIdle_of_img rfl idle
  have fires := State.commitFires_idle idle' t0
  have iso := State.commitFires_iso idle' t0
  have grd : ((s.advanceCt c).commitFires t0).grd = (s.advanceCt c).grd := State.grd_of_outside fires rfl
  generalize (s.advanceCt c).commitFires t0 = e at fires iso grd
  have swap := e.guardSwap_outside
  obtain ⟨comm, cand, lge⟩ := State.guardSwap_plain (s := e) (by rw [grd]; exact normal)
  exact {
    comm := by rw [comm, grd]; rfl
    cand := cand
    quiet := by rw [State.quiet_of_outside swap rfl, State.quiet_of_outside fires rfl]; rfl
    now := by rw [State.now_of_outside swap rfl rfl, State.now_of_outside fires rfl rfl]; rfl
    vio := by rw [State.vio_of_outside swap rfl, State.vio_of_outside fires rfl]; rfl
    fld := by rw [State.fld_of_outside swap rfl, State.fld_of_outside fires rfl]; rfl
    lge := by rw [lge, State.lge_of_outside fires rfl]; rfl
    img := by rw [State.img_of_outside swap rfl, State.img_of_outside fires rfl]; rfl
    crt := by rw [State.crt_of_outside swap rfl, State.crt_of_outside fires rfl]; rfl
    inp := by rw [State.inp_of_outside swap rfl, State.inp_of_outside fires rfl]; rfl
    iso := (congrArg Lmp.iso (State.lmp_of_outside swap rfl)).trans iso }

/-- What a field of the lane other than ATTN reads follows from the quiet lane. -/
theorem read_of_quiet {α : Type} {l m : Lane} (h : l.quiet = m.quiet) (p : Lane → α) (same : ∀ l, p l.quiet = p l)
    : p l = p m := by
  rw [← same l, h, same]

/-- The conditions of the commit on the lane. -/
theorem Commits.lane {s w : State} {c : Nat} (h : Commits s w c) :
    (w.voting && w.lane.commitOk) = (s.voting && s.lane.commitOk) ∧ w.lane.computing = s.lane.computing ∧
    (decide (w.lane.role = .holding) && !w.lane.safeLatch && decide (w.mode < 2)) =
      (decide (s.lane.role = .holding) && !s.lane.safeLatch && decide (s.mode < 2)) :=
  ⟨read_of_quiet h.quiet (fun l => (decide (l.st = .run) && decide (l.role ≠ .excluded)) && l.commitOk) fun _ => rfl,
   read_of_quiet h.quiet Lane.computing fun _ => rfl,
   read_of_quiet h.quiet (fun l => decide (l.role = .holding) && !l.safeLatch && decide (bits l.pin.toNat 7 2 < 2)) fun _ => rfl⟩

/-- A T_commit in RUN at which the set need not yield. -/
theorem outputCommit_plain {s : State} {t0 : Nat} (ct : s.hasCt = true) (img : s.img.isSome = true) (run : s.lane.st = .run)
    (due : s.commitOf = some t0) (later : t0 + s.cycC * s.basicNs ≠ s.inp.t0) (idle : SlotsIdle s) (normal : s.grd.fbExit = none)
    (keeps : s.yields = false) : ∃ t w : State, exec .outputCommit s = .next t ∧
      Commits s w (s.clockAt (t0 + s.cycC * s.basicNs)) ∧
      t.grd.comm = s.grd.cand.getD [] ∧ t.grd.cand = none ∧ t.grd.chkok = false ∧ t.tae.phase = 10 ∧
      t.pins.now = max s.pins.now (s.clockAt (t0 + s.cycC * s.basicNs)) ∧
      t.vio = (w.outputsDone (t0 / s.logicNs) (t0 + s.cycC * s.basicNs)).vio ∧
      t.fld = (w.outputsDone (t0 / s.logicNs) (t0 + s.cycC * s.basicNs)).fld ∧
      t.lane.core = (w.outputsDone (t0 / s.logicNs) (t0 + s.cycC * s.basicNs)).lane.core := by
  have commits := commits_plain idle normal (t0 + s.cycC * s.basicNs) t0
  have at_ := State.atCommit_plain keeps normal t0
  have exec_ := execOutputCommit_eq due (by rw [ct, img]; rfl)
  rw [at_] at exec_
  generalize ((s.advanceCt (t0 + s.cycC * s.basicNs)).commitFires t0).guardSwap = v at commits exec_
  generalize ((s.advanceCt (t0 + s.cycC * s.basicNs)).commitFires t0).outputReady = ready at exec_
  obtain ⟨w, rfl, comm, cand, chkok, phase, vio, fld, now, core⟩ := State.commitImages_reads
    ((read_of_quiet commits.quiet Lane.st fun _ => rfl).trans run) ready (t0 / s.logicNs) (t0 + s.cycC * s.basicNs) t0
  have same : Commits s { v with grd.chkok := ready } (s.clockAt (t0 + s.cycC * s.basicNs)) :=
    { commits with }
  exact ⟨_, _, exec_, same, comm.trans commits.comm, cand.trans commits.cand, chkok,
    phase.trans (if_neg (by rw [commits.inp]; exact later)), now.trans commits.now, vio, fld, core⟩

theorem outputCommit_drives (n t0 : Nat) (s : State) (ct : s.hasCt = true) (img : s.img.isSome = true)
    (run : s.lane.st = .run)
    (holding : s.lane.role = .holding) (due : s.commitOf = some t0) (later : t0 + s.cycC * s.basicNs ≠ s.inp.t0)
    (idle : NoOtherSlot s 256 64) (normal : s.grd.fbExit = none) (ok : s.lane.commitOk = true) (keeps : s.yields = false)
    (live : s.blockLive 6 = true) (wf : TablesWf s) (lt : n < 32) :
    Answers .outputCommit s fun t =>
      t.grd.comm = s.grd.cand.getD [] ∧ t.grd.cand = none ∧ t.grd.chkok = false ∧ t.tae.phase = 10 ∧
      t.pins.now = max s.pins.now (s.clockAt (t0 + s.cycC * s.basicNs)) ∧
      t.lane.driving = (!s.lane.safeLatch && decide (s.mode < 2)) ∧
      (t.vout n).committed = imageBit s.station s.lge.oimg (0x3F080 + n) ∧
      (t.vout n).effective = (imageBit s.station s.lge.oimg (0x3F080 + n) && !(s.vout n).lockout && s.voutEn n &&
        !({ s with lmp.isoHold := 0 } : State).feedCut n) := by
  obtain ⟨t, w, done, commits, comm, cand, chkok, phase, now, vio, -, core⟩ :=
    outputCommit_plain ct img run due later idle normal keeps
  obtain ⟨may, _, drives⟩ := commits.lane
  have voting : s.voting = true := by simp [State.voting, run, holding]
  rw [voting, ok] at may
  have sends : w.commitSends = (!s.lane.safeLatch && decide (s.mode < 2)) := by
    rw [State.commitSends, may, Bool.true_and, Bool.true_and, drives, holding]
    rfl
  have outputs (k c : Nat) : w.outputsDone k c = w.commitOutputs k c (!s.lane.safeLatch && decide (s.mode < 2)) := by
    rw [State.outputsDone, State.commitsOutputs, may, sends]
    rfl
  rw [outputs] at vio core
  have wfw : VoutsWf w := by
    rw [VoutsWf, commits.vio]
    exact wf.2.1
  have livew : w.blockLive 6 = true := by rw [← live, State.blockLive, State.blockLive, commits.crt]
  obtain ⟨committed, effective⟩ := State.commitOutputs_takes wfw livew (t0 / s.logicNs) (t0 + s.cycC * s.basicNs)
    (!s.lane.safeLatch && decide (s.mode < 2)) lt
  have image : imageBit w.station w.lge.oimg = imageBit s.station s.lge.oimg := by
    rw [State.station_of_img commits.img, commits.lge]
  rw [image] at committed effective
  have driving : t.lane.core.driving = (!s.lane.safeLatch && decide (s.mode < 2)) := by rw [core, State.commitOutputs_core]; rfl
  refine ⟨t, done, comm, cand, chkok, phase, now, driving, ?_, ?_⟩
  · rw [State.vout, vio]
    exact committed
  · rw [State.vout, vio]
    refine effective.trans (State.effectiveOf_congr (s := { s with lmp.isoHold := 0 }) (t := { w with lmp.isoHold := 0 })
      ?_ commits.img commits.iso rfl _)
    show (tabGet vout0 n w.vio.vout).lockout = (tabGet vout0 n s.vio.vout).lockout
    rw [commits.vio]

theorem outputCommit_withheld (t0 : Nat) (s : State) (ct : s.hasCt = true) (img : s.img.isSome = true)
    (run : s.lane.st = .run)
    (_ : s.lane.role ≠ .excluded) (due : s.commitOf = some t0) (later : t0 + s.cycC * s.basicNs ≠ s.inp.t0)
    (idle : NoOtherSlot s 256 64) (keeps : s.yields = false) (normal : s.grd.fbExit = none) (no : s.lane.commitOk = false)
    (quiet : s.lane.computing = false) :
    Answers .outputCommit s fun t => t.vio = s.vio ∧ t.fld = s.fld ∧ t.lane.driving = s.lane.driving ∧
      t.grd.comm = s.grd.cand.getD [] ∧ t.tae.phase = 10 := by
  obtain ⟨t, w, done, commits, comm, _, _, phase, _, vio, fld, core⟩ :=
    outputCommit_plain ct img run due later idle normal keeps
  obtain ⟨may, computing, _⟩ := commits.lane
  rw [no, Bool.and_false] at may
  have outputs (k c : Nat) : w.outputsDone k c = w := by
    rw [State.outputsDone, State.commitsOutputs, may, computing, quiet]
    rfl
  rw [outputs] at vio fld core
  have driving : t.lane.core.driving = s.lane.driving :=
    (congrArg LaneCore.driving core).trans (read_of_quiet commits.quiet Lane.driving fun _ => rfl)
  exact ⟨t, done, vio.trans commits.vio, fld.trans commits.fld, driving, comm, phase⟩

/-! ### A set that yields (R16, R494) -/

/-- Where the set yields it takes the role of a set that starts while the other holds; the rest of the lane stands. -/
theorem State.roleYield_yields {s : State} (yields : s.yields = true) :
    s.roleYield.lane.core = s.lane.core.withRole (if s.otherImgdDiffers then .shadow else .standby) ∧
    s.roleYield.lane.commitOk = s.lane.commitOk ∧ s.roleYield.lane.computing = s.lane.computing ∧
    s.roleYield.grd = s.grd ∧ s.roleYield.inp = s.inp := by
  have holds : s.otherHolds = true := by
    simp only [State.yields, Bool.and_eq_true] at yields
    exact yields.1.2
  have role : s.startRole = if s.otherImgdDiffers then .shadow else .standby := by rw [State.startRole, if_pos holds]
  have enter := (s.setRole s.startRole).runSlotEnter_outside (u := { attn := true, crt := true, upd := true, rcd := true })
    rfl rfl rfl rfl s.startRole
  have quiet := State.quiet_of_outside enter rfl
  have set_ (r : Role) : (s.setRole r).lane.commitOk = s.lane.commitOk ∧ (s.setRole r).lane.computing = s.lane.computing := by
    unfold State.setRole
    split <;> exact ⟨rfl, rfl⟩
  rw [State.roleYield, if_pos yields, State.core_of_outside enter rfl, State.grd_of_outside enter rfl,
    State.inp_of_outside enter rfl, State.setRole_core, role]
  rw [role] at quiet
  exact ⟨rfl, (read_of_quiet quiet Lane.commitOk fun _ => rfl).trans (set_ _).1,
    (read_of_quiet quiet Lane.computing fun _ => rfl).trans (set_ _).2, by simp, by simp⟩

/-- A T_commit at which the set yields: what follows commits as a lane of the other role. -/
theorem outputCommit_yielding {t0 : Nat} {s : State} (ct : s.hasCt = true) (img : s.img.isSome = true)
    (run : s.lane.st = .run)
    (due : s.commitOf = some t0) (later : t0 + s.cycC * s.basicNs ≠ s.inp.t0) (normal : s.grd.fbExit = none)
    (yields : (s.advanceCt (t0 + s.cycC * s.basicNs)).yields = true) :
    ∃ (t w : State) (k c : Nat), exec .outputCommit s = .next t ∧ t.tae.phase = 10 ∧
      t.lane.core = (w.outputsDone k c).lane.core ∧
      w.lane.core = s.lane.core.withRole (if s.otherImgdDiffers then .shadow else .standby) ∧
      w.lane.commitOk = s.lane.commitOk ∧ w.lane.computing = s.lane.computing := by
  obtain ⟨yielded, ok, computing, grd, inp⟩ := State.roleYield_yields yields
  have at_ : s.atCommit t0 = (s.advanceCt (t0 + s.cycC * s.basicNs)).roleYield := by
    have here : (s.advanceCt (t0 + s.cycC * s.basicNs)).roleYield.grd.fbExit = none := by
      rw [grd]
      exact normal
    rw [State.atCommit, State.fallbackLeave, here]
  have exec_ := execOutputCommit_eq due (by rw [ct, img]; rfl)
  rw [at_] at exec_
  generalize (s.advanceCt (t0 + s.cycC * s.basicNs)).roleYield = y at yielded ok computing inp exec_
  have fires := y.commitFires_outside t0
  have swap := (y.commitFires t0).guardSwap_outside
  have quiet : (y.commitFires t0).guardSwap.lane.quiet = y.lane.quiet := by
    rw [State.quiet_of_outside swap rfl, State.quiet_of_outside fires rfl]
  have inp' : (y.commitFires t0).guardSwap.inp = s.inp := by
    rw [State.inp_of_outside swap rfl, State.inp_of_outside fires rfl, inp]
    rfl
  generalize (y.commitFires t0).guardSwap = v at quiet inp' exec_
  have core := (read_of_quiet quiet Lane.core fun _ => rfl).trans yielded
  have st : v.lane.core.st = .run := (congrArg LaneCore.st core).trans run
  obtain ⟨w, rfl, -, -, -, phase, -, -, -, after⟩ := State.commitImages_reads st (y.commitFires t0).outputReady
    (t0 / s.logicNs) (t0 + s.cycC * s.basicNs) t0
  exact ⟨_, _, _, _, exec_, phase.trans (if_neg (by rw [inp']; exact later)), after, core,
    (read_of_quiet quiet Lane.commitOk fun _ => rfl).trans ok, (read_of_quiet quiet Lane.computing fun _ => rfl).trans computing⟩

theorem State.outputsDone_role (w : State) (k c : Nat) : (w.outputsDone k c).lane.core.role = w.lane.core.role := by
  unfold State.outputsDone
  split
  · rw [State.commitOutputs_core]
    rfl
  · rfl

theorem outputCommit_yields (t0 : Nat) (s : State) (ct : s.hasCt = true) (img : s.img.isSome = true) (run : s.lane.st = .run)
    (due : s.commitOf = some t0) (later : t0 + s.cycC * s.basicNs ≠ s.inp.t0) (normal : s.grd.fbExit = none)
    (yields : (s.advanceCt (t0 + s.cycC * s.basicNs)).yields = true) :
    Answers .outputCommit s fun t => t.lane.role = (if s.otherImgdDiffers then .shadow else .standby) ∧ t.tae.phase = 10 := by
  obtain ⟨t, w, k, c, done, phase, after, core, _⟩ := outputCommit_yielding ct img run due later normal yields
  have role := congrArg LaneCore.role after
  rw [State.outputsDone_role, core] at role
  exact ⟨t, done, role, phase⟩

/-! ### PROVE ends (R477) -/

theorem proveComplete_proves (s : State) (st : s.lane.st = .prove) (open_ : s.lane.proved = false) (ct : s.hasCt = true)
    (due : s.lane.commitDue = some s.inp.t0) (past : s.inp.t0 + 10 ≤ s.ct)
    (enough : s.lane.joining = true ∨ s.prvcyc ≤ s.lane.proveCnt) :
    Answers .proveComplete s fun t => t = { s.advanceCt (s.inp.t0 + s.cycC * s.basicNs) with lane.proved := true } := by
  refine ⟨_, next_of_pos ⟨st, open_, ct, enough⟩, ?_⟩
  rw [due]
  dsimp only
  rw [if_neg (by omega)]

/-! ### Admission (R32, R224) -/

/-- What admission touches after the role: the outputs, the lamps, the settings log. -/
def admitTouch : Touch := { attn := true, vio := true, lmp := true, rcd := true, upd := true }

theorem State.bitRead_congr {s t : State} (img : t.img = s.img) (lge : t.lge = s.lge) (a : Nat) : t.bitRead a = s.bitRead a
    := by
  simp only [State.bitRead, State.cell, State.station_of_img img, lge]

/-- Each latch takes its agreed cell. -/
theorem State.lockoutsTake_takes {n : Nat} : ∀ (l : List Nat) {s : State}, VoutsWf s → l.Nodup →
    VoutsWf (s.lockoutsTake l) ∧ (n ∈ l → ((s.lockoutsTake l).vout n).lockout = s.bitRead (0x3F0C0 + n)) ∧
    (n ∉ l → ((s.lockoutsTake l).vout n).lockout = (s.vout n).lockout)
  | [], _, wf, _ => ⟨wf, by simp, fun _ => rfl⟩
  | m :: l, s, wf, nodup => by
    obtain ⟨fresh, rest⟩ := List.nodup_cons.mp nodup
    rw [State.lockoutsTake]
    generalize taken : (s.updVout m fun v => { v with
      lockout := s.bitRead (0x3F0C0 + m), outvoted := 0,
      mon := if s.bitRead (0x3F0C0 + m) then .locked else if v.mon = .locked then .dropped else v.mon }) = u
    have vout (k : Nat) : (u.vout k).lockout = if k = m then s.bitRead (0x3F0C0 + m) else (s.vout k).lockout := by
      rw [← taken, State.updVout_vout wf]
      split <;> rfl
    have wfu : VoutsWf u := taken ▸ State.updVout_wf wf m _
    have same (a : Nat) : u.bitRead a = s.bitRead a := State.bitRead_congr (taken ▸ rfl) (taken ▸ rfl) a
    obtain ⟨wf2, took, left⟩ := State.lockoutsTake_takes (n := n) l wfu rest
    refine ⟨wf2, fun mem => ?_, fun mem => ?_⟩
    · by_cases here : n = m
      · subst here
        rw [left fresh, vout, if_pos rfl]
      · rw [took ((List.mem_cons.mp mem).resolve_left here), same]
    · have ne : n ≠ m := fun e => mem (by simp [e])
      rw [left fun i => mem (by simp [i]), vout, if_neg ne]

theorem State.voutWave_lockout {s : State} (wf : VoutsWf s) (m n : Nat) :
    ((s.voutWave m).vout n).lockout = (s.vout n).lockout := by
  unfold State.voutWave
  split
  · rw [State.updVout_vout wf]
    split <;> rfl
  · rw [State.updVout_vout wf]
    split <;> rfl

theorem State.voutWaves_lockout {n : Nat} : ∀ (l : List Nat) {s : State}, VoutsWf s →
    ((s.voutWaves l).vout n).lockout = (s.vout n).lockout
  | [], _, _ => rfl
  | m :: l, s, wf => by
    rw [State.voutWaves, State.voutWaves_lockout l ((CommandsKept.voutWave s m).wf wf), State.voutWave_lockout wf]

/-- The drives of an admitted lane leave the latches. -/
theorem State.drivesOn_lockout {s : State} (wf : VoutsWf s) (n : Nat) :
    (s.drivesOn.vout n).lockout = (s.vout n).lockout := by
  have lamps : s.drivesOn.vio = (s.voutWaves (List.range 32)).vio :=
    State.vio_of_outside (u := { attn := true, lmp := true, rcd := true }) (by simp [State.drivesOn]) rfl
  have waves := State.voutWaves_lockout (n := n) (List.range 32) wf
  generalize s.voutWaves (List.range 32) = w at lamps waves
  rw [State.vout, lamps]
  exact waves

/-- The lane as admission sets it before the latches follow. -/
def State.admitted (s : State) : State :=
  { (s.setRole s.setRoleShown) with
    lane.computing := false, lane.confirmCnt := 0, lane.implicated := none, lane.implicatedMem := false,
    lane.planned := false, lane.wasHold := false, lane.withdrawn0 := false, lane.withdrawn1 := false,
    lane.refr := 0, lane.mirr := false, lane.commitOk := true, lane.driving := decide (s.setRoleShown = .holding) }

theorem admission_admits (n : Nat) (s : State) (run : s.lane.st = .run) (out : s.lane.role = .excluded)
    (computing : s.lane.computing = true) (enough : s.confirmCycles ≤ s.lane.confirmCnt) (peers : 2 ≤ s.votingPeers.length)
    (shown : s.setRoleShown ≠ .excluded) (free : s.crt.test = none) (timev : s.tae.timev = true) (wf : TablesWf s) (lt : n < 32) :
    Answers .admission s fun t => t.lane.st = .run ∧ t.lane.role = s.setRoleShown ∧ t.lane.computing = false ∧
      t.lane.driving = decide (s.setRoleShown = .holding) ∧ t.lane.withdrawn0 = false ∧ t.lane.withdrawn1 = false ∧
      t.lane.implicated = none ∧ (t.vout n).lockout = s.bitRead (0x3F0C0 + n) ∧ t.lge = s.lge := by
  have exec_ : exec .admission s =
      .next ((s.admitted.lockoutsTake (List.range 32)).paramsLog s.admitted.station.params).drivesOn :=
    next_of_pos ⟨run, out, computing, enough, peers, shown, free, timev⟩
  have role : s.admitted.lane.role = s.setRoleShown := congrArg LaneCore.role (s.setRole_core s.setRoleShown)
  have st : s.admitted.lane.st = .run := (congrArg LaneCore.st (s.setRole_core s.setRoleShown)).trans run
  have vio : s.admitted.vio = s.vio := State.setRole_vio s _
  have lge : s.admitted.lge = s.lge := State.setRole_lge s _
  have img : s.admitted.img = s.img := State.setRole_img s _
  have fields : s.admitted.lane.computing = false ∧ s.admitted.lane.driving = decide (s.setRoleShown = .holding) ∧
      s.admitted.lane.withdrawn0 = false ∧ s.admitted.lane.withdrawn1 = false ∧ s.admitted.lane.implicated = none :=
    ⟨rfl, rfl, rfl, rfl, rfl⟩
  have wfa : VoutsWf s.admitted := by
    rw [VoutsWf, vio]
    exact wf.2.1
  have agreed : s.admitted.bitRead (0x3F0C0 + n) = s.bitRead (0x3F0C0 + n) := State.bitRead_congr img lge _
  generalize s.admitted = a at *
  obtain ⟨computing', driving, w0, w1, implicated⟩ := fields
  obtain ⟨wft, took, _⟩ := State.lockoutsTake_takes (n := n) (List.range 32) wfa List.nodup_range
  have log := State.vio_of_outside (u := { upd := true }) ((a.lockoutsTake (List.range 32)).paramsLog_outside rfl a.station.params) rfl
  have wfl : VoutsWf ((a.lockoutsTake (List.range 32)).paramsLog a.station.params) := by
    rw [VoutsWf, log]
    exact wft
  have kept : (((a.lockoutsTake (List.range 32)).paramsLog a.station.params).drivesOn).outside admitTouch = a.outside admitTouch := by
    simp [admitTouch]
  have quiet := State.quiet_of_outside kept rfl
  refine ⟨_, exec_, ?_, ?_, ?_, ?_, ?_, ?_, ?_, ?_, (State.lge_of_outside kept rfl).trans lge⟩
  · exact (read_of_quiet quiet Lane.st fun _ => rfl).trans st
  · exact (read_of_quiet quiet Lane.role fun _ => rfl).trans role
  · exact (read_of_quiet quiet Lane.computing fun _ => rfl).trans computing'
  · exact (read_of_quiet quiet Lane.driving fun _ => rfl).trans driving
  · exact (read_of_quiet quiet Lane.withdrawn0 fun _ => rfl).trans w0
  · exact (read_of_quiet quiet Lane.withdrawn1 fun _ => rfl).trans w1
  · exact (read_of_quiet quiet Lane.implicated fun _ => rfl).trans implicated
  · rw [State.drivesOn_lockout wfl, State.vout, log]
    exact (took (by simpa using lt)).trans agreed

/-- Settles O23, clause by clause. -/
theorem commitAndAdmission : Obligations.CommitAndAdmission :=
  ⟨outputCommit_drives, outputCommit_yields, outputCommit_withheld,
   fun s none_ => ⟨s, execOutputCommit_idle (by simp [none_]), rfl⟩, proveComplete_proves, admission_admits⟩

end Sys2Proof.Machine
end
section
/-! PROOF. The rules of SAFE, of the roles and of the drives (R15, R34, R606): the step that breaks them. -/

namespace Sys2Proof.Machine

open Sys2Proof.Safety

/-- A peer of the other set that shows itself in RUN in the role HOLDING (R47). -/
def shownHolding : NodeView := { node0 with health := some (7, 0) }

/-- A lane of the set that is not preferred, in RUN since the T0 at which the other set entered RUN too: it holds and drives, its
first commit is due, output agreement did not let it commit, and the other set holds. -/
def yieldingLane : State :=
  { State.reset with
    pins.powered := true, pins.resetN := true, pins.pfailHigh := true,
    lane.st := .run, lane.pin := 4, lane.role := .holding, lane.driving := true, lane.firstCycle := true, lane.firstOfSet := true,
    lane.commitDue := some 0, tae.timev := true, tae.ctOff := some 0, tae.phase := 9,
    lnb.bstate := .active, lnb.node := [(1, shownHolding), (2, shownHolding)], img := some station0 }

theorem yieldingLane_keepsRules : LaneRules yieldingLane := by decide

/-- At its first T_commit it yields its role and goes on driving. -/
theorem yieldingLane_drives : ∃ t, exec .outputCommit yieldingLane = .next t ∧ t.lane.driving = true ∧ t.lane.role ≠
    .holding := by
  obtain ⟨t, w, k, c, done, -, after, core, ok, computing⟩ := outputCommit_yielding (t0 := 0) (s := yieldingLane)
    (by decide) (by decide) (by decide) (by decide) (by decide) (by decide) (by decide)
  have no : w.commitsOutputs = false := by
    rw [State.commitsOutputs, ok, computing]
    simp [yieldingLane, State.reset, Lane.reset]
  rw [State.outputsDone, no, if_neg Bool.false_ne_true, core] at after
  have role := congrArg LaneCore.role after
  rw [LaneCore.withRole_role] at role
  have yields (b : Bool) : (if b then Role.shadow else Role.standby) ≠ .holding := by cases b <;> decide
  exact ⟨t, done, congrArg LaneCore.driving after, fun holds => yields _ (role.symm.trans holds)⟩

/-- Refutes O52: a set that yields at its first T_commit, in a lane that output agreement did not let commit, takes the role of a
set that does not hold and leaves its drives as they were. -/
theorem not_everyStepKeepsLaneRules : ¬ Obligations.EveryStepKeepsLaneRules := by
  rintro ⟨keeps, -⟩
  obtain ⟨t, done, driving, role⟩ := yieldingLane_drives
  obtain ⟨-, -, drives⟩ := keeps { yieldingLane with pending := [.outputCommit] } t yieldingLane_keepsRules done
  exact role (drives driving).2

end Sys2Proof.Machine
end
section
/-! PROOF. The T0 at which a commit falls due too, with C = L (R69, R70). -/

namespace Sys2Proof.Machine

open Sys2Proof.Safety

/-- A lane in RUN with basic cycles of 2.5 ms and C = L = 2 (R70), which output agreement let commit: the commit of logic cycle 1
is due at the T0 of logic cycle 2. -/
def commitAtT0 : State :=
  { State.reset with
    pins.powered := true, pins.resetN := true, pins.pfailHigh := true, lane.st := .run, tae.timev := true, tae.ctOff := some 0,
    tae.phase := 9, lnb.bstate := .active, lane.commitDue := some 5000000, lane.commitOk := true,
    img := some { station0 with cfg := [(0x030030, 0x402), (0x090000, 0x0080200A)] } }

/-- At that T0 the capture comes before the commit (R69), and the leave to commit stands until the commit has taken it. -/
theorem commitAtT0_keepsLeave :
    (match exec (.logicCycleBoundary 2) commitAtT0 with
      | .next t => t.lane.commitOk
      | _ => false) = true := by
  decide +kernel

/-- Refutes O21: where the commit of the cycle before is due at this very T0, C = L, the T0 leaves the leave to commit set. -/
theorem not_cycleStartAndAgreement : ¬ Obligations.CycleStartAndAgreement := by
  rintro ⟨atT0, -⟩
  obtain ⟨inRun, -⟩ := atT0 2 commitAtT0 (by decide) (by decide)
  obtain ⟨t, done, -, -, -, -, -, cleared, -⟩ := inRun (by decide) (by decide)
  have kept := commitAtT0_keepsLeave
  rw [done] at kept
  exact Bool.false_ne_true (cleared.symm.trans kept)

end Sys2Proof.Machine
end
section
/-! PROOF. Output agreement and the limits at which a lane withdraws itself (R26, R28, R224, R257, R291). -/

namespace Sys2Proof.Machine

open Sys2Proof.Safety

@[simp] theorem State.setRole_commitOk (s : State) (r : Role) : (s.setRole r).lane.commitOk = s.lane.commitOk := by
  unfold State.setRole
  split <;> simp

@[simp] theorem State.setRole_reportCnt (s : State) (r : Role) : (s.setRole r).lane.reportCnt = s.lane.reportCnt := by
  unfold State.setRole
  split <;> simp

/-! ### The shared operations -/

@[simp] theorem State.record_commitOk (s : State) (sev src code : Nat) (data : List Nat) :
    (s.record sev src code data).lane.commitOk = s.lane.commitOk := by
  obtain ⟨_, _, h⟩ := RecorderOnly.record s sev src code data
  rw [h]

@[simp] theorem State.record_reportCnt (s : State) (sev src code : Nat) (data : List Nat) :
    (s.record sev src code data).lane.reportCnt = s.lane.reportCnt := by
  obtain ⟨_, _, h⟩ := RecorderOnly.record s sev src code data
  rw [h]

@[simp] theorem State.forceRecord_commitOk (s : State) (a what : Nat) :
    (s.forceRecord a what).lane.commitOk = s.lane.commitOk := by
  simp [State.forceRecord]

@[simp] theorem State.forceRecord_reportCnt (s : State) (a what : Nat) :
    (s.forceRecord a what).lane.reportCnt = s.lane.reportCnt := by
  simp [State.forceRecord]

@[simp] theorem State.forceRecord_lmp (s : State) (a what : Nat) : (s.forceRecord a what).lmp = s.lmp := by
  simp [State.forceRecord]

@[simp] theorem State.forceRecord_vio (s : State) (a what : Nat) : (s.forceRecord a what).vio = s.vio := by
  simp [State.forceRecord]

@[simp] theorem State.forcesRelease_commitOk (s : State) : (s.forcesRelease).lane.commitOk = s.lane.commitOk := by
  obtain ⟨_, _, _, h⟩ := State.forcesRelease_only s
  rw [h]

@[simp] theorem State.forcesRelease_reportCnt (s : State) : (s.forcesRelease).lane.reportCnt = s.lane.reportCnt := by
  obtain ⟨_, _, _, h⟩ := State.forcesRelease_only s
  rw [h]

@[simp] theorem State.forcesRelease_lmp (s : State) : (s.forcesRelease).lmp = s.lmp := by
  obtain ⟨_, _, _, h⟩ := State.forcesRelease_only s
  rw [h]

@[simp] theorem State.forcesRelease_vio (s : State) : (s.forcesRelease).vio = s.vio := by
  obtain ⟨_, _, _, h⟩ := State.forcesRelease_only s
  rw [h]

@[simp] theorem State.fallbackLasting_commitOk (s : State) : (s.fallbackLasting).lane.commitOk = s.lane.commitOk := by
  obtain ⟨_, _, _, h, _⟩ := State.fallbackLasting_only s
  rw [h]

@[simp] theorem State.fallbackLasting_reportCnt (s : State) : (s.fallbackLasting).lane.reportCnt = s.lane.reportCnt := by
  obtain ⟨_, _, _, h, _⟩ := State.fallbackLasting_only s
  rw [h]

@[simp] theorem State.fallbackLasting_lmp (s : State) : (s.fallbackLasting).lmp = s.lmp := by
  obtain ⟨_, _, _, h, _⟩ := State.fallbackLasting_only s
  rw [h]

@[simp] theorem State.fallbackLasting_vio (s : State) : (s.fallbackLasting).vio = s.vio := by
  obtain ⟨_, _, _, h, _⟩ := State.fallbackLasting_only s
  rw [h]

/-! ### A withdrawal, and the table of R26 -/

theorem State.voting_eq_true {s : State} : s.voting = true ↔ s.lane.core.st = .run ∧ s.lane.core.role ≠ .excluded := by
  rw [State.voting, Bool.and_eq_true, decide_eq_true_eq, decide_eq_true_eq]
  rfl

/-- The withdrawal of a voting lane takes its leave to commit and ends its run of reports. -/
theorem State.withdraw_commit {s : State} (voting : s.voting = true) (u : FaultUnit) :
    (s.withdraw u).lane.commitOk = false ∧ (s.withdraw u).lane.reportCnt = 0 := by
  obtain ⟨run, votes⟩ := State.voting_eq_true.mp voting
  rw [State.withdraw, if_pos (show s.lane.st = .run from run), if_neg (show ¬ s.lane.role = .excluded from votes)]
  simp

theorem State.withdraw_events (s : State) (u : FaultUnit) : (s.withdraw u).vio.evt = s.vio.evt ∧
    (s.withdraw u).lmp.evt = s.lmp.evt ∧ (s.withdraw u).lmp.pevt = s.lmp.pevt := by
  unfold State.withdraw
  split
  · split
    · split <;> exact ⟨rfl, rfl, rfl⟩
    · simp [State.wavesCut]
  · exact ⟨rfl, rfl, rfl⟩

/-- What a withdrawal makes of a lane that votes, said of any state with the same core. -/
theorem State.withdraw_excludes {s w : State} (voting : s.voting = true) (same : w.lane.core = s.lane.core) (u : FaultUnit) :
    (w.withdraw u).lane.role = .excluded ∧ (w.withdraw u).lane.implicated = some u ∧ (w.withdraw u).lane.driving = false ∧
      (w.withdraw u).lane.commitOk = false ∧ (w.withdraw u).lane.reportCnt = 0 := by
  have votes : w.voting = true := by rw [State.voting_eq_true, same, ← State.voting_eq_true, voting]
  obtain ⟨run, role⟩ := State.voting_eq_true.mp votes
  obtain ⟨excluded, static, -, unit, -⟩ := w.withdraw_voting u run role
  exact ⟨excluded, unit, static, State.withdraw_commit votes u⟩

/-- The lane as the table of R26 finds it: the reports of the cycle before closed, output agreement reached (R89). -/
def State.agreeing (s : State) : State := { s.reportsClose with tae.phase := 9 }

@[simp] theorem State.agreeing_core (s : State) : s.agreeing.lane.core = s.lane.core := rfl

/-- Output agreement of a holding lane whose output image stands comes down to the table of R26. -/
theorem execOutputAgreement_holding {s : State} (run : s.lane.st = .run) (role : s.lane.role = .holding)
    (phase : s.tae.phase = 8)
    (stays : s.grd.fbExit = none) (ready : s.outputReady = true)
    (still : s.agreeing.voteOutputs.voting = true → s.agreeing.voteOutputs.lane.role = .holding) :
    exec .outputAgreement s = .next s.agreeing.voteOutputs := by
  have leave : s.fallbackLeave = s := by rw [State.fallbackLeave, stays]
  have overrun : s.reportsClose.overrun = s.reportsClose := by
    rw [State.overrun, show s.reportsClose.outputReady = true from ready, Bool.not_true, Bool.and_false,
      if_neg Bool.false_ne_true]
  have agreeing : ({ s.reportsClose with tae.phase := if s.reportsClose.lane.st = .run then 9 else s.reportsClose.tae.phase } :
      State) = s.agreeing := by
    rw [if_pos (show s.reportsClose.lane.st = .run from run)]
    rfl
  have votes : s.agreeing.voting = true := State.voting_eq_true.mpr ⟨run, fun e => by
    rw [State.agreeing_core] at e
    exact Role.noConfusion (role.symm.trans e)⟩
  show execOutputAgreement s = _
  rw [execOutputAgreement, if_neg (by simp [run]), if_pos (by simp [run, phase]), leave, overrun]
  dsimp only
  simp only [agreeing, votes, if_true]
  rw [if_neg fun h => h.2 (still h.1)]

/-! ### The clauses of R26, R28, R224, R257 and R291 -/

/-- Where the table of R26 gives leave to commit, the lane holds on, and of the bus it changes no more than the table says. -/
theorem outputAgreement_commits {s w : State} (run : s.lane.st = .run) (role : s.lane.role = .holding)
    (phase : s.tae.phase = 8)
    (stays : s.grd.fbExit = none) (ready : s.outputReady = true) (table : s.agreeing.voteOutputs = w)
    (lane : w.lane = { s.agreeing.lane with commitOk := true }) (tae : w.tae = s.agreeing.tae) :
    exec .outputAgreement s = .next w ∧ w.lane.commitOk = true ∧ w.lane.role = .holding ∧ w.tae.phase = 9 := by
  have holds : w.lane.role = .holding := by rw [lane]; exact role
  subst table
  exact ⟨execOutputAgreement_holding run role phase stays ready fun _ => holds, by rw [lane], holds, by rw [tae]; rfl⟩

/-- A lane that the table of R26 takes out of the vote. -/
theorem outputAgreement_ends {s w : State} (run : s.lane.st = .run) (role : s.lane.role = .holding) (phase : s.tae.phase = 8)
    (stays : s.grd.fbExit = none) (ready : s.outputReady = true) (table : s.agreeing.voteOutputs = w)
    (out : ¬ w.voting = true) : exec .outputAgreement s = .next w := by
  subst table
  exact execOutputAgreement_holding run role phase stays ready fun v => absurd v out

/-- The entry of a report in the next status frame (R26, R351). -/
theorem State.report_entries (s : State) (n : Nat) (c : ImageClass) : (s.report n c).lnb.entries = s.lnb.entries ++
    [[BitVec.ofNat 32 ((if c = .missing then 0x01000100 else 0x01000000) + n)]] := by
  cases c <;> rfl

theorem outputVote_two (a b : Nat) (s : State) (run : s.lane.st = .run) (role : s.lane.role = .holding)
    (phase : s.tae.phase = 8)
    (stays : s.grd.fbExit = none) (peers : s.votingPeers = [a, b]) (ready : s.outputReady = true) :
    (s.imageClass a = .equal → s.imageClass b = .equal →
      Answers .outputAgreement s fun t => t.lane.commitOk = true ∧ t.lane.role = .holding ∧ t.tae.phase = 9 ∧
        t.lnb.entries = s.lnb.entries) ∧
    (s.imageClass a = .equal → s.imageClass b ≠ .equal →
      Answers .outputAgreement s fun t => t.lane.commitOk = true ∧ t.lane.role = .holding ∧ t.lnb.entries = s.lnb.entries ++
        [[BitVec.ofNat 32 ((if s.imageClass b = .missing then 0x01000100 else 0x01000000) + b)]]) ∧
    (s.imageClass a ≠ .equal → s.imageClass b = .equal →
      Answers .outputAgreement s fun t => t.lane.commitOk = true ∧ t.lane.role = .holding ∧ t.lnb.entries = s.lnb.entries ++
        [[BitVec.ofNat 32 ((if s.imageClass a = .missing then 0x01000100 else 0x01000000) + a)]]) ∧
    (s.imageClass a ≠ .equal → s.imageClass b ≠ .equal →
      Answers .outputAgreement s fun t => t.lane.commitOk = false ∧ t.lane.role = .excluded ∧ t.lane.driving = false ∧
        t.lane.implicated = some .lge) := by
  have peers : s.agreeing.votingPeers = [a, b] := peers
  have classes (n : Nat) : s.agreeing.imageClass n = s.imageClass n := rfl
  refine ⟨fun ha hb => ?_, fun ha hb => ?_, fun ha hb => ?_, fun ha hb => ?_⟩
  · have table : s.agreeing.voteOutputs = { s.agreeing with lane.commitOk := true } := by
      simp [State.voteOutputs, peers, classes, ha, hb]
    obtain ⟨done, ok, holds, agreed⟩ := outputAgreement_commits run role phase stays ready table rfl rfl
    exact ⟨_, done, ok, holds, agreed, rfl⟩
  · have table : s.agreeing.voteOutputs = ({ s.agreeing with lane.commitOk := true } : State).report b (s.imageClass b) := by
      simp only [State.voteOutputs, peers, classes, ha]
    obtain ⟨done, ok, holds, -⟩ := outputAgreement_commits run role phase stays ready table rfl rfl
    exact ⟨_, done, ok, holds, State.report_entries _ b _⟩
  · have table : s.agreeing.voteOutputs = ({ s.agreeing with lane.commitOk := true } : State).report a (s.imageClass a) := by
      simp only [State.voteOutputs, peers, classes, hb]
    obtain ⟨done, ok, holds, -⟩ := outputAgreement_commits run role phase stays ready table rfl rfl
    exact ⟨_, done, ok, holds, State.report_entries _ a _⟩
  · have table : s.agreeing.voteOutputs = s.agreeing.withdraw .lge := by
      simp only [State.voteOutputs, peers, classes]
      cases h : s.imageClass a
      case equal => exact absurd h ha
      all_goals
        cases k : s.imageClass b
        case equal => exact absurd k hb
        all_goals rfl
    have voting : s.voting = true := State.voting_eq_true.mpr ⟨run, ne_of_eq_of_ne role Role.noConfusion⟩
    obtain ⟨excluded, unit, static, noCommit, -⟩ := State.withdraw_excludes voting s.agreeing_core .lge
    exact ⟨_, outputAgreement_ends run role phase stays ready table fun v => (State.voting_eq_true.mp v).2 excluded,
      noCommit, excluded, static, unit⟩

theorem outputVote_one (a : Nat) (s : State) (run : s.lane.st = .run) (role : s.lane.role = .holding)
    (phase : s.tae.phase = 8)
    (stays : s.grd.fbExit = none) (peers : s.votingPeers = [a]) (ready : s.outputReady = true) :
    (s.imageClass a = .equal → Answers .outputAgreement s fun t => t.lane.commitOk = true ∧ t.lane.role = .holding) ∧
    (s.imageClass a ≠ .equal → s.lane.safeLatch = false →
      Answers .outputAgreement s fun t => HeldSafe t ∧ t.lane.scause = 3) := by
  have peers : s.agreeing.votingPeers = [a] := peers
  have classes : s.agreeing.imageClass a = s.imageClass a := rfl
  refine ⟨fun ha => ?_, fun ha unset => ?_⟩
  · have table : s.agreeing.voteOutputs = { s.agreeing with lane.commitOk := true } := by
      simp [State.voteOutputs, peers, classes, ha]
    obtain ⟨done, ok, holds, -⟩ := outputAgreement_commits run role phase stays ready table rfl rfl
    exact ⟨_, done, ok, holds⟩
  · have table : s.agreeing.voteOutputs = (s.agreeing.consentWithdraw a).enterSafe 3 := by
      simp only [State.voteOutputs, peers, classes]
    obtain ⟨held, cause, -⟩ := (s.agreeing.consentWithdraw a).enterSafe_held 3 (by
      unfold State.consentWithdraw
      split <;> exact unset)
    refine ⟨_, outputAgreement_ends run role phase stays ready table fun v => ?_, held, cause⟩
    exact LaneState.noConfusion (held.2.symm.trans (State.voting_eq_true.mp v).1)

theorem execReportLimit_excludes {s : State} (voting : s.voting = true) (third : 3 ≤ s.lane.reportCnt) :
    Answers .reportLimit s fun t => t.lane.role = .excluded ∧ t.lane.reportCnt = 0 ∧ t.lane.implicated = some .lge := by
  obtain ⟨excluded, unit, -, -, ended⟩ :=
    State.withdraw_excludes (w := { s with lane.reportCnt := 0 }) voting rfl .lge
  exact ⟨_, next_of_pos (by simp [voting, third]), excluded, ended, unit⟩

theorem execLockoutOutvoted_excludes {s : State} (n : Fin 32) (voting : s.voting = true)
    (third : 3 ≤ (s.vout n.val).outvoted) :
    Answers (.lockoutOutvoted n) s fun t => t.lane.role = .excluded ∧ t.lane.implicated = some .io ∧
      t.vio.evt.getLsbD 4 = true := by
  obtain ⟨excluded, unit, -⟩ := State.withdraw_excludes
    (w := ((s.updVout n.val fun v => { v with outvoted := 0 }).evtVio 4).record 4 0x0600 0x0606 [n.val]) voting (by simp) .io
  refine ⟨_, next_of_pos third, excluded, unit, ?_⟩
  rw [(State.withdraw_events _ _).1]
  simp [putBit]

theorem execFallbackOutvoted_excludes {s : State} (g : Fin 16) (voting : s.voting = true)
    (third : 3 ≤ (s.group g.val).outvoted) :
    Answers (.fallbackOutvoted g) s fun t => t.lane.role = .excluded ∧ t.lane.implicated = some .io ∧
      t.lmp.evt.getLsbD 2 = true := by
  obtain ⟨excluded, unit, -⟩ := State.withdraw_excludes
    (w := ((s.updGroup g.val fun a => { a with outvoted := 0 }).evtLmp 2).record 4 0x0700 0x0703 [g.val]) voting (by simp) .io
  refine ⟨_, next_of_pos third, excluded, unit, ?_⟩
  rw [(State.withdraw_events _ _).2.1]
  simp [putBit]

theorem execProvingOutvoted_excludes {s : State} (ch : Fin 32) (k : Fin 4) (voting : s.voting = true)
    (eighth : 8 ≤ (s.lamp ch.val).mis.getD k.val 0) :
    Answers (.provingOutvoted ch k) s fun t => t.lane.role = .excluded ∧ t.lane.implicated = some .io ∧
      t.lmp.pevt.getLsbD 5 = true := by
  obtain ⟨excluded, unit, -⟩ := State.withdraw_excludes
    (w := ((s.updLamp ch.val fun l => { l with mis := l.mis.set k.val 0 }).pevtLmp 5).record 4 0x0700 0x0715
      [ch.val, k.val + 2]) voting (by simp) .io
  refine ⟨_, next_of_pos (by simp only [decide_eq_true eighth, voting, Bool.and_self]), excluded, unit, ?_⟩
  rw [(State.withdraw_events _ _).2.2]
  simp [putBit]

/-- Settles O22: the table of R26 case by case, and a withdrawal under each of the four limits. -/
theorem outputVote : Obligations.OutputVote :=
  ⟨outputVote_two, outputVote_one, fun _ => execReportLimit_excludes, fun n _ => execLockoutOutvoted_excludes n,
    fun g _ => execFallbackOutvoted_excludes g, fun ch k _ => execProvingOutvoted_excludes ch k⟩

end Sys2Proof.Machine
end
section
/-! PROOF. Basic cycles and switchovers (R30, R49, R337, R348, R384, R498). -/

namespace Sys2Proof.Machine

open Sys2Proof.Safety

theorem State.outside_lnb {u : Touch} (lnb : u.lnb = true) (s : State) (x : Lnb) :
    State.outside u { s with lnb := x } = s.outside u := by
  simp [lnb]

@[simp] theorem State.setRole_outside {u : Touch} (attn : u.attn = true) (lane : u.lane = true) (s : State) (r : Role) :
    (s.setRole r).outside u = s.outside u := by
  simp [State.setRole, attn, lane]

@[simp] theorem State.evtTae_outside {u : Touch} (attn : u.attn = true) (tae : u.tae = true) (s : State) (k : Nat) :
    (s.evtTae k).outside u = s.outside u := by
  simp [State.evtTae, attn, tae]

@[simp] theorem State.evtGrd_outside {u : Touch} (attn : u.attn = true) (grd : u.grd = true) (s : State) (k : Nat) :
    (s.evtGrd k).outside u = s.outside u := by
  simp [State.evtGrd, attn, grd]

@[simp] theorem State.evtLnb_outside {u : Touch} (attn : u.attn = true) (lnb : u.lnb = true) (s : State) (k : Nat) :
    (s.evtLnb k).outside u = s.outside u := by
  simp [State.evtLnb, attn, lnb]

/-! ### The shared operations -/

@[simp] theorem State.freeUsed_outside {u : Touch} (free : u.free = true) (s : State) : s.freeUsed.outside u = s.outside u
    := by
  simp [State.freeUsed, free]

@[simp] theorem State.forceRecord_outside {u : Touch} (attn : u.attn = true) (rcd : u.rcd = true) (upd : u.upd = true)
    (s : State) (a what : Nat) : (s.forceRecord a what).outside u = s.outside u := by
  simp [State.forceRecord, attn, rcd, upd]

@[simp] theorem State.forcesRelease_outside {u : Touch} (attn : u.attn = true) (rcd : u.rcd = true) (upd : u.upd = true)
    (s : State) : s.forcesRelease.outside u = s.outside u := by
  obtain ⟨_, _, _, h⟩ := State.forcesRelease_only s
  rw [h]
  simp [attn, rcd, upd]

@[simp] theorem State.wavesCut_outside {u : Touch} (vio : u.vio = true) (lmp : u.lmp = true) (s : State) :
    s.wavesCut.outside u = s.outside u := by
  simp [State.wavesCut, vio, lmp]

@[simp] theorem State.fallbackRecord_outside {u : Touch} (attn : u.attn = true) (grd : u.grd = true) (rcd : u.rcd = true)
    (s : State) (row : Nat) : (s.fallbackRecord row).outside u = s.outside u := by
  simp [State.fallbackRecord, attn, grd, rcd]

@[simp] theorem State.fallbackLasting_outside {u : Touch} (lane : u.lane = true) (lge : u.lge = true) (grd : u.grd = true)
    (s : State) : s.fallbackLasting.outside u = s.outside u := by
  obtain ⟨_, _, _, h, _⟩ := State.fallbackLasting_only s
  rw [h]
  simp [lane, lge, grd]

@[simp] theorem State.withdraw_touches {u : Touch} (attn : u.attn = true) (lane : u.lane = true) (lge : u.lge = true)
    (grd : u.grd = true) (vio : u.vio = true) (lmp : u.lmp = true) (rcd : u.rcd = true) (upd : u.upd = true) (s : State)
    (x : FaultUnit) : (s.withdraw x).outside u = s.outside u := by
  unfold State.withdraw
  split
  · split
    · split <;> simp [lane]
    · rw [State.setRole_outside attn lane, State.forcesRelease_outside attn rcd upd, State.fallbackLasting_outside lane lge grd]
      refine Eq.trans ?_ (State.wavesCut_outside vio lmp s)
      generalize s.wavesCut = w
      simp [lane]
  · rfl

/-! ### The logic engine -/

@[simp] theorem State.fallbackWithdraw_outside {u : Touch} (attn : u.attn = true) (lane : u.lane = true)
    (lge : u.lge = true) (grd : u.grd = true) (vio : u.vio = true) (lmp : u.lmp = true) (rcd : u.rcd = true)
    (upd : u.upd = true) (s : State) (row : Nat) (x : FaultUnit) : (s.fallbackWithdraw row x).outside u = s.outside u := by
  simp [State.fallbackWithdraw, attn, lane, lge, grd, vio, lmp, rcd, upd]

/-! ### Lamps and lamp proving -/

@[simp] theorem State.suspStart_outside {u : Touch} (attn : u.attn = true) (lmp : u.lmp = true) (rcd : u.rcd = true)
    (s : State) (n : Nat) : (s.suspStart n).outside u = s.outside u := by
  simp [State.suspStart, attn, lmp, rcd]

@[simp] theorem State.suspCheck_outside {u : Touch} (attn : u.attn = true) (lmp : u.lmp = true) (rcd : u.rcd = true)
    (s : State) (n : Nat) : (s.suspCheck n).outside u = s.outside u := by
  simp [State.suspCheck, attn, lmp, rcd]

@[simp] theorem State.suspChecks_outside {u : Touch} (attn : u.attn = true) (lmp : u.lmp = true) (rcd : u.rcd = true)
    (s : State) (l : List Nat) : (s.suspChecks l).outside u = s.outside u := by
  induction l generalizing s with
  | nil => rfl
  | cons a l ih => simp [State.suspChecks, ih, attn, lmp, rcd]

@[simp] theorem State.suspStarts_outside {u : Touch} (attn : u.attn = true) (lmp : u.lmp = true) (rcd : u.rcd = true)
    (s : State) (l : List Nat) : (s.suspStarts l).outside u = s.outside u := by
  induction l generalizing s with
  | nil => rfl
  | cons a l ih => simp [State.suspStarts, ih, attn, lmp, rcd]

@[simp] theorem State.angleSusp_outside {u : Touch} (attn : u.attn = true) (lmp : u.lmp = true) (rcd : u.rcd = true)
    (s : State) : s.angleSusp.outside u = s.outside u := by
  simp [State.angleSusp, attn, lmp, rcd]

/-! ### Vital inputs and outputs -/

@[simp] theorem State.frameStop_outside {u : Touch} (vio : u.vio = true) (s : State) : s.frameStop.outside u = s.outside u
    := by
  simp [State.frameStop, vio]

/-! ### Cluster time and slots -/

@[simp] theorem State.timevFall_outside {u : Touch} (attn : u.attn = true) (lane : u.lane = true) (crt : u.crt = true)
    (tae : u.tae = true) (lge : u.lge = true) (grd : u.grd = true) (vio : u.vio = true) (lmp : u.lmp = true)
    (rcd : u.rcd = true) (upd : u.upd = true) (s : State) (x : FaultUnit) : (s.timevFall x).outside u = s.outside u := by
  simp [State.timevFall, attn, lane, crt, tae, lge, grd, vio, lmp, rcd, upd]

/-! ### The lane-bus schedule -/

@[simp] theorem State.updNode_outside {u : Touch} (lnb : u.lnb = true) (s : State) (n : Nat) (f : NodeView → NodeView) :
    (s.updNode n f).outside u = s.outside u := by
  simp [State.updNode, lnb]

@[simp] theorem State.mapNodes_outside {u : Touch} (lnb : u.lnb = true) (s : State) (f : Nat → NodeView → NodeView) :
    (s.mapNodes f).outside u = s.outside u :=
  State.foldl_outside (fun _ _ => State.updNode_outside lnb _ _ _) _ _

/-! ### Cold start and synchronisation -/

@[simp] theorem State.syncShift_outside {u : Touch} (lnb : u.lnb = true) (s : State) : s.syncShift.outside u = s.outside u :=
  (State.mapNodes_outside lnb _ _).trans (State.outside_lnb lnb s _)

/-! ### Basic cycles -/

@[simp] theorem State.singleCount_outside {u : Touch} (attn : u.attn = true) (lnb : u.lnb = true) (rcd : u.rcd = true)
    (s : State) (n : Nat) : (s.singleCount n).outside u = s.outside u := by
  simp [State.singleCount, attn, lnb, rcd]

@[simp] theorem State.singleCounts_outside {u : Touch} (attn : u.attn = true) (lnb : u.lnb = true) (rcd : u.rcd = true)
    (s : State) (l : List Nat) : (s.singleCounts l).outside u = s.outside u := by
  induction l generalizing s with
  | nil => rfl
  | cons a l ih => simp [State.singleCounts, ih, attn, lnb, rcd]

@[simp] theorem State.guardCompare_outside {u : Touch} (attn : u.attn = true) (lnb : u.lnb = true) (rcd : u.rcd = true)
    (s : State) (diff : Nat) : (s.guardCompare diff).outside u = s.outside u := by
  simp [State.guardCompare, attn, lnb, rcd]

@[simp] theorem State.recCount_outside {u : Touch} (lnb : u.lnb = true) (s : State) : s.recCount.outside u = s.outside u
    := by
  simp [State.recCount, lnb]

@[simp] theorem State.syncCounts_outside {u : Touch} (lnb : u.lnb = true) (s : State) : s.syncCounts.outside u = s.outside u
    := by
  rw [State.syncCounts, State.syncShift_outside lnb, State.mapNodes_outside lnb, State.recCount_outside lnb]
  exact State.outside_lnb lnb s _

@[simp] theorem State.setCounts_outside {u : Touch} (lane : u.lane = true) (s : State) (c : Nat) :
    (s.setCounts c).outside u = s.outside u := by
  simp [State.setCounts, lane]

@[simp] theorem State.integrateStep_outside {u : Touch} (free : u.free = true) (attn : u.attn = true)
    (lane : u.lane = true) (rcd : u.rcd = true) (s : State) (c : Nat) : (s.integrateStep c).outside u = s.outside u := by
  simp [State.integrateStep, free, attn, lane, rcd]

@[simp] theorem State.fallbackPeers_outside {u : Touch} (attn : u.attn = true) (lane : u.lane = true) (lge : u.lge = true)
    (grd : u.grd = true) (vio : u.vio = true) (lmp : u.lmp = true) (rcd : u.rcd = true) (upd : u.upd = true) (s : State) :
    s.fallbackPeers.outside u = s.outside u := by
  simp [State.fallbackPeers, attn, lane, lge, grd, vio, lmp, rcd, upd]

@[simp] theorem State.switchoverEntry_outside {u : Touch} (lnb : u.lnb = true) (s : State) (toSet : Bool) :
    (s.switchoverEntry toSet).outside u = s.outside u := by
  simp [State.switchoverEntry, lnb]

@[simp] theorem State.supSwitchover_outside {u : Touch} (lnb : u.lnb = true) (s : State) :
    s.supSwitchover.outside u = s.outside u := by
  simp [State.supSwitchover, lnb]

@[simp] theorem State.imprecise_outside {u : Touch} (attn : u.attn = true) (lane : u.lane = true) (crt : u.crt = true)
    (tae : u.tae = true) (lge : u.lge = true) (grd : u.grd = true) (vio : u.vio = true) (lmp : u.lmp = true)
    (rcd : u.rcd = true) (upd : u.upd = true) (s : State) : s.imprecise.outside u = s.outside u := by
  unfold State.imprecise
  split <;> simp [attn, lane, crt, tae, lge, grd, vio, lmp, rcd, upd]

/-! ### The lane-bus schedule -/

@[simp] theorem State.updNode_bstate (s : State) (n : Nat) (f : NodeView → NodeView) :
    (s.updNode n f).lnb.bstate = s.lnb.bstate := rfl

@[simp] theorem State.updNode_corrNow (s : State) (n : Nat) (f : NodeView → NodeView) :
    (s.updNode n f).lnb.corrNow = s.lnb.corrNow := rfl

@[simp] theorem State.updNode_m (s : State) (n : Nat) (f : NodeView → NodeView) : (s.updNode n f).lnb.m = s.lnb.m := rfl

/-! ### Basic cycles -/

@[simp] theorem State.singleCount_bstate (s : State) (n : Nat) : (s.singleCount n).lnb.bstate = s.lnb.bstate := by
  unfold State.singleCount
  dsimp only
  (repeat' split) <;> simp

@[simp] theorem State.singleCount_corrNow (s : State) (n : Nat) : (s.singleCount n).lnb.corrNow = s.lnb.corrNow := by
  unfold State.singleCount
  dsimp only
  (repeat' split) <;> simp

@[simp] theorem State.singleCount_m (s : State) (n : Nat) : (s.singleCount n).lnb.m = s.lnb.m := by
  unfold State.singleCount
  dsimp only
  (repeat' split) <;> simp

@[simp] theorem State.singleCounts_bstate (s : State) (l : List Nat) : (s.singleCounts l).lnb.bstate = s.lnb.bstate := by
  induction l generalizing s with
  | nil => rfl
  | cons a l ih => simp [State.singleCounts, ih]

@[simp] theorem State.singleCounts_corrNow (s : State) (l : List Nat) : (s.singleCounts l).lnb.corrNow = s.lnb.corrNow := by
  induction l generalizing s with
  | nil => rfl
  | cons a l ih => simp [State.singleCounts, ih]

@[simp] theorem State.singleCounts_m (s : State) (l : List Nat) : (s.singleCounts l).lnb.m = s.lnb.m := by
  induction l generalizing s with
  | nil => rfl
  | cons a l ih => simp [State.singleCounts, ih]

@[simp] theorem State.guardCompare_m (s : State) (diff : Nat) : (s.guardCompare diff).lnb.m = s.lnb.m := by
  unfold State.guardCompare
  split <;> simp

@[simp] theorem State.guardCompare_node (s : State) (diff : Nat) : (s.guardCompare diff).lnb.node = s.lnb.node := by
  unfold State.guardCompare
  split <;> simp

@[simp] theorem State.switchoverEntry_evt (s : State) (toSet : Bool) : (s.switchoverEntry toSet).lnb.evt = s.lnb.evt := rfl

@[simp] theorem State.switchoverEntry_guardOff (s : State) (toSet : Bool) :
    (s.switchoverEntry toSet).lnb.guardOff = s.lnb.guardOff := rfl

@[simp] theorem State.switchoverEntry_m (s : State) (toSet : Bool) : (s.switchoverEntry toSet).lnb.m = s.lnb.m := rfl

@[simp] theorem State.switchoverEntry_node (s : State) (toSet : Bool) :
    (s.switchoverEntry toSet).lnb.node = s.lnb.node := rfl

@[simp] theorem State.supSwitchover_evt (s : State) : (s.supSwitchover).lnb.evt = s.lnb.evt := by
  unfold State.supSwitchover
  split <;> simp

@[simp] theorem State.supSwitchover_guardOff (s : State) : (s.supSwitchover).lnb.guardOff = s.lnb.guardOff := by
  unfold State.supSwitchover
  split <;> simp

@[simp] theorem State.supSwitchover_m (s : State) : (s.supSwitchover).lnb.m = s.lnb.m := by
  unfold State.supSwitchover
  split <;> simp

@[simp] theorem State.supSwitchover_node (s : State) : (s.supSwitchover).lnb.node = s.lnb.node := by
  unfold State.supSwitchover
  split <;> simp

/-! ### The records of the nodes -/

/-- The records of the nodes have their canonical form. -/
abbrev NodesWf (s : State) : Prop := tabWf (fun _ => node0) s.lnb.node = true

theorem State.nodeView_of_node {s t : State} (h : t.lnb.node = s.lnb.node) (n : Nat) : t.nodeView n = s.nodeView n := by
  rw [State.nodeView, h, State.nodeView]

theorem State.updNode_wf {s : State} (wf : NodesWf s) (n : Nat) (f : NodeView → NodeView) : NodesWf (s.updNode n f) :=
  tabWf_tabUpd (fun _ => node0) n f wf

theorem State.updNode_nodeView {s : State} (wf : NodesWf s) (n : Nat) (f : NodeView → NodeView) (k : Nat) :
    (s.updNode n f).nodeView k = if k = n then f (s.nodeView k) else s.nodeView k := by
  split
  next h =>
    subst h
    exact tabGet_tabUpd_self (fun _ => node0) k f wf
  next h => exact tabGet_tabUpd_ne node0 node0 f h _

theorem State.foldl_updNode {f : Nat → NodeView → NodeView} : ∀ {l : List Nat} {s : State}, l.Nodup → NodesWf s →
    NodesWf (l.foldl (fun t n => t.updNode n (f n)) s) ∧
      ∀ k, (l.foldl (fun t n => t.updNode n (f n)) s).nodeView k = if k ∈ l then f k (s.nodeView k) else s.nodeView k
  | [], _, _, wf => ⟨wf, fun _ => rfl⟩
  | n :: l, s, distinct, wf => by
    obtain ⟨fresh, distinct⟩ := List.nodup_cons.mp distinct
    obtain ⟨wf', rest⟩ := State.foldl_updNode (f := f) distinct (State.updNode_wf wf n (f n))
    refine ⟨wf', fun k => (rest k).trans ?_⟩
    rw [State.updNode_nodeView wf]
    by_cases same : k = n
    · subst same
      simp [fresh]
    · simp [same]

theorem State.mapNodes_wf {s : State} (wf : NodesWf s) (f : Nat → NodeView → NodeView) : NodesWf (s.mapNodes f) :=
  (State.foldl_updNode (List.nodup_range (n := 8)) wf).1

theorem State.mapNodes_nodeView {s : State} (wf : NodesWf s) (f : Nat → NodeView → NodeView) {n : Nat} (h : n < 8) :
    (s.mapNodes f).nodeView n = f n (s.nodeView n) := by
  rw [State.mapNodes, (State.foldl_updNode (List.nodup_range (n := 8)) wf).2, if_pos (List.mem_range.mpr h)]

/-! ### The counts of the ended basic cycle (R30, R350) -/

/-- What was heard of the nodes, and the count of their silence, are in `t` as in `s`. -/
def HeardKept (s t : State) : Prop :=
  NodesWf s → NodesWf t ∧ ∀ n, (t.nodeView n).silent = (s.nodeView n).silent ∧ (t.nodeView n).rxNow = (s.nodeView n).rxNow

theorem HeardKept.of_node {s t : State} (h : t.lnb.node = s.lnb.node) : HeardKept s t := fun wf =>
  ⟨show tabWf _ t.lnb.node = true by rw [h]; exact wf, fun n => by rw [State.nodeView_of_node h]; exact ⟨rfl, rfl⟩⟩

theorem HeardKept.trans {s t w : State} (h : HeardKept s t) (k : HeardKept t w) : HeardKept s w := fun wf => by
  obtain ⟨wf', heard⟩ := h wf
  obtain ⟨wf'', heard'⟩ := k wf'
  exact ⟨wf'', fun n => ⟨(heard' n).1.trans (heard n).1, (heard' n).2.trans (heard n).2⟩⟩

theorem State.updNode_heard (s : State) (n : Nat) {f : NodeView → NodeView}
    (keeps : ∀ v, (f v).silent = v.silent ∧ (f v).rxNow = v.rxNow) : HeardKept s (s.updNode n f) := fun wf =>
  ⟨State.updNode_wf wf n f, fun k => by
    rw [State.updNode_nodeView wf]
    split
    · exact keeps _
    · exact ⟨rfl, rfl⟩⟩

theorem State.singleCount_heard (s : State) (n : Nat) : HeardKept s (s.singleCount n) := by
  unfold State.singleCount
  dsimp only
  split
  · exact State.updNode_heard s n fun _ => ⟨rfl, rfl⟩
  · split
    · refine HeardKept.trans (State.updNode_heard s n
        (f := fun v => { v with scCount := 0, scRejected := false, scDeclared := false }) fun _ => ⟨rfl, rfl⟩) (.of_node ?_)
      rw [State.record_lnb]
    · exact .of_node rfl

theorem State.singleCounts_heard : ∀ (l : List Nat) (s : State), HeardKept s (s.singleCounts l)
  | [], _ => .of_node rfl
  | n :: l, s => .trans (s.singleCount_heard n) (State.singleCounts_heard l _)

theorem State.ownsWindow_of_img {s t : State} (h : t.img = s.img) : t.ownsWindow = s.ownsWindow := by
  funext c n
  simp only [State.ownsWindow, State.station_of_img h, State.ccl, State.cfgField, State.cfg_of_img h]

/-- The silence of a node is counted, and what was heard of it becomes the last cycle's (R30). -/
theorem State.syncCounts_nodeView {s : State} (wf : NodesWf s) {n : Nat} (h : n < 8) :
    (s.syncCounts.nodeView n).silent =
        (if s.ownsWindow s.lnb.m n then (if (s.nodeView n).rxNow then 0 else satInc 255 (s.nodeView n).silent)
          else (s.nodeView n).silent) ∧
      (s.syncCounts.nodeView n).rxNow = false ∧ (s.syncCounts.nodeView n).rxLast = (s.nodeView n).rxNow := by
  have shift {w : State} (wf : NodesWf w) : w.syncShift.nodeView n = { w.nodeView n with
      rxLast := (w.nodeView n).rxNow, rxNow := false, syncLast := (w.nodeView n).syncNow, syncNow := false,
      bndLast := (w.nodeView n).bndNow, bndNow := false, single := false, double := false } := by
    rw [State.syncShift]
    generalize same : State.mk .. = x
    have node : x.lnb.node = w.lnb.node := by rw [← same]
    rw [State.mapNodes_nodeView (HeardKept.of_node node wf).1 _ h, State.nodeView_of_node node]
  have counted {w : State} (same : w.lnb.node = s.lnb.node) : NodesWf (w.mapNodes fun n v => s.nodeCounts s.lnb.m n v) ∧
      (w.mapNodes fun n v => s.nodeCounts s.lnb.m n v).nodeView n = s.nodeCounts s.lnb.m n (s.nodeView n) := by
    have wf' : NodesWf w := (HeardKept.of_node same wf).1
    exact ⟨State.mapNodes_wf wf' _, by rw [State.mapNodes_nodeView wf' _ h, State.nodeView_of_node same]⟩
  unfold State.syncCounts
  dsimp only
  generalize ref : State.recCount _ = w
  obtain ⟨wf', node⟩ := counted (w := w) (by rw [← ref]; rfl)
  rw [shift wf', node]
  exact ⟨rfl, rfl, rfl⟩

/-! ### The start of a basic cycle -/

/-- What the fall of TIMEV may touch. -/
def Touch.timev : Touch :=
  { attn := true, lane := true, crt := true, tae := true, lge := true, grd := true, vio := true, lmp := true, rcd := true,
    upd := true }

/-- What a withdrawal of a lane in fall-back may touch. -/
def Touch.withdrawal : Touch :=
  { attn := true, lane := true, lge := true, grd := true, vio := true, lmp := true, rcd := true, upd := true }

theorem State.imprecise_timev (s : State) : s.imprecise.outside .timev = s.outside .timev :=
  State.imprecise_outside rfl rfl rfl rfl rfl rfl rfl rfl rfl rfl s

@[simp] theorem State.fallbackPeers_lnb (s : State) : s.fallbackPeers.lnb = s.lnb :=
  State.lnb_of_outside (u := .withdrawal) (State.fallbackPeers_outside rfl rfl rfl rfl rfl rfl rfl rfl s) rfl

@[simp] theorem State.fallbackPeers_tae (s : State) : s.fallbackPeers.tae = s.tae :=
  State.tae_of_outside (u := .withdrawal) (State.fallbackPeers_outside rfl rfl rfl rfl rfl rfl rfl rfl s) rfl

/-- The lane's own counts touch no unit but the lane, its recorder and the free words. -/
@[simp] theorem State.integrateStep_lnb (s : State) (c : Nat) : (s.integrateStep c).lnb = s.lnb :=
  State.lnb_of_outside (u := { free := true, attn := true, lane := true, rcd := true })
    (State.integrateStep_outside rfl rfl rfl rfl s c) rfl

@[simp] theorem State.integrateStep_tae (s : State) (c : Nat) : (s.integrateStep c).tae = s.tae :=
  State.tae_of_outside (u := { free := true, attn := true, lane := true, rcd := true })
    (State.integrateStep_outside rfl rfl rfl rfl s c) rfl

@[simp] theorem State.setCounts_tae (s : State) (c : Nat) : (s.setCounts c).tae = s.tae := rfl

@[simp] theorem State.guardCompare_tae (s : State) (diff : Nat) : (s.guardCompare diff).tae = s.tae :=
  State.tae_of_outside (u := { attn := true, lnb := true, rcd := true }) (State.guardCompare_outside rfl rfl rfl s diff) rfl

/-- The ended cycle's own counts, its single-channel counts and the loss of TIMEV come first. -/
def State.cycleEnded (s : State) (t : Nat) : State := ((s.advanceCt t).singleCounts (List.range 8)).imprecise

/-- A new basic cycle has its number. -/
def State.atCycle (s : State) (m : Nat) : State := { s with lnb.m := m }

theorem State.atCycle_node (s : State) (m : Nat) : (s.atCycle m).lnb.node = s.lnb.node := rfl
theorem State.atCycle_m (s : State) (m : Nat) : (s.atCycle m).lnb.m = m := rfl
theorem State.atCycle_tae (s : State) (m : Nat) : (s.atCycle m).tae = s.tae := rfl
theorem State.atCycle_core (s : State) (m : Nat) : (s.atCycle m).lane.core = s.lane.core := rfl

/-- Then the nodes are counted; the guardian's compare and the switchovers that SUP issues come last. -/
theorem State.boundary_eq (s : State) (m diff : Nat) : s.boundary m diff =
    (((((s.cycleEnded (m * s.basicNs)).syncCounts.setCounts s.lnb.m).integrateStep s.lnb.m).atCycle m).guardCompare
      diff).fallbackPeers.supSwitchover := by
  simp only [State.boundary, State.cycleEnded, State.atCycle]

theorem State.cycleEnded_heard (s : State) (t : Nat) :
    HeardKept s (s.cycleEnded t) ∧ (s.cycleEnded t).lnb.m = s.lnb.m ∧ (s.cycleEnded t).img = s.img := by
  have kept := State.imprecise_timev ((s.advanceCt t).singleCounts (List.range 8))
  have lnb : (s.cycleEnded t).lnb = _ := State.lnb_of_outside kept rfl
  have single := State.singleCounts_heard (List.range 8) (s.advanceCt t)
  refine ⟨.trans (.of_node rfl) (single.trans (.of_node (congrArg Lnb.node lnb))), ?_, ?_⟩
  · rw [lnb, State.singleCounts_m]
    rfl
  · exact (State.img_of_outside kept rfl).trans (State.img_of_outside (u := { attn := true, lnb := true, rcd := true })
      (s := s.advanceCt t) (State.singleCounts_outside rfl rfl rfl (s.advanceCt t) (List.range 8)) rfl)

/-- What follows the nodes' counts leaves their records as they are. -/
theorem State.boundary_node (s : State) (m diff : Nat) :
    (s.boundary m diff).lnb.node = (s.cycleEnded (m * s.basicNs)).syncCounts.lnb.node := by
  rw [State.boundary_eq]
  generalize (s.cycleEnded _).syncCounts = x
  rw [State.supSwitchover_node, State.fallbackPeers_lnb, State.guardCompare_node]
  rw [State.atCycle_node, State.integrateStep_lnb]
  rfl

theorem State.boundary_nodeView {s : State} (wf : NodesWf s) (m diff : Nat) {n : Nat} (h : n < 8) :
    ((s.boundary m diff).nodeView n).silent =
        (if s.ownsWindow s.lnb.m n then (if (s.nodeView n).rxNow then 0 else satInc 255 (s.nodeView n).silent)
          else (s.nodeView n).silent) ∧
      ((s.boundary m diff).nodeView n).rxNow = false ∧ ((s.boundary m diff).nodeView n).rxLast = (s.nodeView n).rxNow := by
  obtain ⟨heard, cycle, img⟩ := s.cycleEnded_heard (m * s.basicNs)
  obtain ⟨wf', kept⟩ := heard wf
  have counts := State.syncCounts_nodeView wf' h
  rw [cycle, State.ownsWindow_of_img img, (kept n).1, (kept n).2] at counts
  rw [State.nodeView_of_node (s.boundary_node m diff)]
  exact counts

/-- The guardian's compare of a basic cycle (R348). -/
theorem State.guardCompare_lnb (s : State) (diff : Nat) : (s.guardCompare diff).lnb.guardOff = decide (10 < diff) ∧
    (10 < diff → (s.guardCompare diff).lnb.evt.getLsbD 7 = true) := by
  unfold State.guardCompare
  split
  next late => simp [State.evtLnb, late, putBit]
  next early => simp [early]

theorem State.boundary_lnb (s : State) (m diff : Nat) : (s.boundary m diff).lnb.m = m ∧
    (s.boundary m diff).lnb.guardOff = decide (10 < diff) ∧
    (10 < diff → (s.boundary m diff).lnb.evt.getLsbD 7 = true) := by
  rw [State.boundary_eq]
  generalize State.integrateStep _ _ = x
  obtain ⟨off, flag⟩ := State.guardCompare_lnb (x.atCycle m) diff
  rw [State.supSwitchover_m, State.supSwitchover_guardOff, State.supSwitchover_evt, State.fallbackPeers_lnb,
    State.guardCompare_m]
  exact ⟨x.atCycle_m m, off, flag⟩

/-- Everything but the clock. -/
def Touch.timeless : Touch :=
  { sent := true, free := true, attn := true, lane := true, crt := true, sup := true, tae := true, lge := true, grd := true,
    vio := true, lmp := true, mea := true, lnb := true, fld := true, cab := true, rcd := true, upd := true, inp := true,
    img := true }

theorem State.boundary_now (s : State) (m diff : Nat) :
    (s.boundary m diff).pins.now = max s.pins.now (s.clockAt (m * s.basicNs)) := by
  have kept : (s.boundary m diff).outside .timeless = (s.advanceCt (m * s.basicNs)).outside .timeless := by
    rw [State.boundary_eq, State.supSwitchover_outside rfl, State.fallbackPeers_outside rfl rfl rfl rfl rfl rfl rfl rfl,
      State.guardCompare_outside rfl rfl rfl, State.atCycle, State.outside_lnb rfl, State.integrateStep_outside rfl rfl rfl rfl,
      State.setCounts_outside rfl, State.syncCounts_outside rfl, State.cycleEnded,
      State.imprecise_outside rfl rfl rfl rfl rfl rfl rfl rfl rfl rfl, State.singleCounts_outside rfl rfl rfl]
  exact State.now_of_outside kept rfl rfl

/-! ### A correction that was not precise (R384) -/

theorem State.timevFall_lost (s : State) (x : FaultUnit) : (s.timevFall x).tae.timev = false ∧
    (s.tae.timev = true → s.voting = true → (s.timevFall x).lane.core.role = .excluded) := by
  by_cases timev : s.tae.timev = true
  · rw [State.timevFall]
    simp only [timev, if_true]
    generalize fallen : State.frameStop _ = w
    have tae : w.tae.timev = false := by rw [← fallen]; simp [State.frameStop, State.evtTae]
    have core : w.lane.core = s.lane.core := by rw [← fallen]; simp [State.frameStop, State.evtTae]
    generalize susp : (if w.dcAngle then w.angleSusp else w) = y
    have tae : y.tae.timev = false := by
      rw [← susp]
      split
      · rw [State.tae_of_outside (u := { attn := true, lmp := true, rcd := true }) (State.angleSusp_outside rfl rfl rfl w) rfl, tae]
      · exact tae
    have core : y.lane.core = s.lane.core := by
      rw [← susp, ← core]
      split
      · exact w.angleSusp_core
      · rfl
    split
    next votes =>
      refine ⟨?_, fun _ _ => (State.withdraw_excludes votes rfl x).1⟩
      rw [State.tae_of_outside (u := .withdrawal) (State.withdraw_touches rfl rfl rfl rfl rfl rfl rfl rfl y x) rfl, tae]
    next out => exact ⟨tae, fun _ voting => absurd (by rw [State.voting_eq_true, core, ← State.voting_eq_true, voting]) out⟩
  · have lost : s.tae.timev = false := Bool.eq_false_iff.mpr timev
    rw [State.timevFall]
    simp [lost]

theorem State.cycleEnded_imprecise {s : State} {c : Int} (corr : s.lnb.corrNow = some c) (active : s.lnb.bstate = .active)
    (far : 3 < c.natAbs) (t : Nat) : (s.cycleEnded t).tae.timev = false ∧
    (s.tae.timev = true → s.voting = true → (s.cycleEnded t).lane.core.role = .excluded) := by
  rw [State.cycleEnded]
  generalize single : State.singleCounts _ _ = w
  have tae : w.tae = s.tae := by
    rw [← single]
    exact State.tae_of_outside (u := { attn := true, lnb := true, rcd := true }) (s := s.advanceCt t)
      (State.singleCounts_outside rfl rfl rfl _ _) rfl
  have core : w.lane.core = s.lane.core := by
    rw [← single]
    exact State.singleCounts_core (s.advanceCt t) _
  have bus : w.lnb.corrNow = some c ∧ w.lnb.bstate = .active := by
    rw [← single, State.singleCounts_corrNow, State.singleCounts_bstate]
    exact ⟨corr, active⟩
  have falls : w.imprecise = w.timevFall .lnbRx := by
    rw [State.imprecise, bus.1]
    exact if_pos ⟨bus.2, far⟩
  obtain ⟨lost, excluded⟩ := w.timevFall_lost .lnbRx
  rw [falls]
  refine ⟨lost, fun timev voting => excluded (by rw [tae, timev]) ?_⟩
  rw [State.voting_eq_true, core, ← State.voting_eq_true, voting]

theorem State.syncCounts_bus (s : State) : s.syncCounts.outside { lnb := true } = s.outside { lnb := true } :=
  State.syncCounts_outside rfl s

theorem State.supSwitchover_bus (s : State) : s.supSwitchover.outside { lnb := true } = s.outside { lnb := true } :=
  State.supSwitchover_outside rfl s

/-- The counts of a basic cycle leave the vote and the time as they are. -/
theorem State.cycleCounts_keep (w : State) (c m diff : Nat) :
    ((((w.syncCounts.setCounts c).integrateStep c).atCycle m).guardCompare diff).lane.core = w.lane.core ∧
    ((((w.syncCounts.setCounts c).integrateStep c).atCycle m).guardCompare diff).tae = w.tae := by
  constructor
  · rw [State.guardCompare_core, State.atCycle_core, State.integrateStep_core, State.setCounts_core]
    exact State.core_of_outside w.syncCounts_bus rfl
  · rw [State.guardCompare_tae, State.atCycle_tae, State.integrateStep_tae, State.setCounts_tae]
    exact State.tae_of_outside w.syncCounts_bus rfl

/-- What follows the loss of TIMEV gives neither TIMEV nor the vote back. -/
theorem State.boundary_imprecise {s : State} {c : Int} (corr : s.lnb.corrNow = some c) (active : s.lnb.bstate = .active)
    (far : 3 < c.natAbs) (m diff : Nat) : (s.boundary m diff).tae.timev = false ∧
    (s.tae.timev = true → s.voting = true → (s.boundary m diff).lane.role = .excluded) := by
  obtain ⟨lost, excluded⟩ := State.cycleEnded_imprecise corr active far (m * s.basicNs)
  rw [State.boundary_eq]
  generalize s.cycleEnded (m * s.basicNs) = w at lost excluded
  obtain ⟨core, tae⟩ := w.cycleCounts_keep s.lnb.m m diff
  generalize State.guardCompare _ _ = x at core tae
  refine ⟨?_, fun timev voting => ?_⟩
  · rw [State.tae_of_outside (State.supSwitchover_bus _) rfl, State.fallbackPeers_tae, tae, lost]
  · have out : ¬ x.voting = true := fun v =>
      (State.voting_eq_true.mp v).2 ((congrArg LaneCore.role core).trans (excluded timev voting))
    have stays : x.fallbackPeers = x := by
      rw [State.fallbackPeers, if_neg fun h => out h.2.1]
    show x.fallbackPeers.supSwitchover.lane.core.role = _
    rw [State.core_of_outside (State.supSwitchover_bus _) rfl, stays, core, excluded timev voting]

/-! ### The peers (R30) -/

theorem State.peerIndex_peer (s : State) (k : Fin 2) : s.peerIndex (s.peer k.val) = some k.val := by
  have distinct : s.peer 1 ≠ s.peer 0 := by
    simp only [State.peer]
    omega
  match k with
  | 0 => exact if_pos rfl
  | 1 => exact (if_neg distinct).trans (if_pos rfl)

theorem State.consentWithdraw_peer (s : State) (k : Fin 2) : s.consentWithdraw (s.peer k.val) =
    if k = 0 then { s with lane.withdrawn0 := true } else { s with lane.withdrawn1 := true } := by
  rw [State.consentWithdraw, State.peerIndex_peer]
  match k with
  | 0 => rfl
  | 1 => rfl

theorem execPeerSilent_withdraws {s : State} (k : Fin 2) (voting : s.voting = true)
    (silent : 2 ≤ (s.nodeView (s.peer k.val)).silent) :
    Answers (.peerSilent k) s fun t =>
      t.lane = (if k = 0 then { s.lane with withdrawn0 := true } else { s.lane with withdrawn1 := true }) ∧
      t.vio = s.vio ∧ t.lge = s.lge ∧ t.grd = s.grd := by
  refine ⟨_, next_of_pos (by simp [voting, silent]), ?_⟩
  have withdrawn := State.consentWithdraw_peer (s.updNode (s.peer k.val) fun v => { v with reportedAt := none }) k
  rw [show State.peer (s.updNode _ _) _ = s.peer k.val from rfl] at withdrawn
  rw [withdrawn]
  split <;> exact ⟨rfl, rfl, rfl, rfl⟩

/-! ### Switchovers (R49, R498) -/

theorem execAutomaticSwitchover_takesOver {s : State} (run : s.lane.st = .run)
    (role : s.lane.role = .standby ∨ s.lane.role = .shadow)
    (missing : 2 ≤ s.lane.holdersMissing) (healthy : s.tenSeconds s.lane.ownHealthy = true) :
    Answers .automaticSwitchover s fun t => t.lane.role = .holding ∧ t.lane.driving = false ∧ t.lane.switch = none ∧
      t.lane.st = .run ∧ t.vio = s.vio := by
  have voting : s.voting = true := State.voting_eq_true.mpr ⟨run, fun e => by
    rw [show s.lane.role = .excluded from e] at role
    exact role.elim Role.noConfusion Role.noConfusion⟩
  refine ⟨_, next_of_pos ⟨voting, role, missing, healthy⟩, ?_⟩
  dsimp only
  split <;> exact ⟨s.setRole_role _, rfl, rfl, (s.setRole_st _).trans run, s.setRole_vio _⟩

theorem execAutomaticSwitchover_holding {s : State} (role : s.lane.role = .holding) :
    Answers .automaticSwitchover s fun t => t = s :=
  ⟨s, next_of_neg fun h => h.2.1.elim (fun e => Role.noConfusion (role.symm.trans e)) fun e =>
    Role.noConfusion (role.symm.trans e), rfl⟩

theorem State.isHandback_plain {s : State} {x : Switch} (plain : x.program = false) : s.isHandback x = false := by
  rw [State.isHandback, plain, Bool.false_and, Bool.false_and]

/-- A switchover that is no program handover gives the role and the drives, and touches no pin. -/
theorem State.switchIn_plain {s : State} {x : Switch} (plain : x.program = false) :
    (s.switchIn x).lane.core = (s.lane.core.withRole .holding).withDriving true ∧ (s.switchIn x).pins = s.pins := by
  rw [State.switchIn, State.isHandback_plain plain]
  simp only [plain, Bool.false_eq_true, if_false]
  constructor
  · rw [State.drivesOn_core, ← State.setRole_core]
    rfl
  · refine (State.pins_of_outside (u := { attn := true, vio := true, lmp := true, rcd := true })
      (State.drivesOn_outside rfl rfl rfl rfl _) rfl rfl rfl rfl).trans ?_
    exact s.setRole_pins _

theorem State.switchOut_plain {s : State} {x : Switch} (plain : x.program = false) : s.switchOut x = s := by
  rw [State.switchOut, State.isHandback_plain plain]
  simp only [plain, Bool.false_eq_true, if_false]

theorem execSwitchoverCommit_plain {x : Switch} {n : Nat} {s : State} (due : s.lane.switch = some x)
    (cycle : x.cycle = some n)
    (first : x.committed = false) (time : s.hasCt = true) (plain : x.program = false) (voting : s.voting = true) :
    Answers .switchoverCommit s fun t =>
      t.lane.switch = some { x with committed := true, back := false } ∧ t.lane.st = .run ∧
      t.pins.now = max s.pins.now (s.clockAt (s.commitAt n + s.basicNs)) ∧
      (x.toSet = s.sid → t.lane.role = .holding ∧ t.lane.driving = true) ∧
      (x.toSet ≠ s.sid → t.lane.role = s.lane.role ∧ t.lane.driving = s.lane.driving) := by
  have run : s.lane.st = .run := (State.voting_eq_true.mp voting).1
  have done : exec .switchoverCommit s = .next
      { (if x.toSet = s.sid then (s.advanceCt (s.commitAt n + s.basicNs)).switchIn x
          else (s.advanceCt (s.commitAt n + s.basicNs)).switchOut x) with
        lane.switch := some { x with committed := true, back := false } } := by
    show execSwitchoverCommit s = _
    rw [execSwitchoverCommit, due]
    dsimp only
    rw [cycle]
    dsimp only
    rw [if_neg (by simp [first, time]), if_pos (by simp [State.switchHealthy, plain]), if_pos (show State.voting (s.advanceCt _) = true from voting),
      State.isHandback_plain plain]
    rfl
  refine ⟨_, done, rfl, ?_⟩
  by_cases own : x.toSet = s.sid
  · obtain ⟨core, pins⟩ := State.switchIn_plain (s := s.advanceCt (s.commitAt n + s.basicNs)) plain
    rw [if_pos own]
    generalize State.switchIn _ x = w at core pins
    exact ⟨(congrArg LaneCore.st core).trans run, congrArg Pins.now pins,
      fun _ => ⟨congrArg LaneCore.role core, congrArg LaneCore.driving core⟩, fun other => absurd own other⟩
  · rw [if_neg own, State.switchOut_plain plain]
    exact ⟨run, rfl, fun h => absurd h own, fun _ => ⟨rfl, rfl⟩⟩

/-! ### Basic cycles -/

@[simp] theorem State.handoverEnded_outside {u : Touch} (attn : u.attn = true) (rcd : u.rcd = true) (upd : u.upd = true)
    (s : State) (back : Bool) (status : Nat) : (s.handoverEnded back status).outside u = s.outside u := by
  simp [State.handoverEnded, attn, rcd, upd]

theorem State.handoverEnded_quiet (s : State) (back : Bool) (status : Nat) :
    (s.handoverEnded back status).lane.quiet = s.lane.quiet :=
  State.quiet_of_outside (u := { attn := true, rcd := true, upd := true })
    (State.handoverEnded_outside rfl rfl rfl s back status) rfl

/-- The command of the accepting lane ends; no switchover comes of that. -/
theorem State.switchDone_lane (s : State) (x : Switch) : (s.switchDone x).lane.switch = s.lane.switch ∧
    (s.switchDone x).lane.pin = s.lane.pin ∧
    (x.own = true → x.program = false → (s.switchDone x).lane.ctl = .completed) := by
  unfold State.switchDone
  cases x.own <;> cases x.program
  case true.true =>
    cases x.back
    · have quiet := ({ s with upd.cmd := .completed } : State).handoverEnded_quiet false 2
      exact ⟨read_of_quiet quiet Lane.switch fun _ => rfl, read_of_quiet quiet Lane.pin fun _ => rfl,
        fun _ h => Bool.noConfusion h⟩
    · exact ⟨rfl, rfl, fun _ h => Bool.noConfusion h⟩
  case true.false =>
    by_cases ended : s.lane.ctl = .completed
    · simp [ended]
    · simp [ended]
  all_goals exact ⟨rfl, rfl, fun h => Bool.noConfusion h⟩

/-- The release of R49 and R498 in a lane that drove, where no handback goes with it. -/
theorem State.switchRelease_lane {s : State} {x : Switch} (plain : x.back = false) (voting : s.voting = true) :
    (s.switchRelease x).lane.switch = s.lane.switch ∧ (s.switchRelease x).lane.ctl = s.lane.ctl ∧
    (s.switchRelease x).lane.core = if x.toSet = s.sid then s.lane.core
      else (s.lane.core.withDriving false).withRole (if x.program then .shadow else .standby) := by
  by_cases own : x.toSet = s.sid
  · rw [State.switchRelease, if_neg fun h => h.2 own, if_pos own]
    exact ⟨rfl, rfl, rfl⟩
  · rw [State.switchRelease, if_pos ⟨voting, own⟩, if_neg own]
    simp only [plain, Bool.false_eq_true, if_false]
    generalize (if x.program = true then Role.shadow else Role.standby) = r
    have refresh (w : State) : (w.lampsRefresh (List.range 32)).lane.quiet = w.lane.quiet :=
      State.quiet_of_outside (u := { attn := true, lmp := true, rcd := true }) (State.lampsRefresh_outside rfl rfl rfl w _) rfl
    have release (w : State) : w.forcesRelease.lane.quiet = w.lane.quiet :=
      State.quiet_of_outside (u := { attn := true, rcd := true, upd := true }) (State.forcesRelease_outside rfl rfl rfl w) rfl
    have role (w : State) : (w.setRole r).lane.ctl = w.lane.ctl := by
      rw [State.setRole]
      split <;> rfl
    refine ⟨?_, ?_, ?_⟩
    · rw [read_of_quiet (refresh _) Lane.switch fun _ => rfl, State.setRole_switch,
        read_of_quiet (release _) Lane.switch fun _ => rfl]
      rfl
    · rw [read_of_quiet (refresh _) Lane.ctl fun _ => rfl, role, read_of_quiet (release _) Lane.ctl fun _ => rfl]
      rfl
    · rw [State.lampsRefresh_core, State.setRole_core, ← Lane.core_quiet, release, Lane.core_quiet]
      rfl

/-- The switchover of the lane is over at a cluster-time instant. -/
def State.switchOver (s : State) (t : Nat) : State := { s.advanceCt t with lane.switch := none }

theorem State.switchOver_lane (s : State) (t : Nat) : (s.switchOver t).lane.core = s.lane.core ∧
    (s.switchOver t).lane.switch = none ∧ (s.switchOver t).lane.pin = s.lane.pin := ⟨rfl, rfl, rfl⟩

theorem execSwitchoverRelease_plain {x : Switch} {n : Nat} {s : State} (due : s.lane.switch = some x)
    (cycle : x.cycle = some n)
    (second : x.committed = true) (time : s.hasCt = true) (voting : s.voting = true) (plain : x.back = false) :
    Answers .switchoverRelease s fun t => t.lane.switch = none ∧ t.lane.st = .run ∧
      (x.toSet ≠ s.sid → t.lane.driving = false ∧ t.lane.role = (if x.program then .shadow else .standby)) ∧
      (x.toSet = s.sid → t.lane.driving = s.lane.driving ∧ t.lane.role = s.lane.role) ∧
      (x.own = true → x.program = false → t.lane.ctl = .completed) := by
  have done : exec .switchoverRelease s = .next (
      ((s.switchOver (s.commitAt n + 2 * s.basicNs)).switchDone x).switchRelease x) := by
    show execSwitchoverRelease s = _
    rw [execSwitchoverRelease, due]
    dsimp only
    rw [cycle]
    dsimp only
    rw [if_pos (by simp [second, time]), State.switchOver]
  refine ⟨_, done, ?_⟩
  obtain ⟨same, clear, pin⟩ := s.switchOver_lane (s.commitAt n + 2 * s.basicNs)
  generalize s.switchOver _ = y at same clear pin
  obtain ⟨none, pin', ended⟩ := y.switchDone_lane x
  have core := y.switchDone_core x
  rw [clear] at none
  rw [same] at core
  generalize y.switchDone x = w at none pin' ended core
  have sid : w.sid = s.sid := by rw [State.sid, pin', pin, State.sid]
  obtain ⟨switch, ctl, after⟩ := State.switchRelease_lane (s := w) plain
    (by rw [State.voting_eq_true, core, ← State.voting_eq_true, voting])
  rw [core, sid] at after
  generalize w.switchRelease x = t at switch ctl after
  refine ⟨switch.trans none, ?_, fun other => ?_, fun own => ?_, fun mine alone => ctl.trans (ended mine alone)⟩
  · refine (congrArg LaneCore.st after).trans (Eq.trans ?_ (State.voting_eq_true.mp voting).1)
    split <;> rfl
  · rw [if_neg other] at after
    exact ⟨congrArg LaneCore.driving after, congrArg LaneCore.role after⟩
  · rw [if_pos own] at after
    exact ⟨congrArg LaneCore.driving after, congrArg LaneCore.role after⟩

/-- A new basic cycle comes down to its boundary. -/
theorem execBasicCycleBoundary_next {m d : Nat} {s : State} (time : s.busTime = true) (live : s.blockLive 9 = true)
    (next : m = s.lnb.m + 1) : exec (.basicCycleBoundary m d) s = .next (s.boundary m d) :=
  next_of_pos (by rw [time, live, decide_eq_true next]; rfl)

/-- Settles O24: the boundary stage by stage, and the switchovers by what they make of the lane's core. -/
theorem basicCyclesAndSwitchovers : Obligations.BasicCyclesAndSwitchovers := by
  refine ⟨fun m d s time live next => ?_, fun m d n s time live next wf h => ?_, fun m d s out => ?_,
    fun k s => execPeerSilent_withdraws k, fun s => execAutomaticSwitchover_takesOver,
    fun s => execAutomaticSwitchover_holding, fun x n s => execSwitchoverCommit_plain,
    fun x n s => execSwitchoverRelease_plain⟩
  · obtain ⟨number, off, flag⟩ := s.boundary_lnb m d
    exact ⟨_, execBasicCycleBoundary_next time live next, number, off, flag, s.boundary_now m d,
      fun c corr active far => State.boundary_imprecise corr active far m d⟩
  · obtain ⟨-, -, -, -, -, nodes, -⟩ := wf
    exact ⟨_, execBasicCycleBoundary_next time live next, State.boundary_nodeView nodes m d h⟩
  · refine ⟨s, next_of_neg fun h => ?_, rfl⟩
    simp only [Bool.and_eq_true, decide_eq_true_eq] at h
    obtain ⟨⟨time, -⟩, next⟩ := h
    exact out.elim (fun e => Bool.false_ne_true (e.symm.trans time)) fun e => e next

end Sys2Proof.Machine
end
section
/-! PROOF. The cold start of the lane bus (R344, R370 to R378). -/

namespace Sys2Proof.Machine

open Sys2Proof.Safety

@[simp] theorem State.evtRec_outside {u : Touch} (attn : u.attn = true) (rcd : u.rcd = true) (s : State) (k : Nat) :
    (s.evtRec k).outside u = s.outside u :=
  (RecorderOnly.evtRec s k).outside_eq rcd attn

/-! ### The shared operations -/

@[simp] theorem State.wallStep_outside {u : Touch} (attn : u.attn = true) (tae : u.tae = true) (rcd : u.rcd = true)
    (s : State) (woff : Int) (wallv : Bool) (cause : Nat) : (s.wallStep woff wallv cause).outside u = s.outside u := by
  simp [State.wallStep, attn, tae, rcd]

/-! ### Cluster time and slots -/

@[simp] theorem State.timevRise_outside {u : Touch} (attn : u.attn = true) (crt : u.crt = true) (tae : u.tae = true)
    (lmp : u.lmp = true) (mea : u.mea = true) (rcd : u.rcd = true) (s : State) : s.timevRise.outside u = s.outside u := by
  simp [State.timevRise, attn, crt, tae, lmp, mea, rcd]

/-! ### What the operations of the bus states change -/

theorem State.foldl_updNode_only {f : Nat → NodeView → NodeView} : ∀ (l : List Nat) (s : State),
    ∃ v, l.foldl (fun t n => t.updNode n (f n)) s = { s with lnb.node := v }
  | [], s => ⟨s.lnb.node, rfl⟩
  | n :: l, s => by
    obtain ⟨v, h⟩ := State.foldl_updNode_only (f := f) l (s.updNode n (f n))
    exact ⟨v, h⟩

/-- Every node's record changed, and nothing else. -/
theorem State.mapNodes_only (s : State) (f : Nat → NodeView → NodeView) : ∃ v, s.mapNodes f = { s with lnb.node := v } :=
  State.foldl_updNode_only (List.range 8) s

/-- What taking or dropping a time clears: the sync rules' counts and the nodes' records. -/
theorem State.syncClear_only (s : State) : ∃ v, s.syncClear = { s with
    lnb.devs := [], lnb.corrNow := none, lnb.precise := 0, lnb.coarse := 0, lnb.bndRun := 0, lnb.goodRun := 0,
    lnb.noSync := 0, lnb.folGood := 0, lnb.folMiss := 0, lnb.folSend := false, lnb.ownSyncNow := false,
    lnb.ownSyncLast := false, lnb.node := v } := by
  rw [State.syncClear]
  generalize cleared : State.mk .. = x
  obtain ⟨v, h⟩ := x.mapNodes_only _
  exact ⟨v, by rw [h, ← cleared]⟩

@[simp] theorem State.timevFall_lnb (s : State) (x : FaultUnit) : (s.timevFall x).lnb = s.lnb :=
  State.lnb_of_outside (u := .timev) (State.timevFall_outside rfl rfl rfl rfl rfl rfl rfl rfl rfl rfl s x) rfl

/-- A node that enters LISTEN has no time, and waits for the timeout that it was given. -/
theorem State.enterListen_reads (s : State) (len at_ : Nat) :
    (s.enterListen len at_).lnb.bstate = .listen ∧ (s.enterListen len at_).tae.ctOff = none ∧
    (s.enterListen len at_).lnb.listenLen = len ∧ (s.enterListen len at_).lnb.listenAt = at_ ∧
    (s.enterListen len at_).lnb.collcnt = s.lnb.collcnt ∧ (s.enterListen len at_).lnb.sevt = s.lnb.sevt := by
  obtain ⟨v, h⟩ := (s.timevFall .lnbRx).syncClear_only
  have lnb := s.timevFall_lnb .lnbRx
  rw [State.enterListen, h]
  generalize s.timevFall .lnbRx = x at lnb
  refine ⟨rfl, rfl, rfl, rfl, ?_, ?_⟩
  · show x.lnb.collcnt = _
    rw [lnb]
  · show x.lnb.sevt = _
    rw [lnb]

/-- A node that adopts a time has it from there on, in the bus state and the basic cycle given. -/
theorem State.adoptTime_reads (s : State) (b : BState) (ct : Int) (at_ m : Nat) :
    (s.adoptTime b ct at_ m).lnb.bstate = b ∧ (s.adoptTime b ct at_ m).lnb.m = m ∧
    (s.adoptTime b ct at_ m).tae.ctOff = some (ct - at_) ∧ (s.adoptTime b ct at_ m).lnb.att = s.lnb.att := by
  obtain ⟨v, h⟩ := s.syncClear_only
  rw [State.adoptTime, h]
  exact ⟨rfl, rfl, rfl, rfl⟩

/-! ### LISTEN, WAIT and SWARM (R370, R372, R378) -/

/-- The attempt of a node that sends its cold-start frame. -/
def State.swarming (s : State) : State :=
  { s with lnb.bstate := .swarm, lnb.att := satInc 255 s.lnb.att, lnb.listenAt := s.pins.now }

theorem State.swarmSend_eq (s : State) : s.swarmSend = match (fidsOf s.station s.node 7).head? with
    | some f => s.swarming.txFrame f false false true false []
    | none => s.swarming := rfl

/-- The node that may sends its cold-start frame, where it owns one. -/
theorem State.swarmSend_reads (s : State) : s.swarmSend.lnb.bstate = .swarm ∧ s.swarmSend.lnb.att = satInc 255 s.lnb.att ∧
    s.swarmSend.pins.now = s.pins.now ∧
    (fidsOf s.station s.node 7 ≠ [] → s.swarmSend.pins.sent.length = s.pins.sent.length + 1) := by
  rw [State.swarmSend_eq]
  cases fidsOf s.station s.node 7 with
  | nil => exact ⟨rfl, rfl, rfl, fun h => absurd rfl h⟩
  | cons f l => exact ⟨rfl, rfl, rfl, fun _ => rfl⟩

theorem State.maySwarm_eq_true {s : State} {carrier : Bool} : s.maySwarm carrier = true ↔
    s.syncNode = true ∧ carrier = false ∧ s.lane.st ≠ .safe := by
  simp [State.maySwarm, and_assoc]

theorem execListenTimeout_cases {s : State} (listens : s.lnb.bstate = .listen) (live : s.blockLive 9 = true) :
    (s.syncNode = true → s.lane.st ≠ .safe → Answers (.listenTimeout false) s fun t =>
      t.lnb.bstate = .swarm ∧ t.lnb.att = satInc 255 s.lnb.att ∧
      t.pins.now = max s.pins.now (s.lnb.listenAt + s.lnb.listenLen) ∧
      ((fidsOf s.station s.node 7) ≠ [] → t.pins.sent.length = s.pins.sent.length + 1)) ∧
    (s.lane.st = .safe → Answers (.listenTimeout false) s fun t => t.lnb.bstate = .listen ∧ t.pins.sent = s.pins.sent) ∧
    (Answers (.listenTimeout true) s fun t => t.lnb.bstate = .listen ∧ t.lnb.listenAt = t.pins.now ∧ t.lnb.att = s.lnb.att ∧
      t.pins.sent = s.pins.sent) := by
  have due (carrier : Bool) : exec (.listenTimeout carrier) s = .next
      (if (s.advance (s.lnb.listenAt + s.lnb.listenLen)).maySwarm carrier then
        (s.advance (s.lnb.listenAt + s.lnb.listenLen)).swarmSend
      else (s.advance (s.lnb.listenAt + s.lnb.listenLen)).listenAgain) :=
    next_of_pos (by simp [listens, live])
  have again : (s.advance (s.lnb.listenAt + s.lnb.listenLen)).listenAgain =
      { s.advance (s.lnb.listenAt + s.lnb.listenLen) with
        lnb.listenAt := (s.advance (s.lnb.listenAt + s.lnb.listenLen)).pins.now } := if_pos listens
  rw [again] at due
  refine ⟨fun sync open_ => ?_, fun safe => ?_, ?_⟩
  · refine ⟨_, (due false).trans (next_of_pos (State.maySwarm_eq_true.mpr ⟨sync, rfl, open_⟩)), ?_⟩
    exact State.swarmSend_reads (s.advance _)
  · refine ⟨_, (due false).trans (next_of_neg fun h => (State.maySwarm_eq_true.mp h).2.2 safe), listens, rfl⟩
  · exact ⟨_, (due true).trans (next_of_neg fun h => Bool.noConfusion (State.maySwarm_eq_true.mp h).2.1), listens, rfl, rfl, rfl⟩

theorem execWaitExpire_cases {s : State} (waits : s.lnb.bstate = .wait) (live : s.blockLive 9 = true) :
    (s.syncNode = true → s.lane.st ≠ .safe → Answers (.waitExpire false) s fun t =>
      t.lnb.bstate = .swarm ∧ t.lnb.att = satInc 255 s.lnb.att ∧
      t.pins.now = max s.pins.now (s.lnb.listenAt + 1000000000)) ∧
    (Answers (.waitExpire true) s fun t => t.lnb.bstate = .wait ∧ t.lnb.listenAt = t.pins.now ∧ t.pins.sent = s.pins.sent) := by
  have due (carrier : Bool) : exec (.waitExpire carrier) s = .next
      (if (s.advance (s.lnb.listenAt + 1000000000)).maySwarm carrier then (s.advance (s.lnb.listenAt + 1000000000)).swarmSend
      else { s.advance (s.lnb.listenAt + 1000000000) with
        lnb.listenAt := (s.advance (s.lnb.listenAt + 1000000000)).pins.now }) :=
    next_of_pos (by simp [waits, live])
  refine ⟨fun sync open_ => ?_, ?_⟩
  · obtain ⟨swarm, att, now, -⟩ := State.swarmSend_reads (s.advance (s.lnb.listenAt + 1000000000))
    exact ⟨_, (due false).trans (next_of_pos (State.maySwarm_eq_true.mpr ⟨sync, rfl, open_⟩)), swarm, att, now⟩
  · exact ⟨_, (due true).trans (next_of_neg fun h => Bool.noConfusion (State.maySwarm_eq_true.mp h).2.1), waits, rfl, rfl⟩

theorem execSwarmReadback_cases {s : State} (swarms : s.lnb.bstate = .swarm) (live : s.blockLive 9 = true) :
    (Answers (.swarmReadback true) s fun t => t.lnb.bstate = .lead ∧ t.lnb.m = 0 ∧ t.lnb.leader = s.node ∧
      t.tae.ctOff = some (-(s.lnb.listenAt : Int))) ∧
    (Answers (.swarmReadback false) s fun t => t.lnb.bstate = .listen ∧ t.lnb.collcnt = satInc 65535 s.lnb.collcnt ∧
      t.lnb.sevt.getLsbD 0 = true ∧ t.tae.ctOff = none) := by
  constructor
  · obtain ⟨leads, m, off, -⟩ := (s.advance (s.lnb.listenAt + 560)).adoptTime_reads .lead 0 s.lnb.listenAt 0
    refine ⟨{ (s.advance (s.lnb.listenAt + 560)).adoptTime .lead 0 s.lnb.listenAt 0 with lnb.leader := s.node },
      next_of_pos (by simp [swarms, live]), leads, m, rfl, off.trans ?_⟩
    rw [zero_sub]
  · refine ⟨_, next_of_pos (by simp [swarms, live]), ?_⟩
    dsimp only
    rw [if_neg Bool.false_ne_true]
    generalize collided : State.record _ _ _ _ _ = w
    obtain ⟨listens, off, -, -, count, flags⟩ := w.enterListen_reads s.listenShort s.lnb.listenAt
    refine ⟨listens, count.trans ?_, ?_, off⟩
    · rw [← collided, State.record_lnb]
      simp [State.sevtLnb]
    · rw [flags, ← collided, State.record_lnb]
      simp [State.sevtLnb, putBit]

/-! ### Frames and carriers of a cold start (R344, R370, R373) -/

/-- The copies of a clean cold-start frame are counted, and end the run of attempts (R347, R378). -/
def State.coldTaken (s : State) (f : RxFrame) : State :=
  { ((s.advance (frameEnd f)).coldCount false f.x).coldCount true f.y with lnb.att := 0 }

theorem execColdStartFrame_cases {f : RxFrame} {c : Copy} {s : State} (live : s.rxLive = true)
    (clean : s.coldCopy f = some c)
    (other : hNode c.hdr ≠ s.node) :
    ((s.lnb.bstate = .listen ∨ s.lnb.bstate = .wait) → Answers (.coldStartFrame f) s fun t =>
      t.lnb.bstate = .follow ∧ t.lnb.leader = hNode c.hdr ∧ t.lnb.m = 0 ∧ t.lnb.att = 0 ∧
      t.tae.ctOff = some (((160 + s.dly (hNode c.hdr) : Nat) : Int) - c.start)) ∧
    (s.lnb.bstate = .lead → Answers (.coldStartFrame f) s fun t => t.lnb.bstate = .listen ∧ t.tae.ctOff = none) := by
  have clean : (s.advance (frameEnd f)).coldCopy f = some c := clean
  have live : ¬ (!s.rxLive) = true := by rw [live]; exact Bool.noConfusion
  constructor
  · intro listens
    have done : exec (.coldStartFrame f) s = .next { (s.coldTaken f).adoptTime .follow
        ((160 + s.dly (hNode c.hdr) : Nat) : Int) c.start 0 with lnb.leader := hNode c.hdr } := by
      show execColdStartFrame f s = _
      unfold execColdStartFrame
      dsimp only
      rw [if_neg live, clean]
      obtain h | h := listens
      all_goals
        rw [show (s.advance (frameEnd f)).lnb.bstate = _ from h]
        dsimp only
        rw [if_neg (show ¬ hNode c.hdr = (s.advance (frameEnd f)).node from other)]
        rfl
    obtain ⟨follows, m, off, att⟩ :=
      (s.coldTaken f).adoptTime_reads .follow ((160 + s.dly (hNode c.hdr) : Nat) : Int) c.start 0
    exact ⟨_, done, follows, rfl, m, att, off⟩
  · intro leads
    have done : exec (.coldStartFrame f) s = .next (s.coldTaken f).leadAbandon := by
      show execColdStartFrame f s = _
      unfold execColdStartFrame
      dsimp only
      rw [if_neg live, clean, show (s.advance (frameEnd f)).lnb.bstate = _ from leads]
      dsimp only
      rw [if_neg (show ¬ hNode c.hdr = (s.advance (frameEnd f)).node from other)]
      rfl
    obtain ⟨listens, off, -⟩ := (s.coldTaken f).enterListen_reads _ _
    exact ⟨_, done, listens, off⟩

theorem execCarrierInvalid_cases {s : State} (live : s.rxLive = true) :
    (s.lnb.bstate = .listen → Answers .carrierInvalid s fun t => t = { s with lnb.listenAt := s.pins.now }) ∧
    (∀ k, s.busTime = true → s.windowAt s.ct = some k →
      (winArb s.station k = true → Answers .carrierInvalid s fun t => t.lnb.evt.getLsbD 8 = true ∧ t.lnb.arbSkip = some k ∧
        t.lnb.bstate = s.lnb.bstate) ∧
      (winArb s.station k = false → Answers .carrierInvalid s fun t => t = s)) := by
  have lost : exec .carrierInvalid s = .next (s.carrierLost (s.windowAt s.ct)) := next_of_pos live
  refine ⟨fun listens => ⟨_, lost, ?_⟩, fun k time here => ?_⟩
  · unfold State.carrierLost
    rw [if_pos listens, State.listenAgain, if_pos listens]
  · have timed : s.lnb.bstate ≠ .listen := fun e => by
      rw [State.busTime, e] at time
      exact Bool.noConfusion time
    have skip : s.carrierLost (s.windowAt s.ct) =
        if s.busTime && winArb s.station k then ({ s with lnb.arbSkip := some k } : State).evtLnb 8 else s := by
      unfold State.carrierLost
      rw [if_neg timed, here]
    rw [skip] at lost
    refine ⟨fun arb => ⟨_, lost, ?_⟩, fun exclusive => ⟨_, lost, ?_⟩⟩
    · rw [time, arb, Bool.and_self, if_pos rfl]
      simp [State.evtLnb, putBit]
    · rw [exclusive, Bool.and_false, if_neg Bool.false_ne_true]

/-! ### The end of an attempt (R377, R378) -/

theorem execLoneNode_rests {s : State} (listens : s.lnb.bstate = .listen) (attempts : 16 ≤ s.lnb.att)
    (sync : s.syncNode = true)
    (live : s.blockLive 9 = true) :
    Answers .loneNode s fun t => t.lnb.bstate = .wait ∧ t.lnb.listenAt = s.pins.now ∧
      (s.lnb.att = 16 → t.lnb.sevt.getLsbD 3 = true) := by
  refine ⟨_, next_of_pos (by simp [listens, attempts, sync, live]), ?_⟩
  split
  next => simp [State.sevtLnb, putBit]
  next more => exact ⟨rfl, rfl, fun sixteen => absurd sixteen more⟩

theorem attempt_open {s : State} (few : s.formers.length < 2) (live : s.blockLive 9 = true) :
    ¬ (2 ≤ s.formers.length ∨ s.blockLive 9 = false) :=
  fun h => h.elim (Nat.not_le.mpr few) fun e => Bool.noConfusion (e.symm.trans live)

theorem execAttemptFailed_lead {s : State} (leads : s.lnb.bstate = .lead) (last : 7 ≤ s.lnb.m) (few : s.formers.length < 2)
    (live : s.blockLive 9 = true) :
    Answers .attemptFailed s fun t => t.lnb.bstate = .listen ∧ t.tae.ctOff = none ∧ t.lnb.listenLen = s.listenShort := by
  have done : exec .attemptFailed s = .next ((s.advanceCt ((s.lnb.m + 1) * s.basicNs)).enterListen s.listenShort
      (s.advanceCt ((s.lnb.m + 1) * s.basicNs)).pins.now) := by
    show execAttemptFailed s = _
    rw [execAttemptFailed, if_neg (attempt_open few live), if_pos ⟨leads, last⟩]
    rfl
  obtain ⟨listens, off, len, -⟩ := (s.advanceCt ((s.lnb.m + 1) * s.basicNs)).enterListen_reads s.listenShort
    (s.advanceCt ((s.lnb.m + 1) * s.basicNs)).pins.now
  exact ⟨_, done, listens, off, len⟩

theorem execAttemptFailed_follow {s : State} (follows : s.lnb.bstate = .follow) (last : 7 ≤ s.lnb.m ∨ 2 ≤ s.leaderMissed)
    (few : s.formers.length < 2) (live : s.blockLive 9 = true) :
    Answers .attemptFailed s fun t => t.lnb.bstate = .listen ∧ t.tae.ctOff = none ∧ t.lnb.listenLen = s.listenR370 := by
  have done : exec .attemptFailed s = .next ((s.advanceCt ((s.lnb.m + 1) * s.basicNs)).enterListen s.listenR370
      (s.advanceCt ((s.lnb.m + 1) * s.basicNs)).pins.now) := by
    show execAttemptFailed s = _
    rw [execAttemptFailed, if_neg (attempt_open few live), if_neg fun h => BState.noConfusion (follows.symm.trans h.1),
      if_pos ⟨follows, last⟩]
    rfl
  obtain ⟨listens, off, len, -⟩ := (s.advanceCt ((s.lnb.m + 1) * s.basicNs)).enterListen_reads s.listenR370
    (s.advanceCt ((s.lnb.m + 1) * s.basicNs)).pins.now
  exact ⟨_, done, listens, off, len⟩

/-! ### The cluster (R377) -/

theorem State.syncShift_only (s : State) : ∃ v, s.syncShift = { s with
    lnb.devs := [], lnb.corrNow := none, lnb.arb := none, lnb.arbTx := none, lnb.arbSkip := none,
    lnb.ownSyncLast := s.lnb.ownSyncNow, lnb.ownSyncNow := false, lnb.node := v } := by
  rw [State.syncShift]
  generalize shifted : State.mk .. = x
  obtain ⟨v, h⟩ := x.mapNodes_only _
  exact ⟨v, by rw [h, ← shifted]⟩

theorem State.wallStep_reads (s : State) (woff : Int) (wallv : Bool) (cause : Nat) :
    (s.wallStep woff wallv cause).lnb = s.lnb ∧ (s.wallStep woff wallv cause).tae.ctOff = s.tae.ctOff := by
  refine ⟨State.lnb_of_outside (u := { attn := true, tae := true, rcd := true }) (State.wallStep_outside rfl rfl rfl s _ _ _) rfl, ?_⟩
  simp [State.wallStep, State.evtRec, State.evtTae]

/-- TIMEV is up from now on. -/
def State.timevSet (s : State) : State :=
  { s with tae.timev := true, tae.timevAt := s.pins.now, crt.timevHeld := false }

/-- What follows the rise of TIMEV: the decimators are aligned, and on DC the angle becomes valid. -/
def State.timevFollow (s : State) : State :=
  let w := if s.blockLive 8 && s.img.isSome then s.meaAlign else s
  if w.dcAngle then w.angleSusp else w

theorem State.timevRise_eq (s : State) : s.timevRise = if s.tae.timev then s
    else if !s.crt.align then { s with crt.timevHeld := true } else s.timevSet.timevFollow := rfl

theorem State.timevFollow_off (s : State) : s.timevFollow.tae.ctOff = s.tae.ctOff := by
  have aligned : (if s.blockLive 8 && s.img.isSome then s.meaAlign else s).tae = s.tae := by
    split
    · exact State.tae_of_outside (u := { mea := true }) (State.meaAlign_outside rfl s) rfl
    · rfl
  rw [State.timevFollow, ← aligned]
  generalize (if s.blockLive 8 && s.img.isSome then s.meaAlign else s) = w
  split
  · rw [State.tae_of_outside (u := { attn := true, lmp := true, rcd := true }) (State.angleSusp_outside rfl rfl rfl w) rfl]
  · rfl

/-- The rise of TIMEV leaves the bus and the cluster time as they are. -/
theorem State.timevRise_reads (s : State) : s.timevRise.lnb = s.lnb ∧ s.timevRise.tae.ctOff = s.tae.ctOff := by
  refine ⟨State.lnb_of_outside (u := { attn := true, crt := true, tae := true, lmp := true, mea := true, rcd := true })
    (State.timevRise_outside rfl rfl rfl rfl rfl rfl s) rfl, ?_⟩
  rw [State.timevRise_eq]
  split
  · rfl
  · split
    · rfl
    · exact s.timevSet.timevFollow_off

/-- The node's time starts anew, at zero at the end of the provisional cycle (R377). -/
def State.clustered (s : State) : State :=
  { s.advanceCt ((s.lnb.m + 1) * s.basicNs) with
    lnb.bstate := .active, lnb.m := 0,
    tae.ctOff := (s.advanceCt ((s.lnb.m + 1) * s.basicNs)).tae.ctOff.map fun o => o - ((s.lnb.m + 1) * s.basicNs : Nat),
    lnb.offmax := 0, lnb.noSync := 0 }

/-- A cluster that has formed is kept: the bus state, the basic cycle, the cluster time, and the core of the lane. -/
structure ClusterKept (s t : State) : Prop where
  bstate : t.lnb.bstate = s.lnb.bstate
  cycle : t.lnb.m = s.lnb.m
  time : t.tae.ctOff = s.tae.ctOff
  core : t.lane.core = s.lane.core

theorem ClusterKept.refl (s : State) : ClusterKept s s := ⟨rfl, rfl, rfl, rfl⟩

theorem ClusterKept.trans {s t w : State} (h : ClusterKept s t) (k : ClusterKept t w) : ClusterKept s w :=
  ⟨k.bstate.trans h.bstate, k.cycle.trans h.cycle, k.time.trans h.time, k.core.trans h.core⟩

/-- The wall time loses its hold with the cluster time that it was kept by (R377). -/
theorem ClusterKept.wallLost (s : State) : ClusterKept s (if s.tae.wallv then s.wallStep s.tae.woff false 2 else s) := by
  split
  · obtain ⟨lnb, off⟩ := s.wallStep_reads s.tae.woff false 2
    exact ⟨congrArg Lnb.bstate lnb, congrArg Lnb.m lnb, off, s.wallStep_core _ _ _⟩
  · exact .refl s

theorem ClusterKept.shifted (s : State) (f : Nat → NodeView → NodeView) : ClusterKept s (s.mapNodes f).syncShift := by
  obtain ⟨v, h⟩ := s.mapNodes_only f
  rw [h]
  obtain ⟨v', h'⟩ := State.syncShift_only { s with lnb.node := v }
  rw [h']
  exact ⟨rfl, rfl, rfl, rfl⟩

theorem ClusterKept.risen (s : State) : ClusterKept s (if 2 ≤ s.lnb.precise then s.timevRise else s) := by
  split
  · obtain ⟨lnb, off⟩ := s.timevRise_reads
    exact ⟨congrArg Lnb.bstate lnb, congrArg Lnb.m lnb, off, s.timevRise_core⟩
  · exact .refl s

theorem ClusterKept.recorded (s : State) (data : List Nat) :
    ClusterKept s ((s.sevtLnb 1).record 2 0x0900 0x0907 data) ∧
      ((s.sevtLnb 1).record 2 0x0900 0x0907 data).lnb.sevt.getLsbD 1 = true := by
  constructor
  · constructor <;> simp [State.sevtLnb]
  · simp [State.sevtLnb, putBit]

/-- The nodes' SYNC frames of the last provisional cycle are those of basic cycle 0 (R377). -/
def NodeView.formed (v : NodeView) : NodeView := { v with syncAt := if v.syncNow then some 0 else none }

/-- A cluster that forms: its time starts, the wall time goes with the provisional one, the cycle is shifted and recorded, and
two precise cycles give TIMEV (R377, R384). -/
theorem execClusterFormed_eq (s : State) (forms : ((s.lnb.bstate = .lead || s.lnb.bstate = .follow) &&
      decide (2 ≤ s.formers.length) && s.blockLive 9) = true) :
    exec .clusterFormed s = .next (
      let w := if s.clustered.tae.wallv then s.clustered.wallStep s.clustered.tae.woff false 2 else s.clustered
      let y := (w.mapNodes fun _ v => v.formed).syncShift
      let z := (y.sevtLnb 1).record 2 0x0900 0x0907 [s.node, s.lnb.leader]
      if 2 ≤ z.lnb.precise then z.timevRise else z) :=
  next_of_pos forms

theorem execClusterFormed_active {s : State} (attempts : s.lnb.bstate = .lead ∨ s.lnb.bstate = .follow)
    (two : 2 ≤ s.formers.length) (live : s.blockLive 9 = true) :
    Answers .clusterFormed s fun t => t.lnb.bstate = .active ∧ t.lnb.m = 0 ∧ t.lnb.sevt.getLsbD 1 = true ∧
      t.tae.ctOff = s.tae.ctOff.map (fun o : Int => o - ((s.lnb.m + 1) * s.basicNs : Nat)) ∧ t.lane.st = s.lane.st := by
  have trying : (decide (s.lnb.bstate = .lead) || decide (s.lnb.bstate = .follow)) = true := by
    obtain h | h := attempts <;> simp [h]
  refine ⟨_, execClusterFormed_eq s (by simp [trying, two, live]), ?_⟩
  have wall := ClusterKept.wallLost s.clustered
  dsimp only
  generalize (if s.clustered.tae.wallv then _ else s.clustered) = w at wall
  have shift := ClusterKept.shifted w fun _ v => v.formed
  generalize State.syncShift _ = y at shift
  obtain ⟨record, flag⟩ := ClusterKept.recorded y [s.node, s.lnb.leader]
  generalize State.record _ _ _ _ _ = z at record flag
  have kept := wall.trans (shift.trans (record.trans (.risen z)))
  have lnb : (if 2 ≤ z.lnb.precise then z.timevRise else z).lnb = z.lnb := by
    split
    · exact z.timevRise_reads.1
    · rfl
  generalize (if 2 ≤ z.lnb.precise then z.timevRise else z) = t at kept lnb
  exact ⟨kept.bstate, kept.cycle, by rw [lnb, flag], kept.time, congrArg LaneCore.st kept.core⟩

/-- Settles O35: each command of the cold start under its conditions. -/
theorem coldStart : Obligations.ColdStart := by
  refine ⟨fun s => execListenTimeout_cases, fun s => execWaitExpire_cases, fun s => execSwarmReadback_cases,
    fun f c s => execColdStartFrame_cases, fun s => execCarrierInvalid_cases, fun s attempts two live => ⟨?_, ?_⟩,
    fun s => execAttemptFailed_lead, fun s => execAttemptFailed_follow, fun s => execLoneNode_rests⟩
  · exact execClusterFormed_active attempts two live
  · exact ⟨s, next_of_pos (.inl two), rfl⟩

end Sys2Proof.Machine
end
section
/-! PROOF. What a node sends in its windows (R47, R79, R341 to R343, R348, R351). -/

namespace Sys2Proof.Machine

open Sys2Proof.Safety

/-! ### Frames received -/

@[simp] theorem State.switchEntry_outside {u : Touch} (attn : u.attn = true) (lane : u.lane = true) (rcd : u.rcd = true)
    (upd : u.upd = true) (s : State) (toSet : Bool) (t : Nat) (own : Bool) :
    (s.switchEntry toSet t own).outside u = s.outside u := by
  unfold State.switchEntry
  (repeat' split) <;> simp [attn, lane, rcd, upd]

/-! ### Frames sent -/

@[simp] theorem State.entrySent_outside {u : Touch} (attn : u.attn = true) (lane : u.lane = true) (tae : u.tae = true)
    (vio : u.vio = true) (lmp : u.lmp = true) (rcd : u.rcd = true) (upd : u.upd = true) (s : State) (t : Nat) (e : Entry) :
    (s.entrySent t e).outside u = s.outside u := by
  unfold State.entrySent
  dsimp only
  split <;> simp [attn, lane, tae, vio, lmp, rcd, upd]

@[simp] theorem State.entriesSent_outside {u : Touch} (attn : u.attn = true) (lane : u.lane = true) (tae : u.tae = true)
    (vio : u.vio = true) (lmp : u.lmp = true) (rcd : u.rcd = true) (upd : u.upd = true) (s : State) (t : Nat)
    (l : List Entry) : (s.entriesSent t l).outside u = s.outside u := by
  induction l generalizing s with
  | nil => rfl
  | cons a l ih => simp [State.entriesSent, ih, attn, lane, tae, vio, lmp, rcd, upd]

@[simp] theorem State.setRole_pin (s : State) (r : Role) : (s.setRole r).lane.pin = s.lane.pin := by
  unfold State.setRole
  split <;> simp

/-! ### The shared operations -/

@[simp] theorem State.record_pin (s : State) (sev src code : Nat) (data : List Nat) :
    (s.record sev src code data).lane.pin = s.lane.pin := by
  obtain ⟨_, _, h⟩ := RecorderOnly.record s sev src code data
  rw [h]

@[simp] theorem State.forceRecord_pin (s : State) (a what : Nat) : (s.forceRecord a what).lane.pin = s.lane.pin := by
  simp [State.forceRecord]

@[simp] theorem State.forcesRelease_pin (s : State) : (s.forcesRelease).lane.pin = s.lane.pin := by
  obtain ⟨_, _, _, h⟩ := State.forcesRelease_only s
  rw [h]

@[simp] theorem State.fallbackLasting_pin (s : State) : (s.fallbackLasting).lane.pin = s.lane.pin := by
  obtain ⟨_, _, _, h, _⟩ := State.fallbackLasting_only s
  rw [h]

@[simp] theorem State.withdraw_pin (s : State) (u : FaultUnit) : (s.withdraw u).lane.pin = s.lane.pin := by
  unfold State.withdraw
  (repeat' split) <;> simp

/-! ### The exclusive windows (R341, R342) -/

/-- A frame header whose NULL bit was not asked for does not carry it: what stands above it is a multiple of 64. -/
theorem hNull_frameHdr (fid node cyc len : Nat) (sync swarm mirror : Bool) :
    hNull (frameHdr fid node cyc len false sync swarm mirror) = false := by
  have below : 16 * bitNat sync + 8 * bitNat swarm + 4 * bitNat mirror < 32 := by
    cases sync <;> cases swarm <;> cases mirror <;> decide
  have unset : (fid * 4194304 + node * 524288 + cyc * 8192 + len * 64 + 32 * bitNat false + 16 * bitNat sync +
      8 * bitNat swarm + 4 * bitNat mirror) / 2 ^ 5 % 2 ≠ 1 := by
    rw [show bitNat false = 0 from rfl]
    omega
  rw [hNull, bit, frameHdr, BitVec.toNat_ofNat, Nat.testBit_mod_two_pow, Nat.testBit_eq_decide_div_mod_eq,
    decide_eq_false unset, Bool.and_false]

/-- The node at the slot start of its window, which it uses once. -/
def State.atSlot (s : State) (w : Nat) : State := { s.advanceCt (s.slotStart w) with lnb.arbTx := some (w, s.lnb.m, 0) }

@[simp] theorem State.atSlot_sent (s : State) (w : Nat) : (s.atSlot w).pins.sent = s.pins.sent := rfl
@[simp] theorem State.atSlot_lane (s : State) (w : Nat) : (s.atSlot w).lane = s.lane := rfl
@[simp] theorem State.atSlot_m (s : State) (w : Nat) : (s.atSlot w).lnb.m = s.lnb.m := rfl
@[simp] theorem State.atSlot_img (s : State) (w : Nat) : (s.atSlot w).img = s.img := rfl

/-- What goes out under a FID that is no status frame's, at the slot start (R342). -/
def State.slotSend (s : State) (fid : Nat) (want : Bool) : State :=
  match s.framePending fid with
  | some p =>
    if p.ready s.pins.now then (s.txFrame fid false false false false p.payload).frameGone fid
    else (s.evtLnb 9).txFrame fid true false false false []
  | none => (if want then s.evtLnb 9 else s).txFrame fid true false false false []

theorem execTransmitFrame_status {w : Fin 512} {s : State} (may : MaySend s w)
    (use : fidUse s.station (winList s.station w.val % 1024) = 0) :
    exec (.transmitFrame w) s = .next ((s.atSlot w.val).statusSend (winList s.station w.val % 1024) (s.slotStart w.val)) := by
  obtain ⟨active, enabled, exclusive, owner, present, listener, guard, live, fid, due, once⟩ := may
  refine (next_of_pos ?_).trans ?_
  · simp [active, enabled, exclusive, owner, present, listener, guard, live, fid, due, once]
  · rw [if_pos use]
    rfl

theorem execTransmitFrame_frame {w : Fin 512} {s : State} (may : MaySend s w)
    (use : fidUse s.station (winList s.station w.val % 1024) ≠ 0) :
    exec (.transmitFrame w) s = .next ((if fidUse s.station (winList s.station w.val % 1024) = 4 then (s.atSlot w.val).overrun
        else s.atSlot w.val).slotSend (winList s.station w.val % 1024)
          (decide (fidUse s.station (winList s.station w.val % 1024) = 4) && (s.atSlot w.val).sendsOutput &&
            !(s.atSlot w.val).outputReady)) := by
  obtain ⟨active, enabled, exclusive, owner, present, listener, guard, live, fid, due, once⟩ := may
  refine (next_of_pos ?_).trans ?_
  · simp [active, enabled, exclusive, owner, present, listener, guard, live, fid, due, once]
  · rw [if_neg use]
    rfl

theorem State.atSlot_pending (s : State) (w : Fin 512) (fid : Nat) :
    (s.atSlot w.val).framePending fid = (AtSlot s w).framePending fid := rfl

/-- A frame that stood ready goes out, and its FID is done with. -/
theorem State.slotSend_ready {s : State} {fid : Nat} {p : PendFrame} {want : Bool} (pending : s.framePending fid = some p)
    (ready : p.at_ + 2000 ≤ s.pins.now) :
    s.slotSend fid want = (s.txFrame fid false false false false p.payload).frameGone fid := by
  rw [State.slotSend, pending]
  exact if_pos (decide_eq_true ready)

/-- A frame that did not stand ready gives way to a null frame, and is reported. -/
theorem State.slotSend_late {s : State} {fid : Nat} {p : PendFrame} {want : Bool} (pending : s.framePending fid = some p)
    (late : s.pins.now < p.at_ + 2000) :
    s.slotSend fid want = (s.evtLnb 9).txFrame fid true false false false [] := by
  rw [State.slotSend, pending]
  exact if_neg (by simp [PendFrame.ready, late])

theorem State.slotSend_none {s : State} {fid : Nat} {want : Bool} (none : s.framePending fid = none) :
    s.slotSend fid want = (if want then s.evtLnb 9 else s).txFrame fid true false false false [] := by
  rw [State.slotSend, none]

theorem State.frameGone_reads (s : State) (fid : Nat) : (s.frameGone fid).pins = s.pins ∧ (s.frameGone fid).lane = s.lane ∧
    (s.frameGone fid).vio = s.vio ∧ (fidUse s.station fid = 4 → fid ∈ (s.frameGone fid).lnb.sentNow) := by
  unfold State.frameGone
  split
  case h_4 other => exact ⟨rfl, rfl, rfl, fun use => absurd use fun h => by simp_all⟩
  all_goals exact ⟨rfl, rfl, rfl, fun _ => List.mem_append_right _ (List.mem_singleton_self fid)⟩

/-- What is sent is the frame of R335, where the node and the basic cycle are those of `s`. -/
theorem State.txFrame_sent {s w : State} (pins : w.pins.sent = s.pins.sent) (lane : w.node = s.node) (cycle : w.cyc = s.cyc)
    (fid : Nat) (null mirror : Bool) (payload : List Word) :
    (w.txFrame fid null false false mirror payload).pins.sent = sentFrame s fid null mirror payload :: s.pins.sent := by
  rw [← pins, sentFrame, ← lane, ← cycle]
  rfl

theorem State.node_of_pin {s t : State} (h : t.lane.pin = s.lane.pin) : t.node = s.node := by
  have lid : t.lid = s.lid := by rw [State.lid, h, State.lid]
  have sid : t.sid = s.sid := by rw [State.sid, h, State.sid]
  rw [State.node, lid, sid, State.node]

theorem State.cyc_of_bus {s t : State} (cycle : t.lnb.m = s.lnb.m) (img : t.img = s.img) : t.cyc = s.cyc := by
  simp only [State.cyc, State.ccl, State.cfgField, State.cfg_of_img img, cycle]

theorem State.withdraw_outputReady (s : State) (x : FaultUnit) : (s.withdraw x).outputReady = s.outputReady := by
  have lasting (w : State) : w.fallbackLasting.outputReady = w.outputReady := by
    unfold State.fallbackLasting
    split <;> rfl
  have release (w : State) : w.forcesRelease.outputReady = w.outputReady := by
    obtain ⟨_, _, _, h⟩ := State.forcesRelease_only w
    rw [h]
    rfl
  have role (w : State) (r : Role) : (w.setRole r).outputReady = w.outputReady := by
    rw [State.outputReady, State.setRole_lge, State.setRole_grd, State.outputReady]
  unfold State.withdraw
  split
  · split
    · split <;> rfl
    · rw [role, release, lasting]
      rfl
  · rfl

/-- What a late output image leaves of the lane's place on the bus: the node, its schedule, and no image to send. -/
structure LateOutput (s t : State) : Prop where
  pins : t.pins = s.pins
  pin : t.lane.pin = s.lane.pin
  img : t.img = s.img
  cycle : t.lnb.m = s.lnb.m
  unready : t.outputReady = false

theorem LateOutput.station {s t : State} (h : LateOutput s t) : t.station = s.station := State.station_of_img h.img

/-- A voting lane whose output image is not ready withdraws itself with OVRUN (R79). -/
theorem State.overrun_withdraws {s : State} (unready : s.outputReady = false) (voting : s.voting = true) :
    LateOutput s s.overrun ∧ (s.overrun.lane.role = .excluded ∧ s.overrun.lane.driving = false) ∧
      s.overrun.tae.evt.getLsbD 4 = true := by
  have withdraws : s.overrun = (s.evtTae 4).withdraw .lge := if_pos (by simp [voting, unready])
  obtain ⟨excluded, -, static, -⟩ := State.withdraw_excludes (w := s.evtTae 4) voting (by simp) .lge
  have touches := State.withdraw_touches (u := .withdrawal) rfl rfl rfl rfl rfl rfl rfl rfl (s.evtTae 4) .lge
  rw [withdraws]
  refine ⟨⟨?_, ?_, ?_, ?_, ?_⟩, ⟨excluded, static⟩, ?_⟩
  · rw [State.pins_of_outside touches rfl rfl rfl rfl, State.evtTae_pins]
  · rw [State.withdraw_pin]
    simp
  · rw [State.img_of_outside touches rfl, State.evtTae_img]
  · rw [State.lnb_of_outside touches rfl, State.evtTae_lnb]
  · rw [State.withdraw_outputReady, State.outputReady, State.evtTae_lge, State.evtTae_grd]
    exact unready
  · rw [State.tae_of_outside touches rfl]
    simp [putBit]

theorem State.framePending_unready {s : State} {fid : Nat} (use : fidUse s.station fid = 4)
    (unready : s.outputReady = false) :
    s.framePending fid = none := by
  rw [State.framePending, use]
  dsimp only
  split
  · rfl
  · rw [unready, Bool.and_false, Bool.false_and]
    exact if_neg Bool.false_ne_true

theorem transmitFrame_output {w : Fin 512} {s : State} (may : MaySend s w)
    (use : fidUse s.station (winList s.station w.val % 1024) = 4) :
    (∀ p, s.outputReady = true → (AtSlot s w).framePending (winList s.station w.val % 1024) = some p →
      (p.at_ + 2000 ≤ (AtSlot s w).pins.now → Answers (.transmitFrame w) s fun t =>
        t.pins.sent = sentFrame s (winList s.station w.val % 1024) false false p.payload :: s.pins.sent ∧
        winList s.station w.val % 1024 ∈ t.lnb.sentNow ∧ t.lane = s.lane ∧ t.vio = s.vio) ∧
      ((AtSlot s w).pins.now < p.at_ + 2000 → Answers (.transmitFrame w) s fun t =>
        t.pins.sent = sentFrame s (winList s.station w.val % 1024) true false [] :: s.pins.sent ∧
        t.lnb.evt.getLsbD 9 = true ∧ t.lane.role = s.lane.role)) ∧
    (s.outputReady = false → s.voting = true → Answers (.transmitFrame w) s fun t =>
      t.lane.role = .excluded ∧ t.lane.driving = false ∧ t.tae.evt.getLsbD 4 = true ∧
      t.pins.sent = sentFrame s (winList s.station w.val % 1024) true false [] :: s.pins.sent) := by
  have sends := execTransmitFrame_frame may (by rw [use]; decide)
  rw [if_pos use] at sends
  generalize winList s.station w.val % 1024 = fid at sends use ⊢
  refine ⟨fun p ready pending => ?_, fun unready voting => ?_⟩
  · have stands : (s.atSlot w.val).overrun = s.atSlot w.val := by
      rw [State.overrun, show (s.atSlot w.val).outputReady = true from ready, Bool.not_true, Bool.and_false,
        if_neg Bool.false_ne_true]
    rw [stands] at sends
    rw [← State.atSlot_pending] at pending
    refine ⟨fun ontime => ?_, fun late => ?_⟩
    · rw [State.slotSend_ready pending ontime] at sends
      obtain ⟨pins, lane, vio, gone⟩ := ((s.atSlot w.val).txFrame fid false false false false p.payload).frameGone_reads fid
      refine ⟨_, sends, ?_, gone use, lane, vio⟩
      rw [pins]
      exact State.txFrame_sent rfl rfl rfl fid false false p.payload
    · rw [State.slotSend_late pending late] at sends
      refine ⟨_, sends, State.txFrame_sent (by simp) (State.node_of_pin (by simp))
        (State.cyc_of_bus (by simp) (by simp)) fid true false [], ?_, ?_⟩
      · simp [State.txFrame, State.send, putBit]
      · simp [State.txFrame, State.send]
  · generalize tardy : (s.atSlot w.val).overrun = x at sends
    obtain ⟨bus, out, flag⟩ := State.overrun_withdraws (s := s.atSlot w.val) unready voting
    rw [tardy] at bus out flag
    rw [State.slotSend_none (State.framePending_unready ((congrArg (fun st => fidUse st fid) bus.station).trans use) bus.unready),
      show (s.atSlot w.val).sendsOutput = true by simp [State.sendsOutput, show (s.atSlot w.val).voting = true from voting],
      show (s.atSlot w.val).outputReady = false from unready, decide_eq_true use, if_pos (by decide)] at sends
    refine ⟨_, sends, ?_, ?_, ?_, State.txFrame_sent (by simp [bus.pins])
      (State.node_of_pin (by simp [bus.pin]))
      (State.cyc_of_bus (by simp [bus.cycle]) (by simp [bus.img])) fid true false []⟩
    · simp [State.txFrame, State.send, out.1]
    · simp [State.txFrame, State.send, out.2]
    · simp [State.txFrame, State.send, flag]

theorem transmitFrame_input {w : Fin 512} {s : State} (may : MaySend s w)
    (use : fidUse s.station (winList s.station w.val % 1024) = 1) :
    ((AtSlot s w).framePending (winList s.station w.val % 1024) = none → Answers (.transmitFrame w) s fun t =>
      t.lane = s.lane ∧ t.pins.sent = sentFrame s (winList s.station w.val % 1024) true false [] :: s.pins.sent) ∧
    (∀ p, (AtSlot s w).framePending (winList s.station w.val % 1024) = some p → p.at_ + 2000 ≤ (AtSlot s w).pins.now →
      Answers (.transmitFrame w) s fun t => t.lane = s.lane ∧
        t.pins.sent = sentFrame s (winList s.station w.val % 1024) false false p.payload :: s.pins.sent) := by
  have sends := execTransmitFrame_frame may (by rw [use]; decide)
  generalize winList s.station w.val % 1024 = fid at sends use ⊢
  rw [if_neg (by rw [use]; decide), decide_eq_false (by rw [use]; decide), Bool.false_and, Bool.false_and] at sends
  refine ⟨fun none => ?_, fun p pending ontime => ?_⟩
  · rw [State.slotSend_none ((s.atSlot_pending w fid).trans none), if_neg Bool.false_ne_true] at sends
    exact ⟨_, sends, rfl, State.txFrame_sent rfl rfl rfl fid true false []⟩
  · rw [State.slotSend_ready ((s.atSlot_pending w fid).trans pending) ontime] at sends
    obtain ⟨pins, lane, -⟩ := ((s.atSlot w.val).txFrame fid false false false false p.payload).frameGone_reads fid
    exact ⟨_, sends, lane, (congrArg Pins.sent pins).trans (State.txFrame_sent rfl rfl rfl fid false false p.payload)⟩

/-! ### Status frames (R47, R342, R351) -/

theorem State.mirrorEntry_reads (s : State) (t : Nat) : (s.mirrorEntry t).healthWords = s.healthWords ∧
    (s.mirrorEntry t).pins = s.pins := by
  unfold State.mirrorEntry
  split
  · split <;> exact ⟨rfl, rfl⟩
  · exact ⟨rfl, rfl⟩

/-- Outside SAFE the status frame is no null frame, and begins with the health word. -/
theorem State.statusSend_open {s : State} (open_ : s.lane.st ≠ .safe) (fid t : Nat) : ∃ h body crc,
    (s.statusSend fid t).pins.sent = .lane fid h (s.healthWords ++ body) crc :: s.pins.sent ∧ hNull h = false := by
  obtain ⟨health, pins⟩ := s.mirrorEntry_reads t
  rw [State.statusSend, if_neg open_]
  generalize s.mirrorEntry t = x at health pins
  dsimp only
  rw [State.pins_of_outside (u := { attn := true, lane := true, tae := true, vio := true, lmp := true, rcd := true, upd := true })
    (State.entriesSent_outside rfl rfl rfl rfl rfl rfl rfl _ _ _) rfl rfl rfl rfl, ← health, ← pins, List.append_assoc]
  exact ⟨_, _, _, rfl, hNull_frameHdr ..⟩

theorem transmitFrame_status {w : Fin 512} {s : State} (may : MaySend s w)
    (use : fidUse s.station (winList s.station w.val % 1024) = 0) :
    (s.lane.st = .safe → Answers (.transmitFrame w) s fun t =>
      t.pins.sent = sentFrame s (winList s.station w.val % 1024) true false (AtSlot s w).healthWords :: s.pins.sent) ∧
    (s.lane.st ≠ .safe → Answers (.transmitFrame w) s fun t => ∃ h body crc,
      t.pins.sent = .lane (winList s.station w.val % 1024) h ((AtSlot s w).healthWords ++ body) crc :: s.pins.sent ∧
      hNull h = false) := by
  have sends := execTransmitFrame_status may use
  have health : (s.atSlot w.val).healthWords = (AtSlot s w).healthWords := rfl
  refine ⟨fun safe => ⟨_, sends, ?_⟩, fun open_ => ⟨_, sends, ?_⟩⟩
  · rw [State.statusSend, if_pos (show (s.atSlot w.val).lane.st = .safe from safe), health]
    exact State.txFrame_sent rfl rfl rfl _ true false _
  · have opens := State.statusSend_open (s := s.atSlot w.val) open_ (winList s.station w.val % 1024) (s.slotStart w.val)
    rw [health, State.atSlot_sent] at opens
    exact opens

/-! ### The arbitrating windows, and the guardian's cut-off (R343, R348) -/

theorem execArbRoundStart_eq {w : Fin 512} {carrier : Bool} {s : State} (enabled : winEn s.station w.val = true)
    (arb : winArb s.station w.val = true) (present : winPresent s.station s.ccl w.val s.lnb.m = true)
    (drives : s.busDrives = true) (open_ : s.lnb.arbSkip ≠ some w.val) (ready : s.voting = true → s.outputReady = true) :
    exec (.arbRoundStart w (s.roundStart w.val) carrier) s = .next (
      match (AtRound s w).roundRank w.val with
      | some (j, p) =>
        if !carrier && p.ready ((AtRound s w).clockAt (s.placeStart w.val 0)) &&
            (AtRound s w).roundRoom w.val j p.payload.length then
          ((({ (AtRound s w).advanceCt ((AtRound s w).placeStart w.val j) with
              lnb.arbTx := some (w.val, s.lnb.m, ((AtRound s w).advanceCt ((AtRound s w).placeStart w.val j)).roundStart w.val) } :
            State).txFrame p.fid false false false p.mirror p.payload).frameGone p.fid)
        else AtRound s w
      | none => AtRound s w) := by
  have stands : (AtRound s w).overrun = AtRound s w := by
    refine if_neg fun h => ?_
    obtain ⟨voting, unready⟩ := (Bool.and_eq_true _ _).mp h
    rw [show (AtRound s w).outputReady = true from ready voting] at unready
    exact Bool.noConfusion unready
  refine (next_of_pos (by simp [enabled, arb, present, drives, open_])).trans ?_
  dsimp only
  rw [stands, ite_self]
  rfl

theorem arbRoundStart_cases {w : Fin 512} {s : State} (enabled : winEn s.station w.val = true)
    (arb : winArb s.station w.val = true) (present : winPresent s.station s.ccl w.val s.lnb.m = true)
    (drives : s.busDrives = true) (open_ : s.lnb.arbSkip ≠ some w.val) (ready : s.voting = true → s.outputReady = true) :
    (∀ j p, (AtRound s w).roundRank w.val = some (j, p) → (AtRound s w).roundRoom w.val j p.payload.length = true →
      p.at_ + 2000 ≤ (AtRound s w).clockAt (s.placeStart w.val 0) →
      (Answers (.arbRoundStart w (s.roundStart w.val) false) s fun t => t.lane = s.lane ∧
        t.pins.sent = sentFrame s p.fid false p.mirror p.payload :: s.pins.sent)) ∧
    (Answers (.arbRoundStart w (s.roundStart w.val) true) s fun t => t = AtRound s w) := by
  have starts (carrier : Bool) := execArbRoundStart_eq (carrier := carrier) enabled arb present drives open_ ready
  refine ⟨fun j p rank room ontime => ?_, ?_⟩
  · have sends := starts false
    rw [rank] at sends
    dsimp only at sends
    rw [if_pos (by simp [PendFrame.ready, room, ontime])] at sends
    generalize start : State.mk .. = x at sends
    obtain ⟨pins, lane, -⟩ := (x.txFrame p.fid false false false p.mirror p.payload).frameGone_reads p.fid
    refine ⟨_, sends, lane.trans ?_, (congrArg Pins.sent pins).trans ?_⟩
    · rw [← start]
      rfl
    · subst start
      exact State.txFrame_sent rfl rfl rfl p.fid false p.mirror p.payload
  · refine ⟨_, starts true, ?_⟩
    cases (AtRound s w).roundRank w.val <;> rfl

theorem execGuardianCutoff_counts {f : BitVec 10} {s : State} (drives : s.busDrives = true)
    (enabled : fidEn s.station f.toNat = true) (owner : fidOwner s.station f.toNat = s.node) :
    Answers (.guardianCutoff f) s fun t => t.lnb.gcut = satInc 65535 s.lnb.gcut ∧ t.lnb.evt.getLsbD 6 = true ∧
      t.lane.role = s.lane.role ∧ t.lane.st = s.lane.st := by
  simp only [State.busDrives, Bool.and_eq_true, decide_eq_true_eq, Bool.not_eq_true'] at drives
  obtain ⟨⟨⟨active, listener⟩, guard⟩, live⟩ := drives
  refine ⟨_, next_of_pos (by simp [active, listener, guard, live, enabled, owner]), ?_⟩
  have core (w : State) (l : List Nat) : ((w.evtLnb 6).record 4 0x0900 0x0904 l).lane.core = w.lane.core := by simp
  refine ⟨?_, ?_, congrArg LaneCore.role (core _ _), congrArg LaneCore.st (core _ _)⟩
  · rw [State.record_lnb]
    simp
  · rw [State.record_lnb]
    simp [putBit]

/-- Settles O33: what goes out in a window by the use of its FID, and in a round by the rank. -/
theorem laneBusSending : Obligations.LaneBusSending := by
  refine ⟨fun w s => transmitFrame_output, fun w s => transmitFrame_input, fun w s => transmitFrame_status,
    fun w s other => ⟨s, next_of_neg ?_, rfl⟩, fun w s => arbRoundStart_cases, fun f s => execGuardianCutoff_counts⟩
  simp [other]

end Sys2Proof.Machine
end
section
/-! PROOF. What a received frame brings (R31, R44, R47, R78, R346 to R353). -/

namespace Sys2Proof.Machine

open Sys2Proof.Safety

/-! ### The reception of a frame that both channels carry (R346, R349) -/

/-- The receiver when both copies have ended; a frame of an arbitrating window has ended its round (R344). -/
def State.rxHeard (s : State) (f : RxFrame) (c : Copy) : State :=
  if winArb s.station f.win.val then (s.advance (frameEnd f)).roundEnd f.win.val f.rank.val (hLen c.hdr)
  else s.advance (frameEnd f)

/-- The reception as both channels give it (R349, R381). -/
def State.rxBoth (s : State) (f : RxFrame) (c : Copy) : Accepted :=
  let d := (s.rxHeard f c).devOf ((s.advance (frameEnd f)).expectedStart f.win.val f.rank.val) c
  { copy := c, start := (c.start + c.start) / 2, dev := meanDev d d, missing := none }

/-- A copy that starts inside its acceptance is seen. -/
theorem State.seen_of_verdict {s : State} {use : Nat} {arb : Bool} {place : Option Nat} {exp : Nat} {c : Copy}
    (inside : s.verdict use arb place exp c ≠ .boundary) : s.seen exp (some c) = some c := by
  have near : (!s.busTime || decide ((s.devOf exp c).natAbs ≤ 40)) = true := by
    by_contra far
    simp only [Bool.or_eq_true, Bool.not_eq_true', decide_eq_true_eq, not_or, Bool.not_eq_false, not_le] at far
    exact inside (if_pos (by simp [far.1, far.2]))
  rw [State.seen, Option.filter_some, near, Bool.true_or, if_pos rfl]

theorem State.xyDecide_both (s : State) (exp : Nat) (c : Copy) : s.xyDecide exp (some (c, .valid)) (some (c, .valid)) =
    (s, some { copy := c, start := (c.start + c.start) / 2, dev := meanDev (s.devOf exp c) (s.devOf exp c), missing := none }) := by
  simp [State.xyDecide, validCopy]

theorem State.rxHeard_time (s : State) (f : RxFrame) (c : Copy) : (s.rxHeard f c).busTime = s.busTime := by
  unfold State.rxHeard
  split <;> rfl

theorem State.receive_valid {s : State} {use : Nat} {f : RxFrame} {c : Copy} (judged : FrameJudged s use f c .valid)
    (k : State → Accepted → State) : s.receive use f k = k ((s.rxHeard f c).rxNote (s.rxBoth f c)) (s.rxBoth f c) := by
  obtain ⟨live, time, open_, x, y, place, uses, present, verdict⟩ := judged
  have seen := State.seen_of_verdict (ne_of_eq_of_ne verdict Verdict.noConfusion)
  unfold State.receive
  dsimp only
  rw [if_neg (by simp [live, open_]), if_neg (by simp [time, place, uses, present]), x, y, place, seen]
  simp only [Option.map_some, verdict, State.countVerdict, validCopy, Option.orElse_some]
  have heard : (if ((s.advance (frameEnd f)).busTime && winArb s.station f.win.val) = true then
      (s.advance (frameEnd f)).roundEnd f.win.val f.rank.val (hLen c.hdr) else s.advance (frameEnd f)) = s.rxHeard f c := by
    rw [show (s.advance (frameEnd f)).busTime = true from time, Bool.true_and, State.rxHeard]
  rw [heard, State.xyDecide_both]
  dsimp only
  rw [if_pos ((s.rxHeard_time f c).trans time), if_neg (by simp)]
  rfl

/-! ### A copy with a wrong CRC (R347) -/

/-- Both channels count the failure and show it. -/
theorem State.receive_crcf {s : State} {use : Nat} {f : RxFrame} {c : Copy} (judged : FrameJudged s use f c .crcf)
    (exclusive : winArb s.station f.win.val = false) (k : State → Accepted → State) : s.receive use f k =
    (((s.advance (frameEnd f)).countVerdict false ((s.advance (frameEnd f)).seenOwner c) .crcf).countVerdict true
      ((s.advance (frameEnd f)).seenOwner c) .crcf) := by
  obtain ⟨live, time, open_, x, y, place, uses, present, verdict⟩ := judged
  have seen := State.seen_of_verdict (ne_of_eq_of_ne verdict Verdict.noConfusion)
  unfold State.receive
  dsimp only
  rw [if_neg (by simp [live, open_]), if_neg (by simp [time, place, uses, present]), x, y, place, seen]
  simp only [Option.map_some, verdict]
  generalize counted : State.countVerdict (State.countVerdict _ _ _ _) _ _ _ = w
  have bus : w.lnb.bstate = s.lnb.bstate ∧ w.img = s.img := by
    rw [← counted]
    simp [State.countVerdict]
  have stays : w.carrierLost (some f.win.val) = w := by
    unfold State.carrierLost
    rw [if_neg (show ¬ w.lnb.bstate = .listen from fun e => ?_)]
    · dsimp only
      rw [State.station_of_img bus.2, exclusive, Bool.and_false, if_neg Bool.false_ne_true]
    · rw [State.busTime, ← bus.1, e] at time
      exact Bool.noConfusion time
  simp only [validCopy, State.xyDecide, Option.orElse_none, stays]
  simp

/-! ### What the reception itself changes -/

/-- The receiver that has noted the frame of both channels (R350). -/
def State.rxTaken (s : State) (f : RxFrame) (c : Copy) : State := (s.rxHeard f c).rxNote (s.rxBoth f c)

theorem State.rxHeard_only (s : State) (f : RxFrame) (c : Copy) :
    ∃ r, s.rxHeard f c = { s.advance (frameEnd f) with lnb.arb := r } := by
  unfold State.rxHeard
  split
  · exact ⟨_, rfl⟩
  · exact ⟨s.lnb.arb, rfl⟩

/-- Of the bus the reception changes its own counts and the nodes' records, and of the rest the clock. -/
theorem State.rxTaken_only (s : State) (f : RxFrame) (c : Copy) : ∃ r att own devs node,
    s.rxTaken f c = { s.advance (frameEnd f) with
      lnb.arb := r, lnb.att := att, lnb.ownSyncNow := own, lnb.devs := devs, lnb.node := node } := by
  obtain ⟨r, h⟩ := s.rxHeard_only f c
  rw [State.rxTaken, h]
  exact ⟨_, _, _, _, _, rfl⟩

/-- The record of a node of which a frame was heard on both channels. -/
def NodeView.noted (sync : Bool) (v : NodeView) : NodeView :=
  { v with rxNow := true, syncNow := v.syncNow || sync, single := v.single || false, double := v.double || true,
           missingY := v.missingY }

theorem State.rxTaken_node (s : State) (f : RxFrame) (c : Copy) :
    (s.rxTaken f c).lnb.node = ((s.rxHeard f c).updNode (hNode c.hdr) (NodeView.noted (hSync c.hdr))).lnb.node := rfl

/-- Of a node's record the reception changes what was heard in this basic cycle. -/
theorem State.rxTaken_nodeView {s : State} (wf : NodesWf s) (f : RxFrame) (c : Copy) :
    NodesWf (s.rxTaken f c) ∧ ∀ n, ∃ now sync one two y, (s.rxTaken f c).nodeView n =
      { s.nodeView n with rxNow := now, syncNow := sync, single := one, double := two, missingY := y } ∧
      (n = hNode c.hdr → now = true) := by
  obtain ⟨r, h⟩ := s.rxHeard_only f c
  have wf' : NodesWf (s.rxHeard f c) := by
    rw [h]
    exact wf
  have same (n : Nat) : (s.rxHeard f c).nodeView n = s.nodeView n := State.nodeView_of_node (by rw [h]; rfl) n
  refine ⟨?_, fun n => ?_⟩
  · show tabWf _ (s.rxTaken f c).lnb.node = true
    rw [s.rxTaken_node]
    exact State.updNode_wf wf' _ _
  have view := State.updNode_nodeView wf' (hNode c.hdr) (NodeView.noted (hSync c.hdr)) n
  rw [← State.nodeView_of_node (s.rxTaken_node f c) n] at view
  rw [same] at view
  by_cases sender : n = hNode c.hdr
  · rw [if_pos sender] at view
    exact ⟨_, _, _, _, _, view, fun _ => rfl⟩
  · rw [if_neg sender] at view
    exact ⟨_, _, _, _, _, view, fun h => absurd h sender⟩

/-! ### Images (R352) -/

theorem State.rxTaken_fidIndex (s : State) (f : RxFrame) (c : Copy) (owner use fid : Nat) :
    (s.rxTaken f c).fidIndex owner use fid = (s.advance (frameEnd f)).fidIndex owner use fid := by
  obtain ⟨r, att, own, devs, node, h⟩ := s.rxTaken_only f c
  rw [h]
  rfl

theorem State.rxBoth_copy (s : State) (f : RxFrame) (c : Copy) : (s.rxBoth f c).copy = c := rfl

theorem State.rxTaken_units (s : State) (f : RxFrame) (c : Copy) :
    (s.rxTaken f c).lane = s.lane ∧ (s.rxTaken f c).inp = s.inp ∧
    (s.rxTaken f c).lge = s.lge ∧ (s.rxTaken f c).fld = s.fld ∧ (s.rxTaken f c).img = s.img := by
  obtain ⟨r, att, own, devs, node, h⟩ := s.rxTaken_only f c
  rw [h]
  exact ⟨rfl, rfl, rfl, rfl, rfl⟩

/-- The words of an input image that follow, or come first, are taken. -/
def NodeView.inputWords (i : Nat) (l : List Word) (v : NodeView) : NodeView :=
  if i = v.inNext ∧ (v.inValid = true ∨ i = 0) then { v with inWords := v.inWords ++ l, inNext := i + 1, inValid := true }
  else { v with inValid := false }

@[inherit_doc NodeView.inputWords]
def NodeView.outputWords (i : Nat) (l : List Word) (v : NodeView) : NodeView :=
  if i = v.outNext ∧ (v.outValid = true ∨ i = 0) then { v with outWords := v.outWords ++ l, outNext := i + 1, outValid := true }
  else { v with outValid := false }

theorem inputFrame_takes {f : RxFrame} {c : Copy} {s : State} (wf : NodesWf s) (judged : FrameJudged s 1 f c .valid)
    (full : hNull c.hdr = false)
    (next : (s.advance (frameEnd f)).fidIndex (hNode c.hdr) 1 (hFid c.hdr) = (s.nodeView (hNode c.hdr)).inNext)
    (follows : (s.nodeView (hNode c.hdr)).inValid = true ∨ (s.nodeView (hNode c.hdr)).inNext = 0) :
    Answers (.inputFrame f) s fun t => (t.nodeView (hNode c.hdr)).inWords = (s.nodeView (hNode c.hdr)).inWords ++ c.payload ∧
      (t.nodeView (hNode c.hdr)).inValid = true ∧
      (t.nodeView (hNode c.hdr)).inNext = (s.nodeView (hNode c.hdr)).inNext + 1 ∧ t.lane = s.lane ∧ t.inp = s.inp := by
  have done : exec (.inputFrame f) s = .next { (s.rxTaken f c).updNode (hNode c.hdr) (NodeView.inputWords
      ((s.rxTaken f c).fidIndex (hNode c.hdr) 1 (hFid c.hdr)) c.payload) with lnb.rxInAt := (s.rxTaken f c).pins.now } := by
    show execInputFrame f s = _
    rw [execInputFrame, State.receive_valid judged]
    dsimp only
    rw [State.inputTake, State.rxBoth_copy, full]
    rfl
  obtain ⟨wf', views⟩ := State.rxTaken_nodeView wf f c
  obtain ⟨now, sync, one, two, y, view, -⟩ := views (hNode c.hdr)
  obtain ⟨lane, inp, -⟩ := s.rxTaken_units f c
  rw [s.rxTaken_fidIndex, next] at done
  have taken := State.updNode_nodeView wf' (hNode c.hdr)
    (NodeView.inputWords (s.nodeView (hNode c.hdr)).inNext c.payload) (hNode c.hdr)
  rw [if_pos rfl, view, NodeView.inputWords, if_pos ⟨rfl, follows⟩] at taken
  exact ⟨_, done, congrArg NodeView.inWords taken, congrArg NodeView.inValid taken, congrArg NodeView.inNext taken, lane, inp⟩

theorem outputFrame_takes {f : RxFrame} {c : Copy} {s : State} (wf : NodesWf s) (judged : FrameJudged s 4 f c .valid)
    (full : hNull c.hdr = false) :
    ((s.advance (frameEnd f)).fidIndex (hNode c.hdr) 4 (hFid c.hdr) = (s.nodeView (hNode c.hdr)).outNext →
      ((s.nodeView (hNode c.hdr)).outValid = true ∨ (s.nodeView (hNode c.hdr)).outNext = 0) →
      Answers (.outputFrame f) s fun t =>
        (t.nodeView (hNode c.hdr)).outWords = (s.nodeView (hNode c.hdr)).outWords ++ c.payload ∧
        (t.nodeView (hNode c.hdr)).outValid = true ∧ t.lane = s.lane) ∧
    ((s.advance (frameEnd f)).fidIndex (hNode c.hdr) 4 (hFid c.hdr) ≠ (s.nodeView (hNode c.hdr)).outNext →
      Answers (.outputFrame f) s fun t => (t.nodeView (hNode c.hdr)).outValid = false ∧ t.lane = s.lane) := by
  have done : exec (.outputFrame f) s = .next ((s.rxTaken f c).updNode (hNode c.hdr) (NodeView.outputWords
      ((s.rxTaken f c).fidIndex (hNode c.hdr) 4 (hFid c.hdr)) c.payload)) := by
    show execOutputFrame f s = _
    rw [execOutputFrame, State.receive_valid judged, State.outputTake, State.rxBoth_copy, full]
    rfl
  rw [s.rxTaken_fidIndex] at done
  obtain ⟨wf', views⟩ := State.rxTaken_nodeView wf f c
  obtain ⟨now, sync, one, two, y, view, -⟩ := views (hNode c.hdr)
  obtain ⟨lane, -⟩ := s.rxTaken_units f c
  have taken (i : Nat) := State.updNode_nodeView wf' (hNode c.hdr) (NodeView.outputWords i c.payload) (hNode c.hdr)
  refine ⟨fun next follows => ?_, fun skips => ?_⟩
  · rw [next] at done
    have words := taken (s.nodeView (hNode c.hdr)).outNext
    rw [if_pos rfl, view, NodeView.outputWords, if_pos ⟨rfl, follows⟩] at words
    exact ⟨_, done, congrArg NodeView.outWords words, congrArg NodeView.outValid words, lane⟩
  · have words := taken ((s.advance (frameEnd f)).fidIndex (hNode c.hdr) 4 (hFid c.hdr))
    rw [if_pos rfl, view, NodeView.outputWords, if_neg fun h => skips h.1] at words
    exact ⟨_, done, congrArg NodeView.outValid words, lane⟩

/-! ### Status frames (R47, R351) -/

/-- The nodes' health words and what was heard of them, the basic cycle and the failures counted are in `t` as in `s`. -/
structure HealthKept (s t : State) : Prop where
  wf : NodesWf s → NodesWf t
  health : NodesWf s → ∀ n, (t.nodeView n).health = (s.nodeView n).health
  heard : NodesWf s → ∀ n, (t.nodeView n).rxNow = (s.nodeView n).rxNow
  cycle : t.lnb.m = s.lnb.m
  fails : t.lnb.failX = s.lnb.failX

theorem HealthKept.of_bus {s t : State} (node : t.lnb.node = s.lnb.node) (cycle : t.lnb.m = s.lnb.m)
    (fails : t.lnb.failX = s.lnb.failX) : HealthKept s t where
  wf wf := (HeardKept.of_node node wf).1
  health _ n := by rw [State.nodeView_of_node node]
  heard _ n := by rw [State.nodeView_of_node node]
  cycle := cycle
  fails := fails

theorem HealthKept.of_lnb {s t : State} (h : t.lnb = s.lnb) : HealthKept s t := .of_bus (by rw [h]) (by rw [h]) (by rw [h])

theorem HealthKept.refl (s : State) : HealthKept s s := .of_lnb rfl

theorem HealthKept.trans {s t w : State} (h : HealthKept s t) (k : HealthKept t w) : HealthKept s w where
  wf := k.wf ∘ h.wf
  health wf n := (k.health (h.wf wf) n).trans (h.health wf n)
  heard wf n := (k.heard (h.wf wf) n).trans (h.heard wf n)
  cycle := k.cycle.trans h.cycle
  fails := k.fails.trans h.fails

theorem HealthKept.ite {s a b : State} {p : Prop} [Decidable p] (h : HealthKept s a) (k : HealthKept s b) :
    HealthKept s (if p then a else b) := by
  split
  · exact h
  · exact k

theorem HealthKept.updNode (s : State) (n : Nat) {f : NodeView → NodeView}
    (keeps : ∀ v, (f v).health = v.health ∧ (f v).rxNow = v.rxNow) : HealthKept s (s.updNode n f) where
  wf wf := State.updNode_wf wf n f
  health wf k := by
    rw [State.updNode_nodeView wf]
    split
    · exact (keeps _).1
    · rfl
  heard wf k := by
    rw [State.updNode_nodeView wf]
    split
    · exact (keeps _).2
    · rfl
  cycle := rfl
  fails := rfl

theorem HealthKept.reportNoted (s : State) (n : Nat) (own : Bool) : HealthKept s (s.reportNoted n own) := by
  refine .updNode s n fun v => ?_
  dsimp only
  split <;> split <;> exact ⟨rfl, rfl⟩

theorem State.withdraw_lnb (s : State) (x : FaultUnit) : (s.withdraw x).lnb = s.lnb :=
  State.lnb_of_outside (u := .withdrawal) (State.withdraw_touches rfl rfl rfl rfl rfl rfl rfl rfl s x) rfl

theorem HealthKept.reportedBy (s : State) (k : Nat) : HealthKept s (s.reportedBy k) :=
  .of_lnb (by simp [State.reportedBy, State.withdraw_lnb])

/-- A node's confirmation entry is noted (R503). -/
def State.confirmNoted (s : State) (n : Nat) : State :=
  { s with lnb.confirmed := if s.lnb.confirmed.contains n then s.lnb.confirmed else s.lnb.confirmed ++ [n] }

theorem HealthKept.confirmHeard (s : State) (n : Nat) : HealthKept s (s.confirmHeard n) := by
  have confirmed (w : State) : HealthKept w w.imageConfirm.confirmEntry := by
    have lnb : w.imageConfirm.lnb = w.lnb := State.lnb_of_outside (u := { attn := true, crt := true, rcd := true, upd := true })
      (State.imageConfirm_outside rfl rfl rfl rfl w) rfl
    exact .trans (.of_lnb lnb) (.of_bus rfl rfl rfl)
  have first : HealthKept s (s.confirmNoted n) := .of_bus rfl rfl rfl
  exact .ite (first.trans (.of_bus rfl rfl rfl)) (.ite (first.trans (confirmed _)) first)

/-- No entry of a status frame touches a health word. -/
theorem HealthKept.entryTake (s : State) (n t : Nat) (w w1 w2 : Word) : HealthKept s (s.entryTake n t w w1 w2) := by
  unfold State.entryTake
  dsimp only
  split
  · split
    · split
      · exact .reportedBy s _
      · split
        · exact .reportNoted s _ _
        · exact .refl s
    · exact .refl s
  · exact .of_lnb rfl
  · split <;> exact .of_lnb rfl
  · exact .of_lnb rfl
  · split <;> exact .of_bus rfl rfl rfl
  · exact .of_lnb (State.lnb_of_outside (u := { attn := true, lane := true, rcd := true, upd := true })
      (State.switchEntry_outside rfl rfl rfl rfl s _ _ _) rfl)
  · split <;> exact .of_bus rfl rfl rfl
  · split <;> exact .of_bus rfl rfl rfl
  · exact .confirmHeard s n
  · exact .of_bus (by simp) (by simp) (by simp)

theorem HealthKept.entriesTake (n t : Nat) :
    ∀ (skip : Nat) (l : List Word) (s : State), HealthKept s (s.entriesTake n t skip l)
  | _, [], s => by
    rw [State.entriesTake]
    exact .refl s
  | skip + 1, _ :: l, s => by
    rw [State.entriesTake]
    exact HealthKept.entriesTake n t skip l s
  | 0, w :: l, s => by
    rw [State.entriesTake]
    exact .trans (.entryTake s n t w _ _) (HealthKept.entriesTake n t _ l _)

/-- The health word that a node's record held before. -/
def State.healthOld (s : State) (n : Nat) : Nat := match (s.nodeView n).health with | some (x, _) => x.toNat | none => 0

/-- The consent of a peer follows its health word (R30). -/
def State.consentTake (s : State) (n h : Nat) : State :=
  match s.peerIndex n with
  | some k => s.consentRestore n k (s.healthOld n) h
  | none => s

theorem State.consentTake_lnb (s : State) (n h : Nat) : (s.consentTake n h).lnb = s.lnb := by
  unfold State.consentTake
  split
  · unfold State.consentRestore
    dsimp only
    split
    · split <;> rfl
    · rfl
  · rfl

theorem State.healthTake_eq (s : State) (n h : Nat) : s.healthTake n h = (s.consentTake n h).updNode n fun v =>
    { v with health := some (BitVec.ofNat 64 h, s.lnb.m), resumed := s.resumes n (s.healthOld n) h,
             reportedAt := if hState h = 7 ∧ hRole h = 3 then none else v.reportedAt } := rfl

/-- A health word taken stands in its sender's record, with the basic cycle in which it came; nothing else of it is lost. -/
theorem State.healthTake_reads {s : State} (wf : NodesWf s) (n h : Nat) : NodesWf (s.healthTake n h) ∧
    ((s.healthTake n h).nodeView n).health = some (BitVec.ofNat 64 h, s.lnb.m) ∧
    ((s.healthTake n h).nodeView n).rxNow = (s.nodeView n).rxNow ∧
    (s.healthTake n h).lnb.m = s.lnb.m ∧ (s.healthTake n h).lnb.failX = s.lnb.failX := by
  rw [State.healthTake_eq]
  have lnb := s.consentTake_lnb n h
  generalize s.consentTake n h = x at lnb
  have wf' : NodesWf x := (HealthKept.of_lnb lnb).wf wf
  have view (f : NodeView → NodeView) : (x.updNode n f).nodeView n = f (x.nodeView n) := by
    rw [State.updNode_nodeView wf', if_pos rfl]
  refine ⟨State.updNode_wf wf' _ _, ?_, ?_, ?_, ?_⟩
  · rw [view]
  · rw [view]
    exact (HealthKept.of_lnb lnb).heard wf n
  · show x.lnb.m = _
    rw [lnb]
  · show x.lnb.failX = _
    rw [lnb]

/-- The content of a status frame of another node: its health word, whatever its entries. -/
theorem State.statusTake_reads {s : State} (wf : NodesWf s) (w : Nat) (a : Accepted) (other : hNode a.copy.hdr ≠ s.node) :
    ((s.statusTake w a).nodeView (hNode a.copy.hdr)).health =
      some (BitVec.ofNat 64 ((a.copy.payload.getD 0 0).toNat + 4294967296 * (a.copy.payload.getD 1 0).toNat), s.lnb.m) ∧
    ((s.statusTake w a).nodeView (hNode a.copy.hdr)).rxNow = (s.nodeView (hNode a.copy.hdr)).rxNow ∧
    (s.statusTake w a).lnb.m = s.lnb.m ∧ (s.statusTake w a).lnb.failX = s.lnb.failX := by
  obtain ⟨wf', health, heard, cycle, fails⟩ := State.healthTake_reads wf (hNode a.copy.hdr)
    ((a.copy.payload.getD 0 0).toNat + 4294967296 * (a.copy.payload.getD 1 0).toNat)
  rw [State.statusTake]
  dsimp only
  rw [if_neg other]
  generalize s.healthTake _ _ = x at wf' health heard cycle fails
  have sync : HealthKept x (if hSync a.copy.hdr = true then x.updNode (hNode a.copy.hdr) fun v =>
      { v with wallv := syncWallv a.copy, woff := syncWoff a.copy } else x) := by
    split
    · exact .updNode x _ fun _ => ⟨rfl, rfl⟩
    · exact .refl x
  generalize (if hSync a.copy.hdr = true then x.updNode _ _ else x) = y at sync
  suffices kept : HealthKept x (if hNull a.copy.hdr = true then y else
      y.entriesTake (hNode a.copy.hdr) (s.slotStart w) 0 ((a.copy.payload.take (a.copy.payload.length -
        if hSync a.copy.hdr = true then 4 else 0)).drop 2)) by
    exact ⟨(kept.health wf' _).trans health, (kept.heard wf' _).trans heard, kept.cycle.trans cycle, kept.fails.trans fails⟩
  split
  · exact sync
  · exact sync.trans (.entriesTake ..)

/-- The places of the nodes, and the streams that the bus carries, are in `t` as in `s`. -/
structure StreamsKept (s t : State) : Prop where
  node : t.node = s.node
  others : t.otherNodes = s.otherNodes
  peers : t.peerIndex = s.peerIndex
  cycle : t.lnb.m = s.lnb.m
  fails : t.lnb.failX = s.lnb.failX
  mirCyc : t.lnb.mirCyc = s.lnb.mirCyc
  mirFrom : t.lnb.mirFrom = s.lnb.mirFrom
  mirRx : t.lnb.mirRx = s.lnb.mirRx
  xferRx : t.lnb.xferRx = s.lnb.xferRx
  pending : t.lnb.pendTx = s.lnb.pendTx
  fetched : t.lnb.fetched = s.lnb.fetched
  parts : t.lnb.fetchPart = s.lnb.fetchPart

theorem State.rxTaken_streams (s : State) (f : RxFrame) (c : Copy) : StreamsKept s (s.rxTaken f c) := by
  obtain ⟨r, att, own, devs, node, only⟩ := s.rxTaken_only f c
  rw [only]
  constructor <;> rfl

/-- Two payload words as one word of 64 bits, the low one first. -/
theorem ofNat_words (lo hi : Word) : BitVec.ofNat 64 (lo.toNat + 4294967296 * hi.toNat) = hi ++ lo := by
  apply BitVec.eq_of_toNat_eq
  rw [BitVec.toNat_append, ← Nat.shiftLeft_add_eq_or_of_lt lo.isLt, Nat.shiftLeft_eq, BitVec.toNat_ofNat]
  omega

theorem statusFrame_takes {f : RxFrame} {c : Copy} {s : State} (wf : NodesWf s) (judged : FrameJudged s 0 f c .valid)
    (other : hNode c.hdr ≠ s.node) :
    Answers (.statusFrame f) s fun t =>
      (t.nodeView (hNode c.hdr)).health = some (c.payload.getD 1 0 ++ c.payload.getD 0 0, s.lnb.m) ∧
      (t.nodeView (hNode c.hdr)).rxNow = true ∧ t.lnb.m = s.lnb.m ∧ t.lnb.failX = s.lnb.failX := by
  have done : exec (.statusFrame f) s = .next ((s.rxTaken f c).statusTake f.win.val (s.rxBoth f c)) := by
    show execStatusFrame f s = _
    rw [execStatusFrame, State.receive_valid judged]
    rfl
  obtain ⟨wf', views⟩ := State.rxTaken_nodeView wf f c
  obtain ⟨now, sync, one, two, y, view, heard⟩ := views (hNode c.hdr)
  have kept := s.rxTaken_streams f c
  have reads := State.statusTake_reads wf' f.win.val (s.rxBoth f c) (by rw [kept.node]; exact other)
  rw [State.rxBoth_copy, view, kept.cycle, kept.fails] at reads
  obtain ⟨health, rx, cycle, fails⟩ := reads
  exact ⟨_, done, health.trans (by rw [ofNat_words]), rx.trans (heard rfl), cycle, fails⟩

theorem statusFrame_crc {f : RxFrame} {c : Copy} (n : Nat) {s : State} (exclusive : winArb s.station f.win.val = false)
    (judged : FrameJudged s 0 f c .crcf) :
    Answers (.statusFrame f) s fun t => t.lnb.failX = satInc 65535 s.lnb.failX ∧ t.lnb.failY = satInc 65535 s.lnb.failY ∧
      t.lnb.evt.getLsbD 2 = true ∧ t.nodeView n = s.nodeView n ∧ t.lane.role = s.lane.role := by
  refine ⟨_, congrArg Host.Outcome.next (State.receive_crcf judged exclusive _), ?_⟩
  refine ⟨?_, ?_, ?_, State.nodeView_of_node ?_ n, ?_⟩
  · simp [State.countVerdict]
  · simp [State.countVerdict]
  · simp [State.countVerdict, putBit]
  · simp [State.countVerdict]
  · simp [State.countVerdict]

/-! ### Mirror stream and state transfer (R31, R44) -/

theorem mirrorFrame_takes {f : RxFrame} {c : Copy} {s : State} (judged : FrameJudged s 5 f c .valid)
    (holding : hNode c.hdr ∈ s.otherNodes) :
    Answers (.mirrorFrame f) s fun t => t.lnb.mirCyc = t.cycleNow ∧ t.lnb.mirFrom = hNode c.hdr ∧ t.lge = s.lge ∧
      t.lnb.mirRx = (if s.lnb.mirCyc = t.cycleNow ∧ s.lnb.mirFrom = hNode c.hdr then s.lnb.mirRx ++ c.payload else c.payload) := by
  have holding : s.otherNodes.contains (hNode c.hdr) = true := List.contains_iff_mem.mpr holding
  have kept := s.rxTaken_streams f c
  obtain ⟨-, -, lge, -⟩ := s.rxTaken_units f c
  refine ⟨_, congrArg Host.Outcome.next (State.receive_valid judged _), ?_⟩
  dsimp only
  rw [State.rxBoth_copy, show (s.rxHeard f c).rxNote (s.rxBoth f c) = s.rxTaken f c from rfl]
  generalize s.rxTaken f c = x at kept lge
  rw [kept.others, if_pos holding, ← kept.mirCyc, ← kept.mirFrom, ← kept.mirRx]
  exact ⟨rfl, rfl, lge, rfl⟩

theorem stateTransferFrame_takes {f : RxFrame} {c : Copy} {s : State} (judged : FrameJudged s 6 f c .valid)
    (peer : (s.peerIndex (hNode c.hdr)).isSome = true) :
    Answers (.stateTransferFrame f) s fun t => t.lge = s.lge ∧
      t.lnb.xferRx = (if s.lane.reintReq then s.lnb.xferRx ++ c.payload else s.lnb.xferRx) := by
  have kept := s.rxTaken_streams f c
  obtain ⟨lane, -, lge, -⟩ := s.rxTaken_units f c
  refine ⟨_, congrArg Host.Outcome.next (State.receive_valid judged _), ?_⟩
  dsimp only
  rw [State.rxBoth_copy, show (s.rxHeard f c).rxNote (s.rxBoth f c) = s.rxTaken f c from rfl]
  generalize s.rxTaken f c = x at kept lane lge
  rw [kept.peers, peer, lane, Bool.and_true, ← kept.xferRx]
  split
  · exact ⟨lge, rfl⟩
  · exact ⟨lge, rfl⟩

/-! ### Fetching (R78, R353) -/

theorem replyParts_ne_nil {l : List Byte} (some : l ≠ []) (conn seq : Nat) (code : W64) (total room off n : Nat) :
    replyParts conn seq code total room off (n + 1) l ≠ [] := by
  rw [replyParts, if_neg some]
  exact List.cons_ne_nil _ _

theorem telegramBody_ne_nil (ident peer : Nat) (rx : Bool) (t : Telegram) : telegramBody ident peer rx t ≠ [] := by
  simp [telegramBody]

/-- Every part of a reply begins with the connection and the sequence number asked for. -/
theorem replyParts_head {conn seq : Nat} {code : W64} {total room : Nat} : ∀ {n off : Nat} {l : List Byte} {p : List Word},
    p ∈ replyParts conn seq code total room off n l → p.getD 0 0 = BitVec.ofNat 32 conn ∧ p.getD 1 0 = BitVec.ofNat 32 seq
  | 0, _, _, _, h => by simp [replyParts] at h
  | n + 1, off, l, p, h => by
    rw [replyParts] at h
    split at h
    · simp at h
    · obtain rfl | rest := List.mem_cons.mp h
      · exact ⟨rfl, rfl⟩
      · exact replyParts_head rest

theorem fetchRequest_answers {f : RxFrame} {c : Copy} {w0 w1 : Word} {tg : Telegram} {fid i : Nat} {s : State}
    (judged : FrameJudged s 2 f c .valid) (other : hNode c.hdr ≠ s.node) (voting : s.voting = true)
    (asked : c.payload = [w0, w1]) (holds : s.holdsTelegrams = [tg]) (conn : tg.conn = w0.toNat) (seq : tg.seq = w1.toNat)
    (reply : (fidsOf s.station s.node 3).head? = some fid) (known : connOf s.station w0.toNat = some i) :
    Answers (.fetchRequest f) s fun t => ∃ l, l ≠ [] ∧ t.lnb.pendTx = s.lnb.pendTx ++ l ∧
      ∀ e ∈ l, e.fid = fid ∧ e.payload.getD 0 0 = w0 ∧ e.payload.getD 1 0 = w1 ∧ e.at_ = t.pins.now := by
  have kept := s.rxTaken_streams f c
  obtain ⟨lane, -, -, fld, img⟩ := s.rxTaken_units f c
  refine ⟨_, congrArg Host.Outcome.next (State.receive_valid judged _), ?_⟩
  dsimp only
  rw [State.rxBoth_copy, show (s.rxHeard f c).rxNote (s.rxBoth f c) = s.rxTaken f c from rfl]
  generalize s.rxTaken f c = x at kept lane fld img
  have votes : x.voting = true := by rw [State.voting, lane]; exact voting
  have found : x.holdsTelegrams.find? (fun t => decide (t.conn = w0.toNat) && decide (t.seq = w1.toNat)) = some tg := by
    rw [State.holdsTelegrams, fld, ← State.holdsTelegrams, holds, List.find?_cons_of_pos (by simp [conn, seq])]
  rw [votes, kept.node, decide_eq_true other, Bool.and_self, if_pos rfl, asked, State.fetchAnswer]
  dsimp only
  rw [found, kept.node, State.station_of_img img, reply, known]
  dsimp only
  rw [State.fetchAnswer]
  · refine ⟨_, ?_, congrArg (· ++ _) kept.pending, fun e mem => ?_⟩
    · rw [ne_eq, List.map_eq_nil_iff]
      exact replyParts_ne_nil (telegramBody_ne_nil _ _ _ _) _ _ _ _ _ _ _
    · obtain ⟨p, part, rfl⟩ := List.mem_map.mp mem
      obtain ⟨first, second⟩ := replyParts_head part
      exact ⟨rfl, by rw [first, conn, BitVec.ofNat_toNat, BitVec.setWidth_eq],
        by rw [second, seq, BitVec.ofNat_toNat, BitVec.setWidth_eq], rfl⟩
  · intro _ _ _ h
    exact List.cons_ne_nil _ _ h.symm

/-! ### The contributions that a reply is asked for (R73, R76) -/

/-- What the agreement takes of the nodes and of the lane is in `t` as in `s`. -/
structure ContribsKept (s t : State) : Prop where
  lane : t.lane = s.lane
  fld : t.fld = s.fld
  inp : t.inp = s.inp
  img : t.img = s.img
  cycle : t.lnb.m = s.lnb.m
  health : ∀ n, (t.nodeView n).health = (s.nodeView n).health
  valid : ∀ n, (t.nodeView n).inValid = (s.nodeView n).inValid
  words : ∀ n, (t.nodeView n).inWords = (s.nodeView n).inWords

theorem ContribsKept.contribs {s t : State} (h : ContribsKept s t) : t.contribs = s.contribs := by
  have fresh : t.fresh = s.fresh := by
    funext n
    rw [State.fresh, h.health, h.cycle, State.fresh]
  have node : t.node = s.node := State.node_of_pin (by rw [h.lane])
  have voting : t.voting = s.voting := by rw [State.voting, h.lane, State.voting]
  have base : t.setBase = s.setBase := by rw [State.setBase, State.sid, h.lane, State.setBase, State.sid]
  have shows : t.showsVoting = s.showsVoting := by
    funext n
    rw [State.showsVoting, fresh, State.showsVoting]
  have nodes : t.setNodes = s.setNodes := by rw [State.setNodes, base, State.setNodes]
  have others : t.otherNodes = s.otherNodes := by rw [State.otherNodes, base, State.otherNodes]
  have contrib : t.nodeContrib = s.nodeContrib := by
    funext n
    simp only [State.nodeContrib, h.valid, h.words, State.station_of_img h.img]
  have peer : t.contribPeer = s.contribPeer := by
    funext n
    simp only [State.contribPeer, shows, nodes, node, voting, fresh]
  have holding : t.showsHolding = s.showsHolding := by
    funext n
    rw [State.showsHolding, fresh, State.showsHolding]
  have own : t.ownSetHolds = s.ownSetHolds := by
    simp only [State.ownSetHolds, State.otherHolds, h.lane, others, fresh]
  have contributes : t.contributes = s.contributes := by
    simp only [State.contributes, own, voting, State.proving, h.lane]
  have mine : t.ownContrib = s.ownContrib := by
    simp only [State.ownContrib, node, h.inp, h.fld]
  simp only [State.contribs, own, nodes, node, contributes, mine, peer, contrib, others, holding]

theorem ContribsKept.lacking {s t : State} (h : ContribsKept s t) (fetched : t.lnb.fetched = s.lnb.fetched) :
    t.lackingNow = s.lackingNow := by
  simp only [State.lackingNow, State.agreedDigests, State.telegramOf, h.contribs, h.fld, fetched]

theorem State.rxTaken_contribs {s : State} (wf : NodesWf s) (f : RxFrame) (c : Copy) : ContribsKept s (s.rxTaken f c) := by
  obtain ⟨-, views⟩ := State.rxTaken_nodeView wf f c
  obtain ⟨lane, inp, -, fld, img⟩ := s.rxTaken_units f c
  have view (n : Nat) : ((s.rxTaken f c).nodeView n).health = (s.nodeView n).health ∧
      ((s.rxTaken f c).nodeView n).inValid = (s.nodeView n).inValid ∧
      ((s.rxTaken f c).nodeView n).inWords = (s.nodeView n).inWords := by
    obtain ⟨_, _, _, _, _, view, -⟩ := views n
    rw [view]
    exact ⟨rfl, rfl, rfl⟩
  exact ⟨lane, fld, inp, img, (s.rxTaken_streams f c).cycle, fun n => (view n).1, fun n => (view n).2.1, fun n => (view n).2.2⟩

/-- A holder's own reply to the same request is dropped once a lane of lower rank has answered (R353). -/
def State.replyDropped (s : State) (n : Nat) (w0 w1 : Word) : State :=
  if n < s.node then
    { s with lnb.pendTx := s.lnb.pendTx.filter fun e => !(decide (fidUse s.station e.fid = 3) &&
        decide (e.payload.getD 0 0 = w0) && decide (e.payload.getD 1 0 = w1)) }
  else s

theorem State.replyDropped_keeps (s : State) (n : Nat) (w0 w1 : Word) : ContribsKept s (s.replyDropped n w0 w1) ∧
    (s.replyDropped n w0 w1).lnb.fetched = s.lnb.fetched ∧ (s.replyDropped n w0 w1).lnb.fetchPart = s.lnb.fetchPart := by
  unfold State.replyDropped
  split <;> exact ⟨⟨rfl, rfl, rfl, rfl, rfl, fun _ => rfl, fun _ => rfl, fun _ => rfl⟩, rfl, rfl⟩

theorem fetchReply_takes {f : RxFrame} {c : Copy} {tg : Telegram} {s : State} (wf : NodesWf s)
    (judged : FrameJudged s 3 f c .valid) (other : hNode c.hdr ≠ s.node)
    (read : tg = telegramRead (c.payload.getD 3 0 ++ c.payload.getD 2 0)
      ((wordsToBytes (c.payload.drop 5)).take (bits (c.payload.getD 4 0).toNat 16 16)))
    (first : bits (c.payload.getD 4 0).toNat 0 16 = 0)
    (whole : bits (c.payload.getD 4 0).toNat 16 16 ≤ (wordsToBytes (c.payload.drop 5)).length)
    (safe : s.codeMatches (c.payload.getD 0 0).toNat (c.payload.getD 3 0 ++ c.payload.getD 2 0)
      ((wordsToBytes (c.payload.drop 5)).take (bits (c.payload.getD 4 0).toNat 16 16)) = true)
    (conn : tg.conn = (c.payload.getD 0 0).toNat) (seq : tg.seq = (c.payload.getD 1 0).toNat)
    (lacks : tg.digest ∈ s.lackingNow) (none : s.lnb.fetchPart = []) :
    Answers (.fetchReply f) s fun t => t.lnb.fetched = s.lnb.fetched ++ [tg] := by
  have kept := s.rxTaken_streams f c
  have contribs := State.rxTaken_contribs wf f c
  refine ⟨_, congrArg Host.Outcome.next (State.receive_valid judged _), ?_⟩
  dsimp only
  rw [State.rxBoth_copy, show (s.rxHeard f c).rxNote (s.rxBoth f c) = s.rxTaken f c from rfl]
  generalize s.rxTaken f c = x at kept contribs
  rw [kept.node, if_neg other]
  have matches_ : x.codeMatches = s.codeMatches := by
    funext n code l
    simp only [State.codeMatches, State.station_of_img contribs.img, contribs.fld]
  obtain ⟨dropped, fetched, parts⟩ := x.replyDropped_keeps (hNode c.hdr) (c.payload.getD 0 0) (c.payload.getD 1 0)
  have lacking := (dropped.lacking fetched).trans (contribs.lacking kept.fetched)
  show (State.fetchTake x { copy := c, start := _, dev := _, missing := _ }).lnb.fetched = _
  unfold State.fetchTake
  dsimp only
  generalize drop : (ite (hNode c.hdr < x.node) _ x : State) = y
  obtain rfl : x.replyDropped (hNode c.hdr) (c.payload.getD 0 0) (c.payload.getD 1 0) = y := drop
  have digest : tg.digest = ⟨(c.payload.getD 0 0).toNat, (c.payload.getD 1 0).toNat,
      c.payload.getD 3 0 ++ c.payload.getD 2 0⟩ := by
    rw [Telegram.digest, conn, seq, read]
    rfl
  have length : ((wordsToBytes (c.payload.drop 5)).take (bits (c.payload.getD 4 0).toNat 16 16)).length =
      bits (c.payload.getD 4 0).toNat 16 16 := List.length_take_of_le whole
  rw [if_pos (List.contains_iff_mem.mpr (by rw [lacking, ← digest]; exact lacks)), parts, kept.parts, none]
  simp only [List.find?_nil, List.filter_nil, List.nil_append, List.length_nil, first, Nat.sub_zero, matches_, ne_eq,
    not_true_eq_false, if_false, length, lt_self_iff_false, ← read, conn, seq, safe, and_self, if_true, fetched, kept.fetched]

theorem nodesWf_of_tables {s : State} (wf : TablesWf s) : NodesWf s := by
  obtain ⟨-, -, -, -, -, nodes, -⟩ := wf
  exact nodes

/-- Settles O34: what the reception of both channels leaves to its frame's use, and what each use takes of it. -/
theorem laneBusReceiving : Obligations.LaneBusReceiving :=
  ⟨fun _ _ _ wf => statusFrame_takes (nodesWf_of_tables wf), fun _ _ n _ _ => statusFrame_crc n,
    fun _ _ _ wf => inputFrame_takes (nodesWf_of_tables wf), fun _ _ _ wf => outputFrame_takes (nodesWf_of_tables wf),
    fun _ _ _ _ _ _ _ _ => fetchRequest_answers, fun _ _ _ _ wf => fetchReply_takes (nodesWf_of_tables wf),
    fun _ _ _ judged _ => mirrorFrame_takes judged, fun _ _ _ => stateTransferFrame_takes⟩

end Sys2Proof.Machine
end
section
/-! PROOF. The commands of the lane bus, the field ports and the CAN controllers, each with its effect (R31, R341 to R443, R493). -/

namespace Sys2Proof.Machine

open Sys2Proof.Safety

/-! ### The cluster's time and the state of the bus, command by command -/

theorem offsetCorrection_own {s w : State} {c : Int} (lnb : w.lnb = s.lnb) (sync : w.syncNode = s.syncNode)
    (active : s.lnb.bstate = .active) (syncs : s.syncNode = true) (offset : offsetCorrection (s.lnb.devs ++ [0]) = some c) :
    offsetCorrection (if (w.syncNode && (match w.lnb.bstate with | .lead | .follow | .active => true | _ => false)) = true then
      w.lnb.devs ++ [0] else w.lnb.devs) = some c := by
  rw [lnb, sync, active, syncs]
  exact offset

theorem execClockCorrection_corrects {c : Int} {s : State} (active : s.lnb.bstate = .active) (sync : s.syncNode = true)
    (once : s.lnb.corrNow = none) (live : s.blockLive 9 = true) (offset : offsetCorrection (s.lnb.devs ++ [0]) = some c) :
    Answers .clockCorrection s fun t => t.lnb.corrNow = some c ∧ t.lnb.offs = c := by
  refine ⟨_, next_of_pos (by simp [State.busTime, active, once, live]), ?_⟩
  have own := offsetCorrection_own (w := s.advanceCt s.statusEnd) rfl rfl active sync offset
  dsimp only
  generalize (offsetCorrection _) = x at own ⊢
  subst own
  dsimp only
  split
  · exact ⟨rfl, rfl⟩
  · simp [State.sevtLnb]

/-- Where TIMEV rises, it has its time from there on. -/
theorem State.timevRise_rises {s : State} (low : s.tae.timev = false) (aligned : s.crt.align = true) :
    s.timevRise.tae.timev = true ∧ s.timevRise.tae.timevAt = s.timevRise.pins.now := by
  rw [State.timevRise_eq, if_neg (by simp [low]), if_neg (by simp [aligned])]
  have meas : (if s.timevSet.blockLive 8 && s.timevSet.img.isSome then s.timevSet.meaAlign else s.timevSet).outside { mea := true } =
      s.timevSet.outside { mea := true } := by
    split
    · exact State.meaAlign_outside rfl s.timevSet
    · rfl
  have set : s.timevSet.tae.timev = true ∧ s.timevSet.tae.timevAt = s.timevSet.pins.now := ⟨rfl, rfl⟩
  rw [State.timevFollow]
  rw [← State.tae_of_outside meas rfl, ← State.pins_of_outside meas rfl rfl rfl rfl] at set
  generalize (if s.timevSet.blockLive 8 && s.timevSet.img.isSome then s.timevSet.meaAlign else s.timevSet) = w at set
  have susp : w.angleSusp.outside { attn := true, lmp := true, rcd := true } = w.outside { attn := true, lmp := true, rcd := true } :=
    State.angleSusp_outside rfl rfl rfl w
  split
  · rw [State.tae_of_outside susp rfl, State.pins_of_outside susp rfl rfl rfl rfl]
    exact set
  · exact set

theorem State.cycleEnd_reads (s : State) : s.cycleEnd.tae = s.tae ∧ s.cycleEnd.crt = s.crt := by
  rw [State.cycleEnd]
  split <;> exact ⟨rfl, rfl⟩

theorem execTimevRestored_rises {s : State} (active : s.lnb.bstate = .active) (low : s.tae.timev = false)
    (precise : 2 ≤ s.lnb.precise) (live : s.blockLive 9 = true) (aligned : s.crt.align = true) :
    Answers .timevRestored s fun t => t.tae.timev = true ∧ t.tae.timevAt = t.pins.now := by
  obtain ⟨tae, crt⟩ := s.cycleEnd_reads
  exact ⟨_, next_of_pos (by simp [active, low, precise, live]), State.timevRise_rises (tae ▸ low) (crt ▸ aligned)⟩

theorem State.wallAdopt_lnb (s : State) : s.wallAdopt.lnb = s.lnb := by
  simp only [State.wallAdopt]
  split
  · exact (s.wallStep_reads _ _ _).1
  · rfl

theorem execIntegrationCheckPassed_active {s : State} (integrates : s.lnb.bstate = .integrating) (good : 2 ≤ s.lnb.goodRun)
    (live : s.blockLive 9 = true) :
    Answers .integrationCheckPassed s fun t => t.lnb.bstate = .active ∧ t.lnb.sevt.getLsbD 2 = true := by
  refine ⟨_, next_of_pos (by simp [integrates, good, live]), ?_⟩
  dsimp only
  generalize joined : State.mk .. = w
  have active : w.wallAdopt.timevRise.lnb.bstate = .active := by
    rw [w.wallAdopt.timevRise_reads.1, w.wallAdopt_lnb, ← joined]
  constructor
  · simpa [State.sevtLnb] using active
  · simp [State.sevtLnb, putBit]

theorem execPassiveReturn_active {s : State} (passive : s.lnb.bstate = .passive) (good : 8 ≤ s.lnb.goodRun)
    (live : s.blockLive 9 = true) :
    Answers .passiveReturn s fun t => t.lnb.bstate = .active ∧ t.lnb.sevt.getLsbD 2 = true := by
  refine ⟨_, next_of_pos (by simp [passive, good, live]), ?_⟩
  dsimp only
  generalize back : State.mk .. = w
  have active : w.timevRise.lnb.bstate = .active := by rw [w.timevRise_reads.1, ← back]
  constructor
  · simpa [State.sevtLnb] using active
  · simp [State.sevtLnb, putBit]

theorem execDemotion_passive {s : State} (active : s.lnb.bstate = .active) (bad : 2 ≤ s.lnb.coarse ∨ 2 ≤ s.lnb.bndRun)
    (live : s.blockLive 9 = true) :
    Answers .demotion s fun t => t.lnb.bstate = .passive ∧ t.lnb.demcnt = satInc 65535 s.lnb.demcnt :=
  ⟨_, next_of_pos (by simp [active, bad, live]), by simp [State.sevtLnb]⟩

/-- A node that enters LISTEN has no TIMEV. -/
theorem State.enterListen_timev (s : State) (len at_ : Nat) : (s.enterListen len at_).tae.timev = false := by
  obtain ⟨v, h⟩ := (s.timevFall .lnbRx).syncClear_only
  rw [State.enterListen, h]
  exact (s.timevFall_lost .lnbRx).1

theorem execSyncLost_listens {s : State}
    (timed : s.lnb.bstate = .integrating ∨ s.lnb.bstate = .active ∨ s.lnb.bstate = .passive)
    (lost : 4 ≤ s.lnb.noSync) (live : s.blockLive 9 = true) :
    Answers .syncLost s fun t => t.lnb.bstate = .listen ∧ t.tae.timev = false := by
  refine ⟨_, next_of_pos ?_, (State.enterListen_reads _ _ _).1, State.enterListen_timev _ _ _⟩
  obtain h | h | h := timed <;> simp [h, lost, live]

/-- An entry that is not what an unlisted key reads as reads back as it was written. -/
theorem tabGet_tabSet_listed {α : Type} [DecidableEq α] {d v : α} (k : Nat) (listed : v ≠ d) :
    ∀ t : Tab α, tabGet d k (tabSet d k v t) = v
  | [] => by simp [tabSet, tabGet, listed]
  | (j, w) :: t => by
    rw [tabSet, if_neg listed, if_neg listed]
    split
    · simp [tabGet]
    · split
      · simp [tabGet]
      · rename_i other
        rw [tabGet, if_neg other, tabGet_tabSet_listed k listed t]

theorem execSingleChannelLimit_declares {n : Fin 8} {s : State} (rejected : (s.nodeView n.val).scRejected = true)
    (new : (s.nodeView n.val).scDeclared = false) (live : s.rxLive = true) :
    Answers (.singleChannelLimit n) s fun t => t.nodeView n.val = { s.nodeView n.val with scDeclared := true } ∧
      t.lnb.evt.getLsbD 5 = true := by
  refine ⟨_, next_of_pos (by simp [rejected, new, live]), ?_, ?_⟩
  · have listed : { s.nodeView n.val with scDeclared := true } ≠ node0 := fun h => by
      have := congrArg NodeView.scDeclared h
      simp [node0] at this
    have read := tabGet_tabSet_listed n.val listed s.lnb.node
    simpa [State.evtLnb, State.nodeView, State.updNode, tabUpd] using read
  · simp [State.evtLnb, putBit]

theorem execRecoveredClockAdmitted_admits {r : Nat} {s : State} (reference : s.lnb.rref = some r)
    (active : s.lnb.bstate = .active) (other : r ≠ s.node) (new : s.lnb.recadm = false) (run : 64 ≤ s.lnb.recRun)
    (live : s.blockLive 9 = true) :
    Answers .recoveredClockAdmitted s fun t => t.lnb.recadm = true ∧ t.lnb.recRef = r := by
  have admits : exec .recoveredClockAdmitted s = .next
      ((({ s with lnb.recadm := true, lnb.recRef := r, crt.rval := true } : State).sevtLnb 7).record 1 0x0900 0x090C [s.node, r]) := by
    show execRecoveredClockAdmitted s = _
    simp only [execRecoveredClockAdmitted, reference]
    rw [if_pos (by simp [active, other, new, run, live])]
  exact ⟨_, admits, by simp [State.sevtLnb]⟩

theorem execRecoveredClockRevoked_revokes {k : Fin 4} {s : State} (admitted : s.lnb.recadm = true)
    (cause : if k = 3 then s.lnb.bstate ≠ .active else s.lnb.bstate = .active ∧ (k = 2 ↔ s.lnb.rref ≠ some s.lnb.recRef))
    (kept : s.crt.rootsel = false ∨ s.crt.xval = true) :
    Answers (.recoveredClockRevoked k) s fun t => t.lnb.recadm = false ∧ t.crt.rval = false := by
  have due : (match k.val with
      | 2 => decide (s.lnb.bstate = .active) && !decide (s.lnb.rref = some s.lnb.recRef)
      | 3 => !decide (s.lnb.bstate = .active)
      | _ => decide (s.lnb.bstate = .active) && decide (s.lnb.rref = some s.lnb.recRef)) = true := by
    fin_cases k <;> simp_all
  refine ⟨_, next_of_pos due, ?_⟩
  dsimp only
  rw [if_neg (by obtain h | h := kept <;> simp [h]), State.recRevoke, if_pos admitted]
  simp [State.sevtLnb]

theorem execDigestVote_passes {s : State} (integrates : s.lane.st = .integrate) (due : s.lane.digestDue = true)
    (timev : s.tae.timev = true) (ready : s.digestReady = true) (passes : s.digestPasses = true) :
    exec .digestVote s = .next { s with lane.digestDue := false } := by
  show execDigestVote s = _
  rw [execDigestVote, if_pos ⟨integrates, due, timev⟩, if_pos ready, State.digestDecide, if_pos passes]

/-! ### The field ports -/

theorem State.updPort_port {s : State} (wf : tabWf (fun _ => port0) s.fld.port = true) (p : Nat)
    (f : PortState → PortState) :
    (s.updPort p f).port p = f (s.port p) := tabGet_tabUpd_self (fun _ => port0) p f wf

theorem State.updPort_port_of_ne (s : State) {p q : Nat} (other : q ≠ p) (f : PortState → PortState) :
    (s.updPort p f).port q = s.port q := tabGet_tabUpd_ne port0 port0 f other s.fld.port

theorem State.updPort_wf {s : State} (wf : tabWf (fun _ => port0) s.fld.port = true) (p : Nat) (f : PortState → PortState) :
    tabWf (fun _ => port0) (s.updPort p f).fld.port = true := tabWf_tabUpd (fun _ => port0) p f wf

@[simp] theorem State.evtFld_port (s : State) (k p : Nat) : (s.evtFld k).port p = s.port p := by
  simp [State.evtFld, State.port]

@[simp] theorem State.record_port (s : State) (sev src code : Nat) (data : List Nat) (p : Nat) :
    (s.record sev src code data).port p = s.port p := by
  simp [State.port]

theorem portsWf_of_tables {s : State} (wf : TablesWf s) : tabWf (fun _ => port0) s.fld.port = true := by
  obtain ⟨-, -, -, -, -, -, ports, -⟩ := wf
  exact ports

/-- The instant at which the link is polled: 10 ms after the poll before it. -/
def State.polled (s : State) (p : Nat) : State :=
  match (s.port p).polledAt with | some t => s.advance (t + 10000000) | none => s

/-- What a poll reports of a link: half duplex, and a link that changed. -/
def State.linkReported (s : State) (p : Nat) (link old : LinkState) : State :=
  let s2 := if link = .half ∧ old ≠ .half then (s.evtFld 1).record 3 0x0A00 0x0A02 [p] else s
  if linkCode link = linkCode old then s2 else (s2.evtFld 0).record 2 0x0A00 0x0A01 [p, linkCode link]

theorem State.linkReported_port (s : State) (p : Nat) (link old : LinkState) :
    (s.linkReported p link old).port p = s.port p := by
  rw [State.linkReported]
  split <;> split <;> simp

theorem State.polled_fld (s : State) (p : Nat) : (s.polled p).fld = s.fld := by
  rw [State.polled]
  split <;> rfl

theorem execPhyPoll_links {p : Fin 2} {l : LinkState} {s : State} (wf : TablesWf s) (runs : s.fldRuns = true)
    (out : s.fld.phyOut = true) (enabled : portEn s.station p.val = true) :
    Answers (.phyPoll p l) s fun t => (t.port p.val).link = l := by
  have ports : tabWf (fun _ => port0) (s.polled p.val).fld.port = true := (s.polled_fld p.val).symm ▸ portsWf_of_tables wf
  have polls : exec (.phyPoll p l) s = .next (((s.polled p.val).updPort p.val fun x =>
      { x with link := l, polledAt := some (s.polled p.val).pins.now }).linkReported p.val l (s.port p.val).link) :=
    next_of_pos (by simp [runs, out, enabled])
  refine ⟨_, polls, ?_⟩
  show (State.port _ _).link = l
  rw [State.linkReported_port, State.updPort_port ports]

/-- A frame that fails its check, has a length that Ethernet does not allow, or is sent to another address is dropped (R400). -/
theorem ethJudge_drop {st : Station} {p fmp : Nat} {on ok : Bool} {b : List Byte}
    (bad : ok = false ∨ b.length < 60 ∨ 1518 < b.length ∨
      (beNat (slice 0 6 b) ≠ portMac st p ∧ beNat (slice 0 6 b) ≠ 0xFFFFFFFFFFFF)) :
    ethJudge st p fmp on ok b = .drop := by
  rw [ethJudge]
  dsimp only
  obtain bad | short | long | other := bad
  · rw [if_pos (by simp [bad])]
  · rw [if_pos (by simp only [Bool.or_eq_true, decide_eq_true_eq]; omega)]
  · have far (tagged : Bool) : 1518 + (if tagged then 4 else 0) < b.length + 4 := by
      cases tagged <;> simp <;> omega
    rw [if_pos ((Bool.or_eq_true _ _).mpr (.inr (decide_eq_true (far _))))]
  · obtain ⟨mac, broadcast⟩ := other
    refine ite_eq_left_iff.mpr fun _ => if_pos ?_
    rw [decide_eq_false mac, decide_eq_false broadcast]
    rfl

theorem execEthernetFrame_drops {p : Fin 2} {ok : Bool} {b : List Byte} {s : State} (wf : TablesWf s)
    (up : s.portUp p.val = true) (bad : ok = false ∨ b.length < 60 ∨ 1518 < b.length ∨
      (beNat (slice 0 6 b) ≠ portMac s.station p.val ∧ beNat (slice 0 6 b) ≠ 0xFFFFFFFFFFFF)) :
    Answers (.ethernetFrame p ok b) s fun t =>
      t.port p.val = { s.port p.val with drop := satInc 65535 (s.port p.val).drop } ∧ t.fld.held = s.fld.held :=
  ⟨_, next_of_pos (by rw [up, ethJudge_drop bad]; rfl), State.updPort_port (portsWf_of_tables wf) _ _, rfl⟩

theorem execEthernetFrame_passes {p : Fin 2} {ok : Bool} {b : List Byte} {s : State}
    (good : ethJudge s.station p.val (fmpPort s.station) (fmpOn s.station p.val) ok b ≠ .drop) :
    exec (.ethernetFrame p ok b) s = .next s := next_of_neg (by simp [good])

theorem execArpRequest_replies {p : Fin 2} {ip : Word} {s : State} (up : s.portUp p.val = true)
    (arp : fldArp s.station = true)
    (own : ip.toNat = portIp s.station p.val) :
    exec (.arpRequest p ip) s = .next { s with pins.sent := .arpReply p.val ip :: s.pins.sent } :=
  next_of_pos (by simp [up, arp, own])

theorem execIcmpEchoRequest_replies {p : Fin 2} {ip : Word} {s : State} (up : s.portUp p.val = true)
    (icmp : fldIcmp s.station = true) (own : ip.toNat = portIp s.station p.val)
    (room : (s.port p.val).icmpSecond ≠ s.pins.now / 1000000000 ∨ (s.port p.val).icmpCount < 10) :
    Answers (.icmpEchoRequest p ip) s fun t => t.pins.sent = .icmpReply p.val :: s.pins.sent := by
  refine ⟨_, next_of_pos ?_, rfl⟩
  simp only [up, icmp, own, Bool.true_and, decide_true, decide_eq_true_eq]
  split
  next same => exact room.resolve_left fun other => other same
  next => decide

/-- What the judging of a copy reads is as it was before the copy was counted. -/
theorem State.updConn_reads (s : State) (c : Nat) (f : ConnState → ConnState) :
    (s.updConn c f).connSt c = s.connSt c ∧ (s.updConn c f).fld.held = s.fld.held ∧ (s.updConn c f).fld.keys = s.fld.keys ∧
      (s.updConn c f).fld.port = s.fld.port := ⟨rfl, rfl, rfl, rfl⟩

/-- A copy that is accepted is counted on its port. -/
theorem State.copyAccept_counts {s : State} (ports : tabWf (fun _ => port0) s.fld.port = true) (p c : Nat) (tg : Telegram) :
    ((s.copyAccept p c tg false).port p).rxok = satInc 65535 (s.port p).rxok := by
  have read := State.updPort_port ports p fun x => { x with rxok := satInc 65535 x.rxok, acceptedAt := some s.pins.now }
  have wf := State.updPort_wf ports p fun x => { x with rxok := satInc 65535 x.rxok, acceptedAt := some s.pins.now }
  simp only [State.copyAccept, Bool.false_eq_true, if_false]
  generalize s.updPort p _ = s1 at read wf ⊢
  have wf3 : tabWf (fun _ => port0) ({ s1 with
      fld.held := s1.fld.held ++ [{ tg := tg, reported := false, deferred := false }] } : State).fld.port = true := wf
  split
  · rw [State.record_port, State.updPort_port wf3]
    exact congrArg PortState.rxok read
  · exact congrArg PortState.rxok read

/-- A copy with the code of its connection, of a telegram that no copy held before, is accepted where the connection is not up. -/
theorem State.mimanJudge_accepts {s : State} {p c : Nat} {b : List Byte} (down : s.connSt c ≠ 2) (first : s.fld.held = [])
    (code : Config.cmac (tabGet 0#128 c s.fld.keys) (b.take (b.length - 8)) = BitVec.ofNat 64 (beNat (b.drop (b.length - 8)))) :
    s.mimanJudge p c b = s.copyAccept p c (telegramRead (BitVec.ofNat 64 (beNat (b.drop (b.length - 8)))) (b.take (b.length - 8)))
      false := by
  simp [State.mimanJudge, down, first, code]

theorem execMimanTelegram_accepts {p : Fin 2} {ip : Word} {b : List Byte} {c : Nat} {s : State} (up : s.portUp p.val = true)
    (judges : s.judgesCopies = true) (wf : TablesWf s) (known : mimanConn s.station ip.toNat b = some c)
    (room : (s.conn c).copies < connRxcop s.station c) (down : s.connSt c ≠ 2) (first : s.fld.held = [])
    (code : Config.cmac (tabGet 0#128 c s.fld.keys) (b.take (b.length - 8)) = BitVec.ofNat 64 (beNat (b.drop (b.length - 8)))) :
    Answers (.mimanTelegram p ip b) s fun t => (t.port p.val).rxok = satInc 65535 (s.port p.val).rxok := by
  refine ⟨_, next_of_pos (by simp [up, judges]), ?_⟩
  rw [known]
  dsimp only
  rw [if_neg (by omega)]
  generalize counted : s.updConn c _ = w
  obtain ⟨up, held, keys, port⟩ := s.updConn_reads c fun x => { x with copies := (s.conn c).copies + 1 }
  rw [counted] at up held keys port
  rw [State.mimanJudge_accepts (up ▸ down) (held ▸ first) (by rw [keys]; exact code), State.copyAccept_counts
    (port ▸ portsWf_of_tables wf), State.port, State.port, port]

theorem execPortSingle_declares {p : Fin 2} {x : Nat} {s : State} (runs : s.fldRuns = true)
    (enabled : portEn s.station p.val = true) (silent : (s.port p.val).acceptedAt = none)
    (new : (s.port p.val).singleAt = none) (other : (s.port (1 - p.val)).acceptedAt = some x)
    (recent : s.pins.now < x + 1000000000) :
    Answers (.portSingle p) s fun t => (t.port p.val).singleAt = some s.pins.now ∧ t.fld.evt.getLsbD 2 = true := by
  refine ⟨_, next_of_pos (by simp [runs, enabled, silent, new, other, recent]), ?_, ?_⟩
  · have listed : { s.port p.val with singleAt := some s.pins.now } ≠ port0 := fun h => by
      have := congrArg PortState.singleAt h
      simp [port0] at this
    have read := tabGet_tabSet_listed p.val listed s.fld.port
    rw [State.record_port, State.evtFld_port]
    exact congrArg PortState.singleAt read
  · simp [State.evtFld, putBit]

/-! ### The CAN controllers -/

theorem State.updCan_can {s : State} (wf : tabWf (fun _ => can0) s.cab.ctl = true) (c : Nat) (f : CanCtl → CanCtl) :
    (s.updCan c f).can c = f (s.can c) := tabGet_tabUpd_self (fun _ => can0) c f wf

theorem State.updCan_wf {s : State} (wf : tabWf (fun _ => can0) s.cab.ctl = true) (c : Nat) (f : CanCtl → CanCtl) :
    tabWf (fun _ => can0) (s.updCan c f).cab.ctl = true := tabWf_tabUpd (fun _ => can0) c f wf

theorem State.updCan_listed {s : State} {c : Nat} {f : CanCtl → CanCtl} (listed : f (s.can c) ≠ can0) :
    (s.updCan c f).can c = f (s.can c) := tabGet_tabSet_listed c listed s.cab.ctl

theorem State.updTx_txEntry {s : State} (wf : tabWf (fun _ => tx0) s.cab.txq = true) (e : Nat) (f : TxEntry → TxEntry) :
    (s.updTx e f).txEntry e = f (s.txEntry e) := tabGet_tabUpd_self (fun _ => tx0) e f wf

theorem State.updMap_listed {s : State} {m : Nat} {f : MapState → MapState} (listed : f (s.mapSt m) ≠ map0) :
    (s.updMap m f).mapSt m = f (s.mapSt m) := tabGet_tabSet_listed m listed s.cab.map

/-- What the CAN controllers hold in their own tables is in `t` as in `s`. -/
structure CansKept (s t : State) : Prop where
  ctl : t.cab.ctl = s.cab.ctl
  txq : t.cab.txq = s.cab.txq

theorem CansKept.refl (s : State) : CansKept s s := ⟨rfl, rfl⟩

theorem CansKept.trans {s t w : State} (h : CansKept s t) (k : CansKept t w) : CansKept s w :=
  ⟨k.ctl.trans h.ctl, k.txq.trans h.txq⟩

theorem CansKept.can {s t : State} (h : CansKept s t) (c : Nat) : t.can c = s.can c := by rw [State.can, h.ctl]; rfl

theorem CansKept.txEntry {s t : State} (h : CansKept s t) (e : Nat) : t.txEntry e = s.txEntry e
    := by rw [State.txEntry, h.txq]; rfl

theorem CansKept.evtCab (s : State) (k : Nat) : CansKept s (s.evtCab k) := by constructor <;> simp [State.evtCab]

theorem CansKept.record (s : State) (sev src code : Nat) (data : List Nat) : CansKept s (s.record sev src code data) := by
  constructor <;> simp

theorem CansKept.updMap (s : State) (m : Nat) (f : MapState → MapState) : CansKept s (s.updMap m f) := ⟨rfl, rfl⟩

theorem CansKept.ite {s t : State} (c : Prop) [Decidable c] (h : CansKept s t) : CansKept s (if c then t else s) := by
  split
  · exact h
  · exact .refl s

theorem CansKept.canPassive (s : State) (c : Nat) (was : CanEState) : CansKept s (s.canPassive c was) :=
  .ite _ ((CansKept.evtCab s 5).trans (.record _ _ _ _ _))

theorem cansWf_of_tables {s : State} (wf : TablesWf s) :
    tabWf (fun _ => can0) s.cab.ctl = true ∧ tabWf (fun _ => tx0) s.cab.txq = true := by
  obtain ⟨-, -, -, -, -, -, -, -, cans, entries, -⟩ := wf
  exact ⟨cans, entries⟩

/-- The end of a controller's transmissions without an answer changes its own count and mark. -/
theorem State.lonelyEnd_reads {s : State} (wf : tabWf (fun _ => can0) s.cab.ctl = true) (c : Nat) :
    (s.lonelyEnd c).can c = { s.can c with ackRun := 0, lonely := false } ∧ (s.lonelyEnd c).cab.txq = s.cab.txq := by
  have read := State.updCan_can wf c fun x => { x with ackRun := 0, lonely := false }
  have kept : CansKept (s.updCan c fun x => { x with ackRun := 0, lonely := false }) (s.lonelyEnd c) :=
    .ite _ (.record _ _ _ _ _)
  exact ⟨(kept.can c).trans read, kept.txq⟩

theorem execCanTxComplete_completes {c : Fin 2} {e : Nat} {s : State} (wf : TablesWf s) (works : s.canWorks c.val = true)
    (sends : (s.can c.val).onWire = some (.queue e)) (started : (s.txEntry e).st = .started) :
    Answers (.canTxComplete c) s fun t => (t.txEntry e).st = .completed ∧ (t.can c.val).onWire = none := by
  obtain ⟨cans, entries⟩ := cansWf_of_tables wf
  refine ⟨_, rfl, ?_⟩
  dsimp only
  rw [if_pos works, sends]
  dsimp only
  have wf1 := State.updCan_wf cans c.val fun x =>
    { x with onWire := none, tecN := x.tecN - 1, estate := canEstate (x.tecN - 1) x.recN }
  have read := State.updCan_can cans c.val fun x =>
    { x with onWire := none, tecN := x.tecN - 1, estate := canEstate (x.tecN - 1) x.recN }
  obtain ⟨ended, queue⟩ := State.lonelyEnd_reads wf1 c.val
  rw [read] at ended
  generalize (s.updCan c.val _).lonelyEnd c.val = s1 at ended queue ⊢
  have queue : s1.cab.txq = s.cab.txq := queue
  rw [if_pos (by rw [State.txEntry, queue]; exact started)]
  have kept := CansKept.evtCab (s1.updTx e fun x => { x with st := .completed }) 2
  constructor
  · rw [kept.txEntry, State.updTx_txEntry (queue ▸ entries)]
  · rw [kept.can]
    exact congrArg CanCtl.onWire ended

/-- What an attempt on the wire leaves when it ends without an answer: the controller sends nothing. -/
theorem State.offerBack_reads {s : State} (wf : tabWf (fun _ => can0) s.cab.ctl = true) (c : Nat) :
    ((s.offerBack c).can c).onWire = none ∧ tabWf (fun _ => can0) (s.offerBack c).cab.ctl = true ∧
      (s.offerBack c).cab.txq = s.cab.txq := by
  have wf1 := State.updCan_wf wf c fun x => { x with onWire := none }
  have read := State.updCan_can wf c fun x => { x with onWire := none }
  rw [State.offerBack]
  split
  · refine ⟨?_, State.updCan_wf wf1 c _, rfl⟩
    rw [State.updCan_can wf1, read]
  · exact ⟨congrArg CanCtl.onWire read, wf1, rfl⟩
  · exact ⟨congrArg CanCtl.onWire read, wf1, rfl⟩

/-- The controller after an attempt that no node answered. -/
def State.ackLost (s : State) (c tec : Nat) : State :=
  ((s.offerBack c).updCan c fun y =>
    { y with tecN := tec, estate := canEstate tec y.recN, ackRun := satInc 16 y.ackRun }).canPassive c (s.can c).estate

/-- The mark of a controller that no other node answers. -/
def State.ackAlone (s : State) (c : Nat) (was : Bool) : State :=
  if 16 ≤ (s.can c).ackRun ∧ was = false then
    ((s.updCan c fun y => { y with lonely := true }).evtCab 3).record 3 0x0B00 0x0B03 [c]
  else s

theorem State.ackLost_reads {s : State} (wf : tabWf (fun _ => can0) s.cab.ctl = true) (c tec : Nat) :
    ((s.ackLost c tec).can c).onWire = none ∧ ((s.ackLost c tec).can c).tecN = tec ∧
      tabWf (fun _ => can0) (s.ackLost c tec).cab.ctl = true := by
  obtain ⟨none, wf1, -⟩ := State.offerBack_reads wf c
  have read := State.updCan_can wf1 c fun y =>
    { y with tecN := tec, estate := canEstate tec y.recN, ackRun := satInc 16 y.ackRun }
  have wf2 := State.updCan_wf wf1 c fun y =>
    { y with tecN := tec, estate := canEstate tec y.recN, ackRun := satInc 16 y.ackRun }
  rw [State.ackLost]
  have kept := CansKept.canPassive ((s.offerBack c).updCan c fun y =>
    { y with tecN := tec, estate := canEstate tec y.recN, ackRun := satInc 16 y.ackRun }) c (s.can c).estate
  rw [kept.can, kept.ctl, read]
  exact ⟨none, rfl, wf2⟩

theorem State.ackAlone_reads {s : State} (wf : tabWf (fun _ => can0) s.cab.ctl = true) (c : Nat) (was : Bool) :
    ((s.ackAlone c was).can c).onWire = (s.can c).onWire ∧ ((s.ackAlone c was).can c).tecN = (s.can c).tecN := by
  rw [State.ackAlone]
  split
  · have kept := (CansKept.evtCab (s.updCan c fun y => { y with lonely := true }) 3).trans (.record _ 3 0x0B00 0x0B03 [c])
    rw [kept.can, State.updCan_can wf]
    exact ⟨rfl, rfl⟩
  · exact ⟨rfl, rfl⟩

theorem execCanAckError_counts {c : Fin 2} {e : Nat} {s : State} (wf : TablesWf s) (works : s.canWorks c.val = true)
    (sends : (s.can c.val).onWire = some (.queue e)) (active : (s.can c.val).estate = .active) :
    Answers (.canAckError c) s fun t => (t.can c.val).tecN = (s.can c.val).tecN + 8 ∧ (t.can c.val).onWire = none := by
  obtain ⟨cans, -⟩ := cansWf_of_tables wf
  have ends : exec (.canAckError c) s = .next (
      let s2 := (s.ackLost c.val (if (s.can c.val).estate = .active then (s.can c.val).tecN + 8 else (s.can c.val).tecN)).ackAlone
        c.val (s.can c.val).lonely
      let s3 := s2.updTx e fun y => { y with ack := satInc 255 y.ack }
      if canNoack s.station c.val ≠ 0 ∧ canNoack s.station c.val ≤ (s3.txEntry e).ack ∧ (s3.txEntry e).st = .started then
        (s3.updTx e fun y => { y with st := .failed, cause := 1 }).evtCab 2
      else s3) := by
    show execCanAckError c s = _
    rw [execCanAckError]
    dsimp only
    rw [if_pos works, sends]
    rfl
  refine ⟨_, ends, ?_⟩
  dsimp only
  rw [if_pos active]
  obtain ⟨silent, count, wf1⟩ := State.ackLost_reads cans c.val ((s.can c.val).tecN + 8)
  obtain ⟨silent', count'⟩ := State.ackAlone_reads wf1 c.val (s.can c.val).lonely
  rw [← count'] at count
  rw [← silent'] at silent
  generalize (s.ackLost c.val _).ackAlone c.val _ = s2 at count silent ⊢
  split
  · rw [(CansKept.evtCab _ _).can]
    exact ⟨count, silent⟩
  · exact ⟨count, silent⟩

/-- An attempt that an error ends goes back, and the entry that it sent counts its attempts without an answer anew. -/
def State.errorBack (s : State) (c : Nat) : State :=
  match (s.can c).onWire with
  | some (.queue e) => (s.offerBack c).updTx e fun y => { y with ack := 0 }
  | _ => s.offerBack c

theorem execCanError_counts {c : Fin 2} {tec rec : Nat} {s : State} (wf : TablesWf s) (works : s.canWorks c.val = true)
    (on : tec < 256) :
    Answers (.canError c tec rec) s fun t => (t.can c.val).tecN = tec ∧ (t.can c.val).recN = min 255 rec := by
  obtain ⟨-, back, -⟩ := State.offerBack_reads (cansWf_of_tables wf).1 c.val
  have cans : tabWf (fun _ => can0) (s.errorBack c.val).cab.ctl = true := by
    rw [State.errorBack]
    split <;> exact back
  have counts : exec (.canError c tec rec) s = .next (((s.errorBack c.val).updCan c.val fun y =>
      { y with tecN := tec, recN := min 255 rec, estate := canEstate tec rec, ackRun := 0 }).canPassive c.val
        (s.can c.val).estate) := by
    refine (next_of_pos works).trans (congrArg Host.Outcome.next ?_)
    rw [if_neg (by omega)]
    rfl
  refine ⟨_, counts, ?_⟩
  dsimp only
  rw [(CansKept.canPassive _ _ _).can, State.updCan_can cans]
  exact ⟨rfl, rfl⟩

theorem execBusoffRecovered_active {c : Fin 2} {s : State} (wf : TablesWf s) (image : s.img.isSome = true)
    (live : s.blockLive 11 = true) (off : (s.can c.val).estate = .busoff) (recovers : (s.can c.val).recovering = true) :
    Answers (.busoffRecovered c) s fun t => (t.can c.val).estate = .active ∧ (t.can c.val).tecN = 0 := by
  obtain ⟨cans, -⟩ := cansWf_of_tables wf
  refine ⟨_, next_of_pos (by simp [image, live, off, recovers]), ?_⟩
  dsimp only
  have wf1 : tabWf (fun _ => can0) (s.advance ((s.can c.val).recovFrom + 1408 * canBitNs s.station c.val)).cab.ctl = true := cans
  rw [State.updCan_can wf1]
  exact ⟨rfl, rfl⟩

theorem execReferenceMessageDue_offers {c : Fin 2} {s : State} (image : s.img.isSome = true) (live : s.blockLive 11 = true)
    (enabled : canEn s.station c.val = true) (master : canTmen s.station c.val = true) (timev : s.tae.timev = true)
    (works : s.lane.st ≠ .safe) :
    Answers (.referenceMessageDue c) s fun t => (t.can c.val).refPending = true ∧ t.lane = s.lane := by
  refine ⟨_, next_of_pos (by simp [image, live, enabled, master, timev, works]), ?_, rfl⟩
  rw [State.updCan_listed]
  intro h
  have := congrArg CanCtl.refPending h
  simp [can0] at this

/-! #### Frames on the wire -/

/-- Of two offers the one that arbitration favours: the lower key, and the first of equals. -/
def State.better (s : State) (c : Nat) (b : Option CanOffer) (o : CanOffer) : Option CanOffer :=
  match b with
  | none => some o
  | some x =>
    let k := s.offerKey c x
    let l := s.offerKey c o
    if l.1 < k.1 ∨ (l.1 = k.1 ∧ l.2 < k.2) then some o else some x

theorem State.bestOffer_eq (s : State) (c : Nat) : s.bestOffer c = (s.offers c).foldl (s.better c) none := rfl

theorem State.better_some (s : State) (c : Nat) (x o : CanOffer) :
    s.better c (some x) o = some o ∨ s.better c (some x) o = some x := by
  rw [State.better]
  split
  · exact .inl rfl
  · exact .inr rfl

theorem State.foldl_better_mem (s : State) (c : Nat) : ∀ (l : List CanOffer) (o : CanOffer),
    ∃ x ∈ o :: l, l.foldl (s.better c) (some o) = some x
  | [], o => ⟨o, List.mem_cons_self, rfl⟩
  | o' :: l, o => by
    rw [List.foldl_cons]
    obtain next | kept := s.better_some c o o'
    · obtain ⟨x, mem, h⟩ := State.foldl_better_mem s c l o'
      exact ⟨x, List.mem_cons_of_mem _ mem, by rw [next, h]⟩
    · obtain ⟨x, mem, h⟩ := State.foldl_better_mem s c l o
      refine ⟨x, ?_, by rw [kept, h]⟩
      obtain rfl | mem := List.mem_cons.mp mem
      · exact List.mem_cons_self
      · exact List.mem_cons_of_mem _ (List.mem_cons_of_mem _ mem)

/-- A controller that has something to offer offers one of it. -/
theorem State.bestOffer_mem {s : State} {c : Nat} (offers : s.offers c ≠ []) : ∃ o ∈ s.offers c, s.bestOffer c = some o := by
  obtain ⟨o, l, h⟩ := List.exists_cons_of_ne_nil offers
  obtain ⟨x, mem, fold⟩ := State.foldl_better_mem s c l o
  refine ⟨x, h ▸ mem, ?_⟩
  rw [State.bestOffer_eq, h, List.foldl_cons]
  exact fold

/-- A controller with an offer on the wire is listed. -/
theorem can_listed {x : CanCtl} {o : CanOffer} (wire : x.onWire = some o) : x ≠ can0 := fun h => by
  rw [h] at wire
  exact Option.some_ne_none o wire.symm

/-- A change of a controller that leaves its offer on the wire. -/
theorem State.updCan_onWire {s : State} {c : Nat} {o : CanOffer} {f : CanCtl → CanCtl}
    (sends : (f (s.can c)).onWire = some o) :
    ((s.updCan c f).can c).onWire = some o := by
  rw [State.updCan_listed (can_listed sends), sends]

/-- What the start of a frame does to what it sends. -/
def State.offerStarts (s : State) (c : Nat) : CanOffer → State
  | .reference => s.updCan c fun x => { x with refPending := false, refSofNow := s.stampOf s.pins.now }
  | .map m => s.updMap m fun x => { x with pending := false }
  | .queue e => s.updTx e fun x => { x with st := .started, att := satInc 255 x.att }

theorem State.offerStarts_onWire {s : State} {c : Nat} {o : CanOffer} (sends : (s.can c).onWire = some o) :
    ∀ x, ((s.offerStarts c x).can c).onWire = some o
  | .reference => State.updCan_onWire sends
  | .map _ => sends
  | .queue _ => sends

theorem execCanFrameStart_sends {c : Fin 2} {sof : Nat} {s : State} (works : s.canWorks c.val = true)
    (idle : (s.can c.val).onWire = none) (offers : s.offers c.val ≠ []) :
    Answers (.canFrameStart c sof) s fun t => ∃ o ∈ s.offers c.val, (t.can c.val).onWire = some o := by
  obtain ⟨o, mem, best⟩ := State.bestOffer_mem (s := s.advance sof) (c := c.val) offers
  have starts : exec (.canFrameStart c sof) s = .next (
      let s2 := (((s.advance sof).updCan c.val fun x => { x with onWire := some o }).send
        (.can c.val ((s.advance sof).offerFrame c.val o))).offerStarts c.val o
      if ((s.advance sof).offerFrame c.val o).fdf && ((s.advance sof).offerFrame c.val o).brs && canTdcen (s.advance sof).station c.val
      then (s2.updCan c.val fun x => { x with tdcMeas := s2.freeWord.toNat % 256 }).freeUsed else s2) := by
    show execCanFrameStart c sof s = _
    have works : (s.advance sof).canWorks c.val = true := works
    have idle : ((s.advance sof).can c.val).onWire = none := idle
    rw [execCanFrameStart]
    dsimp only
    rw [if_pos (by rw [works, idle]; rfl), best]
    cases o <;> rfl
  refine ⟨_, starts, o, mem, ?_⟩
  have sends : (((s.advance sof).updCan c.val fun x => { x with onWire := some o }).can c.val).onWire = some o :=
    State.updCan_onWire rfl
  generalize (s.advance sof).updCan c.val _ = s1 at sends ⊢
  have started := State.offerStarts_onWire (s := s1.send (.can c.val ((s.advance sof).offerFrame c.val o))) sends o
  dsimp only
  generalize (s1.send _).offerStarts c.val o = s2 at started ⊢
  split
  · exact State.updCan_onWire (s := s2) (f := fun x => { x with tdcMeas := s2.freeWord.toNat % 256 }) started
  · exact started

/-- The maps that a frame of controller `c` can be for. -/
theorem rxMaps_single {st : Station} {c m : Nat} {f : CanFrame} (maps : rxMaps st = [m]) (ctrl : mapCtrl st m = c)
    (ide : mapIde st m = f.ide) (fdf : mapFdf st m = f.fdf) (data : f.rtr = false) (ident : mapId st m = canId f.ide f.ident.toNat) :
    ((rxMaps st).filter fun m => decide (mapCtrl st m = c) && (mapIde st m == f.ide) && (mapFdf st m == f.fdf) && !f.rtr &&
      decide (mapId st m = canId f.ide f.ident.toNat)) = [m] := by
  simp [maps, ctrl, ide, fdf, data, ident]

/-- The controller after the check of a frame that it received without an error. -/
def State.frameChecked (s : State) (c : Nat) (f : CanFrame) (sof : Nat) : State :=
  let s0 := s.advance sof
  let rc := recAfter s0.freeWord (s0.can c).recN
  ((s0.freeUsed.updCan c fun x => { x with recN := rc, estate := canEstate x.tecN rc }).lonelyEnd c).slaveStamp c f
    (s0.stampOf sof / 25 * 25)

theorem execCanFrameReceived_maps {c : Fin 2} {f : CanFrame} {sof : Nat} {s : State} {m : Nat} (formed : f.wellFormed = true)
    (works : s.canWorks c.val = true) (remote : (f.fdf && f.rtr) = false) (rate : (f.brs && !f.fdf) = false)
    (fd : (canFden s.station c.val || !f.fdf) = true) (maps : rxMaps s.station = [m]) (ctrl : mapCtrl s.station m = c.val)
    (ide : mapIde s.station m = f.ide) (fdf : mapFdf s.station m = f.fdf) (data : f.rtr = false)
    (ident : mapId s.station m = canId f.ide f.ident.toNat) (length : 8 * f.data.length = (mapCells s.station m).2) :
    Answers (.canFrameReceived c f sof) s fun t => (t.mapSt m).payload = f.data ∧ (t.mapSt m).at_ = some t.pins.now := by
  have received : exec (.canFrameReceived c f sof) s = .next ((s.frameChecked c.val f sof).updMap m fun x =>
      { x with payload := f.data, at_ := some (s.frameChecked c.val f sof).pins.now }) := by
    show execCanFrameReceived c f sof s = _
    rw [execCanFrameReceived]
    dsimp only
    rw [if_pos formed, if_pos (by rw [works, remote, rate, fd]; rfl), rxMaps_single maps ctrl ide fdf data ident]
    dsimp only
    rw [if_pos length]
    rfl
  refine ⟨_, received, ?_⟩
  generalize s.frameChecked c.val f sof = s1
  have read : (s1.updMap m fun x => { x with payload := f.data, at_ := some s1.pins.now }).mapSt m =
      { s1.mapSt m with payload := f.data, at_ := some s1.pins.now } :=
    State.updMap_listed fun h => Option.some_ne_none _ (congrArg MapState.at_ h)
  rw [read]
  exact ⟨rfl, rfl⟩

/-! ### Each command of the buses completes -/

/-- What is said of an answer holds of it in a weaker form. -/
theorem answers_imp {i : Instr} {s : State} {P Q : State → Prop} (h : Answers i s P) (weaker : ∀ t, P t → Q t) :
    Answers i s Q := by
  obtain ⟨t, next, holds⟩ := h
  exact ⟨t, next, weaker t holds⟩

/-- Settles O58: each clause is the effect of its command, as the lemma about the command gives it. -/
theorem busCommandsComplete : Obligations.BusCommandsComplete :=
  ⟨fun _ _ p may use ready pending early => answers_imp (((transmitFrame_output may use).1 p ready pending).1 early) fun _ h => h.1,
    fun _ _ j p enabled arb present drives skip ready rank room early =>
      answers_imp ((arbRoundStart_cases enabled arb present drives skip ready).1 j p rank room early) fun _ h => h.2,
    fun _ _ drives enabled owner => answers_imp (execGuardianCutoff_counts drives enabled owner) fun _ h => ⟨h.1, h.2.1⟩,
    fun _ _ _ wf judged other => answers_imp (statusFrame_takes (nodesWf_of_tables wf) judged other) fun _ h => h.2.1,
    fun _ _ _ wf judged full next follows => answers_imp (inputFrame_takes (nodesWf_of_tables wf) judged full next follows)
      fun _ h => ⟨h.1, h.2.1⟩,
    fun _ _ _ wf judged full next follows => answers_imp ((outputFrame_takes (nodesWf_of_tables wf) judged full).1 next follows)
      fun _ h => ⟨h.1, h.2.1⟩,
    fun _ _ _ _ _ _ _ _ judged other voting asked holds conn seq reply known =>
      answers_imp (fetchRequest_answers judged other voting asked holds conn seq reply known) fun _ ⟨l, any, sent, _⟩ => ⟨l, any, sent⟩,
    fun _ _ _ _ wf => fetchReply_takes (nodesWf_of_tables wf),
    fun _ _ _ judged _ other => answers_imp (mirrorFrame_takes judged other) fun _ h => ⟨h.1, h.2.1⟩,
    fun _ _ _ => stateTransferFrame_takes,
    fun _ _ _ live clean other waits => answers_imp ((execColdStartFrame_cases live clean other).1 waits) fun _ h => ⟨h.1, h.2.1⟩,
    fun _ k live time window arb => answers_imp (((execCarrierInvalid_cases live).2 k time window).1 arb) fun _ h => ⟨h.1, h.2.1⟩,
    fun s live listens => by
      obtain ⟨t, next, rfl⟩ := (execCarrierInvalid_cases live).1 listens
      exact next,
    fun _ listens live sync works => answers_imp ((execListenTimeout_cases listens live).1 sync works) fun _ h => ⟨h.1, h.2.1⟩,
    fun _ swarms live => answers_imp ((execSwarmReadback_cases swarms live).1) fun _ h => ⟨h.1, h.2.1⟩,
    fun _ waits live sync works => answers_imp ((execWaitExpire_cases waits live).1 sync works) fun _ h => ⟨h.1, h.2.1⟩,
    fun _ _ => execClockCorrection_corrects, fun _ => execTimevRestored_rises,
    fun _ attempts two live => answers_imp (execClusterFormed_active attempts two live) fun _ h => ⟨h.1, h.2.1⟩,
    fun _ leads last few live => answers_imp (execAttemptFailed_lead leads last few live) fun _ h => ⟨h.1, h.2.1⟩,
    fun _ listens attempts sync live => answers_imp (execLoneNode_rests listens attempts sync live) fun _ h => ⟨h.1, h.2.1⟩,
    fun _ => execIntegrationCheckPassed_active, fun _ => execDemotion_passive, fun _ => execPassiveReturn_active,
    fun _ => execSyncLost_listens, fun _ _ => execSingleChannelLimit_declares, fun _ _ => execRecoveredClockAdmitted_admits,
    fun _ _ => execRecoveredClockRevoked_revokes, fun _ => execDigestVote_passes, fun _ _ _ => execPhyPoll_links,
    fun _ _ _ _ => execEthernetFrame_drops, fun _ _ _ _ _ _ => execEthernetFrame_passes, fun _ _ _ => execArpRequest_replies,
    fun _ _ _ => execIcmpEchoRequest_replies, fun _ _ _ _ _ => execMimanTelegram_accepts, fun _ _ _ => execPortSingle_declares,
    fun _ _ _ _ _ => execCanFrameReceived_maps, fun _ _ _ => execCanFrameStart_sends,
    fun _ _ _ => execCanTxComplete_completes,
    fun _ _ _ wf works sends _ active => execCanAckError_counts wf works sends active,
    fun _ _ _ _ => execCanError_counts, fun _ _ => execBusoffRecovered_active, fun _ _ => execReferenceMessageDue_offers⟩

end Sys2Proof.Machine
end
section
/-! PROOF. The commands that a session writes (R40, R49, R525 to R534). -/

namespace Sys2Proof.Machine

open Sys2Proof.Safety

/-- A lane that serves a session with the token for UNFREEZE, 10 s after the freeze that it holds began: at its commit point. -/
def freezeAtCommit : State :=
  { State.reset with
    lane.st := .run, pins.now := 10000000000, rcd.frozen := true, rcd.frzAt := 0,
    sup.sessions := [{ Session.fresh 0 none with
      st := .opened, level := 2,
      tok := some { value := tokenFor Config.keyRecovery 0 1 0x0C0060 2, tcnt := 1, at_ := 10000000000 } }] }

theorem freezeAtCommit_authorised : Authorised freezeAtCommit 0 0x0C0060 2 2 := by
  refine ⟨_, rfl, by decide, by decide, ?_, by decide, by decide⟩
  simp [State.tokenOk, State.levelKey, freezeAtCommit, State.reset, Sup.reset, Session.fresh]

/-- The commit point ends the freeze: the command that comes then completes it, and aborts nothing (R8, R531). -/
theorem freezeAtCommit_completes :
    ∃ t, exec (.unfreeze 0) freezeAtCommit = .next t ∧ t.rcd.frz = .completed := by
  refine ⟨_, congrArg Host.Outcome.next (State.command_authorised (fun t => t.freezeEnd true) freezeAtCommit_authorised), ?_⟩
  obtain ⟨-, -, status⟩ := (freezeAtCommit.useToken 0).freezeEnd_frozen true rfl
  exact status.trans (by decide)

/-- Refutes O60: an UNFREEZE at or after the commit point of the freeze finds it complete, and does not abort it. -/
theorem not_commandWritesComplete : ¬ Obligations.CommandWritesComplete := by
  unfold Obligations.CommandWritesComplete
  intro h
  obtain ⟨-, -, -, -, -, -, -, -, -, -, -, -, -, -, -, -, -, -, -, -, -, -, -, -, -, -, -, -, -, -, -, -, -, -, -, -, -, unfreeze, -⟩ := h
  obtain ⟨t, next, -, aborted⟩ := unfreeze 0 freezeAtCommit freezeAtCommit_authorised rfl
  obtain ⟨u, done, completed⟩ := freezeAtCommit_completes
  obtain rfl : t = u := by
    rw [next] at done
    exact Host.Outcome.next.inj done
  rw [completed] at aborted
  exact CmdStatus.noConfusion aborted

end Sys2Proof.Machine
end
section
/-! PROOF. What each operation of a family leaves unchanged (95_what_each_step_holds.md). -/

namespace Sys2Proof.Machine

open Sys2Proof.Safety

theorem State.outside_cab {u : Touch} (cab : u.cab = true) (s : State) (x : Cab) :
    State.outside u { s with cab := x } = s.outside u := by
  simp [cab]

theorem State.outside_tae {u : Touch} (tae : u.tae = true) (s : State) (x : Tae) :
    State.outside u { s with tae := x } = s.outside u := by
  simp [tae]

@[simp] theorem State.evtCrt_outside {u : Touch} (attn : u.attn = true) (crt : u.crt = true) (s : State) (k : Nat) :
    (s.evtCrt k).outside u = s.outside u := by
  simp [State.evtCrt, attn, crt]

@[simp] theorem State.evtLge_outside {u : Touch} (attn : u.attn = true) (lge : u.lge = true) (s : State) (k : Nat) :
    (s.evtLge k).outside u = s.outside u := by
  simp [State.evtLge, attn, lge]

@[simp] theorem State.sevtLnb_outside {u : Touch} (attn : u.attn = true) (lnb : u.lnb = true) (s : State) (k : Nat) :
    (s.sevtLnb k).outside u = s.outside u := by
  simp [State.sevtLnb, attn, lnb]

@[simp] theorem State.evtFld_outside {u : Touch} (attn : u.attn = true) (fld : u.fld = true) (s : State) (k : Nat) :
    (s.evtFld k).outside u = s.outside u := by
  simp [State.evtFld, attn, fld]

/-! ### The shared operations -/

@[simp] theorem State.advance_outside {u : Touch} (now : u.now = true) (s : State) (t : Nat) :
    (s.advance t).outside u = s.outside u := by
  simp [State.advance, now]

@[simp] theorem State.advanceCt_outside {u : Touch} (now : u.now = true) (s : State) (t : Nat) :
    (s.advanceCt t).outside u = s.outside u := by
  simp [State.advanceCt, now]

@[simp] theorem State.flushNow_outside {u : Touch} (attn : u.attn = true) (rcd : u.rcd = true) (s : State) (ok : Bool) :
    (s.flushNow ok).outside u = s.outside u :=
  (RecorderOnly.flushNow s ok).outside_eq rcd attn

@[simp] theorem State.freezeEnd_outside {u : Touch} (attn : u.attn = true) (rcd : u.rcd = true) (s : State) (abort : Bool) :
    (s.freezeEnd abort).outside u = s.outside u :=
  (RecorderOnly.freezeEnd s abort).outside_eq rcd attn

@[simp] theorem State.canFail_outside {u : Touch} (attn : u.attn = true) (cab : u.cab = true) (s : State) (cause : Nat)
    (f : TxEntry → Bool) : (s.canFail cause f).outside u = s.outside u := by
  simp [State.canFail, attn, cab]

/-! ### Sessions -/

@[simp] theorem State.updSession_outside {u : Touch} (sup : u.sup = true) (s : State) (n : Nat) (f : Session → Session) :
    (s.updSession n f).outside u = s.outside u := by
  simp [State.updSession, sup]

@[simp] theorem State.useToken_outside {u : Touch} (sup : u.sup = true) (s : State) (n : Nat) :
    (s.useToken n).outside u = s.outside u := by
  simp [State.useToken, sup]

@[simp] theorem State.plainWrite_outside {u : Touch} (attn : u.attn = true) (crt : u.crt = true) (sup : u.sup = true)
    (s : State) (sid addr level : Nat) (f : State → State) (hf : ∀ t, (f t).outside u = t.outside u) :
    (s.plainWrite sid addr level f).outside u = s.outside u := by
  unfold State.plainWrite
  split <;> simp [attn, crt, sup, hf]

/-! ### The cabinet bus -/

@[simp] theorem State.updCan_outside {u : Touch} (cab : u.cab = true) (s : State) (c : Nat) (f : CanCtl → CanCtl) :
    (s.updCan c f).outside u = s.outside u := by
  simp [State.updCan, cab]

@[simp] theorem State.updTx_outside {u : Touch} (cab : u.cab = true) (s : State) (e : Nat) (f : TxEntry → TxEntry) :
    (s.updTx e f).outside u = s.outside u := by
  simp [State.updTx, cab]

@[simp] theorem State.lonelyEnd_outside {u : Touch} (attn : u.attn = true) (cab : u.cab = true) (rcd : u.rcd = true)
    (s : State) (c : Nat) : (s.lonelyEnd c).outside u = s.outside u := by
  simp [State.lonelyEnd, attn, cab, rcd]

@[simp] theorem State.offerBack_outside {u : Touch} (cab : u.cab = true) (s : State) (c : Nat) :
    (s.offerBack c).outside u = s.outside u := by
  unfold State.offerBack
  split <;> simp [cab]

@[simp] theorem State.canPassive_outside {u : Touch} (attn : u.attn = true) (cab : u.cab = true) (rcd : u.rcd = true)
    (s : State) (c : Nat) (was : CanEState) : (s.canPassive c was).outside u = s.outside u := by
  simp [State.canPassive, attn, cab, rcd]

@[simp] theorem State.canRecover_outside {u : Touch} (cab : u.cab = true) (s : State) (c : Nat) :
    (s.canRecover c).outside u = s.outside u := by
  simp [State.canRecover, cab]

@[simp] theorem State.rxQueue_outside {u : Touch} (attn : u.attn = true) (cab : u.cab = true) (rcd : u.rcd = true)
    (s : State) (c : Nat) (f : CanFrame) (stamp : Nat) : (s.rxQueue c f stamp).outside u = s.outside u := by
  simp [State.rxQueue, attn, cab, rcd]

@[simp] theorem State.slaveStamp_outside {u : Touch} (cab : u.cab = true) (s : State) (c : Nat) (f : CanFrame)
    (stamp : Nat) : (s.slaveStamp c f stamp).outside u = s.outside u := by
  simp [State.slaveStamp, cab]

@[simp] theorem State.txPost_outside {u : Touch} (cab : u.cab = true) (s : State) : s.txPost.outside u = s.outside u := by
  rw [State.txPost]
  split
  · exact State.outside_cab cab s _
  · split <;> exact State.outside_cab cab s _

@[simp] theorem State.txCancel_outside {u : Touch} (attn : u.attn = true) (cab : u.cab = true) (s : State) (e : Nat) :
    (s.txCancel e).outside u = s.outside u := by
  rw [State.txCancel]
  split
  · rw [State.evtCab_outside attn cab]
    exact State.outside_cab cab s _
  all_goals exact State.outside_cab cab s _

@[simp] theorem State.txRelease_outside {u : Touch} (cab : u.cab = true) (s : State) (e : Nat) :
    (s.txRelease e).outside u = s.outside u := by
  unfold State.txRelease
  split <;> simp [cab]

/-! ### Supply angle and set angle -/

@[simp] theorem State.angleRebase_outside {u : Touch} (tae : u.tae = true) (s : State) :
    s.angleRebase.outside u = s.outside u := by
  simp [State.angleRebase, tae]

/-! ### The logic engine -/

@[simp] theorem State.scanAbort_outside {u : Touch} (attn : u.attn = true) (lane : u.lane = true) (lge : u.lge = true)
    (grd : u.grd = true) (vio : u.vio = true) (lmp : u.lmp = true) (rcd : u.rcd = true) (upd : u.upd = true) (s : State) :
    s.scanAbort.outside u = s.outside u := by
  simp [State.scanAbort, attn, lane, lge, grd, vio, lmp, rcd, upd]

@[simp] theorem State.hold0_outside {u : Touch} (lge : u.lge = true) (s : State) (a : Nat) (c : Cell) :
    (s.hold0 a c).outside u = s.outside u := by
  simp [State.hold0, lge]

@[simp] theorem State.hold1_outside {u : Touch} (lge : u.lge = true) (s : State) (a : Nat) (c : Cell) :
    (s.hold1 a c).outside u = s.outside u := by
  simp [State.hold1, lge]

@[simp] theorem State.takeStore_outside {u : Touch} (attn : u.attn = true) (lge : u.lge = true) (s : State) (half1 : Bool)
    (w : Option (Nat × Cell)) : (s.takeStore half1 w).outside u = s.outside u := by
  unfold State.takeStore
  split <;> simp [attn, lge]

@[simp] theorem State.instrDone_outside {u : Touch} (attn : u.attn = true) (lane : u.lane = true) (lge : u.lge = true)
    (grd : u.grd = true) (vio : u.vio = true) (lmp : u.lmp = true) (rcd : u.rcd = true) (upd : u.upd = true) (s : State)
    (o0 : HalfOut) (o1 : Option HalfOut) : (s.instrDone o0 o1).outside u = s.outside u := by
  unfold State.instrDone
  split <;> simp [attn, lane, lge, grd, vio, lmp, rcd, upd]

@[simp] theorem State.runInstr_outside {u : Touch} (attn : u.attn = true) (lane : u.lane = true) (lge : u.lge = true)
    (grd : u.grd = true) (vio : u.vio = true) (lmp : u.lmp = true) (rcd : u.rcd = true) (upd : u.upd = true) (s : State)
    (sem : HalfView → Rung → HalfRes) : (s.runInstr sem).outside u = s.outside u := by
  unfold State.runInstr
  dsimp only
  (repeat' split) <;> simp [attn, lane, lge, grd, vio, lmp, rcd, upd]

@[simp] theorem State.eccThen_outside {u : Touch} (attn : u.attn = true) (lane : u.lane = true) (lge : u.lge = true)
    (grd : u.grd = true) (vio : u.vio = true) (lmp : u.lmp = true) (rcd : u.rcd = true) (upd : u.upd = true) (s : State)
    (e : Ecc) (f : State → State) (hf : ∀ t, (f t).outside u = t.outside u) : (s.eccThen e f).outside u = s.outside u := by
  unfold State.eccThen
  split <;> simp [attn, lane, lge, grd, vio, lmp, rcd, upd, hf]

@[simp] theorem State.logic_outside {u : Touch} (attn : u.attn = true) (lane : u.lane = true) (lge : u.lge = true)
    (grd : u.grd = true) (vio : u.vio = true) (lmp : u.lmp = true) (rcd : u.rcd = true) (upd : u.upd = true) (s : State)
    (e : Ecc) (f : State → State) (hf : ∀ t, (f t).outside u = t.outside u) : (s.logic e f).outside u = s.outside u := by
  simp [State.logic, attn, lane, lge, grd, vio, lmp, rcd, upd, hf]

@[simp] theorem State.closeRegion_outside {u : Touch} (attn : u.attn = true) (lane : u.lane = true) (lge : u.lge = true)
    (grd : u.grd = true) (vio : u.vio = true) (lmp : u.lmp = true) (rcd : u.rcd = true) (upd : u.upd = true) (s : State)
    (last : Bool) : (s.closeRegion last).outside u = s.outside u := by
  simp [State.closeRegion, attn, lane, lge, grd, vio, lmp, rcd, upd]

/-! ### Lamps and lamp proving -/

@[simp] theorem State.proveDark_outside {u : Touch} (lmp : u.lmp = true) (s : State) (n : Nat) :
    (s.proveDark n).outside u = s.outside u := by
  simp [State.proveDark, lmp]

@[simp] theorem State.oobEvidence_outside {u : Touch} (attn : u.attn = true) (lmp : u.lmp = true) (rcd : u.rcd = true)
    (s : State) (n pt : Nat) (v : Int) (t : Nat) : (s.oobEvidence n pt v t).outside u = s.outside u := by
  simp [State.oobEvidence, attn, lmp, rcd]

@[simp] theorem State.oobClear_outside {u : Touch} (lmp : u.lmp = true) (s : State) (n t : Nat) :
    (s.oobClear n t).outside u = s.outside u := by
  simp [State.oobClear, lmp]

@[simp] theorem State.darkSample_outside {u : Touch} (attn : u.attn = true) (lmp : u.lmp = true) (rcd : u.rcd = true)
    (s : State) (n pt : Nat) : (s.darkSample n pt).outside u = s.outside u := by
  simp [State.darkSample, attn, lmp, rcd]

@[simp] theorem State.litSample_outside {u : Touch} (attn : u.attn = true) (lmp : u.lmp = true) (rcd : u.rcd = true)
    (s : State) (n pt : Nat) : (s.litSample n pt).outside u = s.outside u := by
  simp [State.litSample, attn, lmp, rcd]

@[simp] theorem State.classify_outside {u : Touch} (attn : u.attn = true) (lmp : u.lmp = true) (rcd : u.rcd = true)
    (s : State) (n pt : Nat) (v : Int) : (s.classify n pt v).outside u = s.outside u := by
  simp [State.classify, attn, lmp, rcd]

@[simp] theorem State.learnSample_outside {u : Touch} (lmp : u.lmp = true) (s : State) (n pt : Nat) (v : Int) (t : Nat) :
    (s.learnSample n pt v t).outside u = s.outside u := by
  unfold State.learnSample
  split <;> simp [lmp]

@[simp] theorem State.pulseSample_outside {u : Touch} (lmp : u.lmp = true) (s : State) (n : Nat) (v : Int) (t : Nat) :
    (s.pulseSample n v t).outside u = s.outside u := by
  unfold State.pulseSample
  split <;> simp [lmp]

@[simp] theorem State.sampleJudge_outside {u : Touch} (attn : u.attn = true) (lmp : u.lmp = true) (rcd : u.rcd = true)
    (s : State) (n : Nat) (v : Int) (t : Nat) : (s.sampleJudge n v t).outside u = s.outside u := by
  simp [State.sampleJudge, attn, lmp, rcd]

@[simp] theorem State.lampSample_outside {u : Touch} (attn : u.attn = true) (lmp : u.lmp = true) (rcd : u.rcd = true)
    (s : State) (n : Nat) (y : Int) (t : Nat) : (s.lampSample n y t).outside u = s.outside u := by
  unfold State.lampSample
  dsimp only
  (repeat' split) <;> simp [attn, lmp, rcd]

/-! ### Measurement -/

@[simp] theorem State.winSample_outside {u : Touch} (attn : u.attn = true) (mea : u.mea = true) (rcd : u.rcd = true)
    (s : State) (n w : Nat) (v : Int) (q : Bool) : (s.winSample n w v q).outside u = s.outside u := by
  simp [State.winSample, attn, mea, rcd]

@[simp] theorem State.winSamples_outside {u : Touch} (attn : u.attn = true) (mea : u.mea = true) (rcd : u.rcd = true)
    (s : State) (n : Nat) (fine : Bool) (v : Int) (q : Bool) : (s.winSamples n fine v q).outside u = s.outside u := by
  simp [State.winSamples, attn, mea, rcd]

@[simp] theorem State.gridNote_outside {u : Touch} (mea : u.mea = true) (s : State) (n per t : Nat) :
    (s.gridNote n per t).outside u = s.outside u := by
  simp [State.gridNote, mea]

@[simp] theorem State.chanInvalid_outside {u : Touch} (attn : u.attn = true) (lane : u.lane = true) (lge : u.lge = true)
    (grd : u.grd = true) (vio : u.vio = true) (lmp : u.lmp = true) (mea : u.mea = true) (rcd : u.rcd = true)
    (upd : u.upd = true) (s : State) (n : Nat) : (s.chanInvalid n).outside u = s.outside u := by
  simp [State.chanInvalid, attn, lane, lge, grd, vio, lmp, mea, rcd, upd]

@[simp] theorem State.calTake_outside {u : Touch} (attn : u.attn = true) (lane : u.lane = true) (lge : u.lge = true)
    (grd : u.grd = true) (vio : u.vio = true) (lmp : u.lmp = true) (mea : u.mea = true) (rcd : u.rcd = true)
    (upd : u.upd = true) (s : State) (l : List CalResult) : (s.calTake l).outside u = s.outside u := by
  induction l generalizing s with
  | nil => rfl
  | cons a l ih => simp [State.calTake, ih, attn, lane, lge, grd, vio, lmp, mea, rcd, upd]

@[simp] theorem State.setSi_outside {u : Touch} (mea : u.mea = true) (s : State) (k : Nat) (x : StandIn) :
    (s.setSi k x).outside u = s.outside u := by
  simp [State.setSi, mea]

@[simp] theorem State.calReport_outside {u : Touch} (attn : u.attn = true) (mea : u.mea = true) (s : State) (x : StandIn)
    (st : CmdStatus) : (s.calReport x st).outside u = s.outside u := by
  simp [State.calReport, attn, mea]

@[simp] theorem State.siFree_outside {u : Touch} (mea : u.mea = true) (s : State) (k : Nat) (p : SiPhase) :
    (s.siFree k p).outside u = s.outside u := by
  simp [State.siFree, mea]

@[simp] theorem State.siRelease_outside {u : Touch} (mea : u.mea = true) (s : State) (k : Nat) :
    (s.siRelease k).outside u = s.outside u := by
  simp [State.siRelease, mea]

@[simp] theorem State.rotationFail_outside {u : Touch} (attn : u.attn = true) (mea : u.mea = true) (rcd : u.rcd = true)
    (s : State) (k cause : Nat) : (s.rotationFail k cause).outside u = s.outside u := by
  simp [State.rotationFail, attn, mea, rcd]

@[simp] theorem State.siGone_outside {u : Touch} (attn : u.attn = true) (mea : u.mea = true) (rcd : u.rcd = true)
    (s : State) (k : Nat) : (s.siGone k).outside u = s.outside u := by
  simp [State.siGone, attn, mea, rcd]

@[simp] theorem State.siOut_outside {u : Touch} (attn : u.attn = true) (mea : u.mea = true) (rcd : u.rcd = true)
    (s : State) (k : Nat) : (s.siOut k).outside u = s.outside u := by
  unfold State.siOut
  dsimp only
  split <;> simp [attn, mea, rcd]

@[simp] theorem State.switchNow_outside {u : Touch} (now : u.now = true) (s : State) : s.switchNow.outside u = s.outside u
    := by
  simp [State.switchNow, now]

@[simp] theorem State.parallelFail_outside {u : Touch} (attn : u.attn = true) (lane : u.lane = true) (lge : u.lge = true)
    (grd : u.grd = true) (vio : u.vio = true) (lmp : u.lmp = true) (mea : u.mea = true) (rcd : u.rcd = true)
    (upd : u.upd = true) (s : State) (k : Nat) : (s.parallelFail k).outside u = s.outside u := by
  simp [State.parallelFail, attn, lane, lge, grd, vio, lmp, mea, rcd, upd]

@[simp] theorem State.parallelPass_outside {u : Touch} (attn : u.attn = true) (mea : u.mea = true) (rcd : u.rcd = true)
    (s : State) (k : Nat) : (s.parallelPass k).outside u = s.outside u := by
  simp [State.parallelPass, attn, mea, rcd]

@[simp] theorem State.returnFail_outside {u : Touch} (mea : u.mea = true) (s : State) (k : Nat) :
    (s.returnFail k).outside u = s.outside u := by
  simp [State.returnFail, mea]

@[simp] theorem State.rotationBack_outside {u : Touch} (attn : u.attn = true) (lane : u.lane = true) (lge : u.lge = true)
    (grd : u.grd = true) (vio : u.vio = true) (lmp : u.lmp = true) (mea : u.mea = true) (rcd : u.rcd = true)
    (upd : u.upd = true) (s : State) (k cause : Nat) : (s.rotationBack k cause).outside u = s.outside u := by
  simp [State.rotationBack, attn, lane, lge, grd, vio, lmp, mea, rcd, upd]

@[simp] theorem State.rotationsLost_outside {u : Touch} (attn : u.attn = true) (lane : u.lane = true) (lge : u.lge = true)
    (grd : u.grd = true) (vio : u.vio = true) (lmp : u.lmp = true) (mea : u.mea = true) (rcd : u.rcd = true)
    (upd : u.upd = true) (s : State) (l : List Nat) : (s.rotationsLost l).outside u = s.outside u := by
  induction l generalizing s with
  | nil => rfl
  | cons a l ih => simp [State.rotationsLost, ih, attn, lane, lge, grd, vio, lmp, mea, rcd, upd]

/-! ### Vital inputs and outputs -/

@[simp] theorem State.updVin_outside {u : Touch} (vio : u.vio = true) (s : State) (n : Nat) (f : VinState → VinState) :
    (s.updVin n f).outside u = s.outside u := by
  simp [State.updVin, vio]

@[simp] theorem State.frameJudge_outside {u : Touch} (attn : u.attn = true) (vio : u.vio = true) (rcd : u.rcd = true)
    (s : State) (lows : List (Nat × Nat)) (n : Nat) : (s.frameJudge lows n).outside u = s.outside u := by
  simp [State.frameJudge, attn, vio, rcd]

@[simp] theorem State.frameJudgeAll_outside {u : Touch} (attn : u.attn = true) (vio : u.vio = true) (rcd : u.rcd = true)
    (s : State) (obs : List FrameObs) (l : List Nat) : (s.frameJudgeAll obs l).outside u = s.outside u := by
  induction l generalizing s with
  | nil => rfl
  | cons a l ih => simp [State.frameJudgeAll, ih, attn, vio, rcd]

@[simp] theorem State.frameOpen_outside {u : Touch} (vio : u.vio = true) (s : State) : s.frameOpen.outside u = s.outside u
    := by
  simp [State.frameOpen, vio]

@[simp] theorem State.frameStartAll_outside {u : Touch} (vio : u.vio = true) (s : State) (l : List Nat) :
    (s.frameStartAll l).outside u = s.outside u := by
  induction l generalizing s with
  | nil => rfl
  | cons a l ih => simp [State.frameStartAll, ih, vio]

@[simp] theorem State.lineFault_outside {u : Touch} (vio : u.vio = true) (s : State) (k : Nat) (l : List Nat) :
    (s.lineFault k l).outside u = s.outside u := by
  induction l generalizing s with
  | nil => rfl
  | cons a l ih => simp [State.lineFault, ih, vio]

@[simp] theorem State.monFeedback_outside {u : Touch} (attn : u.attn = true) (vio : u.vio = true) (rcd : u.rcd = true)
    (s : State) (n : Nat) : (s.monFeedback n).outside u = s.outside u := by
  simp [State.monFeedback, attn, vio, rcd]

@[simp] theorem State.monFeedbacks_outside {u : Touch} (attn : u.attn = true) (vio : u.vio = true) (rcd : u.rcd = true)
    (s : State) (m : Nat) (l : List Nat) : (s.monFeedbacks m l).outside u = s.outside u := by
  induction l generalizing s with
  | nil => rfl
  | cons a l ih => simp [State.monFeedbacks, ih, attn, vio, rcd]

/-! ### Cluster time and slots -/

@[simp] theorem State.angleLoss_outside {u : Touch} (free : u.free = true) (attn : u.attn = true) (tae : u.tae = true)
    (lmp : u.lmp = true) (rcd : u.rcd = true) (s : State) : s.angleLoss.outside u = s.outside u := by
  simp only [State.angleLoss]
  generalize lost : State.evtTae _ 0 = w
  have lost : w.outside u = s.outside u := by
    rw [← lost, State.evtTae_outside attn tae]
    exact State.outside_tae tae s _
  split
  · simp [free, attn, tae, lmp, rcd, lost]
  · simp [attn, lmp, rcd, lost]

@[simp] theorem State.anglePull_outside {u : Touch} (tae : u.tae = true) (s : State) (t f : Nat) (positive : Bool) :
    (s.anglePull t f positive).outside u = s.outside u := State.outside_tae tae s _

@[simp] theorem State.angleLock_outside {u : Touch} (attn : u.attn = true) (tae : u.tae = true) (lmp : u.lmp = true)
    (rcd : u.rcd = true) (s : State) (t f : Nat) (positive : Bool) : (s.angleLock t f positive).outside u = s.outside u := by
  rw [State.angleLock, State.angleSusp_outside attn lmp rcd, State.evtTae_outside attn tae, State.outside_tae tae,
    State.anglePull_outside tae]

@[simp] theorem State.angleTrack_outside {u : Touch} (free : u.free = true) (attn : u.attn = true) (tae : u.tae = true)
    (lmp : u.lmp = true) (rcd : u.rcd = true) (s : State) (t f : Nat) (positive : Bool) :
    (s.angleTrack t f positive).outside u = s.outside u := by
  rw [State.angleTrack]
  split
  · rw [State.outside_tae tae, State.anglePull_outside tae]
  · split
    · rw [State.angleLoss_outside free attn tae lmp rcd, State.outside_tae tae]
    · exact State.outside_tae tae s _

@[simp] theorem State.crossingTake_outside {u : Touch} (free : u.free = true) (attn : u.attn = true) (tae : u.tae = true)
    (lmp : u.lmp = true) (rcd : u.rcd = true) (s : State) (ch t : Nat) (positive : Bool) :
    (s.crossingTake ch t positive).outside u = s.outside u := by
  simp [State.crossingTake, free, attn, tae, lmp, rcd]

/-! ### Image slots -/

@[simp] theorem State.confirmEntry_outside {u : Touch} (lnb : u.lnb = true) (s : State) :
    s.confirmEntry.outside u = s.outside u := by
  simp [State.confirmEntry, lnb]

@[simp] theorem State.confEnds_outside {u : Touch} (upd : u.upd = true) (s : State) : s.confEnds.outside u = s.outside u
    := by
  simp [State.confEnds, upd]

@[simp] theorem State.confirmHeard_outside {u : Touch} (attn : u.attn = true) (crt : u.crt = true) (lnb : u.lnb = true)
    (rcd : u.rcd = true) (upd : u.upd = true) (s : State) (node : Nat) : (s.confirmHeard node).outside u = s.outside u := by
  simp [State.confirmHeard, attn, crt, lnb, rcd, upd]

/-! ### The lane-bus schedule -/

@[simp] theorem State.syncClear_outside {u : Touch} (lnb : u.lnb = true) (s : State) : s.syncClear.outside u = s.outside u
    := by
  obtain ⟨v, h⟩ := s.syncClear_only
  rw [h]
  exact State.outside_lnb lnb s _

@[simp] theorem State.enterListen_outside {u : Touch} (free : u.free = true) (attn : u.attn = true) (lane : u.lane = true)
    (crt : u.crt = true) (tae : u.tae = true) (lge : u.lge = true) (grd : u.grd = true) (vio : u.vio = true)
    (lmp : u.lmp = true) (lnb : u.lnb = true) (rcd : u.rcd = true) (upd : u.upd = true) (s : State) (len at_ : Nat) :
    (s.enterListen len at_).outside u = s.outside u := by
  simp [State.enterListen, free, attn, lane, crt, tae, lge, grd, vio, lmp, lnb, rcd, upd]

@[simp] theorem State.adoptTime_outside {u : Touch} (lane : u.lane = true) (crt : u.crt = true) (tae : u.tae = true)
    (lnb : u.lnb = true) (s : State) (b : BState) (ct : Int) (at_ m : Nat) :
    (s.adoptTime b ct at_ m).outside u = s.outside u := by
  rw [State.adoptTime]
  have cleared := State.syncClear_outside lnb s
  generalize s.syncClear = w at cleared
  simp [lane, crt, tae, lnb, cleared]

@[simp] theorem State.txFrame_outside {u : Touch} (sent : u.sent = true) (s : State) (fid : Nat)
    (null sync swarm mirror : Bool) (payload : List Word) :
    (s.txFrame fid null sync swarm mirror payload).outside u = s.outside u := by
  simp [State.txFrame, sent]

/-! ### Frames received -/

@[simp] theorem State.countVerdict_outside {u : Touch} (attn : u.attn = true) (lnb : u.lnb = true) (s : State) (y : Bool)
    (owner : Option Nat) (v : Verdict) : (s.countVerdict y owner v).outside u = s.outside u := by
  unfold State.countVerdict
  (repeat' split) <;> simp [attn, lnb]

@[simp] theorem State.xyDecide_outside {u : Touch} (attn : u.attn = true) (lnb : u.lnb = true) (rcd : u.rcd = true)
    (s : State) (exp : Nat) (x y : Option (Copy × Verdict)) : (s.xyDecide exp x y).1.outside u = s.outside u := by
  unfold State.xyDecide
  dsimp only
  (repeat' split) <;> simp [attn, lnb, rcd]

@[simp] theorem State.listenAgain_outside {u : Touch} (lnb : u.lnb = true) (s : State) :
    s.listenAgain.outside u = s.outside u := by
  simp [State.listenAgain, lnb]

@[simp] theorem State.leadAbandon_outside {u : Touch} (free : u.free = true) (attn : u.attn = true) (lane : u.lane = true)
    (crt : u.crt = true) (tae : u.tae = true) (lge : u.lge = true) (grd : u.grd = true) (vio : u.vio = true)
    (lmp : u.lmp = true) (lnb : u.lnb = true) (rcd : u.rcd = true) (upd : u.upd = true) (s : State) :
    s.leadAbandon.outside u = s.outside u := by
  simp [State.leadAbandon, free, attn, lane, crt, tae, lge, grd, vio, lmp, lnb, rcd, upd]

@[simp] theorem State.carrierLost_outside {u : Touch} (attn : u.attn = true) (lnb : u.lnb = true) (s : State)
    (w : Option Nat) : (s.carrierLost w).outside u = s.outside u := by
  unfold State.carrierLost
  (repeat' split) <;> simp [attn, lnb]

@[simp] theorem State.roundEnd_outside {u : Touch} (lnb : u.lnb = true) (s : State) (w rank len : Nat) :
    (s.roundEnd w rank len).outside u = s.outside u := by
  simp [State.roundEnd, lnb]

@[simp] theorem State.rxNote_outside {u : Touch} (lnb : u.lnb = true) (s : State) (a : Accepted) :
    (s.rxNote a).outside u = s.outside u := State.outside_lnb lnb s _

@[simp] theorem State.syncTake_outside {u : Touch} (lane : u.lane = true) (crt : u.crt = true) (tae : u.tae = true)
    (lnb : u.lnb = true) (s : State) (a : Accepted) : (s.syncTake a).outside u = s.outside u := by
  unfold State.syncTake
  dsimp only
  split <;> simp [lane, crt, tae, lnb]

@[simp] theorem State.receive_outside {u : Touch} (now : u.now = true) (free : u.free = true) (attn : u.attn = true)
    (lane : u.lane = true) (crt : u.crt = true) (tae : u.tae = true) (lge : u.lge = true) (grd : u.grd = true)
    (vio : u.vio = true) (lmp : u.lmp = true) (lnb : u.lnb = true) (rcd : u.rcd = true) (upd : u.upd = true) (s : State)
    (use : Nat) (f : RxFrame) (k : State → Accepted → State) (hk : ∀ t a, (k t a).outside u = t.outside u) :
    (s.receive use f k).outside u = s.outside u := by
  unfold State.receive
  extract_lets st w place arb here s0 exp x y s1 s2 bnd wrong good s3 d
  have x1 : s1.outside u = s.outside u := by
    clear_value x
    cases x <;> simp [s1, s0, now, attn, lnb]
  have x2 : s2.outside u = s.outside u := by
    clear_value y s1
    cases y <;> simp [s2, x1, attn, lnb]
  have x3 : s3.outside u = s.outside u := by
    clear_value good s2
    cases good with
    | none => exact x2
    | some _ =>
      simp only [s3]
      split <;> simp [x2, lnb]
  have decided : d.1.outside u = s.outside u := (State.xyDecide_outside attn lnb rcd s3 exp x y).trans x3
  clear_value d
  split
  · rfl
  split
  · rfl
  cases d.2 with
  | some a =>
    have noted : (d.1.rxNote a).outside u = s.outside u := (State.rxNote_outside lnb _ a).trans decided
    dsimp only
    split
    · split
      · exact (State.leadAbandon_outside free attn lane crt tae lge grd vio lmp lnb rcd upd _).trans noted
      · exact (hk _ _).trans noted
    · split
      · split
        · exact (hk _ _).trans ((State.syncTake_outside lane crt tae lnb _ a).trans noted)
        · exact noted
      · exact (State.listenAgain_outside lnb _).trans noted
  | none =>
    dsimp only
    split
    · exact (State.leadAbandon_outside free attn lane crt tae lge grd vio lmp lnb rcd upd _).trans decided
    · split
      · exact (State.enterListen_outside free attn lane crt tae lge grd vio lmp lnb rcd upd _ _ _).trans decided
      · split
        · split
          · exact decided
          · exact (State.carrierLost_outside attn lnb _ _).trans decided
        · exact decided

@[simp] theorem State.reportedBy_outside {u : Touch} (attn : u.attn = true) (lane : u.lane = true) (lge : u.lge = true)
    (grd : u.grd = true) (vio : u.vio = true) (lmp : u.lmp = true) (rcd : u.rcd = true) (upd : u.upd = true) (s : State)
    (k : Nat) : (s.reportedBy k).outside u = s.outside u := by
  simp [State.reportedBy, attn, lane, lge, grd, vio, lmp, rcd, upd]

@[simp] theorem State.reportNoted_outside {u : Touch} (lnb : u.lnb = true) (s : State) (n : Nat) (own : Bool) :
    (s.reportNoted n own).outside u = s.outside u := by
  simp [State.reportNoted, lnb]

@[simp] theorem State.entryTake_outside {u : Touch} (attn : u.attn = true) (lane : u.lane = true) (crt : u.crt = true)
    (tae : u.tae = true) (lge : u.lge = true) (grd : u.grd = true) (vio : u.vio = true) (lmp : u.lmp = true)
    (lnb : u.lnb = true) (rcd : u.rcd = true) (upd : u.upd = true) (s : State) (n t : Nat) (w w1 w2 : Word) :
    (s.entryTake n t w w1 w2).outside u = s.outside u := by
  unfold State.entryTake
  dsimp only
  (repeat' split) <;> simp [attn, lane, crt, tae, lge, grd, vio, lmp, lnb, rcd, upd]

@[simp] theorem State.entriesTake_outside {u : Touch} (attn : u.attn = true) (lane : u.lane = true) (crt : u.crt = true)
    (tae : u.tae = true) (lge : u.lge = true) (grd : u.grd = true) (vio : u.vio = true) (lmp : u.lmp = true) (lnb : u.lnb = true)
    (rcd : u.rcd = true) (upd : u.upd = true) (n t : Nat) :
    ∀ (skip : Nat) (l : List Word) (s : State), (s.entriesTake n t skip l).outside u = s.outside u
  | 0, [], s => by rw [State.entriesTake]
  | _ + 1, [], s => by rw [State.entriesTake]
  | skip + 1, _ :: l, s => by
    rw [State.entriesTake, State.entriesTake_outside attn lane crt tae lge grd vio lmp lnb rcd upd n t skip l s]
  | 0, w :: l, s => by
    rw [State.entriesTake, State.entriesTake_outside attn lane crt tae lge grd vio lmp lnb rcd upd n t (entryMore w) l,
      State.entryTake_outside attn lane crt tae lge grd vio lmp lnb rcd upd]

@[simp] theorem State.consentRestore_outside {u : Touch} (lane : u.lane = true) (s : State) (n k : Nat) (old new : Nat) :
    (s.consentRestore n k old new).outside u = s.outside u := by
  simp [State.consentRestore, lane]

@[simp] theorem State.healthTake_outside {u : Touch} (lane : u.lane = true) (lnb : u.lnb = true) (s : State) (n : Nat)
    (h : Nat) : (s.healthTake n h).outside u = s.outside u := by
  unfold State.healthTake
  dsimp only
  split <;> simp [lane, lnb]

@[simp] theorem State.statusTake_outside {u : Touch} (attn : u.attn = true) (lane : u.lane = true) (crt : u.crt = true)
    (tae : u.tae = true) (lge : u.lge = true) (grd : u.grd = true) (vio : u.vio = true) (lmp : u.lmp = true) (lnb : u.lnb = true)
    (rcd : u.rcd = true) (upd : u.upd = true) (s : State) (w : Nat) (a : Accepted) :
    (s.statusTake w a).outside u = s.outside u := by
  unfold State.statusTake
  extract_lets c n h s1 s2
  have noted : s2.outside u = s.outside u := by
    simp only [s2]
    split
    · exact (State.outside_lnb lnb s1 _).trans (State.healthTake_outside lane lnb s n h)
    · exact State.healthTake_outside lane lnb s n h
  split
  · rfl
  · split
    · exact noted
    · exact (State.entriesTake_outside attn lane crt tae lge grd vio lmp lnb rcd upd _ _ _ _ _).trans noted

@[simp] theorem State.inputTake_outside {u : Touch} (lnb : u.lnb = true) (s : State) (a : Accepted) :
    (s.inputTake a).outside u = s.outside u := by
  simp [State.inputTake, lnb]

@[simp] theorem State.outputTake_outside {u : Touch} (lnb : u.lnb = true) (s : State) (a : Accepted) :
    (s.outputTake a).outside u = s.outside u := by
  simp [State.outputTake, lnb]

@[simp] theorem State.fetchAnswer_outside {u : Touch} (lnb : u.lnb = true) (s : State) :
    ∀ l : List Word, (s.fetchAnswer l).outside u = s.outside u
  | [] => rfl
  | [_] => rfl
  | c :: q :: l => by
    rw [State.fetchAnswer, State.fetchAnswer_outside lnb _ l]
    dsimp only
    split
    · exact State.outside_lnb lnb s _
    · rfl

@[simp] theorem State.fetchTake_outside {u : Touch} (lnb : u.lnb = true) (s : State) (a : Accepted) :
    (s.fetchTake a).outside u = s.outside u := by
  simp [State.fetchTake, lnb]

@[simp] theorem State.coldCount_outside {u : Touch} (attn : u.attn = true) (lnb : u.lnb = true) (s : State) (y : Bool)
    (o : Option Copy) : (s.coldCount y o).outside u = s.outside u := by
  cases o with
  | none => rfl
  | some c => simp [State.coldCount, attn, lnb]

@[simp] theorem State.coldBoundary_outside {u : Touch} (attn : u.attn = true) (lnb : u.lnb = true) (s : State) (y : Bool)
    (o : Option Copy) : (s.coldBoundary y o).outside u = s.outside u := by
  cases o with
  | none => rfl
  | some c =>
    simp only [State.coldBoundary]
    (repeat' split) <;> simp [attn, lnb]

/-! ### Cold start and synchronisation -/

@[simp] theorem State.swarmSend_outside {u : Touch} (sent : u.sent = true) (lnb : u.lnb = true) (s : State) :
    s.swarmSend.outside u = s.outside u := by
  unfold State.swarmSend
  split <;> simp [sent, lnb]

@[simp] theorem State.ctRebase_outside {u : Touch} (tae : u.tae = true) (s : State) : s.ctRebase.outside u = s.outside u
    := by
  simp [State.ctRebase, tae]

@[simp] theorem State.ctCorrect_outside {u : Touch} (tae : u.tae = true) (lnb : u.lnb = true) (s : State) (a rho : Int) :
    (s.ctCorrect a rho).outside u = s.outside u := by
  rw [State.ctCorrect, State.outside_tae tae]
  have rebased := State.ctRebase_outside tae s
  generalize s.ctRebase = w at rebased
  simp [tae, lnb, rebased]

@[simp] theorem State.cycleEnd_outside {u : Touch} (now : u.now = true) (s : State) : s.cycleEnd.outside u = s.outside u
    := by
  simp [State.cycleEnd, now]

@[simp] theorem State.wallAdopt_outside {u : Touch} (attn : u.attn = true) (tae : u.tae = true) (rcd : u.rcd = true)
    (s : State) : s.wallAdopt.outside u = s.outside u := by
  unfold State.wallAdopt
  dsimp only
  split <;> simp [attn, tae, rcd]

/-! ### The field network -/

@[simp] theorem State.portDrop_outside {u : Touch} (fld : u.fld = true) (s : State) (p : Nat) :
    (s.portDrop p).outside u = s.outside u := by
  simp [State.portDrop, fld]

@[simp] theorem State.cmacFail_outside {u : Touch} (attn : u.attn = true) (fld : u.fld = true) (rcd : u.rcd = true)
    (s : State) (p c : Nat) : (s.cmacFail p c).outside u = s.outside u := by
  simp [State.cmacFail, attn, fld, rcd]

@[simp] theorem State.copyAccept_outside {u : Touch} (attn : u.attn = true) (fld : u.fld = true) (rcd : u.rcd = true)
    (s : State) (p c : Nat) (t : Telegram) (up : Bool) : (s.copyAccept p c t up).outside u = s.outside u := by
  simp [State.copyAccept, attn, fld, rcd]

@[simp] theorem State.mimanJudge_outside {u : Touch} (attn : u.attn = true) (fld : u.fld = true) (rcd : u.rcd = true)
    (s : State) (p c : Nat) (b : List Byte) : (s.mimanJudge p c b).outside u = s.outside u := by
  simp [State.mimanJudge, attn, fld, rcd]

/-! ### The recorder -/

@[simp] theorem State.legRead_outside {u : Touch} (rcd : u.rcd = true) (s : State) : s.legRead.outside u = s.outside u := by
  unfold State.legRead
  (repeat' split) <;> simp [rcd]

@[simp] theorem State.legVoid_outside {u : Touch} (rcd : u.rcd = true) (s : State) : s.legVoid.outside u = s.outside u := by
  simp [State.legVoid, rcd]

end Sys2Proof.Machine
end
section
/-! PROOF. The frame of each family, and the way out of the vote (95_what_each_step_holds.md, R15). -/

namespace Sys2Proof.Machine

open Sys2Proof.Safety

theorem State.outside_vio {u : Touch} (vio : u.vio = true) (s : State) (x : Vio) :
    State.outside u { s with vio := x } = s.outside u := by
  simp [vio]

/-- Where the command completes, its state differs from `s` in what `u` names only. -/
def Framed (u : Touch) (s : State) (o : Host.Outcome State Fault Refusal) : Prop := ∀ t, o = .next t → t.outside u = s.outside u

@[simp] theorem framed_next {u : Touch} {s t : State} : Framed u s (.next t) ↔ t.outside u = s.outside u :=
  ⟨fun h => h t rfl, fun h _ e => Host.Outcome.next.inj e ▸ h⟩

@[simp] theorem framed_fault (u : Touch) (s : State) (x : Fault) : Framed u s (.fault x) := by
  intro t e
  cases e

@[simp] theorem framed_ite {u : Touch} {s : State} (p : Prop) [Decidable p] (a b : Host.Outcome State Fault Refusal) :
    Framed u s (if p then a else b) ↔ (p → Framed u s a) ∧ (¬ p → Framed u s b) := by
  split <;> simp [*]

/-! ### The cabinet bus -/

@[simp] theorem execCanFrameStart_framed {u : Touch} (now : u.now = true) (sent : u.sent = true) (free : u.free = true)
    (cab : u.cab = true) (c : Fin 2) (sof : Nat) (s : State) : Framed u s (execCanFrameStart c sof s) := by
  unfold execCanFrameStart
  dsimp only
  (repeat' split) <;> simp [now, sent, free, cab]

@[simp] theorem execCanTxComplete_framed {u : Touch} (attn : u.attn = true) (cab : u.cab = true) (rcd : u.rcd = true)
    (c : Fin 2) (s : State) : Framed u s (execCanTxComplete c s) := by
  unfold execCanTxComplete
  dsimp only
  (repeat' split) <;> simp [attn, cab, rcd]

@[simp] theorem execCanAckError_framed {u : Touch} (attn : u.attn = true) (cab : u.cab = true) (rcd : u.rcd = true)
    (c : Fin 2) (s : State) : Framed u s (execCanAckError c s) := by
  unfold execCanAckError
  dsimp only
  (repeat' split) <;> simp [attn, cab, rcd]

@[simp] theorem execCanError_framed {u : Touch} (attn : u.attn = true) (cab : u.cab = true) (rcd : u.rcd = true)
    (c : Fin 2) (tec rec : Nat) (s : State) : Framed u s (execCanError c tec rec s) := by
  unfold execCanError
  dsimp only
  (repeat' split) <;> simp [attn, cab, rcd]

@[simp] theorem execBusoffRecovered_framed {u : Touch} (now : u.now = true) (cab : u.cab = true) (c : Fin 2) (s : State) :
    Framed u s (execBusoffRecovered c s) := by
  simp [execBusoffRecovered, now, cab]

@[simp] theorem execBusoffRecoveryRequest_framed {u : Touch} (attn : u.attn = true) (crt : u.crt = true)
    (sup : u.sup = true) (cab : u.cab = true) (sid : BitVec 16) (c : Fin 2) (s : State) : Framed u s
    (execBusoffRecoveryRequest sid c s) := by
  simp [execBusoffRecoveryRequest, attn, crt, sup, cab]

@[simp] theorem execReferenceMessageDue_framed {u : Touch} (now : u.now = true) (cab : u.cab = true) (c : Fin 2)
    (s : State) : Framed u s (execReferenceMessageDue c s) := by
  simp [execReferenceMessageDue, now, cab]

@[simp] theorem execCanFrameReceived_framed {u : Touch} (now : u.now = true) (free : u.free = true) (attn : u.attn = true)
    (cab : u.cab = true) (rcd : u.rcd = true) (c : Fin 2) (f : CanFrame) (sof : Nat) (s : State) : Framed u s
    (execCanFrameReceived c f sof s) := by
  unfold execCanFrameReceived
  dsimp only
  (repeat' split) <;> simp [now, free, attn, cab, rcd]

@[simp] theorem execReceiveAcknowledgement_framed {u : Touch} (attn : u.attn = true) (crt : u.crt = true)
    (sup : u.sup = true) (cab : u.cab = true) (sid : BitVec 16) (s : State) : Framed u s
    (execReceiveAcknowledgement sid s) := by
  simp [execReceiveAcknowledgement, attn, crt, sup, cab]

@[simp] theorem execPost_framed {u : Touch} (attn : u.attn = true) (crt : u.crt = true) (sup : u.sup = true)
    (cab : u.cab = true) (sid : BitVec 16) (s : State) : Framed u s (execPost sid s) := by
  simp [execPost, attn, crt, sup, cab]

@[simp] theorem execCancel_framed {u : Touch} (attn : u.attn = true) (crt : u.crt = true) (sup : u.sup = true)
    (cab : u.cab = true) (sid : BitVec 16) (e : Fin 32) (s : State) : Framed u s (execCancel sid e s) := by
  simp [execCancel, attn, crt, sup, cab]

@[simp] theorem execEntryRelease_framed {u : Touch} (attn : u.attn = true) (crt : u.crt = true) (sup : u.sup = true)
    (cab : u.cab = true) (sid : BitVec 16) (e : Fin 32) (s : State) : Framed u s (execEntryRelease sid e s) := by
  simp [execEntryRelease, attn, crt, sup, cab]

/-! ### Lamps and lamp proving -/

@[simp] theorem execLampLiveExpire_framed {u : Touch} (now : u.now = true) (lmp : u.lmp = true) (ch : Fin 32) (s : State) :
    Framed u s (execLampLiveExpire ch s) := by
  unfold execLampLiveExpire
  dsimp only
  (repeat' split) <;> simp [now, lmp]

@[simp] theorem execDarkPulseEnd_framed {u : Touch} (now : u.now = true) (attn : u.attn = true) (lmp : u.lmp = true)
    (rcd : u.rcd = true) (ch : Fin 32) (s : State) : Framed u s (execDarkPulseEnd ch s) := by
  unfold execDarkPulseEnd
  dsimp only
  split <;> simp [now, attn, lmp, rcd]

@[simp] theorem execBlankingEnd_framed {u : Touch} (now : u.now = true) (ch : Fin 32) (s : State) : Framed u s
    (execBlankingEnd ch s) := by
  unfold execBlankingEnd
  split <;> simp [now]

@[simp] theorem execInrushEnd_framed {u : Touch} (now : u.now = true) (ch : Fin 32) (s : State) : Framed u s
    (execInrushEnd ch s) := by
  unfold execInrushEnd
  split <;> simp [now]

@[simp] theorem execProvingOutvoted_framed {u : Touch} (attn : u.attn = true) (lane : u.lane = true) (lge : u.lge = true)
    (grd : u.grd = true) (vio : u.vio = true) (lmp : u.lmp = true) (rcd : u.rcd = true) (upd : u.upd = true) (ch : Fin 32)
    (k : Fin 4) (s : State) : Framed u s (execProvingOutvoted ch k s) := by
  simp [execProvingOutvoted, attn, lane, lge, grd, vio, lmp, rcd, upd]

@[simp] theorem execLearnEnd_framed {u : Touch} (now : u.now = true) (attn : u.attn = true) (lmp : u.lmp = true)
    (rcd : u.rcd = true) (s : State) : Framed u s (execLearnEnd s) := by
  unfold execLearnEnd
  split <;> simp [now, attn, lmp, rcd]

/-! ### Measurement -/

@[simp] theorem execFastSample_framed {u : Touch} (now : u.now = true) (attn : u.attn = true) (lmp : u.lmp = true)
    (mea : u.mea = true) (rcd : u.rcd = true) (ch : Fin 50) (raw : BitVec 17) (t : Nat) (s : State) : Framed u s
    (execFastSample ch raw t s) := by
  simp [execFastSample, now, attn, lmp, mea, rcd]

@[simp] theorem execFineSample_framed {u : Touch} (now : u.now = true) (attn : u.attn = true) (mea : u.mea = true)
    (rcd : u.rcd = true) (ch : Fin 50) (raw : BitVec 25) (t : Nat) (s : State) : Framed u s (execFineSample ch raw t s) := by
  simp [execFineSample, now, attn, mea, rcd]

@[simp] theorem execStabilityReset_framed {u : Touch} (attn : u.attn = true) (mea : u.mea = true) (rcd : u.rcd = true)
    (ch : Fin 50) (s : State) : Framed u s (execStabilityReset ch s) := by
  simp [execStabilityReset, attn, mea, rcd]

@[simp] theorem execRefReady_framed {u : Touch} (now : u.now = true) (mea : u.mea = true) (s : State) : Framed u s
    (execRefReady s) := by
  simp [execRefReady, now, mea]

@[simp] theorem execStartCalibrationEnd_framed {u : Touch} (attn : u.attn = true) (lane : u.lane = true)
    (lge : u.lge = true) (grd : u.grd = true) (vio : u.vio = true) (lmp : u.lmp = true) (mea : u.mea = true)
    (rcd : u.rcd = true) (upd : u.upd = true) (rs : List CalResult) (s : State) : Framed u s
    (execStartCalibrationEnd rs s) := by
  simp [execStartCalibrationEnd, attn, lane, lge, grd, vio, lmp, mea, rcd, upd]

@[simp] theorem execRotationStart_framed {u : Touch} (now : u.now = true) (mea : u.mea = true) (si : Fin 2) (s : State) :
    Framed u s (execRotationStart si s) := by
  unfold execRotationStart
  dsimp only
  (repeat' split) <;> simp [now, mea]

@[simp] theorem execRotationPhaseEnd_framed {u : Touch} (now : u.now = true) (attn : u.attn = true) (lane : u.lane = true)
    (lge : u.lge = true) (grd : u.grd = true) (vio : u.vio = true) (lmp : u.lmp = true) (mea : u.mea = true)
    (rcd : u.rcd = true) (upd : u.upd = true) (si : Fin 2) (off : Int) (gain : Nat) (diff : Int) (s0 : State) :
    Framed u s0 (execRotationPhaseEnd si off gain diff s0) := by
  unfold execRotationPhaseEnd
  dsimp only
  (repeat' split) <;> simp [now, attn, lane, lge, grd, vio, lmp, mea, rcd, upd]

@[simp] theorem execRotationPathSwitch_framed {u : Touch} (now : u.now = true) (attn : u.attn = true)
    (lane : u.lane = true) (lge : u.lge = true) (grd : u.grd = true) (vio : u.vio = true) (lmp : u.lmp = true)
    (mea : u.mea = true) (rcd : u.rcd = true) (upd : u.upd = true) (si : Fin 2) (s : State) : Framed u s
    (execRotationPathSwitch si s) := by
  simp [execRotationPathSwitch, now, attn, lane, lge, grd, vio, lmp, mea, rcd, upd]

@[simp] theorem execRotationCommit_framed {u : Touch} (now : u.now = true) (attn : u.attn = true) (mea : u.mea = true)
    (rcd : u.rcd = true) (si : Fin 2) (s : State) : Framed u s (execRotationCommit si s) := by
  simp [execRotationCommit, now, attn, mea, rcd]

@[simp] theorem execCalstale_framed {u : Touch} (now : u.now = true) (attn : u.attn = true) (mea : u.mea = true)
    (rcd : u.rcd = true) (ch : Fin 48) (s : State) : Framed u s (execCalstale ch s) := by
  rw [execCalstale, framed_next]
  split
  · generalize stale : (s.advance _).updMea _ _ = w
    have stale : w.outside u = s.outside u := by
      rw [← stale, State.updMea_outside mea, State.advance_outside now]
    dsimp only
    split
    · exact stale
    · simp [attn, mea, rcd, stale]
  · rfl

@[simp] theorem execRefLost_framed {u : Touch} (attn : u.attn = true) (lane : u.lane = true) (lge : u.lge = true)
    (grd : u.grd = true) (vio : u.vio = true) (lmp : u.lmp = true) (mea : u.mea = true) (rcd : u.rcd = true)
    (upd : u.upd = true) (s : State) : Framed u s (execRefLost s) := by
  simp [execRefLost, attn, lane, lge, grd, vio, lmp, mea, rcd, upd]

/-! ### Vital inputs and outputs -/

@[simp] theorem execVinFilterChange_framed {u : Touch} (now : u.now = true) (vio : u.vio = true) (n : Fin 64)
    (c : LevelChange) (s : State) : Framed u s (execVinFilterChange n c s) := by
  simp [execVinFilterChange, now, vio]

@[simp] theorem execTpoFrameStart_framed {u : Touch} (now : u.now = true) (attn : u.attn = true) (vio : u.vio = true)
    (rcd : u.rcd = true) (f : Nat) (obs : List FrameObs) (s : State) : Framed u s (execTpoFrameStart f obs s) := by
  rw [execTpoFrameStart, framed_next]
  split
  · dsimp only
    split <;> rw [State.outside_vio vio] <;> simp [now, attn, vio, rcd]
  · rfl

@[simp] theorem execTpoReadbackFault_framed {u : Touch} (attn : u.attn = true) (vio : u.vio = true) (rcd : u.rcd = true)
    (k : Fin 4) (s : State) : Framed u s (execTpoReadbackFault k s) := by
  simp [execTpoReadbackFault, attn, vio, rcd]

@[simp] theorem execVoutLiveExpire_framed {u : Touch} (now : u.now = true) (vio : u.vio = true) (n : Fin 32) (s : State) :
    Framed u s (execVoutLiveExpire n s) := by
  unfold execVoutLiveExpire
  dsimp only
  (repeat' split) <;> simp [now, vio]

@[simp] theorem execVoutDriveFault_framed {u : Touch} (now : u.now = true) (attn : u.attn = true) (lane : u.lane = true)
    (lge : u.lge = true) (grd : u.grd = true) (vio : u.vio = true) (lmp : u.lmp = true) (rcd : u.rcd = true)
    (upd : u.upd = true) (n : Fin 32) (s : State) : Framed u s (execVoutDriveFault n s) := by
  simp [execVoutDriveFault, now, attn, lane, lge, grd, vio, lmp, rcd, upd]

@[simp] theorem execVfbFilterChange_framed {u : Touch} (now : u.now = true) (attn : u.attn = true) (vio : u.vio = true)
    (rcd : u.rcd = true) (m : Fin 32) (c : LevelChange) (s : State) : Framed u s (execVfbFilterChange m c s) := by
  simp [execVfbFilterChange, now, attn, vio, rcd]

@[simp] theorem execMonitorBoundElapsed_framed {u : Touch} (now : u.now = true) (attn : u.attn = true)
    (vio : u.vio = true) (rcd : u.rcd = true) (n : Fin 32) (s : State) : Framed u s (execMonitorBoundElapsed n s) := by
  unfold execMonitorBoundElapsed
  (repeat' split) <;> simp [now, attn, vio, rcd]

@[simp] theorem execLockoutOutvoted_framed {u : Touch} (attn : u.attn = true) (lane : u.lane = true) (lge : u.lge = true)
    (grd : u.grd = true) (vio : u.vio = true) (lmp : u.lmp = true) (rcd : u.rcd = true) (upd : u.upd = true) (n : Fin 32)
    (s : State) : Framed u s (execLockoutOutvoted n s) := by
  simp [execLockoutOutvoted, attn, lane, lge, grd, vio, lmp, rcd, upd]

/-! ### Cluster time and slots -/

@[simp] theorem execZeroCrossing_framed {u : Touch} (free : u.free = true) (attn : u.attn = true) (tae : u.tae = true)
    (lmp : u.lmp = true) (rcd : u.rcd = true) (ch : Fin 2) (t : Nat) (rising : Bool) (s : State) : Framed u s
    (execZeroCrossing ch t rising s) := by
  simp [execZeroCrossing, free, attn, tae, lmp, rcd]

@[simp] theorem execCrossingMissing_framed {u : Touch} (now : u.now = true) (free : u.free = true) (attn : u.attn = true)
    (tae : u.tae = true) (lmp : u.lmp = true) (rcd : u.rcd = true) (ch : Fin 2) (s : State) : Framed u s
    (execCrossingMissing ch s) := by
  unfold execCrossingMissing
  split <;> simp [now, free, attn, tae, lmp, rcd]

@[simp] theorem execSlewEnd_framed {u : Touch} (now : u.now = true) (attn : u.attn = true) (tae : u.tae = true)
    (lmp : u.lmp = true) (rcd : u.rcd = true) (s : State) : Framed u s (execSlewEnd s) := by
  rw [execSlewEnd, framed_next]
  split
  · rw [State.angleSusp_outside attn lmp rcd, State.outside_tae tae, State.angleRebase_outside tae, State.advance_outside now]
  · rfl

/-! ### Frames received -/

@[simp] theorem execStatusFrame_framed {u : Touch} (now : u.now = true) (free : u.free = true) (attn : u.attn = true)
    (lane : u.lane = true) (crt : u.crt = true) (tae : u.tae = true) (lge : u.lge = true) (grd : u.grd = true)
    (vio : u.vio = true) (lmp : u.lmp = true) (lnb : u.lnb = true) (rcd : u.rcd = true) (upd : u.upd = true) (f : RxFrame)
    (s : State) : Framed u s (execStatusFrame f s) := by
  simp [execStatusFrame, now, free, attn, lane, crt, tae, lge, grd, vio, lmp, lnb, rcd, upd]

@[simp] theorem execInputFrame_framed {u : Touch} (now : u.now = true) (free : u.free = true) (attn : u.attn = true)
    (lane : u.lane = true) (crt : u.crt = true) (tae : u.tae = true) (lge : u.lge = true) (grd : u.grd = true)
    (vio : u.vio = true) (lmp : u.lmp = true) (lnb : u.lnb = true) (rcd : u.rcd = true) (upd : u.upd = true) (f : RxFrame)
    (s : State) : Framed u s (execInputFrame f s) := by
  simp [execInputFrame, now, free, attn, lane, crt, tae, lge, grd, vio, lmp, lnb, rcd, upd]

@[simp] theorem execOutputFrame_framed {u : Touch} (now : u.now = true) (free : u.free = true) (attn : u.attn = true)
    (lane : u.lane = true) (crt : u.crt = true) (tae : u.tae = true) (lge : u.lge = true) (grd : u.grd = true)
    (vio : u.vio = true) (lmp : u.lmp = true) (lnb : u.lnb = true) (rcd : u.rcd = true) (upd : u.upd = true) (f : RxFrame)
    (s : State) : Framed u s (execOutputFrame f s) := by
  simp [execOutputFrame, now, free, attn, lane, crt, tae, lge, grd, vio, lmp, lnb, rcd, upd]

@[simp] theorem execFetchRequest_framed {u : Touch} (now : u.now = true) (free : u.free = true) (attn : u.attn = true)
    (lane : u.lane = true) (crt : u.crt = true) (tae : u.tae = true) (lge : u.lge = true) (grd : u.grd = true)
    (vio : u.vio = true) (lmp : u.lmp = true) (lnb : u.lnb = true) (rcd : u.rcd = true) (upd : u.upd = true) (f : RxFrame)
    (s : State) : Framed u s (execFetchRequest f s) := by
  simp [execFetchRequest, now, free, attn, lane, crt, tae, lge, grd, vio, lmp, lnb, rcd, upd]

@[simp] theorem execFetchReply_framed {u : Touch} (now : u.now = true) (free : u.free = true) (attn : u.attn = true)
    (lane : u.lane = true) (crt : u.crt = true) (tae : u.tae = true) (lge : u.lge = true) (grd : u.grd = true)
    (vio : u.vio = true) (lmp : u.lmp = true) (lnb : u.lnb = true) (rcd : u.rcd = true) (upd : u.upd = true) (f : RxFrame)
    (s : State) : Framed u s (execFetchReply f s) := by
  simp [execFetchReply, now, free, attn, lane, crt, tae, lge, grd, vio, lmp, lnb, rcd, upd]

@[simp] theorem execMirrorFrame_framed {u : Touch} (now : u.now = true) (free : u.free = true) (attn : u.attn = true)
    (lane : u.lane = true) (crt : u.crt = true) (tae : u.tae = true) (lge : u.lge = true) (grd : u.grd = true)
    (vio : u.vio = true) (lmp : u.lmp = true) (lnb : u.lnb = true) (rcd : u.rcd = true) (upd : u.upd = true) (f : RxFrame)
    (s : State) : Framed u s (execMirrorFrame f s) := by
  simp [execMirrorFrame, now, free, attn, lane, crt, tae, lge, grd, vio, lmp, lnb, rcd, upd]

@[simp] theorem execStateTransferFrame_framed {u : Touch} (now : u.now = true) (free : u.free = true)
    (attn : u.attn = true) (lane : u.lane = true) (crt : u.crt = true) (tae : u.tae = true) (lge : u.lge = true)
    (grd : u.grd = true) (vio : u.vio = true) (lmp : u.lmp = true) (lnb : u.lnb = true) (rcd : u.rcd = true)
    (upd : u.upd = true) (f : RxFrame) (s : State) : Framed u s (execStateTransferFrame f s) := by
  simp [execStateTransferFrame, now, free, attn, lane, crt, tae, lge, grd, vio, lmp, lnb, rcd, upd]

@[simp] theorem execColdStartFrame_framed {u : Touch} (now : u.now = true) (free : u.free = true) (attn : u.attn = true)
    (lane : u.lane = true) (crt : u.crt = true) (tae : u.tae = true) (lge : u.lge = true) (grd : u.grd = true)
    (vio : u.vio = true) (lmp : u.lmp = true) (lnb : u.lnb = true) (rcd : u.rcd = true) (upd : u.upd = true) (f : RxFrame)
    (s0 : State) : Framed u s0 (execColdStartFrame f s0) := by
  unfold execColdStartFrame
  dsimp only
  (repeat' split) <;> simp [now, free, attn, lane, crt, tae, lge, grd, vio, lmp, lnb, rcd, upd]

@[simp] theorem execCarrierInvalid_framed {u : Touch} (attn : u.attn = true) (lnb : u.lnb = true) (s : State) : Framed u s
    (execCarrierInvalid s) := by
  simp [execCarrierInvalid, attn, lnb]

/-! ### Frames sent -/

@[simp] theorem execGuardianCutoff_framed {u : Touch} (attn : u.attn = true) (lnb : u.lnb = true) (rcd : u.rcd = true)
    (fid : BitVec 10) (s : State) : Framed u s (execGuardianCutoff fid s) := by
  simp [execGuardianCutoff, attn, lnb, rcd]

/-! ### Cold start and synchronisation -/

@[simp] theorem execListenTimeout_framed {u : Touch} (now : u.now = true) (sent : u.sent = true) (lnb : u.lnb = true)
    (carrierBefore : Bool) (s : State) : Framed u s (execListenTimeout carrierBefore s) := by
  simp [execListenTimeout, now, sent, lnb]

@[simp] theorem execWaitExpire_framed {u : Touch} (now : u.now = true) (sent : u.sent = true) (lnb : u.lnb = true)
    (carrierBefore : Bool) (s : State) : Framed u s (execWaitExpire carrierBefore s) := by
  simp [execWaitExpire, now, sent, lnb]

@[simp] theorem execSwarmReadback_framed {u : Touch} (now : u.now = true) (free : u.free = true) (attn : u.attn = true)
    (lane : u.lane = true) (crt : u.crt = true) (tae : u.tae = true) (lge : u.lge = true) (grd : u.grd = true)
    (vio : u.vio = true) (lmp : u.lmp = true) (lnb : u.lnb = true) (rcd : u.rcd = true) (upd : u.upd = true)
    (clean : Bool) (s : State) : Framed u s (execSwarmReadback clean s) := by
  simp [execSwarmReadback, now, free, attn, lane, crt, tae, lge, grd, vio, lmp, lnb, rcd, upd]

@[simp] theorem execClusterFormed_framed {u : Touch} (now : u.now = true) (attn : u.attn = true) (crt : u.crt = true)
    (tae : u.tae = true) (lmp : u.lmp = true) (mea : u.mea = true) (lnb : u.lnb = true) (rcd : u.rcd = true) (s : State) :
    Framed u s (execClusterFormed s) := by
  have clustered : s.clustered.outside u = s.outside u := by
    rw [State.clustered]
    have timed := State.advanceCt_outside now s ((s.lnb.m + 1) * s.basicNs)
    generalize s.advanceCt ((s.lnb.m + 1) * s.basicNs) = w at timed ⊢
    simp [tae, lnb, timed]
  by_cases forms : ((s.lnb.bstate = .lead || s.lnb.bstate = .follow) && decide (2 ≤ s.formers.length) && s.blockLive 9) = true
  · rw [show execClusterFormed s = _ from execClusterFormed_eq s forms, framed_next]
    generalize s.clustered = w at clustered ⊢
    dsimp only
    rw [State.outside_ite, State.timevRise_outside attn crt tae lmp mea rcd, ite_self, State.record_outside attn rcd,
      State.sevtLnb_outside attn lnb, State.syncShift_outside lnb, State.mapNodes_outside lnb, State.outside_ite,
      State.wallStep_outside attn tae rcd, ite_self]
    exact clustered
  · rw [show execClusterFormed s = .next s from next_of_neg forms, framed_next]

@[simp] theorem execAttemptFailed_framed {u : Touch} (now : u.now = true) (free : u.free = true) (attn : u.attn = true)
    (lane : u.lane = true) (crt : u.crt = true) (tae : u.tae = true) (lge : u.lge = true) (grd : u.grd = true)
    (vio : u.vio = true) (lmp : u.lmp = true) (lnb : u.lnb = true) (rcd : u.rcd = true) (upd : u.upd = true) (s : State) :
    Framed u s (execAttemptFailed s) := by
  simp [execAttemptFailed, now, free, attn, lane, crt, tae, lge, grd, vio, lmp, lnb, rcd, upd]

@[simp] theorem execLoneNode_framed {u : Touch} (attn : u.attn = true) (lnb : u.lnb = true) (rcd : u.rcd = true)
    (s : State) : Framed u s (execLoneNode s) := by
  simp [execLoneNode, attn, lnb, rcd]

@[simp] theorem execClockCorrection_framed {u : Touch} (now : u.now = true) (attn : u.attn = true) (tae : u.tae = true)
    (lnb : u.lnb = true) (s : State) : Framed u s (execClockCorrection s) := by
  rw [execClockCorrection, framed_next]
  have timed := State.advanceCt_outside now s s.statusEnd
  generalize s.advanceCt s.statusEnd = w at timed ⊢
  split
  · dsimp only
    split
    · exact (State.outside_lnb lnb w _).trans timed
    · have corrected (a rho : Int) (x : Lnb) : State.outside u { w.ctCorrect a rho with lnb := x } = s.outside u :=
        (State.outside_lnb lnb _ x).trans ((State.ctCorrect_outside tae lnb w a rho).trans timed)
      split
      · exact corrected _ _ _
      · exact (State.sevtLnb_outside attn lnb _ _).trans (corrected _ _ _)
  · rfl

@[simp] theorem execIntegrationCheckPassed_framed {u : Touch} (now : u.now = true) (attn : u.attn = true)
    (crt : u.crt = true) (tae : u.tae = true) (lmp : u.lmp = true) (mea : u.mea = true) (lnb : u.lnb = true)
    (rcd : u.rcd = true) (s : State) : Framed u s (execIntegrationCheckPassed s) := by
  simp [execIntegrationCheckPassed, now, attn, crt, tae, lmp, mea, lnb, rcd]

@[simp] theorem execPassiveReturn_framed {u : Touch} (now : u.now = true) (attn : u.attn = true) (crt : u.crt = true)
    (tae : u.tae = true) (lmp : u.lmp = true) (mea : u.mea = true) (lnb : u.lnb = true) (rcd : u.rcd = true) (s : State) :
    Framed u s (execPassiveReturn s) := by
  simp [execPassiveReturn, now, attn, crt, tae, lmp, mea, lnb, rcd]

@[simp] theorem execSyncLost_framed {u : Touch} (free : u.free = true) (attn : u.attn = true) (lane : u.lane = true)
    (crt : u.crt = true) (tae : u.tae = true) (lge : u.lge = true) (grd : u.grd = true) (vio : u.vio = true)
    (lmp : u.lmp = true) (lnb : u.lnb = true) (rcd : u.rcd = true) (upd : u.upd = true) (s : State) : Framed u s
    (execSyncLost s) := by
  simp [execSyncLost, free, attn, lane, crt, tae, lge, grd, vio, lmp, lnb, rcd, upd]

/-! ### The field network -/

@[simp] theorem execPhyPoll_framed {u : Touch} (now : u.now = true) (attn : u.attn = true) (fld : u.fld = true)
    (rcd : u.rcd = true) (port : Fin 2) (link : LinkState) (s : State) : Framed u s (execPhyPoll port link s) := by
  unfold execPhyPoll
  dsimp only
  (repeat' split) <;> simp [now, attn, fld, rcd]

@[simp] theorem execPortSingle_framed {u : Touch} (attn : u.attn = true) (fld : u.fld = true) (rcd : u.rcd = true)
    (port : Fin 2) (s : State) : Framed u s (execPortSingle port s) := by
  simp [execPortSingle, attn, fld, rcd]

@[simp] theorem execEthernetFrame_framed {u : Touch} (fld : u.fld = true) (port : Fin 2) (fcsOk : Bool)
    (bytes : List Byte) (s : State) : Framed u s (execEthernetFrame port fcsOk bytes s) := by
  simp [execEthernetFrame, fld]

@[simp] theorem execArpRequest_framed {u : Touch} (sent : u.sent = true) (port : Fin 2) (target : Word) (s : State) :
    Framed u s (execArpRequest port target s) := by
  simp [execArpRequest, sent]

@[simp] theorem execIcmpEchoRequest_framed {u : Touch} (sent : u.sent = true) (fld : u.fld = true) (port : Fin 2)
    (dst : Word) (s : State) : Framed u s (execIcmpEchoRequest port dst s) := by
  simp [execIcmpEchoRequest, sent, fld]

@[simp] theorem execMimanTelegram_framed {u : Touch} (attn : u.attn = true) (fld : u.fld = true) (rcd : u.rcd = true)
    (port : Fin 2) (srcIp : Word) (bytes : List Byte) (s : State) : Framed u s (execMimanTelegram port srcIp bytes s) := by
  unfold execMimanTelegram
  split <;> simp [attn, fld, rcd]

/-! ### The recorder -/

@[simp] theorem execRecordCreate_framed {u : Touch} (attn : u.attn = true) (rcd : u.rcd = true) (sev : Fin 6)
    (src code : BitVec 16) (data : List Byte) (s : State) : Framed u s (execRecordCreate sev src code data s) := by
  simp [execRecordCreate, attn, rcd]

@[simp] theorem execFlushPeriod_framed {u : Touch} (now : u.now = true) (rcd : u.rcd = true) (s : State) : Framed u s
    (execFlushPeriod s) := by
  unfold execFlushPeriod
  dsimp only
  (repeat' split) <;> simp [now, rcd]

@[simp] theorem execRecFlush_framed {u : Touch} (attn : u.attn = true) (rcd : u.rcd = true) (ok : Bool) (s : State) :
    Framed u s (execRecFlush ok s) := by
  simp [execRecFlush, attn, rcd]

@[simp] theorem execFreezeStart_framed {u : Touch} (attn : u.attn = true) (rcd : u.rcd = true) (s : State) : Framed u s
    (execFreezeStart s) := by
  simp [execFreezeStart, attn, rcd]

@[simp] theorem execFreezeCommit_framed {u : Touch} (now : u.now = true) (attn : u.attn = true) (rcd : u.rcd = true)
    (s : State) : Framed u s (execFreezeCommit s) := by
  simp [execFreezeCommit, now, attn, rcd]

@[simp] theorem execLegHiRead_framed {u : Touch} (rcd : u.rcd = true) (s : State) : Framed u s (execLegHiRead s) := by
  simp [execLegHiRead, rcd]

@[simp] theorem execLegkeyTimeout_framed {u : Touch} (now : u.now = true) (rcd : u.rcd = true) (s : State) : Framed u s
    (execLegkeyTimeout s) := by
  simp [execLegkeyTimeout, now, rcd]

/-! ### Leaving the vote

The faults of these families end the lane's waves on its way out of the vote, and touch nothing else of those units. -/

/-- The lane keeps its role and differs in what `u` names only, or it has left the vote (R15). -/
def StaysOrLeaves (u : Touch) (s t : State) : Prop :=
  (t.lane.role = s.lane.role ∧ t.outside u = s.outside u) ∨ (s.lane.role ≠ .excluded ∧ t.lane.role = .excluded)

theorem StaysOrLeaves.stays {u : Touch} {s t : State} (out : t.outside u = s.outside u) (core : t.lane.core = s.lane.core) :
    StaysOrLeaves u s t := .inl ⟨congrArg LaneCore.role core, out⟩

theorem StaysOrLeaves.refl (u : Touch) (s : State) : StaysOrLeaves u s s := .inl ⟨rfl, rfl⟩

theorem StaysOrLeaves.trans {u : Touch} {s t w : State} (h : StaysOrLeaves u s t) (k : StaysOrLeaves u t w) :
    StaysOrLeaves u s w := by
  obtain ⟨role, out⟩ | ⟨votes, left⟩ := h
  · obtain ⟨role', out'⟩ | ⟨votes', left'⟩ := k
    · exact .inl ⟨role'.trans role, out'.trans out⟩
    · exact .inr ⟨role ▸ votes', left'⟩
  · obtain ⟨role', -⟩ | ⟨votes', -⟩ := k
    · exact .inr ⟨votes, role'.trans left⟩
    · exact absurd left votes'

theorem StaysOrLeaves.outside_eq {u : Touch} {s t : State} (h : StaysOrLeaves u s t) (role : t.lane.role = s.lane.role) :
    t.outside u = s.outside u := by
  obtain ⟨-, out⟩ | ⟨votes, left⟩ := h
  · exact out
  · exact absurd (role.symm.trans left) votes

theorem State.withdraw_staysOrLeaves {u : Touch} (lane : u.lane = true) (s : State) (x : FaultUnit) :
    StaysOrLeaves u s (s.withdraw x) := by
  by_cases run : s.lane.st = .run
  · by_cases out : s.lane.role = .excluded
    · refine .inl ?_
      rw [State.withdraw, if_pos run, if_pos out]
      split <;> exact ⟨rfl, by simp [lane]⟩
    · exact .inr ⟨out, (s.withdraw_voting x run out).1⟩
  · rw [s.withdraw_outside x run]
    exact .refl u s

/-- What a fault of `s` leads to, where `t` differs from `s` in what `u` names only. -/
theorem State.withdraw_after {u : Touch} (lane : u.lane = true) {s t : State} (out : t.outside u = s.outside u)
    (core : t.lane.core = s.lane.core) (x : FaultUnit) : StaysOrLeaves u s (t.withdraw x) :=
  (StaysOrLeaves.stays out core).trans (t.withdraw_staysOrLeaves lane x)

/-! #### The logic engine -/

/-- The engine after the stores and the rung of an instruction, at the next one. -/
def State.instrStored (s : State) (o0 : HalfOut) (o1 : Option HalfOut) : State :=
  let s1 := ({ s with lge.rung0 := o0.rung } : State).takeStore false o0.store
  let s2 :=
    match o1 with
    | none => s1
    | some o => ({ s1 with lge.rung1 := o.rung } : State).takeStore true o.store
  { s2 with lge.pc := s2.lge.pc + 1 }

theorem State.instrDone_eq (s : State) (o0 : HalfOut) (o1 : Option HalfOut) : s.instrDone o0 o1 =
    if 1536 < bufCount (s.instrStored o0 o1).lge.buf0 || 1536 < bufCount (s.instrStored o0 o1).lge.buf1 then
      ((s.instrStored o0 o1).evtLge 5).scanAbort else s.instrStored o0 o1 := rfl

section
variable {u : Touch} (attn : u.attn = true) (lane : u.lane = true) (lge : u.lge = true)
include attn lane lge

theorem State.scanAbort_staysOrLeaves {s t : State} (out : t.outside u = s.outside u) (core : t.lane.core = s.lane.core) :
    StaysOrLeaves u s t.scanAbort := by
  rw [State.scanAbort]
  refine State.withdraw_after lane ?_ ?_ .lge
  · exact Eq.trans (by simp [lge]) out
  · exact core

theorem State.abort_staysOrLeaves (s : State) (k : Nat) : StaysOrLeaves u s (s.evtLge k).scanAbort :=
  State.scanAbort_staysOrLeaves attn lane lge (by simp [attn, lge]) (by simp)

theorem State.instrDone_staysOrLeaves (s : State) (o0 : HalfOut) (o1 : Option HalfOut) :
    StaysOrLeaves u s (s.instrDone o0 o1) := by
  rw [State.instrDone_eq]
  have kept : (s.instrStored o0 o1).outside u = s.outside u ∧ (s.instrStored o0 o1).lane.core = s.lane.core := by
    unfold State.instrStored
    cases o1 <;> simp [attn, lge]
  obtain ⟨out, core⟩ := kept
  generalize s.instrStored o0 o1 = w at out core
  split
  · exact (StaysOrLeaves.stays out core).trans (State.abort_staysOrLeaves attn lane lge w 5)
  · exact .stays out core

theorem State.runInstr_staysOrLeaves (s : State) (sem : HalfView → Rung → HalfRes) : StaysOrLeaves u s (s.runInstr sem) := by
  unfold State.runInstr
  dsimp only
  split
  · exact State.abort_staysOrLeaves attn lane lge s 4
  · exact State.abort_staysOrLeaves attn lane lge s 2
  · split
    · split
      · exact State.abort_staysOrLeaves attn lane lge s 4
      · exact State.abort_staysOrLeaves attn lane lge s 2
      · exact State.instrDone_staysOrLeaves attn lane lge s _ _
    · exact State.instrDone_staysOrLeaves attn lane lge s _ _

theorem State.closeRegion_staysOrLeaves (s : State) (last : Bool) : StaysOrLeaves u s (s.closeRegion last) := by
  rw [State.closeRegion]
  split
  · exact .stays (by simp [lge]) rfl
  · exact State.abort_staysOrLeaves attn lane lge s 4

theorem State.logic_staysOrLeaves (s : State) (e : Ecc) {f : State → State} (h : ∀ t, StaysOrLeaves u t (f t)) :
    StaysOrLeaves u s (s.logic e f) := by
  rw [State.logic]
  split
  · cases e with
    | none => exact h s
    | corrProgram => exact (StaysOrLeaves.stays (by simp [attn, lge]) (by simp)).trans (h _)
    | corrState => exact (StaysOrLeaves.stays (by simp [attn, lge]) (by simp)).trans (h _)
    | uncProgram => exact State.abort_staysOrLeaves attn lane lge s 2
    | uncState => exact State.abort_staysOrLeaves attn lane lge s 3
  · exact .refl u s

end

/-! ### Leaving the vote: the measurement, the lamps and the vital outputs -/

theorem StaysOrLeaves.ite {u : Touch} {s t w : State} (c : Prop) [Decidable c] (h : StaysOrLeaves u s t)
    (k : StaysOrLeaves u s w) : StaysOrLeaves u s (if c then t else w) := by
  split
  · exact h
  · exact k

section
variable {u : Touch} (now : u.now = true) (attn : u.attn = true) (lane : u.lane = true) (lmp : u.lmp = true)
  (mea : u.mea = true) (rcd : u.rcd = true)

include attn lane lmp mea rcd in
theorem State.chanInvalid_staysOrLeaves (s : State) (n : Nat) : StaysOrLeaves u s (s.chanInvalid n) := by
  rw [State.chanInvalid]
  refine State.withdraw_after lane ?_ ?_ .io
  · split <;> simp [attn, lmp, mea, rcd]
  · split <;> simp

include attn lane lmp mea rcd in
theorem State.calTake_staysOrLeaves : ∀ (l : List CalResult) (s : State), StaysOrLeaves u s (s.calTake l)
  | [], s => .refl u s
  | r :: l, s => by
    rw [State.calTake]
    refine StaysOrLeaves.trans ?_ (State.calTake_staysOrLeaves l _)
    exact .ite _ (.stays (State.updMea_outside mea s _ _) rfl) (State.chanInvalid_staysOrLeaves attn lane lmp mea rcd s _)

include attn lane lmp mea rcd in
theorem State.parallelFail_staysOrLeaves (s : State) (k : Nat) : StaysOrLeaves u s (s.parallelFail k) := by
  rw [State.parallelFail]
  dsimp only
  split
  · refine StaysOrLeaves.trans ?_ (State.chanInvalid_staysOrLeaves attn lane lmp mea rcd _ _)
    exact .stays (by simp [attn, mea, rcd]) (by simp)
  · split
    · exact .stays (State.setSi_outside mea s _ _) (by simp)
    · exact .stays (by simp [attn, mea, rcd]) (by simp)

include attn lane lmp mea rcd in
theorem State.rotationBack_staysOrLeaves (s : State) (k cause : Nat) : StaysOrLeaves u s (s.rotationBack k cause) := by
  rw [State.rotationBack]
  generalize gone : (if (s.si k).leaving then (s.rotationFail k cause).siGone k else s.rotationFail k cause) = w
  have kept : StaysOrLeaves u s w := by
    rw [← gone]
    exact .ite _ (.stays (by simp [attn, mea, rcd]) (by simp)) (.stays (by simp [attn, mea, rcd]) (by simp))
  exact .ite _ (kept.trans (State.chanInvalid_staysOrLeaves attn lane lmp mea rcd w _)) kept

include attn lane lmp mea rcd in
theorem State.rotationsLost_staysOrLeaves : ∀ (l : List Nat) (s : State), StaysOrLeaves u s (s.rotationsLost l)
  | [], s => .refl u s
  | k :: l, s => by
    rw [State.rotationsLost]
    refine StaysOrLeaves.trans ?_ (State.rotationsLost_staysOrLeaves l _)
    exact .ite _ (State.rotationBack_staysOrLeaves attn lane lmp mea rcd s k 3) (.refl u s)

include now attn lane lmp mea rcd

theorem execRotationPhaseEnd_staysOrLeaves {si : Fin 2} {off : Int} {gain : Nat} {diff : Int} {s t : State}
    (done : execRotationPhaseEnd si off gain diff s = .next t) : StaysOrLeaves u s t := by
  obtain rfl := Host.Outcome.next.inj done
  split
  · exact .refl u s
  · dsimp only
    generalize timed : s.advance _ = w
    have kept : StaysOrLeaves u s w := by
      rw [← timed]
      exact .stays (State.advance_outside now s _) rfl
    refine kept.trans ?_
    split
    · exact .ite _ (.stays (by simp [mea]) (by simp)) (.stays (by simp [attn, mea, rcd]) (by simp))
    · exact .ite _ (.stays (by simp [attn, mea, rcd]) (by simp))
        (State.parallelFail_staysOrLeaves attn lane lmp mea rcd w _)
    · exact .ite _ (.stays (State.setSi_outside mea w _ _) (by simp)) (.stays (State.returnFail_outside mea w _) (by simp))
    · exact .ite _ (.stays (State.setSi_outside mea w _ _) (by simp)) (.stays (State.returnFail_outside mea w _) (by simp))
    · exact .refl u w

theorem execRotationPathSwitch_staysOrLeaves {si : Fin 2} {s t : State} (done : execRotationPathSwitch si s = .next t) :
    StaysOrLeaves u s t := by
  obtain rfl := Host.Outcome.next.inj done
  dsimp only
  have switched : StaysOrLeaves u s s.switchNow := .stays (State.switchNow_outside now s) rfl
  generalize s.switchNow = w at switched ⊢
  split
  · split
    · exact switched.trans (State.rotationBack_staysOrLeaves attn lane lmp mea rcd w _ _)
    · exact .ite _ (switched.trans (.stays (by simp [mea]) (by simp))) (.refl u s)
  · exact .refl u s

theorem execStartCalibrationEnd_staysOrLeaves {l : List CalResult} {s t : State}
    (done : execStartCalibrationEnd l s = .next t) : StaysOrLeaves u s t := by
  obtain rfl := Host.Outcome.next.inj done
  split
  · have taken := State.calTake_staysOrLeaves attn lane lmp mea rcd l s
    dsimp only
    generalize s.calTake l = w at taken ⊢
    exact taken.trans (.stays (by simp [mea]) rfl)
  · exact .refl u s

theorem execRefLost_staysOrLeaves {s t : State} (done : execRefLost s = .next t) : StaysOrLeaves u s t := by
  obtain rfl := Host.Outcome.next.inj done
  split
  · dsimp only
    split
    · refine StaysOrLeaves.trans ?_ (State.rotationsLost_staysOrLeaves attn lane lmp mea rcd [0, 1] _)
      exact .stays (by simp [attn, mea, rcd]) (by simp)
    · exact .stays (by simp [mea]) rfl
  · exact .refl u s

end

section
variable {u : Touch} (attn : u.attn = true) (lane : u.lane = true) (rcd : u.rcd = true)
include attn lane rcd

theorem execProvingOutvoted_staysOrLeaves (lmp : u.lmp = true) {ch : Fin 32} {k : Fin 4} {s t : State}
    (done : execProvingOutvoted ch k s = .next t) : StaysOrLeaves u s t := by
  obtain rfl := Host.Outcome.next.inj done
  exact .ite _ (State.withdraw_after lane (by simp [attn, lmp, rcd]) (by simp) .io) (.refl u s)

theorem execLockoutOutvoted_staysOrLeaves (vio : u.vio = true) {n : Fin 32} {s t : State}
    (done : execLockoutOutvoted n s = .next t) : StaysOrLeaves u s t := by
  obtain rfl := Host.Outcome.next.inj done
  exact .ite _ (State.withdraw_after lane (by simp [attn, vio, rcd]) (by simp) .io) (.refl u s)

theorem execVoutDriveFault_staysOrLeaves (now : u.now = true) (vio : u.vio = true) {n : Fin 32} {s t : State}
    (done : execVoutDriveFault n s = .next t) : StaysOrLeaves u s t := by
  obtain rfl := Host.Outcome.next.inj done
  split
  · exact State.withdraw_after lane (by simp [now, attn, vio, rcd]) (by simp) .io
  · exact .refl u s

end

/-! ### The frame of each family -/

/-- What the commands of a family may touch, on the way out of the vote too. -/
def familyTouch : Family → Touch
  | .logic => { attn := true, lane := true, lge := true, grd := true, vio := true, lmp := true, rcd := true, upd :=
                true }
  | .laneBus => { now := true, sent := true, free := true, attn := true, lane := true, crt := true, tae := true, lge
                  := true, grd := true, vio := true, lmp := true, mea := true, lnb := true, rcd := true, upd := true }
  | .can => { now := true, sent := true, free := true, attn := true, crt := true, sup := true, cab := true, rcd :=
              true }
  | .field => { now := true, sent := true, attn := true, fld := true, rcd := true }
  | .measurement => { now := true, attn := true, lane := true, lge := true, grd := true, vio := true, lmp := true, mea
                      := true, rcd := true, upd := true }
  | .lamp => { now := true, attn := true, lane := true, lge := true, grd := true, vio := true, lmp := true, rcd :=
               true, upd := true }
  | .vital => { now := true, attn := true, lane := true, lge := true, grd := true, vio := true, lmp := true, rcd :=
                true, upd := true }
  | .recorder => { now := true, attn := true, rcd := true }
  | .angle => { now := true, free := true, attn := true, tae := true, lmp := true, rcd := true }
  | .other => {}

/-- What the commands of the families that end waves may touch while the lane keeps its role. -/
def votingTouch : Family → Touch
  | .logic => { attn := true, lane := true, lge := true }
  | .measurement => { now := true, attn := true, lane := true, lmp := true, mea := true, rcd := true }
  | .lamp => { now := true, attn := true, lane := true, lmp := true, rcd := true }
  | .vital => { now := true, attn := true, lane := true, vio := true, rcd := true }
  | _ => {}

theorem laneBus_framed {i : Instr} (fam : familyOf i = .laneBus) (s : State) :
    Framed (familyTouch .laneBus) s (exec i s) := by
  cases i with
  | statusFrame | inputFrame | outputFrame | fetchRequest | fetchReply | mirrorFrame | stateTransferFrame
  | guardianCutoff | loneNode | carrierInvalid | listenTimeout | waitExpire | clusterFormed | integrationCheckPassed
  | passiveReturn | coldStartFrame | swarmReadback | clockCorrection | attemptFailed | syncLost =>
    simp [exec, familyTouch]
  | _ => cases fam

theorem can_framed {i : Instr} (fam : familyOf i = .can) (s : State) : Framed (familyTouch .can) s (exec i s) := by
  cases i with
  | canAckError | canError | canFrameReceived | canTxComplete | canFrameStart | referenceMessageDue | busoffRecovered
  | post | cancel | receiveAcknowledgement | entryRelease | busoffRecoveryRequest =>
    simp [exec, familyTouch]
  | _ => cases fam

theorem field_framed {i : Instr} (fam : familyOf i = .field) (s : State) : Framed (familyTouch .field) s (exec i s) := by
  cases i with
  | ethernetFrame | mimanTelegram | phyPoll | portSingle | arpRequest | icmpEchoRequest =>
    simp [exec, familyTouch]
  | _ => cases fam

theorem measurement_framed {i : Instr} (fam : familyOf i = .measurement) (s : State) :
    Framed (familyTouch .measurement) s (exec i s) := by
  cases i with
  | fastSample | fineSample | rotationStart | rotationPhaseEnd | rotationPathSwitch | rotationCommit | stabilityReset
  | startCalibrationEnd | calstale | refReady | refLost =>
    simp [exec, familyTouch]
  | _ => cases fam

theorem lamp_framed {i : Instr} (fam : familyOf i = .lamp) (s : State) : Framed (familyTouch .lamp) s (exec i s) := by
  cases i with
  | darkPulseEnd | blankingEnd | inrushEnd | learnEnd | provingOutvoted | lampLiveExpire =>
    simp [exec, familyTouch]
  | _ => cases fam

theorem vital_framed {i : Instr} (fam : familyOf i = .vital) (s : State) : Framed (familyTouch .vital) s (exec i s) := by
  cases i with
  | vinFilterChange | voutLiveExpire | tpoFrameStart | tpoReadbackFault | vfbFilterChange | monitorBoundElapsed
  | lockoutOutvoted | voutDriveFault =>
    simp [exec, familyTouch]
  | _ => cases fam

theorem recorder_framed {i : Instr} (fam : familyOf i = .recorder) (s : State) :
    Framed (familyTouch .recorder) s (exec i s) := by
  cases i with
  | recordCreate | recFlush | flushPeriod | freezeStart | freezeCommit | legkeyTimeout | legHiRead =>
    simp [exec, familyTouch]
  | _ => cases fam

theorem angle_framed {i : Instr} (fam : familyOf i = .angle) (s : State) : Framed (familyTouch .angle) s (exec i s) := by
  cases i with
  | zeroCrossing | crossingMissing | slewEnd =>
    simp [exec, familyTouch]
  | _ => cases fam

theorem measurement_quiet {i : Instr} (fam : familyOf i = .measurement) {s t : State} (done : exec i s = .next t)
    (role : t.lane.role = s.lane.role) : t.outside (votingTouch .measurement) = s.outside (votingTouch .measurement) := by
  cases i with
  | rotationPhaseEnd => exact StaysOrLeaves.outside_eq (execRotationPhaseEnd_staysOrLeaves rfl rfl rfl rfl rfl rfl done) role
  | rotationPathSwitch => exact StaysOrLeaves.outside_eq (execRotationPathSwitch_staysOrLeaves rfl rfl rfl rfl rfl rfl done) role
  | startCalibrationEnd => exact StaysOrLeaves.outside_eq (execStartCalibrationEnd_staysOrLeaves rfl rfl rfl rfl rfl rfl done) role
  | refLost => exact StaysOrLeaves.outside_eq (execRefLost_staysOrLeaves rfl rfl rfl rfl rfl rfl done) role
  | fastSample | fineSample | rotationStart | rotationCommit | stabilityReset | calstale | refReady =>
    exact (by simp [exec, votingTouch] : Framed (votingTouch .measurement) s _) t done
  | _ => cases fam

theorem lamp_quiet {i : Instr} (fam : familyOf i = .lamp) {s t : State} (done : exec i s = .next t)
    (role : t.lane.role = s.lane.role) : t.outside (votingTouch .lamp) = s.outside (votingTouch .lamp) := by
  cases i with
  | provingOutvoted => exact StaysOrLeaves.outside_eq (execProvingOutvoted_staysOrLeaves rfl rfl rfl rfl done) role
  | darkPulseEnd | blankingEnd | inrushEnd | learnEnd | lampLiveExpire =>
    exact (by simp [exec, votingTouch] : Framed (votingTouch .lamp) s _) t done
  | _ => cases fam

theorem vital_quiet {i : Instr} (fam : familyOf i = .vital) {s t : State} (done : exec i s = .next t)
    (role : t.lane.role = s.lane.role) : t.outside (votingTouch .vital) = s.outside (votingTouch .vital) := by
  cases i with
  | lockoutOutvoted => exact StaysOrLeaves.outside_eq (execLockoutOutvoted_staysOrLeaves rfl rfl rfl rfl done) role
  | voutDriveFault => exact StaysOrLeaves.outside_eq (execVoutDriveFault_staysOrLeaves rfl rfl rfl rfl rfl done) role
  | vinFilterChange | voutLiveExpire | tpoFrameStart | tpoReadbackFault | vfbFilterChange | monitorBoundElapsed =>
    exact (by simp [exec, votingTouch] : Framed (votingTouch .vital) s _) t done
  | _ => cases fam

/-! #### The instructions of the program -/

/-- What an instruction of the program does: it runs, it closes its region, or the engine aborts the scan at its word. -/
def Runs (s : State) (o : Host.Outcome State Fault Refusal) : Prop :=
  ∀ t, o = .next t → (∃ e sem, t = s.logic e fun w => w.runInstr sem) ∨ (∃ e last, t = s.logic e fun w => w.closeRegion last) ∨
    t = s ∨ t = (s.evtLge 2).scanAbort

theorem runs_runInstr (s : State) (e : Ecc) (sem : HalfView → Rung → HalfRes) :
    Runs s (.next (s.logic e fun w => w.runInstr sem)) := fun _ done => .inl ⟨e, sem, (Host.Outcome.next.inj done).symm⟩

theorem runs_closeRegion (s : State) (e : Ecc) (last : Bool) : Runs s (.next (s.logic e fun w => w.closeRegion last)) :=
  fun _ done => .inr (.inl ⟨e, last, (Host.Outcome.next.inj done).symm⟩)

theorem runs_reservedOpcode (s : State) (w : Word) : Runs s (execReservedOpcode w s) := by
  intro t done
  obtain rfl := Host.Outcome.next.inj done
  split
  · exact .inr (.inr (.inr rfl))
  · exact .inr (.inr (.inl rfl))

theorem logic_runs {i : Instr} (fam : familyOf i = .logic) (s : State) : Runs s (exec i s) := by
  cases i with
  | fence e => exact runs_closeRegion s e false
  | endScan e => exact runs_closeRegion s e true
  | reservedOpcode w => exact runs_reservedOpcode s w
  | ld | ldc | andOpen | andOpenNoOperand | blockClose | st | set | rst | ton | tof | ldte | ldtr | edgr | edgf | ldeq
  | ldne | ldlt | ldle | ldgt | ldge | wstk | khi =>
    exact runs_runInstr s _ _
  | _ => cases fam

theorem logic_framed {i : Instr} (fam : familyOf i = .logic) (s : State) : Framed (familyTouch .logic) s (exec i s) := by
  intro t done
  obtain ⟨e, sem, rfl⟩ | ⟨e, last, rfl⟩ | rfl | rfl := logic_runs fam s t done
  · exact State.logic_outside rfl rfl rfl rfl rfl rfl rfl rfl s e _ fun w =>
      State.runInstr_outside rfl rfl rfl rfl rfl rfl rfl rfl w sem
  · exact State.logic_outside rfl rfl rfl rfl rfl rfl rfl rfl s e _ fun w =>
      State.closeRegion_outside rfl rfl rfl rfl rfl rfl rfl rfl w last
  · rfl
  · rw [State.scanAbort_outside rfl rfl rfl rfl rfl rfl rfl rfl, State.evtLge_outside rfl rfl]

theorem logic_quiet {i : Instr} (fam : familyOf i = .logic) {s t : State} (done : exec i s = .next t)
    (role : t.lane.role = s.lane.role) : t.outside (votingTouch .logic) = s.outside (votingTouch .logic) := by
  refine StaysOrLeaves.outside_eq ?_ role
  obtain ⟨e, sem, rfl⟩ | ⟨e, last, rfl⟩ | rfl | rfl := logic_runs fam s t done
  · exact State.logic_staysOrLeaves rfl rfl rfl s e fun w => State.runInstr_staysOrLeaves rfl rfl rfl w sem
  · exact State.logic_staysOrLeaves rfl rfl rfl s e fun w => State.closeRegion_staysOrLeaves rfl rfl rfl w last
  · exact .refl _ _
  · exact State.abort_staysOrLeaves rfl rfl rfl s 2

/-- Settles O54: the commands of a family touch its units only, and those of a fault's way out of the vote only with the role. -/
theorem familyFrames : Obligations.FamilyFrames := by
  intro i s t done
  refine ⟨fun fam => ?_, fun fam role => ?_, fun fam => ?_, fun fam => ?_, fun fam => ?_, fun fam => ?_,
    fun fam role => ?_, fun fam => ?_, fun fam role => ?_, fun fam => ?_, fun fam role => ?_, fun fam => ?_, fun fam => ?_⟩
  · have out := logic_framed fam s t done
    exact ⟨State.cab_of_outside out rfl, State.crt_of_outside out rfl, State.fld_of_outside out rfl,
      State.img_of_outside out rfl, State.inp_of_outside out rfl, State.lnb_of_outside out rfl, State.mea_of_outside
      out rfl, State.sup_of_outside out rfl, State.tae_of_outside out rfl⟩
  · have out := logic_quiet fam done role
    exact ⟨State.lmp_of_outside out rfl, State.vio_of_outside out rfl⟩
  · have out := laneBus_framed fam s t done
    exact ⟨State.cab_of_outside out rfl, State.fld_of_outside out rfl, State.img_of_outside out rfl,
      State.inp_of_outside out rfl, State.sup_of_outside out rfl⟩
  · have out := can_framed fam s t done
    exact ⟨State.fld_of_outside out rfl, State.img_of_outside out rfl, State.inp_of_outside out rfl,
      State.lge_of_outside out rfl, State.lmp_of_outside out rfl, State.lnb_of_outside out rfl, State.mea_of_outside
      out rfl, State.tae_of_outside out rfl, State.upd_of_outside out rfl, State.vio_of_outside out rfl⟩
  · have out := field_framed fam s t done
    exact ⟨State.cab_of_outside out rfl, State.crt_of_outside out rfl, State.img_of_outside out rfl,
      State.inp_of_outside out rfl, State.lge_of_outside out rfl, State.lmp_of_outside out rfl, State.lnb_of_outside
      out rfl, State.mea_of_outside out rfl, State.sup_of_outside out rfl, State.tae_of_outside out rfl,
      State.upd_of_outside out rfl, State.vio_of_outside out rfl⟩
  · have out := measurement_framed fam s t done
    exact ⟨State.cab_of_outside out rfl, State.crt_of_outside out rfl, State.fld_of_outside out rfl,
      State.img_of_outside out rfl, State.inp_of_outside out rfl, State.sup_of_outside out rfl, State.tae_of_outside
      out rfl⟩
  · have out := measurement_quiet fam done role
    exact ⟨State.lge_of_outside out rfl, State.vio_of_outside out rfl⟩
  · have out := lamp_framed fam s t done
    exact ⟨State.cab_of_outside out rfl, State.crt_of_outside out rfl, State.fld_of_outside out rfl,
      State.img_of_outside out rfl, State.inp_of_outside out rfl, State.mea_of_outside out rfl, State.sup_of_outside
      out rfl, State.tae_of_outside out rfl⟩
  · have out := lamp_quiet fam done role
    exact ⟨State.lge_of_outside out rfl, State.vio_of_outside out rfl⟩
  · have out := vital_framed fam s t done
    exact ⟨State.cab_of_outside out rfl, State.crt_of_outside out rfl, State.fld_of_outside out rfl,
      State.img_of_outside out rfl, State.inp_of_outside out rfl, State.lnb_of_outside out rfl, State.mea_of_outside
      out rfl, State.sup_of_outside out rfl, State.tae_of_outside out rfl⟩
  · have out := vital_quiet fam done role
    exact ⟨State.grd_of_outside out rfl, State.lge_of_outside out rfl, State.lmp_of_outside out rfl⟩
  · have out := recorder_framed fam s t done
    exact ⟨State.cab_of_outside out rfl, State.crt_of_outside out rfl, State.fld_of_outside out rfl,
      State.grd_of_outside out rfl, State.img_of_outside out rfl, State.inp_of_outside out rfl, State.lge_of_outside
      out rfl, State.lmp_of_outside out rfl, State.lnb_of_outside out rfl, State.mea_of_outside out rfl,
      State.sup_of_outside out rfl, State.tae_of_outside out rfl, State.upd_of_outside out rfl, State.vio_of_outside
      out rfl⟩
  · have out := angle_framed fam s t done
    exact ⟨State.cab_of_outside out rfl, State.crt_of_outside out rfl, State.fld_of_outside out rfl,
      State.img_of_outside out rfl, State.inp_of_outside out rfl, State.lge_of_outside out rfl, State.mea_of_outside
      out rfl, State.sup_of_outside out rfl, State.upd_of_outside out rfl, State.vio_of_outside out rfl⟩

end Sys2Proof.Machine
end

section
/-! PROOF. What the load, the agreed image and the time of a cycle leave outside the units that they touch. -/

namespace Sys2Proof.Machine

open Sys2Proof.Safety

theorem State.ite_outside {u : Touch} {c : Prop} [Decidable c] {s t w : State} (h : t.outside u = s.outside u)
    (k : w.outside u = s.outside u) : (if c then t else w).outside u = s.outside u := by
  split
  · exact h
  · exact k

/-! ### The recorder's start, and the start faults -/

theorem RecorderOnly.recFault (s : State) (path fault : Nat) : RecorderOnly s (s.recFault path fault) :=
  ((RecorderOnly.record ..).trans (RecorderOnly.evtRec ..)).trans (RecorderOnly.record ..)

theorem RecorderOnly.recStart (s : State) (density : Option Nat) : RecorderOnly s (s.recStart density) := by
  unfold State.recStart
  extract_lets _ s1
  have opened : RecorderOnly s s1 := RecorderOnly.of_rcd ..
  clear_value s1
  split
  · exact opened.trans (RecorderOnly.recFault ..)
  · refine .ite ?_ (opened.trans (RecorderOnly.recFault ..))
    extract_lets s2
    have sized : RecorderOnly s s2 := opened.trans (RecorderOnly.of_rcd ..)
    clear_value s2
    split
    · exact sized.trans (RecorderOnly.of_rcd ..)
    · exact (sized.trans (RecorderOnly.of_rcd ..)).trans (RecorderOnly.recFault ..)

/-- A start fault is shown and recorded, and leaves the rest as it is (R453). -/
theorem State.startFault_only (s : State) (code : Nat) (more : List Nat) :
    RecorderOnly { s with lane.sfault := code } (s.startFault code more) :=
  (RecorderOnly.attn _ 4).trans (RecorderOnly.record ..)

/-! ### The choice of a slot -/

/-- What the choice of a slot may touch. -/
def Touch.slots : Touch := { free := true, attn := true, lane := true, rcd := true, upd := true }

theorem State.startFault_slots (s : State) (code : Nat) (more : List Nat) :
    (s.startFault code more).outside .slots = s.outside .slots :=
  ((s.startFault_only code more).outside_eq rfl rfl).trans rfl

theorem State.recordOpen_slots (s : State) (src : Nat) (data : List Nat) :
    (s.recordOpen src data).outside .slots = s.outside .slots :=
  (State.record_outside rfl rfl s.freeUsed _ _ _ _).trans (State.freeUsed_outside rfl s)

theorem State.slotMatch_slots (s : State) (k : Bool) : (s.slotMatch k).outside .slots = s.outside .slots := by
  unfold State.slotMatch
  extract_lets x
  split
  · rfl
  · exact (State.recordOpen_slots ..).trans (State.setSlot_outside rfl s ..)

theorem State.selectOld_slots (s : State) : s.selectOld.outside .slots = s.outside .slots := by
  unfold State.selectOld
  extract_lets s1
  have cleared : s1.outside .slots = s.outside .slots := rfl
  clear_value s1
  split
  · exact cleared
  · split
    · exact cleared
    · exact (State.startFault_slots ..).trans cleared

theorem State.slotSelect_slots (s : State) : s.slotSelect.outside .slots = s.outside .slots := by
  unfold State.slotSelect
  extract_lets _ _ s1
  have cleared : s1.outside .slots = s.outside .slots := rfl
  clear_value s1
  split
  · exact cleared
  · split
    · exact cleared
    · exact s1.selectOld_slots.trans cleared

/-! ### The words and the acknowledgements of a cycle -/

/-- What the time of a cycle touches besides the wall time. -/
def Touch.words : Touch :=
  { free := true, attn := true, vio := true, lmp := true, mea := true, rcd := true, inp := true }

theorem State.lockAckApply_words (s : State) (a : PendingAck) : (s.lockAckApply a).outside .words = s.outside .words := by
  unfold State.lockAckApply
  extract_lets s1 s2
  have fed : s2.outside .words = s.outside .words :=
    (State.monFeedback_outside rfl rfl rfl _ _).trans ((State.record_outside rfl rfl _ _ _ _ _).trans
      ((State.evtVio_outside rfl rfl _ _).trans (State.updVout_outside rfl s _ _)))
  clear_value s2
  split
  · exact (State.cmdEnd_outside rfl _).trans fed
  · exact fed

theorem State.isoAckApply_words (s : State) (a : PendingAck) : (s.isoAckApply a).outside .words = s.outside .words := by
  unfold State.isoAckApply
  extract_lets _ s1 s2
  have freed : s2.outside .words = s.outside .words :=
    (State.record_outside rfl rfl _ _ _ _ _).trans ((State.evtLmp_outside rfl rfl s1 _).trans rfl)
  clear_value s2
  split
  · exact (State.cmdEnd_outside rfl _).trans freed
  · exact freed

theorem State.wordForms_words : ∀ (l : List Nat) (s : State) (t0 : Nat), (s.wordForms t0 l).outside .words = s.outside .words
  | [], _, _ => rfl
  | n :: l, s, t0 => by
    have formed : (s.wordForm n t0).outside .words = s.outside .words := by
      unfold State.wordForm
      extract_lets st r s0
      have spent : s0.outside .words = s.outside .words := by
        simp only [s0]
        split
        · exact State.freeUsed_outside rfl s
        · rfl
      exact Eq.trans rfl spent
    rw [State.wordForms, State.wordForms_words l]
    split
    · exact formed
    · rfl

theorem State.cycleTime_words (s : State) (t0 n : Nat) : (s.cycleTime t0 n).outside .words =
    (State.wallApply { s with tae.cycnum := n % 4294967296 } n t0).outside .words := by
  unfold State.cycleTime State.wordsForm
  extract_lets _ s1 dv _ s2 dl _ _ s3
  have locks : s2.outside .words = s1.outside .words :=
    (State.foldl_outside State.lockAckApply_words dv _).trans rfl
  have words : s3.outside .words = s1.outside .words :=
    Eq.trans rfl ((State.foldl_outside State.isoAckApply_words dl _).trans (Eq.trans rfl locks))
  clear_value s3
  split
  · exact (State.wordForms_words ..).trans words
  · exact words

/-! ### The agreed image -/

/-- What the application of the agreed image touches, apart from what the other lanes sent. -/
def Touch.image : Touch :=
  { attn := true, lane := true, lge := true, grd := true, vio := true, lmp := true, fld := true, rcd := true, upd := true,
    inp := true }

theorem State.putCells_image : ∀ (l : List (Nat × Cell)) (s : State), (s.putCells l).outside .image = s.outside .image
  | [], _ => rfl
  | (a, c) :: l, s => (State.putCells_image l _).trans (State.putCell_outside rfl s a c)

theorem State.connSafe_image (s : State) (c cause : Nat) : (s.connSafe c cause).outside .image = s.outside .image :=
  (State.record_outside rfl rfl ..).trans (State.evtFld_outside rfl rfl ..)

theorem State.engineStep_image (s : State) (c : Nat) (e : Engine) (t : Telegram) :
    (s.engineStep c e t).1.outside .image = s.outside .image := by
  have faulted (w : State) (sev code : Nat) (k : Nat) (data : List Nat) :
      ((w.evtFld k).record sev 0x0A00 code data).outside .image = w.outside .image :=
    (State.record_outside rfl rfl ..).trans (State.evtFld_outside rfl rfl ..)
  unfold State.engineStep
  dsimp only
  split
  · rfl
  · split
    · exact s.connSafe_image c 1
    · split
      · split
        · exact faulted ..
        · split
          · rfl
          · rfl
      · exact (faulted ..).trans (State.updConn_outside rfl s c _)

theorem State.engineSteps_image : ∀ (l : List Telegram) (s : State) (c : Nat) (e : Engine),
    (s.engineSteps c e l).1.outside .image = s.outside .image
  | [], _, _, _ => rfl
  | t :: l, s, c, e => (State.engineSteps_image l _ c _).trans (s.engineStep_image c e t)

theorem State.engineWatch_image (s : State) (c : Nat) (e : Engine) :
    (s.engineWatch c e).1.outside .image = s.outside .image := by
  unfold State.engineWatch
  dsimp only
  split
  · exact s.connSafe_image c 0
  · split
    · rfl
    · rfl

theorem State.connProcess_image (s : State) (c : Nat) : (s.connProcess c).outside .image = s.outside .image := by
  unfold State.connProcess
  extract_lets st e0 e1 r w e s1 s2
  have updated : s1.outside .image = s.outside .image :=
    (State.updConn_outside rfl ..).trans ((State.engineWatch_image ..).trans (State.engineSteps_image ..))
  clear_value s1 e
  refine (State.putCells_image ..).trans (State.ite_outside ?_ ((State.putCells_image ..).trans updated))
  split
  · exact (State.putCells_image ..).trans updated
  · exact updated

theorem State.connsProcess_image : ∀ (l : List Nat) (s : State), (s.connsProcess l).outside .image = s.outside .image
  | [], _ => rfl
  | c :: l, s => (State.connsProcess_image l _).trans (State.ite_outside (s.connProcess_image c) (State.putCells_image ..))

theorem State.agreedApply_image (s : State) : s.agreedApply.outside .image = s.outside .image := by
  unfold State.agreedApply
  extract_lets cells own inagr _ _ _ s1 s2
  have written : s1.outside .image = s.outside .image :=
    (State.putCells_image ..).trans ((State.putCells_image ..).trans rfl)
  clear_value s1
  have stays : s2.outside .image = s.outside .image :=
    (State.ite_outside (State.withdraw_touches rfl rfl rfl rfl rfl rfl rfl rfl s1 .lnbRx) rfl).trans written
  clear_value s2
  exact Eq.trans rfl ((State.ite_outside (State.connsProcess_image ..) rfl).trans stays)

theorem State.onlineApply_image (s : State) (c : OnlineChange) : (s.onlineApply c).outside .image = s.outside .image := by
  have written (p : ParamEntry) : (s.paramWrite p c.value).outside .image = s.outside .image := by
    unfold State.paramWrite
    split
    · exact State.putCell_outside rfl ..
    · exact State.putCell_outside rfl ..
    · rfl
  unfold State.onlineApply
  split
  · exact (State.record_outside rfl rfl ..).trans ((State.evtUpd_outside rfl rfl ..).trans
      ((State.logAppend_outside rfl ..).trans (written _)))
  · rfl

theorem State.lockoutAgreed_image : ∀ (l : List Nat) (s : State), (s.lockoutAgreed l).outside .image = s.outside .image
  | [], _ => rfl
  | n :: l, s => by
    have counted (f : VoutState → VoutState) := State.updVout_outside (u := .image) rfl s n f
    exact (State.lockoutAgreed_image l _).trans (State.ite_outside (State.ite_outside (counted _)
      ((State.lockMonitor_outside rfl rfl rfl ..).trans (counted _))) (counted _))

theorem State.isolatesAgreed_image : ∀ (l : List Nat) (s : State), (s.isolatesAgreed l).outside .image = s.outside .image
  | [], _ => rfl
  | g :: l, s => by
    refine (State.isolatesAgreed_image l _).trans ?_
    unfold State.isolateAgreed
    refine State.ite_outside ?_ rfl
    split
    · exact (State.record_outside rfl rfl ..).trans ((State.evtLmp_outside rfl rfl ..).trans rfl)
    · rfl

theorem State.latchAgreed_image (s : State) (g : Nat) : (s.latchAgreed g).outside .image = s.outside .image := by
  unfold State.latchAgreed
  split
  · rfl
  · exact State.ite_outside ((State.record_outside rfl rfl ..).trans ((State.evtLmp_outside rfl rfl ..).trans
      (State.updGroup_outside rfl ..))) rfl

theorem State.fallbackAgreed_image (s : State) (g : Nat) : (s.fallbackAgreed g).outside .image = s.outside .image := by
  have counted (t : State) (f : AspectState → AspectState) := State.updGroup_outside (u := .image) rfl t g f
  unfold State.fallbackAgreed
  extract_lets st
  refine State.ite_outside rfl ?_
  split
  · exact State.ite_outside ((State.latchAgreed_image ..).trans (counted ..)) (counted ..)
  · exact State.ite_outside (counted ..) (State.ite_outside ((State.evtLmp_outside rfl rfl ..).trans ((counted ..).trans
      (State.latchClear_outside rfl ..))) (counted ..))
  · exact counted ..

theorem State.fallbacksAgreed_image : ∀ (l : List Nat) (s : State), (s.fallbacksAgreed l).outside .image = s.outside .image
  | [], _ => rfl
  | g :: l, s => (State.fallbacksAgreed_image l _).trans (s.fallbackAgreed_image g)

theorem State.provingCounts_image : ∀ (l : List Nat) (s : State), (s.provingCounts l).outside .image = s.outside .image
  | [], _ => rfl
  | n :: l, s => by
    have counted (f : LampState → LampState) := State.updLamp_outside (u := .image) rfl s n f
    exact (State.provingCounts_image l _).trans (State.ite_outside rfl (State.ite_outside (counted _) (counted _)))

theorem State.agreedFollow_image (s : State) : s.agreedFollow.outside .image = s.outside .image :=
  (State.provingCounts_image ..).trans
    ((State.fallbacksAgreed_image ..).trans ((State.isolatesAgreed_image ..).trans (State.lockoutAgreed_image ..)))

theorem State.onlinesApply_image (s : State) : s.onlinesApply.outside .image = s.outside .image :=
  (State.foldl_outside State.onlineApply_image ..).trans rfl

theorem State.splitApply_image (s : State) : s.splitApply.outside .image = s.outside .image := by
  unfold State.splitApply
  split
  · rfl
  · rfl
  · exact State.ite_outside ((State.fallbackRecord_outside rfl rfl rfl ..).trans rfl) rfl

end Sys2Proof.Machine
end

section
/-! PROOF. Cluster time as the lane's clock gives it (R51, R383): it never runs backwards, and a correction leaves it where it stands. -/

namespace Sys2Proof.Machine

open Sys2Proof.Safety

/-! ### What a correction in the spread has added -/

/-- How much of a correction's 100 µs have passed at clock `t`, in ns (R383). -/
def spreadNs (t : Int) (e : Nat × Int) : Int := max 0 (min 100000 (t - (e.1 : Int)))

/-- What the corrections of a list have taken off cluster time by clock `t`, in 1/10^9 ns (R383). -/
def spreadSum (t : Int) (l : List (Nat × Int)) : Int := (l.map fun e => e.2 * 10000 * spreadNs t e).sum

theorem Tae.drift_eq (x : Tae) (t : Int) :
    x.drift t = ((x.ctFrac : Int) + x.ctRate * (t - x.ctFrom) - spreadSum t x.ctSlew) / 1000000000 := by
  rw [Tae.drift, spreadSum, List.sum_eq_foldl]
  rfl

theorem spreadNs_grows {a b : Int} (h : a ≤ b) (e : Nat × Int) :
    0 ≤ spreadNs b e - spreadNs a e ∧ spreadNs b e - spreadNs a e ≤ b - a := by
  unfold spreadNs
  omega

/-- A correction within ±32 ns takes no more than 320,000 of 10^9 parts of the time that passes. -/
theorem spread_slow {a b : Int} (h : a ≤ b) {e : Nat × Int} (small : e.2.natAbs ≤ 32) :
    e.2 * 10000 * spreadNs b e - e.2 * 10000 * spreadNs a e ≤ 320000 * (b - a) := by
  obtain ⟨lo, hi⟩ := spreadNs_grows h e
  have bound : e.2 ≤ 32 := Int.le_natAbs.trans (Int.ofNat_le.mpr small)
  calc e.2 * 10000 * spreadNs b e - e.2 * 10000 * spreadNs a e
      = 10000 * (e.2 * (spreadNs b e - spreadNs a e)) := by ring
    _ ≤ 10000 * (32 * (b - a)) := mul_le_mul_of_nonneg_left (mul_le_mul bound hi lo (by decide)) (by decide)
    _ = 320000 * (b - a) := by rw [← mul_assoc]; rfl

theorem spreadSum_slow {a b : Int} (h : a ≤ b) : ∀ {l : List (Nat × Int)}, (∀ e ∈ l, e.2.natAbs ≤ 32) →
    spreadSum b l - spreadSum a l ≤ l.length * (320000 * (b - a))
  | [], _ => by simp [spreadSum]
  | e :: l, small => by
    have head := spread_slow h (small e List.mem_cons_self)
    have tail := spreadSum_slow h (l := l) fun x m => small x (List.mem_cons_of_mem e m)
    simp only [spreadSum, List.map_cons, List.sum_cons, List.length_cons] at tail ⊢
    push_cast
    linarith

/-! ### Time runs forwards (R51) -/

/-- At these rates, and with no more than a thousand corrections in the spread, the clock gains on whatever is taken off. -/
theorem Tae.drift_forwards {x : Tae} (rate : x.ctRate.natAbs ≤ 200000) (small : ∀ e ∈ x.ctSlew, e.2.natAbs ≤ 32)
    (few : x.ctSlew.length ≤ 1000) {a b : Int} (h : a ≤ b) : a + x.drift a ≤ b + x.drift b := by
  have slew : spreadSum b x.ctSlew - spreadSum a x.ctSlew ≤ 1000 * (320000 * (b - a)) :=
    (spreadSum_slow h small).trans (Int.mul_le_mul_of_nonneg_right (by omega) (by omega))
  have rated : -200000 * (b - a) ≤ x.ctRate * (b - a) := Int.mul_le_mul_of_nonneg_right (by omega) (by omega)
  have gained : (x.ctFrac : Int) + x.ctRate * (a - x.ctFrom) - spreadSum a x.ctSlew + (a - b) * 1000000000 ≤
      (x.ctFrac : Int) + x.ctRate * (b - x.ctFrom) - spreadSum b x.ctSlew := by linarith
  have floor := Int.ediv_le_ediv (c := 1000000000) (by decide) gained
  rw [Int.add_mul_ediv_right _ _ (by decide)] at floor
  rw [Tae.drift_eq, Tae.drift_eq]
  omega

theorem State.ctAt_forwards {s : State} (rules : RateRules s) (few : s.tae.ctSlew.length ≤ 1000) {a b : Int} (h : a ≤ b) :
    s.ctAt a ≤ s.ctAt b := by
  obtain ⟨-, rate, small⟩ := rules
  have forwards := Tae.drift_forwards rate small few h
  unfold State.ctAt
  split
  · exact le_rfl
  · omega

/-! ### A correction moves nothing (R383) -/

theorem spreadSum_append (t : Int) (l m : List (Nat × Int)) : spreadSum t (l ++ m) = spreadSum t l + spreadSum t m := by
  simp [spreadSum]

/-- What has been spread whole, and what has not. -/
theorem spreadSum_filter (t : Int) (p : Nat × Int → Bool) : ∀ l : List (Nat × Int),
    spreadSum t l = spreadSum t (l.filter p) + spreadSum t (l.filter fun e => !p e)
  | [] => by simp [spreadSum]
  | e :: l => by
    have tail := spreadSum_filter t p l
    simp only [spreadSum] at tail ⊢
    by_cases h : p e = true <;> simp [h] <;> omega

theorem spreadSum_done {t : Int} : ∀ {l : List (Nat × Int)}, (∀ e ∈ l, ((e.1 + 100000 : Nat) : Int) ≤ t) →
    spreadSum t l = (l.map fun e => e.2 * 1000000000).sum
  | [], _ => rfl
  | e :: l, done => by
    have head : spreadNs t e = 100000 := by
      have := done e List.mem_cons_self
      unfold spreadNs
      omega
    have tail := spreadSum_done (l := l) fun x m => done x (List.mem_cons_of_mem e m)
    simp only [spreadSum, List.map_cons, List.sum_cons] at tail ⊢
    rw [tail, head]
    ring

/-- A correction that is still to come has taken nothing off. -/
theorem spreadSum_ahead {t : Int} {n : Nat} (ahead : t ≤ n) (a : Int) : spreadSum t [(n, a)] = 0 := by
  have none_yet : spreadNs t (n, a) = 0 := by
    simp only [spreadNs]
    omega
  simp [spreadSum, none_yet]

theorem State.now_le_clockAt (s : State) (t : Nat) : s.pins.now ≤ s.clockAt t := by
  unfold State.clockAt
  split
  · exact le_rfl
  · exact le_max_left _ _

theorem State.ct_of_off {s : State} {o : Int} (off : s.tae.ctOff = some o) :
    s.ct = ((s.pins.now : Int) + o + s.tae.drift s.pins.now).toNat := by
  simp only [State.ct, State.ctAt, off]

/-- A correction has been spread whole at clock `n`. -/
def spreadDone (n : Nat) (e : Nat × Int) : Bool := decide (e.1 + 100000 ≤ n)

/-- What has been added to cluster time by now but by the corrections still in the spread, in 1/10^9 ns. -/
def State.gained (s : State) : Int :=
  (s.tae.ctFrac : Int) + s.tae.ctRate * ((s.pins.now : Int) - s.tae.ctFrom) -
    spreadSum s.pins.now (s.tae.ctSlew.filter (spreadDone s.pins.now))

/-- What the correction leaves of the time: the offset has what was gained, and the new correction lies ahead. -/
theorem State.ctCorrect_time (s : State) (a rho : Int) : (s.ctCorrect a rho).pins = s.pins ∧
    (s.ctCorrect a rho).tae.ctOff = s.tae.ctOff.map (fun o => o + s.gained / 1000000000) ∧
    (s.ctCorrect a rho).tae.ctFrac = (s.gained % 1000000000).toNat ∧ (s.ctCorrect a rho).tae.ctFrom = s.pins.now ∧
    ∃ n, s.pins.now ≤ n ∧
      (s.ctCorrect a rho).tae.ctSlew = (s.tae.ctSlew.filter fun e => !spreadDone s.pins.now e) ++ [(n, a)] := by
  have done : spreadSum s.pins.now (s.tae.ctSlew.filter (spreadDone s.pins.now)) =
      ((s.tae.ctSlew.filter (spreadDone s.pins.now)).map fun e => e.2 * 1000000000).foldl (· + ·) 0 := by
    rw [spreadSum_done, List.sum_eq_foldl]
    intro e member
    have whole := (List.mem_filter.mp member).2
    simp only [spreadDone, decide_eq_true_eq] at whole
    omega
  have gained : s.gained = (s.tae.ctFrac : Int) + s.tae.ctRate * ((s.pins.now : Int) - s.tae.ctFrom) -
      ((s.tae.ctSlew.filter (spreadDone s.pins.now)).map fun e => e.2 * 1000000000).foldl (· + ·) 0 := by
    rw [State.gained, done]
  rw [gained]
  exact ⟨rfl, rfl, rfl, rfl, _, State.now_le_clockAt { s.ctRebase with tae.ctRate := rho, lnb.rho := rho } _, rfl⟩

/-- What is taken off a gain can be taken off what its whole seconds leave. -/
theorem ediv_carried (g r : Int) : (g - r) / 1000000000 = g / 1000000000 + (g % 1000000000 - r) / 1000000000 := by
  omega

/-- A correction is taken into the offset, and moves cluster time by nothing at that instant (R383). -/
theorem State.ctCorrect_ct (s : State) (a rho : Int) : (s.ctCorrect a rho).ct = s.ct := by
  obtain ⟨pins, off', frac, base, n, ahead, slew⟩ := s.ctCorrect_time a rho
  cases off : s.tae.ctOff with
  | none =>
    rw [off] at off'
    simp only [State.ct, State.ctAt, off, off', Option.map_none]
    rfl
  | some o =>
    replace off' : (s.ctCorrect a rho).tae.ctOff = some (o + s.gained / 1000000000) := by rw [off', off]; rfl
    rw [State.ct_of_off off, State.ct_of_off off', Tae.drift_eq, Tae.drift_eq, pins, frac, base, slew, spreadSum_append,
      spreadSum_ahead (by omega), sub_self, mul_zero]
    have split := spreadSum_filter s.pins.now (spreadDone s.pins.now) s.tae.ctSlew
    generalize left : spreadSum s.pins.now (s.tae.ctSlew.filter fun e => !spreadDone s.pins.now e) = r at split ⊢
    have whole : (s.tae.ctFrac : Int) + s.tae.ctRate * ((s.pins.now : Int) - s.tae.ctFrom) - spreadSum s.pins.now s.tae.ctSlew =
        s.gained - r := by
      rw [split, State.gained, sub_sub]
    rw [whole, Int.toNat_of_nonneg (Int.emod_nonneg _ (by decide)), add_zero, add_zero, ediv_carried s.gained r, ← add_assoc,
      ← add_assoc]

end Sys2Proof.Machine
end

section
/-! PROOF. What cluster time is read from, and the operations that leave all of it as it is. -/

namespace Sys2Proof.Machine

open Sys2Proof.Safety

/-- Every unit that cluster time is not read from. -/
def Touch.offClock : Touch :=
  { sent := true, free := true, attn := true, lane := true, crt := true, sup := true, lge := true, grd := true, vio := true,
    lmp := true, mea := true, fld := true, cab := true, rcd := true, upd := true, inp := true, img := true }

@[simp] theorem Touch.offClock_units : offClock.sent = true ∧ offClock.free = true ∧ offClock.attn = true ∧
    offClock.lane = true ∧ offClock.crt = true ∧ offClock.sup = true ∧ offClock.lge = true ∧ offClock.grd = true ∧
    offClock.vio = true ∧ offClock.lmp = true ∧ offClock.mea = true ∧ offClock.fld = true ∧ offClock.cab = true ∧
    offClock.rcd = true ∧ offClock.upd = true ∧ offClock.inp = true ∧ offClock.img = true := by
  decide

/-- What cluster time, its validity and its corrections are read from (R51, R52, R365, R383). -/
structure Clock where
  now : Nat
  timev : Bool
  bstate : BState
  rho : Int
  off : Option Int
  rate : Int
  base : Nat
  frac : Nat
  slew : List (Nat × Int)
  held : Nat

def State.reading (s : State) : Clock :=
  ⟨s.pins.now, s.tae.timev, s.lnb.bstate, s.lnb.rho, s.tae.ctOff, s.tae.ctRate, s.tae.ctFrom, s.tae.ctFrac, s.tae.ctSlew,
    s.tae.ctHeld⟩

/-- The reading of the state outside the units that cluster time is not read from, so that an operation that keeps to those is
seen to leave it. -/
@[simp] abbrev State.clock (s : State) : Clock := (s.outside .offClock).reading

/-- A state put together from units that read as those of `s` reads as `s`. -/
@[simp] theorem State.clock_mk {s : State} {p l xcrt xsup xtae xlge xgrd xvio xlmp xmea xlnb xfld xcab xrcd xupd xinp ximg}
    (now : p.now = s.pins.now) (timev : xtae.timev = s.tae.timev) (off : xtae.ctOff = s.tae.ctOff)
    (rate : xtae.ctRate = s.tae.ctRate) (base : xtae.ctFrom = s.tae.ctFrom) (frac : xtae.ctFrac = s.tae.ctFrac)
    (slew : xtae.ctSlew = s.tae.ctSlew) (held : xtae.ctHeld = s.tae.ctHeld) (bstate : xlnb.bstate = s.lnb.bstate)
    (rho : xlnb.rho = s.lnb.rho) :
    State.clock ⟨p, l, xcrt, xsup, xtae, xlge, xgrd, xvio, xlmp, xmea, xlnb, xfld, xcab, xrcd, xupd, xinp, ximg,
      s.pending⟩ = s.clock :=
  Clock.mk.injEq .. ▸ ⟨now, timev, bstate, rho, off, rate, base, frac, slew, held⟩

@[simp] theorem State.reading_ite (c : Prop) [Decidable c] (s t : State) :
    (if c then s else t).reading = if c then s.reading else t.reading := apply_ite _ _ _ _

theorem State.clock_of_outside {s t : State} (h : s.outside .offClock = t.outside .offClock) : s.clock = t.clock :=
  congrArg State.reading h

theorem State.clock_of_within {u : Touch} {s t : State} (h : s.outside u = t.outside u) (pins : u.pins = false := by rfl)
    (now : u.now = false := by rfl) (tae : u.tae = false := by rfl) (lnb : u.lnb = false := by rfl) : s.clock = t.clock := by
  show s.reading = t.reading
  rw [State.reading, State.reading, State.now_of_outside h pins now, State.tae_of_outside h tae, State.lnb_of_outside h lnb]

/-- Either branch of a condition reads as `c`. -/
theorem State.ite_clock {c : Clock} {p : Prop} [Decidable p] {a b : State} (ha : a.clock = c) (hb : b.clock = c) :
    (if p then a else b).clock = c := by
  split
  · exact ha
  · exact hb

theorem State.cmdEnd_clock (s : State) : s.cmdEnd.clock = s.clock := State.clock_of_outside (State.cmdEnd_outside rfl s)

theorem State.record_clock (s : State) (sev src code : Nat) (data : List Nat) : (s.record sev src code data).clock = s.clock :=
  State.clock_of_outside (State.record_outside rfl rfl s sev src code data)

theorem State.withdraw_clock (s : State) (u : FaultUnit) : (s.withdraw u).clock = s.clock :=
  State.clock_of_outside (State.withdraw_touches rfl rfl rfl rfl rfl rfl rfl rfl s u)

theorem State.setRole_clock (s : State) (r : Role) : (s.setRole r).clock = s.clock :=
  State.clock_of_outside (State.setRole_outside rfl rfl s r)

theorem State.programSlot_clock (s : State) (k : Bool) (x : SlotState) : (s.programSlot k x).clock = s.clock :=
  State.clock_of_outside (State.programSlot_outside rfl s k x)

theorem State.confEnds_clock (s : State) : s.confEnds.clock = s.clock := State.clock_of_outside (State.confEnds_outside rfl s)

theorem State.freezeEnd_clock (s : State) (abort : Bool) : (s.freezeEnd abort).clock = s.clock :=
  State.clock_of_outside (State.freezeEnd_outside rfl rfl s abort)

theorem State.evtCrt_clock (s : State) (k : Nat) : (s.evtCrt k).clock = s.clock :=
  State.clock_of_outside (State.evtCrt_outside rfl rfl s k)

theorem State.evtLge_clock (s : State) (k : Nat) : (s.evtLge k).clock = s.clock :=
  State.clock_of_outside (State.evtLge_outside rfl rfl s k)

theorem State.useToken_clock (s : State) (n : Nat) : (s.useToken n).clock = s.clock :=
  State.clock_of_outside (State.useToken_outside rfl s n)

theorem State.foldl_clock {α : Type} {f : State → α → State} (h : ∀ s a, (f s a).clock = s.clock) (l : List α) (s : State) :
    (l.foldl f s).clock = s.clock := State.foldl_keeps State.clock h l s

@[simp] theorem State.setSt_clock (s : State) (x : LaneState) : (s.setSt x).clock = s.clock := by
  unfold State.setSt
  (repeat' split) <;> rfl

@[simp] theorem State.evtTae_clock (s : State) (k : Nat) : (s.evtTae k).clock = s.clock := by
  simp [State.evtTae]

@[simp] theorem State.evtLnb_clock (s : State) (k : Nat) : (s.evtLnb k).clock = s.clock := by
  simp [State.evtLnb]

@[simp] theorem State.sevtLnb_clock (s : State) (k : Nat) : (s.sevtLnb k).clock = s.clock := by
  simp [State.sevtLnb]

@[simp] theorem State.putCells_clock (s : State) (l : List (Nat × Cell)) : (s.putCells l).clock = s.clock := by
  induction l generalizing s with
  | nil => rfl
  | cons a l ih => simp [State.putCells, ih]

@[simp] theorem State.connsClose_clock (s : State) (l : List Nat) : (s.connsClose l).clock = s.clock := by
  induction l generalizing s with
  | nil => rfl
  | cons a l ih => simp [State.connsClose, ih]

@[simp] theorem State.recDrop_clock (s : State) (cause sev : Nat) : (s.recDrop cause sev).clock = s.clock := by
  simp [State.recDrop]

@[simp] theorem State.recPut_clock (s : State) (r : Record) : (s.recPut r).clock = s.clock := by
  unfold State.recPut
  (repeat' split) <;> simp

@[simp] theorem State.recMake_clock (s : State) (sev src code : Nat) (data : List Nat) :
    (s.recMake sev src code data).clock = s.clock := by
  unfold State.recMake
  extract_lets r _ s1 s2
  have put : s1.clock = s.clock := State.recPut_clock ..
  have shown : s2.clock = s.clock := State.ite_clock ((State.clock_of_outside (State.attn_outside rfl ..)).trans put) put
  exact State.ite_clock shown shown

@[simp] theorem State.wallStep_clock (s : State) (woff : Int) (wallv : Bool) (cause : Nat) :
    (s.wallStep woff wallv cause).clock = s.clock := by
  simp [State.wallStep]

@[simp] theorem State.learnDark_clock (s : State) : s.learnDark.clock = s.clock := by
  unfold State.learnDark
  split <;> simp

@[simp] theorem State.lampsDark_clock (s0 : State) : s0.lampsDark.clock = s0.clock := State.learnDark_clock ..

@[simp] theorem State.canSafe_clock (s : State) : s.canSafe.clock = s.clock := by
  simp [State.canSafe]

@[simp] theorem State.lgeHalt_clock (s : State) : s.lgeHalt.clock = s.clock := rfl

@[simp] theorem State.entryDrop_clock (s : State) : s.entryDrop.clock = s.clock := by
  unfold State.entryDrop
  dsimp only
  (repeat' split) <;> rfl

@[simp] theorem State.ctlOvertaken_clock (s0 : State) : s0.ctlOvertaken.clock = s0.clock := by
  have ended (t : State) : t.cmdEnd.clock = t.clock := State.cmdEnd_clock t
  have dropped := s0.entryDrop_clock
  unfold State.ctlOvertaken
  generalize s0.entryDrop = s at dropped
  rw [← dropped]
  extract_lets
  split
  · exact ended _
  · split
    · split
      · rfl
      · split
        · exact ended _
        · exact ended _
    · rfl

@[simp] theorem State.maskPatch_clock (s : State) (m : Nat) : (s.maskPatch m).clock = s.clock := by
  unfold State.maskPatch
  (repeat' split) <;> rfl

@[simp] theorem State.cmdRecord_clock (s : State) (op sid : Nat) : (s.cmdRecord op sid).clock = s.clock := by
  simp [State.cmdRecord]

@[simp] theorem State.mapTimeout_clock (s : State) (t0 m : Nat) : (s.mapTimeout t0 m).clock = s.clock := by
  simp [State.mapTimeout]

@[simp] theorem State.angleRebase_clock (s : State) : s.angleRebase.clock = s.clock := rfl

@[simp] theorem State.drainBuf_clock (s : State) : s.drainBuf.clock = s.clock := by
  unfold State.drainBuf
  split <;> rfl

@[simp] theorem State.scanFinish_clock (s : State) : s.scanFinish.clock = s.clock := by
  unfold State.scanFinish
  extract_lets s1 img _ _ _ _ s2 _ s3
  have drained : s2.clock = s.clock := s.drainBuf_clock
  have failed : s3.clock = s.clock := (State.evtLge_clock ..).trans drained
  clear_value s2 s3
  split
  · split
    · exact drained
    · split
      · exact (State.clock_of_outside (State.fallbackWithdraw_outside rfl rfl rfl rfl rfl rfl rfl rfl ..)).trans failed
      · exact (State.withdraw_clock ..).trans failed
  · exact drained

@[simp] theorem State.fallbackEnter_clock (s : State) (gath : Bool) : (s.fallbackEnter gath).clock = s.clock := by
  simp [State.fallbackEnter]

@[simp] theorem State.guardianFault_clock (s : State) (gath : Bool) : (s.guardianFault gath).clock = s.clock := by
  unfold State.guardianFault
  split
  · rfl
  · split
    · exact State.fallbackEnter_clock ..
    · extract_lets s1
      have noted : s1.clock = s.clock := State.ite_clock rfl (State.record_clock ..)
      exact (State.withdraw_clock ..).trans noted

@[simp] theorem State.guardianEvent_clock (s : State) (k : Nat) : (s.guardianEvent k).clock = s.clock := by
  simp [State.guardianEvent]

@[simp] theorem State.grdEcc_clock (s : State) (e : GrdEcc) : (s.grdEcc e).clock = s.clock := by
  unfold State.grdEcc
  split <;> simp

@[simp] theorem State.fallbackExit_clock (s : State) (op : Nat) : (s.fallbackExit op).clock = s.clock := by
  simp [State.fallbackExit]

@[simp] theorem State.isoAck_clock (s : State) (g : Nat) : (s.isoAck g).clock = s.clock := by
  unfold State.isoAck
  split <;> rfl

@[simp] theorem State.learnWrite_clock (s : State) (ch cyc : Nat) : (s.learnWrite ch cyc).clock = s.clock := by
  unfold State.learnWrite
  split <;> rfl

@[simp] theorem State.calStart_clock (s : State) (n : Nat) : (s.calStart n).clock = s.clock := by
  unfold State.calStart
  dsimp only
  split <;> rfl

@[simp] theorem State.calAbortOn_clock (s : State) (k : Nat) : (s.calAbortOn k).clock = s.clock := by
  unfold State.calAbortOn
  dsimp only
  (repeat' split) <;> simp

@[simp] theorem State.calAbort_clock (s : State) (n : Nat) : (s.calAbort n).clock = s.clock := by
  unfold State.calAbort
  dsimp only
  (repeat' split) <;> simp

@[simp] theorem State.monProve_clock (s : State) (l : List Nat) : (s.monProve l).clock = s.clock := by
  induction l generalizing s with
  | nil => rfl
  | cons a l ih => simp [State.monProve, ih]

@[simp] theorem State.lockAck_clock (s : State) (n : Nat) : (s.lockAck n).clock = s.clock := by
  unfold State.lockAck
  split <;> rfl

@[simp] theorem State.angleLoss_clock (s : State) : s.angleLoss.clock = s.clock := by
  unfold State.angleLoss
  dsimp only
  (repeat' split) <;> simp

@[simp] theorem State.anglePull_clock (s : State) (t f : Nat) (positive : Bool) :
    (s.anglePull t f positive).clock = s.clock := rfl

@[simp] theorem State.angleLock_clock (s : State) (t f : Nat) (positive : Bool) :
    (s.angleLock t f positive).clock = s.clock := by
  simp [State.angleLock]

@[simp] theorem State.angleTrack_clock (s : State) (t f : Nat) (positive : Bool) :
    (s.angleTrack t f positive).clock = s.clock := by
  unfold State.angleTrack
  (repeat' split) <;> simp

@[simp] theorem State.crossingTake_clock (s : State) (ch t : Nat) (positive : Bool) :
    (s.crossingTake ch t positive).clock = s.clock := by
  unfold State.crossingTake
  extract_lets c n f _ s1
  have taken : s1.clock = s.clock := rfl
  clear_value s1 f n
  split
  · exact taken
  · split
    · split
      · exact (State.angleTrack_clock ..).trans taken
      · rfl
    · split
      · exact (State.angleLock_clock ..).trans taken
      · exact taken

@[simp] theorem State.slotAct_clock (s0 : State) (act tgt : Nat) (inv : Bool) :
    (s0.slotAct act tgt inv).clock = s0.clock := by
  unfold State.slotAct
  extract_lets _ s
  have noted : s.clock = s0.clock := rfl
  rw [← noted]
  clear_value s
  have window (on : Bool) : (if s.blockLive 7 then s.windowSet tgt on else s).clock = s.clock :=
    State.ite_clock (State.clock_of_outside (State.windowSet_outside rfl ..)) rfl
  split
  · exact State.clock_of_outside (State.meaTrigger_outside rfl rfl rfl s)
  · exact State.clock_of_outside (State.meaSnap_outside rfl s)
  · exact State.clock_of_outside (State.switchFire_outside rfl rfl rfl s tgt)
  · exact window true
  · exact window false
  · exact State.clock_of_outside (State.flashOn_outside rfl rfl rfl s tgt)
  · exact State.clock_of_outside (State.flashOff_outside rfl rfl rfl s tgt)
  · exact State.clock_of_outside (State.darkPulse_outside rfl s tgt)
  · rfl

@[simp] theorem State.tslotFire_clock (s : State) (n : Nat) : (s.tslotFire n).clock = s.clock := State.slotAct_clock ..

@[simp] theorem State.aslotFire_clock (s : State) (n : Nat) : (s.aslotFire n).clock = s.clock := State.slotAct_clock ..

@[simp] theorem State.tslotsFire_clock (s : State) (also : Nat → Bool) (l : List Nat) :
    (s.tslotsFire also l).clock = s.clock := by
  induction l generalizing s with
  | nil => rfl
  | cons a l ih =>
    simp only [State.tslotsFire]
    split <;> simp [ih]

@[simp] theorem State.aslotsFire_clock (s : State) (set0 : Nat) (also : Nat → Bool) (l : List Nat) :
    (s.aslotsFire set0 also l).clock = s.clock := by
  induction l generalizing s with
  | nil => rfl
  | cons a l ih =>
    simp only [State.aslotsFire]
    split <;> simp [ih]

@[simp] theorem State.edgeFire_clock (s : State) (set0 : Nat) (alsoT alsoA : Nat → Bool) :
    (s.edgeFire set0 alsoT alsoA).clock = s.clock := (State.aslotsFire_clock ..).trans (State.tslotsFire_clock ..)

@[simp] theorem State.wallSet_clock (s : State) (hi : Nat) : (s.wallSet hi).clock = s.clock := by
  unfold State.wallSet
  split <;> rfl

@[simp] theorem State.wallApply_clock (s : State) (n t0 : Nat) : (s.wallApply n t0).clock = s.clock := by
  unfold State.wallApply
  extract_lets due
  split
  · rfl
  · extract_lets
    split
    · exact (State.cmdEnd_clock _).trans (State.ite_clock rfl (State.wallStep_clock ..))
    · exact State.ite_clock rfl (State.wallStep_clock ..)

@[simp] theorem State.confirmEntry_clock (s : State) : s.confirmEntry.clock = s.clock := rfl

@[simp] theorem State.confirmHeard_clock (s : State) (node : Nat) : (s.confirmHeard node).clock = s.clock := by
  unfold State.confirmHeard
  extract_lets _ s1
  have heard : s1.clock = s.clock := rfl
  clear_value s1
  split
  · exact (State.confEnds_clock s1).trans heard
  · split
    · exact (State.confirmEntry_clock _).trans ((State.clock_of_outside (State.imageConfirm_outside rfl rfl rfl rfl s1)).trans heard)
    · exact heard

@[simp] theorem State.updNode_clock (s : State) (n : Nat) (f : NodeView → NodeView) :
    (s.updNode n f).clock = s.clock := rfl

@[simp] theorem State.countVerdict_clock (s : State) (y : Bool) (owner : Option Nat) (v : Verdict) :
    (s.countVerdict y owner v).clock = s.clock := by
  have counted (a b : Nat) : (if y then { s with lnb.failY := a } else { s with lnb.failX := b } : State).clock = s.clock :=
    State.ite_clock rfl rfl
  have bounded (a b : Nat) : (if y then { s with lnb.bndY := a } else { s with lnb.bndX := b } : State).clock = s.clock :=
    State.ite_clock rfl rfl
  unfold State.countVerdict
  extract_lets _ fail s1 s2
  have failed (k : Nat) : (fail k).clock = s.clock := (State.evtLnb_clock ..).trans (counted ..)
  have noted : s2.clock = s.clock := (State.evtLnb_clock ..).trans (bounded ..)
  clear_value fail s2
  split
  · rfl
  · split
    · exact noted
    · exact noted
  all_goals exact failed _

@[simp] theorem State.xyDecide_clock (s : State) (exp : Nat) (x y : Option (Copy × Verdict)) :
    (s.xyDecide exp x y).1.clock = s.clock := by
  unfold State.xyDecide
  dsimp only
  (repeat' split) <;> simp

@[simp] theorem State.listenAgain_clock (s : State) : s.listenAgain.clock = s.clock := by
  unfold State.listenAgain
  split <;> rfl

@[simp] theorem State.carrierLost_clock (s : State) (w : Option Nat) : (s.carrierLost w).clock = s.clock := by
  unfold State.carrierLost
  (repeat' split) <;> simp

@[simp] theorem State.rxNote_clock (s : State) (a : Accepted) : (s.rxNote a).clock = s.clock := rfl

@[simp] theorem State.reportNoted_clock (s : State) (n : Nat) (own : Bool) : (s.reportNoted n own).clock = s.clock := rfl

@[simp] theorem State.entryTake_clock (s : State) (n t : Nat) (w w1 w2 : Word) :
    (s.entryTake n t w w1 w2).clock = s.clock := by
  unfold State.entryTake
  extract_lets v r
  split
  · split
    · exact State.ite_clock (State.clock_of_outside (State.reportedBy_outside rfl rfl rfl rfl rfl rfl rfl rfl ..))
        (State.ite_clock rfl rfl)
    · rfl
  · rfl
  · exact State.ite_clock rfl rfl
  · rfl
  · exact State.ite_clock rfl rfl
  · exact State.clock_of_outside (State.switchEntry_outside rfl rfl rfl rfl ..)
  · exact State.ite_clock rfl rfl
  · exact State.ite_clock rfl rfl
  · exact State.confirmHeard_clock ..
  · exact State.evtLnb_clock ..

@[simp] theorem State.healthTake_clock (s : State) (n : Nat) (h : Nat) : (s.healthTake n h).clock = s.clock := by
  unfold State.healthTake
  (repeat' split) <;> simp

@[simp] theorem State.inputTake_clock (s : State) (a : Accepted) : (s.inputTake a).clock = s.clock := by
  unfold State.inputTake
  split <;> simp

@[simp] theorem State.outputTake_clock (s : State) (a : Accepted) : (s.outputTake a).clock = s.clock := by
  unfold State.outputTake
  split <;> simp

@[simp] theorem State.coldCount_clock (s : State) (y : Bool) (x0 : Option Copy) : (s.coldCount y x0).clock = s.clock := by
  unfold State.coldCount
  split <;> simp

@[simp] theorem State.coldBoundary_clock (s : State) (y : Bool) (x0 : Option Copy) :
    (s.coldBoundary y x0).clock = s.clock := by
  unfold State.coldBoundary
  (repeat' split) <;> simp

@[simp] theorem State.frameGone_clock (s : State) (fid : Nat) : (s.frameGone fid).clock = s.clock := by
  unfold State.frameGone
  split <;> rfl

@[simp] theorem State.overrun_clock (s : State) : s.overrun.clock = s.clock := by
  unfold State.overrun
  split <;> simp

@[simp] theorem State.entrySent_clock (s : State) (t : Nat) (e : Entry) : (s.entrySent t e).clock = s.clock := by
  unfold State.entrySent
  extract_lets due w
  split
  case h_4 => exact State.clock_of_outside (State.switchEntry_outside rfl rfl rfl rfl ..)
  all_goals rfl

@[simp] theorem State.entriesSent_clock (s : State) (t : Nat) (l : List Entry) : (s.entriesSent t l).clock = s.clock := by
  induction l generalizing s with
  | nil => rfl
  | cons a l ih => simp [State.entriesSent, ih]

@[simp] theorem State.mirrorEntry_clock (s : State) (t : Nat) : (s.mirrorEntry t).clock = s.clock := by
  unfold State.mirrorEntry
  (repeat' split) <;> rfl

@[simp] theorem State.statusSend_clock (s : State) (fid t : Nat) : (s.statusSend fid t).clock = s.clock := by
  unfold State.statusSend
  split <;> simp

@[simp] theorem State.wallAdopt_clock (s : State) : s.wallAdopt.clock = s.clock := by
  unfold State.wallAdopt
  dsimp only
  (repeat' split) <;> simp

@[simp] theorem State.attemptStart_clock (s : State) : s.attemptStart.clock = s.clock := rfl

@[simp] theorem State.recRevoke_clock (s : State) (cause : Nat) : (s.recRevoke cause).clock = s.clock := by
  unfold State.recRevoke
  split <;> simp

@[simp] theorem State.captureTelegrams_clock (s : State) : s.captureTelegrams.clock = s.clock := by
  unfold State.captureTelegrams
  dsimp only
  (repeat' split) <;> simp

@[simp] theorem State.commitSet_clock (s : State) (t0 : Nat) : (s.commitSet t0).clock = s.clock := by
  unfold State.commitSet
  split <;> rfl

@[simp] theorem State.commitClear_clock (s : State) : s.commitClear.clock = s.clock := rfl

@[simp] theorem State.enterProve_clock (s : State) : s.enterProve.clock = s.clock :=
  (State.monProve_clock ..).trans (State.setSt_clock ..)

@[simp] theorem State.requestEntry_clock (s : State) : s.requestEntry.clock = s.clock := by
  unfold State.requestEntry
  split <;> rfl

@[simp] theorem State.transferWrite_clock (s : State) : s.transferWrite.clock = s.clock := by
  simp [State.transferWrite]

@[simp] theorem State.transferApply_clock (s : State) : s.transferApply.clock = s.clock := by
  unfold State.transferApply
  (repeat' split) <;> simp

@[simp] theorem State.mirrorApply_clock (s : State) : s.mirrorApply.clock = s.clock := by
  have cleared (t : State) : ({ t with upd.lastRewrite := false } : State).clock = t.clock := rfl
  have mirrored (t : State) (ok : Bool) (r : W64) :
      ({ t with lane.mirr := ok, lane.refr := r, lnb.mirRx := [], lnb.mirDig := [] } : State).clock = t.clock := rfl
  unfold State.mirrorApply
  refine (cleared _).trans (State.ite_clock ((State.putCells_clock ..).trans ?_) ?_)
  all_goals exact State.ite_clock (State.ite_clock ((mirrored ..).trans (State.putCells_clock s _)) rfl) rfl

@[simp] theorem State.forcesApply_clock (s : State) : s.forcesApply.clock = s.clock := State.putCells_clock ..

@[simp] theorem State.splitApply_clock (s : State) : s.splitApply.clock = s.clock := State.clock_of_within s.splitApply_image

@[simp] theorem State.scanStart_clock (s : State) : s.scanStart.clock = s.clock := by
  unfold State.scanStart
  (repeat' split) <;> rfl

@[simp] theorem State.consentWithdraw_clock (s : State) (n : Nat) : (s.consentWithdraw n).clock = s.clock := by
  unfold State.consentWithdraw
  split <;> rfl

@[simp] theorem State.compareHolding_clock (s : State) : s.compareHolding.clock = s.clock := rfl

@[simp] theorem State.confirmStep_clock (s : State) : s.confirmStep.clock = s.clock := rfl

@[simp] theorem State.reportsClose_clock (s : State) : s.reportsClose.clock = s.clock := rfl

@[simp] theorem State.fallbackLeave_clock (s : State) : s.fallbackLeave.clock = s.clock := by
  unfold State.fallbackLeave
  split <;> simp

@[simp] theorem State.guardSwap_clock (s : State) : s.guardSwap.clock = s.clock := rfl

@[simp] theorem State.slotsAct_clock (s : State) (l : List Nat) : (s.slotsAct l).clock = s.clock := by
  induction l generalizing s with
  | nil => rfl
  | cons a l ih => simp [State.slotsAct, ih]

@[simp] theorem State.setAngleAdopt_clock (s : State) (t0 : Nat) : (s.setAngleAdopt t0).clock = s.clock := by
  unfold State.setAngleAdopt
  dsimp only
  (repeat' split) <;> simp

@[simp] theorem State.commitOutputs_clock (s : State) (n tc : Nat) (sends : Bool) :
    (s.commitOutputs n tc sends).clock = s.clock := by
  unfold State.commitOutputs
  extract_lets img read _ _ _ s0 s1 s2 s3
  have start : s0.clock = s.clock :=
    State.ite_clock (p := sends = true) (a := s) rfl (State.clock_of_outside (State.wavesCut_outside rfl rfl s))
  have vital : s1.clock = s.clock :=
    State.ite_clock ((State.clock_of_outside (State.voutsCommit_outside rfl rfl rfl ..)).trans start) start
  have lamps : s2.clock = s.clock :=
    State.ite_clock ((State.clock_of_outside (State.lampsRefresh_outside rfl rfl rfl ..)).trans
      ((State.clock_of_outside (State.lampsCommit_outside rfl rfl rfl ..)).trans vital)) vital
  have telegrams : s3.clock = s.clock :=
    State.ite_clock ((State.clock_of_outside (State.telegramsCommit_outside rfl rfl rfl ..)).trans lamps) lamps
  exact (State.clock_of_outside (State.mapsCommit_outside rfl rfl ..)).trans telegrams

@[simp] theorem State.queueFrames_clock (s : State) (use : Nat) (es : List (List Word)) :
    (s.queueFrames use es).clock = s.clock := by
  unfold State.queueFrames
  (repeat' split) <;> rfl

@[simp] theorem State.mirrorForm_clock (s : State) (n : Nat) : (s.mirrorForm n).clock = s.clock := by
  unfold State.mirrorForm
  extract_lets
  exact State.ite_clock (State.queueFrames_clock ..) rfl

@[simp] theorem State.transfersSend_clock (s : State) (l : List Nat) : (s.transfersSend l).clock = s.clock := by
  induction l generalizing s with
  | nil => rfl
  | cons a l ih => simp [State.transfersSend, ih]

@[simp] theorem State.commitRun_clock (s : State) (n tc : Nat) : (s.commitRun n tc).clock = s.clock := by
  unfold State.commitRun
  extract_lets ok sends s1 s2 s3
  have shown : s1.clock = s.clock := State.ite_clock (State.commitOutputs_clock ..) rfl
  clear_value s1
  have formed : s2.clock = s.clock := State.ite_clock ((State.mirrorForm_clock s1 n).trans shown) shown
  clear_value s2
  have sent : s3.clock = s.clock := State.ite_clock ((State.transfersSend_clock ..).trans formed) formed
  clear_value s3
  exact (State.clock_of_outside (State.targetedStart_outside rfl rfl s3)).trans sent

@[simp] theorem State.roleYield_clock (s : State) : s.roleYield.clock = s.clock := by
  simp [State.roleYield]

@[simp] theorem State.commitDone_clock (s : State) (t0 : Nat) : (s.commitDone t0).clock = s.clock := by
  unfold State.commitDone
  split <;> rfl

@[simp] theorem State.singleCount_clock (s : State) (n : Nat) : (s.singleCount n).clock = s.clock := by
  unfold State.singleCount
  dsimp only
  (repeat' split) <;> simp

@[simp] theorem State.singleCounts_clock (s : State) (l : List Nat) : (s.singleCounts l).clock = s.clock := by
  induction l generalizing s with
  | nil => rfl
  | cons a l ih => simp [State.singleCounts, ih]

@[simp] theorem State.guardCompare_clock (s : State) (diff : Nat) : (s.guardCompare diff).clock = s.clock := by
  unfold State.guardCompare
  split <;> simp

@[simp] theorem State.recCount_clock (s : State) : s.recCount.clock = s.clock := rfl

@[simp] theorem State.switchoverEntry_clock (s : State) (toSet : Bool) : (s.switchoverEntry toSet).clock = s.clock := rfl

@[simp] theorem State.supSwitchover_clock (s : State) : s.supSwitchover.clock = s.clock := by
  unfold State.supSwitchover
  split <;> simp

@[simp] theorem State.switchFail_clock (s : State) (x : Switch) : (s.switchFail x).clock = s.clock := by
  have ended (t : State) : t.cmdEnd.clock = t.clock := State.cmdEnd_clock t
  unfold State.switchFail
  extract_lets _ s1
  split
  · rfl
  · split
    · exact (ended _).trans (State.clock_of_outside (State.handoverEnded_outside rfl rfl rfl ..))
    · exact ended _

@[simp] theorem State.switchIn_clock (s : State) (x : Switch) : (s.switchIn x).clock = s.clock := by
  have taken : (s.setRole .holding).clock = s.clock := State.setRole_clock s .holding
  unfold State.switchIn
  generalize s.setRole .holding = w at taken
  extract_lets back _ _ _ s1
  have driven : s1.clock = s.clock := (State.clock_of_outside (State.drivesOn_outside rfl rfl rfl rfl _)).trans taken
  clear_value s1
  split
  · exact (State.confEnds_clock s1).trans driven
  · split
    · exact (State.programSlot_clock ..).trans driven
    · exact driven

@[simp] theorem State.switchOut_clock (s : State) (x : Switch) : (s.switchOut x).clock = s.clock := by
  unfold State.switchOut
  (repeat' split) <;> simp

@[simp] theorem State.switchDone_clock (s : State) (x : Switch) : (s.switchDone x).clock = s.clock := by
  have ended (t : State) : t.cmdEnd.clock = t.clock := State.cmdEnd_clock t
  unfold State.switchDone
  split
  · rfl
  · split
    · exact (ended _).trans (State.ite_clock rfl (State.clock_of_outside (State.handoverEnded_outside rfl rfl rfl ..)))
    · split
      · exact ended _
      · rfl

@[simp] theorem State.freezeWrite_clock (s : State) (sid : Nat) : (s.freezeWrite sid).clock = s.clock := by
  unfold State.freezeWrite
  split <;> rfl

@[simp] theorem State.cursorTo_clock (s : State) (sid : Nat) (r : Option Record) (want : Option Nat) :
    (s.cursorTo sid r want).clock = s.clock := by
  unfold State.cursorTo
  split <;> rfl

@[simp] theorem State.cursorOp_clock (s : State) (sid op : Nat) : (s.cursorOp sid op).clock = s.clock := by
  unfold State.cursorOp
  (repeat' split) <;> simp

@[simp] theorem State.recClear_clock (s : State) (level path : Nat) : (s.recClear level path).clock = s.clock := by
  simp [State.recClear]

@[simp] theorem State.legKey_clock (s : State) (sid key : Nat) : (s.legKey sid key).clock = s.clock := by
  unfold State.legKey
  (repeat' split) <;> simp

@[simp] theorem State.startFault_clock (s : State) (code : Nat) (more : List Nat) :
    (s.startFault code more).clock = s.clock :=
  State.clock_of_within (s.startFault_slots code more)

@[simp] theorem State.recFault_clock (s : State) (path : Nat) (fault : Nat) :
    (s.recFault path fault).clock = s.clock :=
  State.clock_of_outside ((RecorderOnly.recFault s path fault).outside_eq rfl rfl)

@[simp] theorem State.recStart_clock (s : State) (density : Option Nat) : (s.recStart density).clock = s.clock :=
  State.clock_of_outside ((RecorderOnly.recStart s density).outside_eq rfl rfl)

@[simp] theorem State.refSwitch_clock (s : State) (toRec : Bool) (why : Nat) :
    (s.refSwitch toRec why).clock = s.clock := by
  simp [State.refSwitch]

@[simp] theorem State.classLasting_clock (s : State) (u : FaultUnit) : (s.classLasting u).clock = s.clock := by
  unfold State.classLasting
  split <;> rfl

@[simp] theorem State.crtFault_clock (s : State) : s.crtFault.clock = s.clock := by
  unfold State.crtFault
  split <;> simp

@[simp] theorem State.grdRunEnd_clock (s : State) : s.grdRunEnd.clock = s.clock := by
  unfold State.grdRunEnd
  split <;> rfl

@[simp] theorem State.testReport_clock (s : State) (t : SelfTest) (fail lasting : Bool) (duration : Nat) :
    (s.testReport t fail lasting duration).clock = s.clock := by
  have shown (t : State) (w : Word) : ({ t with crt.bistres := w } : State).clock = t.clock := rfl
  unfold State.testReport
  exact (State.record_clock ..).trans
    ((State.evtCrt_clock _ 5).trans
      ((shown _ _).trans (State.ite_clock (State.clock_of_outside (State.freeUsed_outside rfl s)) rfl)))

@[simp] theorem State.classTransient_clock (s : State) (u : FaultUnit) : (s.classTransient u).clock = s.clock := by
  unfold State.classTransient
  extract_lets _ s1
  have counted : s1.clock = s.clock := rfl
  clear_value s1
  split
  · exact counted
  · split
    · exact (State.requestEntry_clock _).trans counted
    · exact counted

@[simp] theorem State.plannedEnd_clock (s : State) (pass : Bool) : (s.plannedEnd pass).clock = s.clock := by
  have ended : (s.plannedEnd pass).clock = (({ s with crt.bist := if pass then .completed else .failed } : State).cmdEnd).clock := by
    unfold State.plannedEnd
    extract_lets s1
    clear_value s1
    split
    · split
      · exact State.requestEntry_clock _
      · rfl
    · rfl
  exact ended.trans (State.cmdEnd_clock _)

@[simp] theorem State.plannedTest_clock (s : State) (at_ : Nat) : (s.plannedTest at_).clock = s.clock := by
  unfold State.plannedTest
  dsimp only
  split <;> rfl

@[simp] theorem State.bistWrite_clock (s : State) (g : Nat) : (s.bistWrite g).clock = s.clock := by
  unfold State.bistWrite
  split
  · rfl
  · split
    · exact State.plannedTest_clock ..
    · split <;> rfl

@[simp] theorem State.bistAbortWrite_clock (s : State) : s.bistAbortWrite.clock = s.clock := by
  have requested (t : State) : (if t.lane.st = .run ∧ t.lane.role = .excluded then
      ({ t with lane.reintReq := true } : State).requestEntry else t).clock = t.clock :=
    State.ite_clock (State.requestEntry_clock _) rfl
  unfold State.bistAbortWrite
  split
  · exact State.cmdEnd_clock _
  · split
    · split
      · exact (requested _).trans ((State.cmdEnd_clock _).trans (State.grdRunEnd_clock _))
      · split
        · rfl
        · rfl
    · rfl

@[simp] theorem State.keyburnWrite_clock (s : State) : s.keyburnWrite.clock = s.clock := by
  unfold State.keyburnWrite
  (repeat' split) <;> rfl

@[simp] theorem State.setCons_clock (s : State) (k : Fin 2) (b : Bool) : (s.setCons k b).clock = s.clock := by
  unfold State.setCons
  split <;> rfl

@[simp] theorem State.pfailRecord_clock (s : State) : s.pfailRecord.clock = s.clock := by
  simp [State.pfailRecord]

@[simp] theorem State.recordOpen_clock (s : State) (src : Nat) (data : List Nat) :
    (s.recordOpen src data).clock = s.clock :=
  State.clock_of_within (s.recordOpen_slots src data)

@[simp] theorem State.slotMatch_clock (s : State) (k : Bool) : (s.slotMatch k).clock = s.clock := State.clock_of_within (s.slotMatch_slots k)

@[simp] theorem State.selectOld_clock (s : State) : s.selectOld.clock = s.clock := State.clock_of_within s.selectOld_slots

@[simp] theorem State.slotSelect_clock (s : State) : s.slotSelect.clock = s.clock := State.clock_of_within s.slotSelect_slots

@[simp] theorem State.enterLoad_clock (s : State) : s.enterLoad.clock = s.clock := State.setSt_clock ..

@[simp] theorem State.blockGood_clock (s : State) (k : Nat) (b : List Byte) : (s.blockGood k b).clock = s.clock := by
  unfold State.blockGood
  dsimp only
  split <;> rfl

@[simp] theorem State.blockBad_clock (s : State) (chip : Chip) (k : Nat) : (s.blockBad chip k).clock = s.clock := by
  unfold State.blockBad
  extract_lets _ s1
  have noted : s1.clock = s.clock := by
    cases chip <;> rfl
  exact (State.recordOpen_clock ..).trans noted

@[simp] theorem State.settingDropped_clock (s : State) (e : SettingsEntry) : (s.settingDropped e).clock = s.clock := by
  simp [State.settingDropped]

@[simp] theorem State.skipsRecord_clock (s : State) (l : List SettingsEntry) : (s.skipsRecord l).clock = s.clock := by
  induction l generalizing s with
  | nil => rfl
  | cons a l ih =>
    simp only [State.skipsRecord]
    split <;> simp [ih]

@[simp] theorem State.install_clock (s : State) (st : Station) : (s.install st).clock = s.clock := by
  unfold State.install
  extract_lets t t1 key
  have noted : t1.clock = s.clock := State.ite_clock (State.recordOpen_clock ..) rfl
  clear_value t1
  exact noted

@[simp] theorem State.schemaNote_clock (s : State) : s.schemaNote.clock = s.clock := by
  unfold State.schemaNote
  split <;> simp

@[simp] theorem State.tablesLoaded_clock (s : State) (st : Station) (code : Nat) :
    (s.tablesLoaded st code).clock = s.clock := by
  unfold State.tablesLoaded
  split <;> rfl

@[simp] theorem State.updDone_clock (s : State) : s.updDone.clock = s.clock := rfl

@[simp] theorem State.updRefuse_clock (s : State) : s.updRefuse.clock = s.clock := rfl

@[simp] theorem State.updBusy_clock (s : State) : s.updBusy.clock = s.clock := by
  simp [State.updBusy]

@[simp] theorem State.writeEnd_clock (s : State) (st : CmdStatus) (code blk : Nat) :
    (s.writeEnd st code blk).clock = s.clock := by
  unfold State.writeEnd
  split
  · rfl
  · rename_i w _
    extract_lets s1
    have programmed : s1.clock = s.clock :=
      State.ite_clock rfl (State.programSlot_clock ..)
    clear_value s1
    exact (State.cmdEnd_clock _).trans
      ((State.record_clock ..).trans
        ((State.clock_of_outside (State.evtUpd_outside rfl rfl ..)).trans programmed))

@[simp] theorem State.blockWrite_clock (s : State) : s.blockWrite.clock = s.clock := by
  unfold State.blockWrite
  (repeat' split) <;> rfl

@[simp] theorem State.finishWrite_clock (s : State) : s.finishWrite.clock = s.clock := by
  unfold State.finishWrite
  split <;> rfl

@[simp] theorem State.blockDone_clock (s : State) (w : ImageWrite) (ok : Bool) : (s.blockDone w ok).clock = s.clock := by
  unfold State.blockDone
  extract_lets b rest h _ s1
  have noted : s1.clock = s.clock := State.ite_clock (State.clock_of_outside (State.setSlot_outside rfl ..)) rfl
  clear_value s1
  split
  · exact noted
  · split
    · exact State.writeEnd_clock ..
    · exact State.cmdEnd_clock _

@[simp] theorem State.finishDone_clock (s : State) (w : ImageWrite) (ok : Bool) :
    (s.finishDone w ok).clock = s.clock := by
  unfold State.finishDone
  (repeat' split) <;> simp

@[simp] theorem State.lockEnd_clock (s : State) : s.lockEnd.clock = s.clock := State.writeEnd_clock ..

@[simp] theorem State.updAbort_clock (s : State) (sid : Nat) : (s.updAbort sid).clock = s.clock := by
  unfold State.updAbort
  (repeat' split) <;> simp

@[simp] theorem State.windowArm_clock (s : State) : s.windowArm.clock = s.clock := rfl

@[simp] theorem State.blkSet_clock (s : State) (sid : Nat) (v : Word) : (s.blkSet sid v).clock = s.clock := by
  unfold State.blkSet
  split <;> rfl

@[simp] theorem State.bdataSet_clock (s : State) (sid : Nat) (v : Word) : (s.bdataSet sid v).clock = s.clock := by
  unfold State.bdataSet
  split <;> rfl

@[simp] theorem State.ctlDone_clock (s : State) : s.ctlDone.clock = s.clock := rfl

@[simp] theorem State.ctlRefuse_clock (s : State) : s.ctlRefuse.clock = s.clock := rfl

@[simp] theorem State.abortSwitch_clock (s : State) (sid : Nat) : (s.abortSwitch sid).clock = s.clock := by
  have noted := s.cmdRecord_clock 8 sid
  unfold State.abortSwitch
  generalize s.cmdRecord 8 sid = t at noted
  split
  · extract_lets
    split
    · exact State.ite_clock noted noted
    · exact noted
  · exact State.ite_clock rfl rfl

@[simp] theorem State.stepBegin_clock (s : State) (k : StepKind) : (s.stepBegin k).clock = s.clock := rfl

@[simp] theorem State.stepRefuse_clock (s : State) : s.stepRefuse.clock = s.clock := rfl

@[simp] theorem State.readEffect_clock (s : State) (a : Nat) : (s.readEffect a).clock = s.clock := by
  unfold State.readEffect
  (repeat' split) <;> simp

@[simp] theorem State.sessRelease_clock (s : State) (sid : Nat) : (s.sessRelease sid).clock = s.clock := by
  unfold State.sessRelease
  split <;> simp

@[simp] theorem State.sessDrop_clock (s : State) (sid : Nat) : (s.sessDrop sid).clock = s.clock := by
  unfold State.sessDrop
  split <;> rfl

@[simp] theorem State.sessEnd_clock (s : State) (sid cause : Nat) : (s.sessEnd sid cause).clock = s.clock := by
  unfold State.sessEnd
  (repeat' split) <;> simp

@[simp] theorem State.challengeTo_clock (s : State) (sid level : Nat) : (s.challengeTo sid level).clock = s.clock := rfl

@[simp] theorem State.mapOpen_clock (s : State) (level : Nat) : (s.mapOpen level).clock = s.clock := by
  unfold State.mapOpen
  dsimp only
  (repeat' split) <;> simp

@[simp] theorem State.fmpOpen_clock (s : State) (p : Peer) (level : Nat) : (s.fmpOpen p level).clock = s.clock := by
  unfold State.fmpOpen
  split <;> rfl

@[simp] theorem State.respHi_clock (s : State) (sid : Nat) (hi : Word) : (s.respHi sid hi).clock = s.clock := by
  unfold State.respHi
  split
  · rfl
  · split
    · split
      · extract_lets resp
        split
        · exact State.record_clock ..
        · exact (State.record_clock ..).trans (State.sessDrop_clock ..)
      · exact State.sessDrop_clock ..
    · rfl

@[simp] theorem State.tokHi_clock (s : State) (sid : Nat) (hi : Word) : (s.tokHi sid hi).clock = s.clock := rfl

@[simp] theorem State.sessCmd_clock (s : State) (sid : Nat) (v : Nat) : (s.sessCmd sid v).clock = s.clock := by
  unfold State.sessCmd
  (repeat' split) <;> simp

@[simp] theorem State.bistCmd_clock (s : State) (v : Nat) : (s.bistCmd v).clock = s.clock := by
  unfold State.bistCmd
  (repeat' split) <;> simp

@[simp] theorem State.calCmd_clock (s : State) (v : Nat) : (s.calCmd v).clock = s.clock := by
  unfold State.calCmd
  (repeat' split) <;> simp

@[simp] theorem State.frzCmd_clock (s : State) (sid v : Nat) : (s.frzCmd sid v).clock = s.clock := by
  unfold State.frzCmd
  split <;> simp

@[simp] theorem State.readBurst_clock (s : State) (x : Session) (l : List Nat) : (s.readBurst x l).1.clock = s.clock := by
  induction l generalizing s with
  | nil => rfl
  | cons a l ih =>
    simp only [State.readBurst]
    split <;> simp [ih]

@[simp] theorem State.readRequest_clock (s : State) (x : Session) (as : List Nat) :
    (s.readRequest x as).1.clock = s.clock := by
  unfold State.readRequest
  dsimp only
  (repeat' split) <;> simp

@[simp] theorem State.mapAnswer_clock (s : State) (status : Nat) (ws : List Word) :
    (s.mapAnswer status ws).clock = s.clock := rfl

@[simp] theorem State.fmpTaken_clock (s : State) (p : Nat) : (s.fmpTaken p).clock = s.clock := rfl

@[simp] theorem State.fmpAnswer_clock (s : State) (p : Peer) (sess seq status a : Nat) (ws : List Word) :
    (s.fmpAnswer p sess seq status a ws).clock = s.clock := rfl

@[simp] theorem State.leaveVote_clock (s0 : State) : s0.leaveVote.clock = s0.clock := by
  unfold State.leaveVote
  extract_lets s
  exact (State.clock_of_outside (State.wavesCut_outside rfl rfl _)).trans (State.ite_clock (State.connsClose_clock ..) rfl)

@[simp] theorem State.recordLate_clock (s : State) : s.recordLate.clock = s.clock :=
  (State.foldl_clock (fun _ _ => by simp) _ _).trans (by simp)

@[simp] theorem State.enterSafe_clock (s : State) (cause : Nat) : (s.enterSafe cause).clock = s.clock := by
  unfold State.enterSafe
  dsimp only
  (repeat' split) <;> simp

@[simp] theorem State.withdrawPlanned_clock (s : State) : s.withdrawPlanned.clock = s.clock := by
  have cut : s.wavesCut.clock = s.clock := by simp
  unfold State.withdrawPlanned
  generalize s.wavesCut = w at cut
  rw [← cut]
  simp

@[simp] theorem State.mapTimeouts_clock (s : State) (t0 : Nat) : (s.mapTimeouts t0).clock = s.clock :=
  State.foldl_clock (fun _ _ => by simp) _ _

@[simp] theorem State.mapNodes_clock (s : State) (f : Nat → NodeView → NodeView) : (s.mapNodes f).clock = s.clock :=
  State.foldl_clock (fun _ _ => by simp) _ _

@[simp] theorem State.syncClear_clock (s : State) : s.syncClear.clock = s.clock := State.mapNodes_clock ..

@[simp] theorem State.syncShift_clock (s : State) : s.syncShift.clock = s.clock := State.mapNodes_clock ..

@[simp] theorem State.syncCounts_clock (s : State) : s.syncCounts.clock = s.clock :=
  (State.syncShift_clock ..).trans (State.mapNodes_clock ..)

@[simp] theorem State.vetoNow_clock (s : State) (v : Violation) (kinds : Nat) : (s.vetoNow v kinds).clock = s.clock := by
  have noted : ((List.range 5).foldl (fun t k => if kinds.testBit k then t.evtGrd k else t) s).clock = s.clock :=
    State.foldl_clock (fun _ _ => State.ite_clock (State.clock_of_outside (State.evtGrd_outside rfl rfl ..)) rfl) _ _
  unfold State.vetoNow
  generalize List.foldl _ s _ = w at noted
  rw [← noted]
  extract_lets _ _ s2 _ s3
  have vetoed : s3.clock = w.clock := State.ite_clock rfl rfl
  clear_value s3
  split
  · exact vetoed
  · split
    · exact (State.enterSafe_clock ..).trans vetoed
    · exact (State.enterSafe_clock ..).trans ((State.record_clock ..).trans vetoed)

@[simp] theorem State.entriesTake_clock (s : State) (n t : Nat) : ∀ (skip : Nat) (l : List Word),
    (s.entriesTake n t skip l).clock = s.clock
  | _, [] => by simp [State.entriesTake]
  | skip + 1, _ :: l => State.entriesTake_clock s n t skip l
  | 0, w :: l => (State.entriesTake_clock _ n t (entryMore w) l).trans (State.entryTake_clock ..)

@[simp] theorem State.statusTake_clock (s : State) (w : Nat) (a : Accepted) : (s.statusTake w a).clock = s.clock := by
  unfold State.statusTake
  dsimp only
  (repeat' split) <;> simp

@[simp] theorem State.fetchAnswer_clock (s : State) : ∀ l : List Word, (s.fetchAnswer l).clock = s.clock
  | [] | [_] => rfl
  | c :: q :: l => by
    rw [State.fetchAnswer, State.fetchAnswer_clock _ l]
    split <;> simp

@[simp] theorem State.fetchTake_clock (s : State) (a : Accepted) : (s.fetchTake a).clock = s.clock := by
  unfold State.fetchTake
  extract_lets p conn seq code total off bytes lower s1
  have noted : s1.clock = s.clock := State.ite_clock rfl rfl
  clear_value s1
  exact State.ite_clock (State.ite_clock noted (State.ite_clock noted (State.ite_clock noted noted))) noted

@[simp] theorem State.capture_clock (s : State) (t0 n : Nat) : (s.capture t0 n).clock = s.clock := by
  simp [State.capture]

@[simp] theorem State.agreedFollow_clock (s : State) : s.agreedFollow.clock = s.clock := State.clock_of_within s.agreedFollow_image

@[simp] theorem State.agreedApply_clock (s : State) : s.agreedApply.clock = s.clock := State.clock_of_within s.agreedApply_image

@[simp] theorem State.enterHold_clock (s : State) : s.enterHold.clock = s.clock := by
  unfold State.enterHold
  refine (State.cmdEnd_clock _).trans ((State.setSt_clock ..).trans ?_)
  simp

@[simp] theorem State.enterRun_clock (s : State) : s.enterRun.clock = s.clock := by
  have entered (r : Role) : ((s.setSt .run).setRole r).clock = s.clock := by simp
  unfold State.enterRun
  dsimp only
  rw [State.clock, State.runSlotEnter_outside rfl rfl rfl rfl]
  refine Eq.trans ?_ (entered (if s.lane.joining then .excluded else s.startRole))
  split <;> rfl

@[simp] theorem State.cycleTime_clock (s : State) (t0 n : Nat) : (s.cycleTime t0 n).clock = s.clock :=
  (State.clock_of_within (s.cycleTime_words t0 n)).trans (State.wallApply_clock ..)

@[simp] theorem State.cycleClear_clock (s : State) (t0 : Nat) : (s.cycleClear t0).clock = s.clock := by
  simp [State.cycleClear]

@[simp] theorem State.cycleCapture_clock (s : State) (t0 n : Nat) : (s.cycleCapture t0 n).clock = s.clock := by
  simp [State.cycleCapture]

@[simp] theorem State.cycleAct_clock (s : State) (t0 n : Nat) : (s.cycleAct t0 n).clock = s.clock := by
  unfold State.cycleAct
  split
  · exact State.ite_clock ((State.cmdEnd_clock _).trans (State.setSt_clock ..)) rfl
  · split
    · split
      · exact State.ite_clock ((State.cycleCapture_clock ..).trans (State.enterProve_clock _)) rfl
      · rfl
    · rfl
  · exact State.ite_clock ((State.cycleCapture_clock ..).trans (State.enterRun_clock _)) (State.cycleCapture_clock ..)
  · exact State.ite_clock (State.enterHold_clock _) (State.cycleCapture_clock ..)
  · rfl

@[simp] theorem State.holdCapture_clock (s : State) : s.holdCapture.clock = s.clock := by
  simp [State.holdCapture]

@[simp] theorem State.onlinesApply_clock (s : State) : s.onlinesApply.clock = s.clock := State.clock_of_within s.onlinesApply_image

@[simp] theorem State.proveReturn_clock (s : State) : s.proveReturn.clock = s.clock := by
  simp [State.proveReturn]

@[simp] theorem State.proveClassify_clock (s : State) : s.proveClassify.clock = s.clock := by
  unfold State.proveClassify
  split
  · rfl
  · split
    · rfl
    · extract_lets l
      exact State.ite_clock rfl (State.proveReturn_clock s)

@[simp] theorem State.voteOutputs_clock (s : State) : s.voteOutputs.clock = s.clock := by
  unfold State.voteOutputs
  split
  · split
    · rfl
    · rfl
    · rfl
    · exact s.withdraw_clock .lge
  · split
    · rfl
    · exact (State.enterSafe_clock ..).trans (s.consentWithdraw_clock _)
  · rfl

@[simp] theorem State.switchRelease_clock (s : State) (x : Switch) : (s.switchRelease x).clock = s.clock := by
  have cut : s.wavesCut.clock = s.clock := by simp
  unfold State.switchRelease
  generalize s.wavesCut = w at cut
  rw [← cut]
  dsimp only
  (repeat' split) <;> simp [cut]

@[simp] theorem State.lockstep_clock (s : State) (kind d0 : Nat) : (s.lockstep kind d0).clock = s.clock := by
  simp [State.lockstep]

@[simp] theorem State.memFault_clock (s : State) (m : BistMemory) : (s.memFault m).clock = s.clock := by
  cases m <;> simp [State.memFault]

@[simp] theorem State.digestDecide_clock (s : State) : s.digestDecide.clock = s.clock := by
  simp [State.digestDecide]

@[simp] theorem State.logCopy_clock (s : State) (st : Station) (k : Bool) (l : List SettingsEntry) :
    (s.logCopy st k l).clock = s.clock := by
  induction l generalizing s with
  | nil => rfl
  | cons a l ih =>
    simp only [State.logCopy, ih]
    (repeat' split) <;> simp

end Sys2Proof.Machine
end

section
/-! PROOF. The operations that change what cluster time is read from: how each of them stands to the reading before it. -/

namespace Sys2Proof.Machine

open Sys2Proof.Safety

/-- The same reading, with its validity shown as `v` (R52). -/
def Clock.showing (c : Clock) (v : Bool) : Clock := { c with timev := v }

/-- The reading of a lane that listens, with the cluster time that it holds (R362). -/
def Clock.listening (c : Clock) (held : Nat) : Clock := { c with bstate := .listen, off := none, held := held }

/-- The bounds of the corrections (R383): `RateRules`, of what cluster time is read from. -/
def Clock.Rates (c : Clock) : Prop := c.rho.natAbs ≤ 200000 ∧ c.rate.natAbs ≤ 200000 ∧ ∀ e ∈ c.slew, e.2.natAbs ≤ 32

/-- From `a` to `b` time has passed, and nothing else. -/
def Clock.Passes (a b : Clock) : Prop := ∃ n, a.now ≤ n ∧ b = { a with now := n }

/-- From `a` to `b` cluster time runs on, or it is invalid at one end or the bus state is another: the bounds of the corrections
are kept. -/
def Clock.Follows (a b : Clock) : Prop :=
  a.Passes b ∨ (a.timev = false ∨ b.timev = false ∨ b.bstate ≠ a.bstate) ∧ (a.Rates → b.Rates)

namespace Clock

theorem Passes.refl (c : Clock) : c.Passes c := ⟨c.now, le_rfl, rfl⟩

@[simp] theorem Follows.refl (c : Clock) : c.Follows c := .inl (.refl c)

theorem Passes.rates {a b : Clock} (h : a.Passes b) (r : a.Rates) : b.Rates := by
  obtain ⟨n, -, rfl⟩ := h
  exact r

theorem Follows.rates {a b : Clock} (h : a.Follows b) (r : a.Rates) : b.Rates := by
  rcases h with passes | ⟨-, kept⟩
  · exact passes.rates r
  · exact kept r

/-- A reading that keeps the bounds and shows time as invalid follows. -/
theorem Follows.invalid {a b c : Clock} (h : a.Follows b) (invalid : c.timev = false) (kept : b.Rates → c.Rates) : a.Follows c :=
  .inr ⟨.inr (.inl invalid), fun r => kept (h.rates r)⟩

theorem Follows.later {a b : Clock} (h : a.Follows b) {n : Nat} (later : b.now ≤ n) : a.Follows { b with now := n } := by
  rcases h with ⟨m, le, rfl⟩ | ⟨apart, kept⟩
  · exact .inl ⟨n, le.trans later, rfl⟩
  · exact .inr ⟨apart, kept⟩

@[simp] theorem follows_ite {c : Clock} (p : Prop) [Decidable p] (a b : Clock) :
    c.Follows (if p then a else b) ↔ (p → c.Follows a) ∧ (¬ p → c.Follows b) := by
  split <;> simp [*]

end Clock

theorem State.ite_follows {c : Clock} {p : Prop} [Decidable p] {a b : State} (ha : c.Follows a.clock) (hb : c.Follows b.clock) :
    c.Follows (if p then a else b).clock := by
  split
  · exact ha
  · exact hb

/-- A state that reads as one that follows. -/
theorem Clock.Follows.same {c : Clock} {s t : State} (h : c.Follows s.clock) (e : t.clock = s.clock) : c.Follows t.clock :=
  e ▸ h

/-! ### Time passes -/

@[simp] theorem State.advance_follows {c : Clock} {s : State} (h : c.Follows s.clock) (t : Nat) : c.Follows (s.advance t).clock :=
  h.later (le_max_left _ _)

/-- A state put together from units that read as those of `s`, at its clock or later, follows as `s` does. -/
@[simp] theorem State.later_mk {c : Clock} {s : State}
    {p l xcrt xsup xtae xlge xgrd xvio xlmp xmea xlnb xfld xcab xrcd xupd xinp ximg} (h : c.Follows s.clock)
    (now : s.pins.now ≤ p.now) (timev : xtae.timev = s.tae.timev) (off : xtae.ctOff = s.tae.ctOff)
    (rate : xtae.ctRate = s.tae.ctRate) (base : xtae.ctFrom = s.tae.ctFrom) (frac : xtae.ctFrac = s.tae.ctFrac)
    (slew : xtae.ctSlew = s.tae.ctSlew) (held : xtae.ctHeld = s.tae.ctHeld) (bstate : xlnb.bstate = s.lnb.bstate)
    (rho : xlnb.rho = s.lnb.rho) :
    c.Follows (State.clock ⟨p, l, xcrt, xsup, xtae, xlge, xgrd, xvio, xlmp, xmea, xlnb, xfld, xcab, xrcd, xupd, xinp, ximg,
      s.pending⟩) := by
  have moved : State.clock ⟨p, l, xcrt, xsup, xtae, xlge, xgrd, xvio, xlmp, xmea, xlnb, xfld, xcab, xrcd, xupd, xinp, ximg,
      s.pending⟩ = { s.clock with now := p.now } :=
    Clock.mk.injEq .. ▸ ⟨rfl, timev, bstate, rho, off, rate, base, frac, slew, held⟩
  exact moved ▸ h.later now

theorem State.later_follows (s : State) (n : Nat) : s.clock.Follows (s.advance n).clock :=
  Clock.Follows.later (.refl _) (le_max_left _ _)

theorem State.laterCt_follows (s : State) (n : Nat) : s.clock.Follows (s.advanceCt n).clock := s.later_follows _

@[simp] theorem State.advanceCt_follows {c : Clock} {s : State} (h : c.Follows s.clock) (t : Nat) :
    c.Follows (s.advanceCt t).clock :=
  State.advance_follows h _

theorem State.cycleEnd_passes (s : State) : s.clock.Passes s.cycleEnd.clock := by
  unfold State.cycleEnd
  split
  · exact ⟨_, le_max_left _ _, rfl⟩
  · exact .refl _

@[simp] theorem State.switchNow_follows {c : Clock} {s : State} (h : c.Follows s.clock) : c.Follows s.switchNow.clock :=
  State.advance_follows h _

theorem State.tick_follows (s : State) : s.clock.Follows s.tick.clock :=
  Clock.Follows.later (.refl _) (Nat.le_add_right _ _)

@[simp] theorem State.slotsAt_follows {c : Clock} {s : State} (h : c.Follows s.clock) (at_ : Nat) (t a : Nat → Bool) :
    c.Follows (s.slotsAt at_ t a).clock := by
  unfold State.slotsAt
  dsimp only
  split <;> simp [h]

/-! ### Cluster time becomes invalid -/

/-- The fall of TIMEV leaves the time itself as it is (R55). -/
theorem State.timevFall_clock (s : State) (u : FaultUnit) : (s.timevFall u).clock = s.clock.showing false := by
  have after (t : State) : (let s2 := (t.evtTae 2).frameStop
      let s3 := if s2.dcAngle then s2.angleSusp else s2
      if s3.voting then s3.withdraw u else s3).clock = t.clock := by
    dsimp only
    (repeat' split) <;> simp
  unfold State.timevFall
  by_cases valid : s.tae.timev = true
  · rw [if_pos valid]
    exact (after _).trans rfl
  · have invalid : s.clock.timev = false := Bool.eq_false_iff.mpr valid
    rw [if_neg valid, Clock.showing, ← invalid]
    rfl

@[simp] theorem State.timevFall_follows {c : Clock} {s : State} (h : c.Follows s.clock) (u : FaultUnit) :
    c.Follows (s.timevFall u).clock := by
  rw [State.timevFall_clock]
  exact h.invalid rfl id

/-- A lane that listens has no cluster time (R362). -/
theorem State.enterListen_clock (s : State) (len at_ : Nat) :
    ∃ held, (s.enterListen len at_).clock = (s.clock.showing false).listening held := by
  have fallen := s.timevFall_clock .lnbRx
  have cleared : (s.timevFall .lnbRx).syncClear.clock = (s.timevFall .lnbRx).clock := by simp
  rw [← cleared] at fallen
  unfold State.enterListen
  generalize (s.timevFall .lnbRx).syncClear = w at fallen
  rw [← fallen]
  exact ⟨w.freeWord.toNat * 4294967296 + w.freeUsed.freeWord.toNat, rfl⟩

@[simp] theorem State.enterListen_follows {c : Clock} {s : State} (h : c.Follows s.clock) (len at_ : Nat) :
    c.Follows (s.enterListen len at_).clock := by
  obtain ⟨held, listen⟩ := s.enterListen_clock len at_
  rw [listen]
  exact h.invalid rfl id

@[simp] theorem State.leadAbandon_follows {c : Clock} {s : State} (h : c.Follows s.clock) : c.Follows s.leadAbandon.clock :=
  State.enterListen_follows h ..

/-- Time taken from the bus, in another bus state, has no correction in the spread (R373, R379). -/
theorem State.adoptTime_follows {c : Clock} {s : State} (h : c.Passes s.clock) {b : BState} (apart : b ≠ c.bstate) (ct : Int)
    (at_ m : Nat) : c.Follows (s.adoptTime b ct at_ m).clock := by
  have cleared : s.syncClear.clock = s.clock := by simp
  refine .inr ⟨.inr (.inr apart), fun r => ?_⟩
  obtain ⟨rho, -, -⟩ := h.rates r
  unfold State.adoptTime
  generalize s.syncClear = w at cleared
  exact ⟨(congrArg Clock.rho cleared).symm ▸ rho, rho, fun e m => absurd m List.not_mem_nil⟩

theorem State.adoptLed_follows {c : Clock} {s : State} (h : c.Passes s.clock) {b : BState} (apart : b ≠ c.bstate) (ct : Int)
    (at_ m n : Nat) : c.Follows ({ s.adoptTime b ct at_ m with lnb.leader := n } : State).clock :=
  State.adoptTime_follows h apart ct at_ m

@[simp] theorem State.command_follows {c : Clock} {s : State} {f : State → State} (h : c.Follows s.clock)
    (hf : ∀ t, c.Follows t.clock → c.Follows (f t).clock) (sid addr value level : Nat) :
    c.Follows (s.command sid addr value level f).clock := by
  have used := hf (s.useToken sid) (by simpa using h)
  unfold State.command
  split <;> simp [h, used]

@[simp] theorem State.plainWrite_follows {c : Clock} {s : State} {f : State → State} (h : c.Follows s.clock)
    (hf : ∀ t, c.Follows t.clock → c.Follows (f t).clock) (sid addr level : Nat) :
    c.Follows (s.plainWrite sid addr level f).clock := by
  have used := hf (s.useToken sid) (by simpa using h)
  unfold State.plainWrite
  split <;> simp [h, used]

@[simp] theorem State.pass_follows {c : Clock} {s : State} (h : c.Follows s.clock) : c.Follows s.pass.clock := by
  have passed : c.Follows (s.advance (s.pins.now + 1064)).clock := State.advance_follows h _
  unfold State.pass
  dsimp only
  split
  · rw [State.vetoNow_clock]
    exact passed
  · split <;> exact h

/-- A SYNC frame accepted while the node listens or waits brings the schedule's time, in another bus state (R373, R379). -/
theorem State.syncTake_follows {c : Clock} {s : State} (h : c.Passes s.clock) (hears : c.bstate = .listen ∨ c.bstate = .wait)
    (a : Accepted) : c.Follows (s.syncTake a).clock := by
  have apart : c.bstate ≠ .integrating ∧ c.bstate ≠ .follow := by
    rcases hears with b | b <;> simp [b]
  unfold State.syncTake
  dsimp only
  split
  · exact .inl h
  · rw [State.updNode_clock]
    split
    · exact State.adoptTime_follows h apart.1.symm ..
    · exact State.adoptLed_follows h apart.2.symm _ a.start (syncM a.copy) _

/-- Reception comes down to what its use makes of an accepted copy (R346 to R349). -/
theorem State.receive_follows {s : State} (use : Nat) (f : RxFrame) {k : State → Accepted → State}
    (hk : ∀ t a, s.clock.Follows t.clock → s.clock.Follows (k t a).clock) : s.clock.Follows (s.receive use f k).clock := by
  unfold State.receive
  extract_lets st w place arb here s0 exp x y s1 s2 bnd wrong good s3 d
  have x1 : s1.clock = s0.clock := by
    clear_value x
    cases x <;> simp [s1]
  have x2 : s2.clock = s0.clock := by
    clear_value y s1
    cases y <;> simp [s2, x1]
  have x3 : s3.clock = s0.clock := by
    clear_value good s2
    cases good with
    | none => exact x2
    | some _ =>
      simp only [s3]
      split
      · exact x2
      · exact x2
  have xd : d.1.clock = s0.clock := (State.xyDecide_clock ..).trans x3
  have passes : s.clock.Passes d.1.clock := xd ▸ ⟨_, le_max_left _ _, rfl⟩
  have md : s.clock.Follows d.1.clock := .inl passes
  split
  · exact .refl _
  split
  · exact .refl _
  cases d.2 with
  | some a =>
    dsimp only
    have noted : (d.1.rxNote a).clock = d.1.clock := by simp
    have ma : s.clock.Follows (d.1.rxNote a).clock := noted ▸ md
    split
    · split
      · exact State.leadAbandon_follows ma
      · exact hk _ _ ma
    · split
      · split
        · rename_i hears
          exact hk _ _ (State.syncTake_follows (noted ▸ passes) hears a)
        · exact ma
      · rw [State.listenAgain_clock]
        exact ma
  | none =>
    dsimp only
    split
    · exact State.leadAbandon_follows md
    · split
      · exact State.enterListen_follows md _ _
      · split
        · split
          · exact md
          · rw [State.carrierLost_clock]
            exact md
        · exact md

@[simp] theorem State.clockLoss_follows {c : Clock} {s : State} (h : c.Follows s.clock) :
    c.Follows s.clockLoss.clock := by
  have safe : c.Follows (({ s with crt.rootLost := true, crt.lock := false, crt.align := false, lane.supHalted := true } :
      State).enterSafe 5).clock := .same h (State.enterSafe_clock ..)
  unfold State.clockLoss
  exact .same (State.ite_follows safe (State.enterListen_follows safe ..)) (State.attemptStart_clock _)

@[simp] theorem State.imprecise_follows {c : Clock} {s : State} (h : c.Follows s.clock) :
    c.Follows s.imprecise.clock := by
  unfold State.imprecise
  split <;> simp [h]

@[simp] theorem State.boundary_follows {c : Clock} {s : State} (h : c.Follows s.clock) (m diff : Nat) :
    c.Follows (s.boundary m diff).clock := by
  simp [State.boundary, h]

@[simp] theorem State.monReact_follows {c : Clock} {s : State} (h : c.Follows s.clock) (o : Monitor) :
    c.Follows (s.monReact o).clock := by
  cases o <;> simp [State.monReact, h]

/-- The reset of TAE invalidates cluster time and drops its corrections, and that of LNB ends the lane's time on the bus
(R561). -/
@[simp] theorem State.blockReset_follows {c : Clock} {s : State} (h : c.Follows s.clock) (k : Nat) :
    c.Follows (s.blockReset k).clock := by
  unfold State.blockReset
  split
  case h_1 =>
    extract_lets w s1 s2
    have fell : c.Follows s2.clock := by
      have stepped : s2.clock = s1.clock := by
        simp only [s2]
        split <;> simp
      exact stepped ▸ State.timevFall_follows (s := s.freeUsed) h _
    have suspended (t : State) : t.angleSusp.clock = t.clock := by simp
    rw [suspended]
    exact fell.invalid rfl fun ⟨rho, _, _⟩ => ⟨rho, Nat.zero_le _, fun e m => absurd m List.not_mem_nil⟩
  case h_7 =>
    extract_lets s1 s2
    have fell : c.Follows s2.clock := by
      have invalid : s1.clock.timev = false := congrArg Clock.timev (s.timevFall_clock _)
      exact (State.timevFall_follows h .lnbRx).invalid invalid fun ⟨_, rate, slew⟩ => ⟨Nat.zero_le _, rate, slew⟩
    split
    · exact State.enterListen_follows fell ..
    · exact fell
  case h_5 => simp [h]
  all_goals exact h

@[simp] theorem State.softBegin_follows {c : Clock} {s : State} (h : c.Follows s.clock) (k : Nat) :
    c.Follows (s.softBegin k).clock := by
  simp [State.softBegin, h]

@[simp] theorem State.softBegins_follows {c : Clock} {s : State} (h : c.Follows s.clock) (l : List Nat) :
    c.Follows (s.softBegins l).clock := by
  induction l generalizing s with
  | nil => exact h
  | cons a l ih => simp [State.softBegins, h, ih]

@[simp] theorem State.srstWrite_follows {c : Clock} {s : State} (h : c.Follows s.clock) (k : Nat) :
    c.Follows (s.srstWrite k).clock := by
  unfold State.srstWrite
  split
  · exact State.softBegin_follows h k
  · exact h

@[simp] theorem State.srstEnd_follows {c : Clock} {s : State} (h : c.Follows s.clock) (k : Nat) (ok : Bool) :
    c.Follows (s.srstEnd k ok).clock := by
  have failed (t : State) : t.crtFault.clock = t.clock := by simp
  have ended (t : State) : t.cmdEnd.clock = t.clock := State.cmdEnd_clock t
  have checked (t : State) (l : List Nat) : (t.angleSusp.suspChecks l).clock = t.clock :=
    (State.clock_of_outside (State.suspChecks_outside rfl rfl rfl ..)).trans (State.clock_of_outside (State.angleSusp_outside rfl rfl rfl _))
  have told (t : State) (l : List Nat) : ((t.evtCrt 4).record 2 0x0100 0x0105 l).clock = t.clock :=
    (State.record_clock ..).trans (State.evtCrt_clock ..)
  have kept : (s.srstEnd k ok).clock = s.clock := by
    unfold State.srstEnd
    refine State.ite_clock ((told ..).trans ?_) ((failed _).trans ((told ..).trans ?_))
    all_goals
      exact State.ite_clock ((State.grdRunEnd_clock _).trans (State.ite_clock ((checked ..).trans
        (State.ite_clock (State.ite_clock (ended _) rfl) (State.ite_clock (ended _) rfl)))
        (State.ite_clock (State.ite_clock (ended _) rfl) (State.ite_clock (ended _) rfl))))
        (State.ite_clock ((checked ..).trans
        (State.ite_clock (State.ite_clock (ended _) rfl) (State.ite_clock (ended _) rfl)))
        (State.ite_clock (State.ite_clock (ended _) rfl) (State.ite_clock (ended _) rfl)))
  exact .same h kept

@[simp] theorem State.clkenBit_follows {c : Clock} {s : State} (h : c.Follows s.clock) (k : Nat) (b : Bool) :
    c.Follows (s.clkenBit k b).clock := by
  unfold State.clkenBit
  split
  · split
    · exact h
    · extract_lets _ s1
      have opened : c.Follows s1.clock := h
      clear_value s1
      exact State.ite_follows opened (State.softBegin_follows opened k)
  · split
    · exact h
    · exact h

@[simp] theorem State.clkenBits_follows {c : Clock} {s : State} (h : c.Follows s.clock) (v : Word) (l : List Nat) :
    c.Follows (s.clkenBits v l).clock := by
  induction l generalizing s with
  | nil => exact h
  | cons a l ih => simp [State.clkenBits, h, ih]

@[simp] theorem State.clkenWrite_follows {c : Clock} {s : State} (h : c.Follows s.clock) (v : Word) :
    c.Follows (s.clkenWrite v).clock := by
  simp [State.clkenWrite, h]

@[simp] theorem State.testEnd_follows {c : Clock} {s : State} (h : c.Follows s.clock) (t : SelfTest) (pass : Bool)
    (duration : Nat) :
    c.Follows (s.testEnd t pass duration).clock := by
  unfold State.testEnd
  extract_lets u lasting _ s0 s1 s2 _ s3
  have reported : c.Follows s0.clock := h.same (State.testReport_clock ..)
  have begun : c.Follows s1.clock := State.softBegins_follows reported _
  have ended : c.Follows s2.clock := State.ite_follows (begun.same (State.grdRunEnd_clock s1)) begun
  have faulted : c.Follows s3.clock := State.ite_follows (ended.same (State.evtLge_clock s2 3)) ended
  clear_value s2 s3
  exact State.ite_follows (.same (State.ite_follows ended (ended.same (State.classLasting_clock ..))) (State.plannedEnd_clock ..))
    (State.ite_follows ended (State.ite_follows (faulted.same (State.classLasting_clock ..))
      (faulted.same (State.classTransient_clock ..))))

@[simp] theorem State.strapSample_follows {c : Clock} {s : State} (h : c.Follows s.clock) (s0 s1 s2 : BitVec 14) :
    c.Follows (s.strapSample s0 s1 s2).clock := by
  unfold State.strapSample
  extract_lets t n
  have later : c.Follows t.clock := State.advance_follows h _
  clear_value t
  split
  · exact .same later (State.setSt_clock ..)
  · exact State.ite_follows (.same later (State.clock_of_outside (State.attn_outside rfl ..))) later

@[simp] theorem State.unusedGate_follows {c : Clock} {s : State} (h : c.Follows s.clock) (u : BitVec 13) (l : List Nat) :
    c.Follows (s.unusedGate u l).clock := by
  induction l generalizing s with
  | nil => exact h
  | cons a l ih => simp [State.unusedGate, h, ih]

@[simp] theorem State.loadDone_follows {c : Clock} {s : State} (h : c.Follows s.clock) (st : Station) :
    c.Follows (s.loadDone st).clock := by
  simp [State.loadDone, h]

@[simp] theorem State.loadPass_follows {c : Clock} {s : State} (h : c.Follows s.clock) (st : Station) :
    c.Follows (s.loadPass st).clock := by
  unfold State.loadPass
  dsimp only
  (repeat' split) <;> simp [h]

/-! ### Commands at registers -/

@[simp] theorem State.updOp_clock {s : State} {f : State → State} (hf : ∀ t : State, (f t).clock = t.clock) :
    (s.updOp f).clock = s.clock := by
  unfold State.updOp
  split
  · simp
  · exact hf s

@[simp] theorem State.updHeld_clock {s : State} {f : State → State} (sid : Nat) (hf : ∀ t : State, (f t).clock = t.clock) :
    (s.updHeld sid f).clock = s.clock := by
  have taken := State.updOp_clock (s := s) hf
  unfold State.updHeld
  (repeat' split) <;> simp [taken]

@[simp] theorem State.openWrite_clock (s : State) (sid : Nat) : (s.openWrite sid).clock = s.clock := by
  unfold State.openWrite
  split
  · split <;> simp
  · exact State.updOp_clock fun t => by dsimp only; split <;> simp

@[simp] theorem State.updCmd_clock (s : State) (sid op : Nat) (dropf : Bool) : (s.updCmd sid op dropf).clock = s.clock := by
  have op {f : State → State} (hf : ∀ t : State, (f t).clock = t.clock) : (s.updOp f).clock = s.clock := State.updOp_clock hf
  have forced (t : State) (a what : Nat) : (t.forceRecord a what).clock = t.clock :=
    State.clock_of_outside (State.forceRecord_outside rfl rfl rfl t a what)
  have running (t : State) : ({ t with upd.cmd := .running } : State).clock = t.clock := rfl
  unfold State.updCmd
  split
  · exact s.openWrite_clock sid
  · exact State.updHeld_clock sid State.blockWrite_clock
  · exact State.updHeld_clock sid State.finishWrite_clock
  · exact s.updAbort_clock sid
  · exact op fun t => State.ite_clock (State.ite_clock rfl t.lockEnd_clock) rfl
  · exact op fun t => State.ite_clock ((State.enterSafe_clock _ 7).trans ((State.record_clock ..).trans
      (t.programSlot_clock ..))) rfl
  · exact op fun t => State.ite_clock ((running _).trans (t.switchoverEntry_clock _)) rfl
  · exact op fun t => State.ite_clock rfl rfl
  · exact op fun t => State.ite_clock ((forced ..).trans rfl) rfl
  · exact op fun t => State.ite_clock ((forced ..).trans rfl) rfl
  · exact op fun t => State.ite_clock ((State.updDone_clock _).trans t.slotSelect_clock) rfl
  · rfl

@[simp] theorem State.updWrite_follows {c : Clock} {s : State} (h : c.Follows s.clock) (sid op : Nat) (dropf : Bool) :
    c.Follows (s.updWrite sid op dropf).clock :=
  State.command_follows h (fun _ k => by simpa using k) ..

@[simp] theorem State.ctlOp_clock {s : State} {f : State → State} (op sid : Nat) (ok : Bool) (hf : ∀ t : State, (f t).clock = t.clock) :
    (s.ctlOp op sid ok f).clock = s.clock := by
  unfold State.ctlOp
  split
  · simp
  · exact (hf _).trans (by simp)

@[simp] theorem State.ctlCmd_clock (s : State) (sid op : Nat) : (s.ctlCmd sid op).clock = s.clock := by
  have running (t : State) : ({ t with lane.ctl := .running } : State).clock = t.clock := rfl
  unfold State.ctlCmd
  split
  · exact State.ctlOp_clock _ _ _ fun t => t.ctlDone.enterSafe_clock 7
  · exact State.ctlOp_clock _ _ _ State.windowArm_clock
  · refine State.ctlOp_clock _ _ _ fun t => (State.ctlDone_clock _).trans ((State.setSt_clock ..).trans ?_)
    simp
  · exact State.ctlOp_clock _ _ _ fun t => State.ite_clock rfl t.enterHold_clock
  · exact State.ctlOp_clock _ _ _ fun t => (State.ctlDone_clock _).trans ((State.setSt_clock ..).trans t.lgeHalt_clock)
  · exact State.ctlOp_clock _ _ _ fun t => rfl
  · exact State.ctlOp_clock _ _ _ fun t => (running _).trans (t.switchoverEntry_clock _)
  · exact s.abortSwitch_clock sid
  · rfl

@[simp] theorem State.ctlWrite_follows {c : Clock} {s : State} (h : c.Follows s.clock) (sid op : Nat) :
    c.Follows (s.ctlWrite sid op).clock :=
  State.command_follows h (fun _ k => by simpa using k) ..

@[simp] theorem State.stepCmd_clock (s : State) (op : Nat) : (s.stepCmd op).clock = s.clock := by
  unfold State.stepCmd
  (repeat' split) <;> simp

@[simp] theorem State.stepWrite_follows {c : Clock} {s : State} (h : c.Follows s.clock) (sid op : Nat) :
    c.Follows (s.stepWrite sid op).clock :=
  State.command_follows h (fun _ k => by simpa using k) ..

@[simp] theorem State.cursorWrite_follows {c : Clock} {s : State} (h : c.Follows s.clock) (sid op : Nat) :
    c.Follows (s.cursorWrite sid op).clock :=
  State.plainWrite_follows h (fun _ k => by simpa using k) ..

@[simp] theorem State.legkeyWrite_follows {c : Clock} {s : State} (h : c.Follows s.clock) (sid key : Nat) :
    c.Follows (s.legkeyWrite sid key).clock :=
  State.plainWrite_follows h (fun _ k => by split <;> simpa using k) ..

@[simp] theorem State.writeGlb_clock (s : State) (sid o : Nat) (v : Word) : (s.writeGlb sid o v).clock = s.clock := by
  unfold State.writeGlb
  split
  · rfl
  · rfl
  · exact s.ctlCmd_clock ..
  · exact s.sessCmd_clock ..
  · exact State.clock_of_outside (State.updSession_outside rfl ..)
  · exact s.respHi_clock ..
  · exact State.clock_of_outside (State.updSession_outside rfl ..)
  · rfl
  · rfl

@[simp] theorem State.writeBlock_follows {c : Clock} {s : State} (h : c.Follows s.clock) (sid code o : Nat) (v : Word) :
    c.Follows (s.writeBlock sid code o v).clock := by
  unfold State.writeBlock
  extract_lets n
  split
  case h_1 => exact h.same (State.writeGlb_clock ..)
  case h_2 => exact State.clkenWrite_follows h v
  case h_4 => exact State.srstWrite_follows h _
  case h_5 => exact h.same (State.bistCmd_clock ..)
  case h_6 => exact h.same (State.ite_clock (State.keyburnWrite_clock s) rfl)
  case h_9 => exact h.same (State.wallSet_clock ..)
  case h_12 => exact h.same (State.stepCmd_clock ..)
  case h_16 => exact h.same (State.fallbackExit_clock ..)
  case h_18 => exact h.same (State.lockAck_clock ..)
  case h_20 => exact h.same (State.isoAck_clock ..)
  case h_22 => exact h.same (State.learnWrite_clock ..)
  case h_24 => exact h.same (State.calCmd_clock ..)
  case h_29 => exact h.same (State.ite_clock (State.clock_of_outside (State.txPost_outside rfl s)) rfl)
  case h_30 => exact h.same (State.clock_of_outside (State.txCancel_outside rfl rfl ..))
  case h_31 => exact h.same (State.ite_clock rfl rfl)
  case h_32 => exact h.same (State.ite_clock (State.clock_of_outside (State.canRecover_outside rfl ..)) rfl)
  case h_33 => exact h.same (State.ite_clock (State.clock_of_outside (State.canRecover_outside rfl ..)) rfl)
  case h_36 =>
    exact h.same (State.ite_clock rfl (State.ite_clock (State.clock_of_outside (State.txRelease_outside rfl ..)) rfl))
  case h_38 => exact h.same (State.cursorOp_clock ..)
  case h_39 => exact h.same (State.clock_of_outside (State.updSession_outside rfl ..))
  case h_40 => exact h.same (State.frzCmd_clock ..)
  case h_41 => exact h.same (State.ite_clock (State.legKey_clock ..) rfl)
  case h_42 => exact h.same (State.updCmd_clock ..)
  case h_44 => exact h.same (State.blkSet_clock ..)
  case h_45 => exact h.same (State.bdataSet_clock ..)
  all_goals exact h

@[simp] theorem State.regWrite_follows {c : Clock} {s : State} (h : c.Follows s.clock) (sid a : Nat) (v : Word) :
    c.Follows (s.regWrite sid a v).clock := by
  unfold State.regWrite
  split <;> simp [h]

/-! ### Requests on MAP and FMP -/

@[simp] theorem State.writeBurst_follows {c : Clock} {s : State} (h : c.Follows s.clock) (sid : Nat)
    (ws : List (Nat × Word)) :
    c.Follows (s.writeBurst sid ws).1.clock := by
  induction ws generalizing s with
  | nil => exact h
  | cons w ws ih =>
    unfold State.writeBurst
    (repeat' split) <;> simp [h, ih]

@[simp] theorem State.writeRequest_follows {c : Clock} {s : State} (h : c.Follows s.clock) (x : Session)
    (ws : List (Nat × Word)) : c.Follows (s.writeRequest x ws).1.clock := by
  have used : c.Follows (s.useToken x.num).clock := h
  unfold State.writeRequest
  dsimp only
  (repeat' split) <;> simp [h, State.writeBurst_follows used]

@[simp] theorem State.request_follows {c : Clock} {s : State} (h : c.Follows s.clock) (x : Session) (cmd a : Nat)
    (data : List Byte) : c.Follows (s.request x cmd a data).1.clock := by
  unfold State.request
  dsimp only
  (repeat' split) <;> simp [h]

@[simp] theorem State.halfRequest_follows {c : Clock} {s : State} (h : c.Follows s.clock) (x : Session) (resp : Bool)
    (cmd a : Nat) (data : List Byte) : c.Follows (s.halfRequest x resp cmd a data).1.clock := by
  unfold State.halfRequest
  dsimp only
  split <;> simp [h]

@[simp] theorem State.mapServe_follows {c : Clock} {s : State} (h : c.Follows s.clock) (cmd : Nat) (bs : List Byte) :
    c.Follows (s.mapServe cmd bs).clock := by
  have active : c.Follows (s.updSession 0 fun x => { x with lastAt := s.pins.now }).clock := h
  unfold State.mapServe
  dsimp only
  split <;> simp [h, State.request_follows active]

@[simp] theorem State.fmpOutside_follows {c : Clock} {s : State} (h : c.Follows s.clock) (p : Peer) (cmd a seq : Nat)
    (data : List Byte) :
    c.Follows (s.fmpOutside p cmd a seq data).clock := by
  simp [State.fmpOutside, h]

@[simp] theorem State.fmpHalf_follows {c : Clock} {s : State} (h : c.Follows s.clock) (x : Session) (p : Peer)
    (cmd a seq : Nat) (data : List Byte) :
    c.Follows (s.fmpHalf x p cmd a seq data).clock := by
  simp [State.fmpHalf, h]

@[simp] theorem State.fmpTagged_follows {c : Clock} {s : State} (h : c.Follows s.clock) (x : Session) (p : Peer)
    (cmd a seq : Nat) (data : List Byte) : c.Follows (s.fmpTagged x p cmd a seq data).clock := by
  have active : c.Follows (s.updSession x.num fun y => { y with lastAt := s.pins.now, seq := seq }).clock := h
  unfold State.fmpTagged
  dsimp only
  (repeat' split) <;> simp [h, State.request_follows active]

@[simp] theorem State.fmpServe_follows {c : Clock} {s : State} (h : c.Follows s.clock) (p : Peer) (bytes : List Byte) :
    c.Follows (s.fmpServe p bytes).clock := by
  unfold State.fmpServe
  dsimp only
  (repeat' split) <;> simp [h]

end Sys2Proof.Machine
end

section
/-! PROOF. The commands: cluster time follows each of them but the clock correction (R51, R383). -/

namespace Sys2Proof.Machine

open Sys2Proof.Safety

/-- Where the command completes, cluster time follows the reading `c`. -/
def Timed (c : Clock) (o : Host.Outcome State Fault Refusal) : Prop := ∀ t, o = .next t → c.Follows t.clock

@[simp] theorem timed_next {c : Clock} {t : State} : Timed c (.next t) ↔ c.Follows t.clock :=
  ⟨fun h => h t rfl, fun h _ e => Host.Outcome.next.inj e ▸ h⟩

@[simp] theorem timed_fault (c : Clock) (x : Fault) : Timed c (.fault x) := by
  intro t e
  cases e

@[simp] theorem timed_ite {c : Clock} (p : Prop) [Decidable p] (a b : Host.Outcome State Fault Refusal) :
    Timed c (if p then a else b) ↔ (p → Timed c a) ∧ (¬ p → Timed c b) := by
  split <;> simp [*]

theorem Timed.next {c : Clock} {t : State} (h : c.Follows t.clock) : Timed c (.next t) := timed_next.mpr h

/-- The command leaves all that cluster time is read from. -/
theorem Timed.same {s t : State} (h : t.clock = s.clock) : Timed s.clock (.next t) := .next (h ▸ .refl _)

theorem Timed.of_framed {s : State} {o : Host.Outcome State Fault Refusal} (h : Framed .offClock s o) : Timed s.clock o :=
  fun t done => Clock.Follows.same (s := s) (.refl _) (State.clock_of_outside (h t done))

theorem Timed.of_logic {i : Instr} (fam : familyOf i = .logic) (s : State) : Timed s.clock (exec i s) := by
  intro t done
  have framed : (t.outside (familyTouch .logic)).reading = (s.outside (familyTouch .logic)).reading :=
    congrArg State.reading (logic_framed fam s t done)
  exact Clock.Follows.same (s := s) (.refl _) framed

theorem Timed.ite {c : Clock} {p : Prop} [Decidable p] {a b : Host.Outcome State Fault Refusal} (ha : Timed c a)
    (hb : Timed c b) : Timed c (if p then a else b) := by
  split
  · exact ha
  · exact hb

/-! ### Cluster time becomes valid -/

/-- The rise of TIMEV leaves the time itself as it is (R52). -/
theorem State.timevRise_clock (s : State) :
    s.timevRise.clock = s.clock ∨ s.clock.timev = false ∧ s.timevRise.clock = s.clock.showing true := by
  have after (t : State) : (let s2 := if t.blockLive 8 && t.img.isSome then t.meaAlign else t
      if s2.dcAngle then s2.angleSusp else s2).clock = t.clock := by
    dsimp only
    (repeat' split) <;> simp
  unfold State.timevRise
  split
  · exact .inl rfl
  · rename_i invalid
    split
    · exact .inl rfl
    · exact .inr ⟨Bool.eq_false_iff.mpr invalid, (after _).trans rfl⟩

theorem State.timevRise_follows {c : Clock} {s : State} (h : c.Passes s.clock) : c.Follows s.timevRise.clock := by
  obtain same | ⟨invalid, shown⟩ := s.timevRise_clock
  · exact same ▸ .inl h
  · obtain ⟨n, -, passed⟩ := h
    rw [shown, passed]
    rw [passed] at invalid
    exact .inr ⟨.inl invalid, id⟩

/-! ### The bus state changes -/

/-- From `a` to `b` the bus state changes, and the bounds of the corrections are kept. -/
def Clock.Parts (a b : Clock) : Prop := b.bstate ≠ a.bstate ∧ (a.Rates → b.Rates)

theorem Clock.Parts.follows {a b : Clock} (h : a.Parts b) : a.Follows b := .inr ⟨.inr (.inr h.1), h.2⟩

theorem State.timevRise_parts {c : Clock} {s : State} (h : c.Parts s.clock) : c.Parts s.timevRise.clock := by
  obtain same | ⟨-, shown⟩ := s.timevRise_clock
  · exact same ▸ h
  · rw [shown]
    exact h

theorem execLoneNode_timed (s : State) : Timed s.clock (execLoneNode s) := by
  unfold execLoneNode
  rw [timed_next]
  split
  · rename_i may
    simp only [Bool.and_eq_true, decide_eq_true_eq] at may
    obtain ⟨⟨⟨listen, _⟩, _⟩, _⟩ := may
    have parts : s.clock.Parts ({ s with lnb.bstate := .wait, lnb.listenAt := s.pins.now } : State).clock :=
      ⟨show BState.wait ≠ s.lnb.bstate by simp [listen], id⟩
    dsimp only
    split
    · simpa using parts.follows
    · exact parts.follows
  · exact .refl _

theorem execDemotion_timed (s : State) : Timed s.clock (execDemotion s) := by
  unfold execDemotion
  rw [timed_next]
  split
  · rename_i may
    simp only [Bool.and_eq_true, decide_eq_true_eq] at may
    obtain ⟨⟨active, _⟩, _⟩ := may
    extract_lets lnb s1
    have parts : s.clock.Parts s1.clock := ⟨show BState.passive ≠ s.lnb.bstate by simp [active], id⟩
    clear_value s1
    exact State.timevFall_follows (by simpa using parts.follows) _
  · exact .refl _

theorem State.swarmSend_parts {c : Clock} {s : State} (h : c.Passes s.clock) (calm : c.bstate ≠ .swarm) :
    c.Follows s.swarmSend.clock := by
  have sent (f : Nat) (t : State) : (t.txFrame f false false true false []).clock = t.clock := by simp
  unfold State.swarmSend
  extract_lets lnb s1
  have parts : c.Parts s1.clock := ⟨calm.symm, fun r => h.rates r⟩
  clear_value s1
  split
  · rw [sent]
    exact parts.follows
  · exact parts.follows

theorem execListenTimeout_timed (carrierBefore : Bool) (s : State) : Timed s.clock (execListenTimeout carrierBefore s) := by
  unfold execListenTimeout
  rw [timed_next]
  split
  · rename_i may
    simp only [Bool.and_eq_true, decide_eq_true_eq] at may
    have calm : s.clock.bstate ≠ .swarm := show s.lnb.bstate ≠ .swarm by simp [may.1]
    dsimp only
    split
    · exact State.swarmSend_parts ⟨_, le_max_left _ _, rfl⟩ calm
    · simp
  · exact .refl _

theorem execWaitExpire_timed (carrierBefore : Bool) (s : State) : Timed s.clock (execWaitExpire carrierBefore s) := by
  unfold execWaitExpire
  rw [timed_next]
  split
  · rename_i may
    simp only [Bool.and_eq_true, decide_eq_true_eq] at may
    have calm : s.clock.bstate ≠ .swarm := show s.lnb.bstate ≠ .swarm by simp [may.1]
    dsimp only
    split
    · exact State.swarmSend_parts ⟨_, le_max_left _ _, rfl⟩ calm
    · simp
  · exact .refl _

theorem execSwarmReadback_timed (clean : Bool) (s : State) : Timed s.clock (execSwarmReadback clean s) := by
  unfold execSwarmReadback
  rw [timed_next]
  split
  · rename_i may
    simp only [Bool.and_eq_true, decide_eq_true_eq] at may
    have apart : BState.lead ≠ s.clock.bstate := show BState.lead ≠ s.lnb.bstate by simp [may.1]
    extract_lets t s1
    have passes : s.clock.Passes s1.clock := ⟨_, le_max_left _ _, rfl⟩
    clear_value s1
    split
    · exact State.adoptLed_follows passes apart 0 t 0 s.node
    · have follows : s.clock.Follows s1.clock := .inl passes
      exact State.enterListen_follows (by simp +zetaDelta [follows]) ..
  · exact .refl _

theorem execColdStartFrame_timed (f : RxFrame) (s0 : State) : Timed s0.clock (execColdStartFrame f s0) := by
  have counted (t : State) : (((t.coldCount false f.x).coldCount true f.y)).clock = t.clock := by simp
  unfold execColdStartFrame
  extract_lets s s1
  rw [timed_next]
  have passes : s0.clock.Passes s.clock := ⟨_, le_max_left _ _, rfl⟩
  have bstate : s0.clock.bstate = s.lnb.bstate := rfl
  have follows : s0.clock.Follows s.clock := .inl passes
  have follows1 : s0.clock.Follows s1.clock := (counted s).symm ▸ follows
  have passes1 : s0.clock.Passes s1.clock := (counted s).symm ▸ passes
  clear_value s1 s
  split
  · exact .refl _
  split
  case h_1 hears | h_2 hears | h_3 hears =>
    have apart : BState.follow ≠ s0.clock.bstate := by simp [bstate, hears]
    split
    · split
      · rw [State.listenAgain_clock]
        exact follows1
      · exact follows1
    · rename_i c _
      dsimp only
      split
      · exact follows1
      · exact State.adoptLed_follows (s := { s1 with lnb.att := 0 }) passes1 apart _ c.start 0 _
  case h_4 =>
    split
    · split
      · exact follows1
      · exact State.leadAbandon_follows (s := { s1 with lnb.att := 0 }) follows1
    · split
      · exact State.leadAbandon_follows (by simpa using follows1)
      · exact follows1
  case h_5 => simpa using follows

theorem execTimevRestored_timed (s : State) : Timed s.clock (execTimevRestored s) := by
  unfold execTimevRestored
  rw [timed_next]
  split
  · exact State.timevRise_follows s.cycleEnd_passes
  · exact .refl _

theorem execIntegrationCheckPassed_timed (s : State) : Timed s.clock (execIntegrationCheckPassed s) := by
  unfold execIntegrationCheckPassed
  rw [timed_next]
  split
  · rename_i may
    simp only [Bool.and_eq_true, decide_eq_true_eq] at may
    obtain ⟨⟨integrating, _⟩, _⟩ := may
    extract_lets u lnb s1
    have parts : s.clock.Parts s1.clock :=
      ⟨show BState.active ≠ s.lnb.bstate by simp [integrating], fun r => s.cycleEnd_passes.rates r⟩
    clear_value s1
    have adopted : s1.wallAdopt.clock = s1.clock := by simp
    simpa using (State.timevRise_parts (adopted ▸ parts)).follows
  · exact .refl _

theorem execPassiveReturn_timed (s : State) : Timed s.clock (execPassiveReturn s) := by
  unfold execPassiveReturn
  rw [timed_next]
  split
  · rename_i may
    simp only [Bool.and_eq_true, decide_eq_true_eq] at may
    obtain ⟨⟨passive, _⟩, _⟩ := may
    extract_lets u lnb s1
    have parts : s.clock.Parts s1.clock :=
      ⟨show BState.active ≠ s.lnb.bstate by simp [passive], fun r => s.cycleEnd_passes.rates r⟩
    clear_value s1
    simpa using (State.timevRise_parts parts).follows
  · exact .refl _

theorem execClusterFormed_timed (s : State) : Timed s.clock (execClusterFormed s) := by
  unfold execClusterFormed
  rw [timed_next]
  split
  · rename_i may
    simp only [Bool.and_eq_true, Bool.or_eq_true, decide_eq_true_eq] at may
    obtain ⟨⟨starts, _⟩, _⟩ := may
    extract_lets e s1 tae lnb s2 s2w s3 s4
    have parts : s.clock.Parts s2.clock :=
      ⟨show BState.active ≠ s.lnb.bstate by rcases starts with b | b <;> simp [b], id⟩
    have same : s4.clock = s2.clock := by
      simp only [s4, s3, s2w]
      clear_value s2
      simp
    rw [← same] at parts
    clear_value s4
    split
    · exact (State.timevRise_parts parts).follows
    · exact parts.follows
  · exact .refl _

theorem execAlignReached_timed (s : State) : Timed s.clock (execAlignReached s) := by
  unfold execAlignReached
  rw [timed_next]
  split
  · dsimp only
    split
    · exact State.timevRise_follows (.refl s.clock)
    · exact .refl s.clock
  · exact .refl _

/-! ### Resets of the whole lane -/

/-- A reset leaves no correction, and cluster time invalid (R559). -/
theorem Clock.Follows.reset {a b : Clock} (invalid : b.timev = false) (rho : b.rho = 0) (rate : b.rate = 0) (slew : b.slew = []) :
    a.Follows b :=
  .inr ⟨.inr (.inl invalid), fun _ => ⟨by simp [rho], by simp [rate], by simp [slew]⟩⟩

theorem State.restartRun_follows (c : Clock) (s : State) (s0 s1 s2 : BitVec 14) : c.Follows (s.restartRun s0 s1 s2).clock := by
  have reset : c.Follows s.beforeRestart.restarted.clock := .reset rfl rfl rfl rfl
  rw [State.restartRun_eq]
  split
  · exact reset
  · exact State.strapSample_follows reset ..

theorem execPowerOn_timed (p r : Bool) (s : State) : Timed s.clock (execPowerOn p r s) := by
  unfold execPowerOn
  rw [timed_next]
  split
  · exact .refl _
  · exact .reset rfl rfl rfl rfl

theorem execLossOfPower_timed (s : State) : Timed s.clock (execLossOfPower s) := by
  unfold execLossOfPower
  rw [timed_next]
  split
  · exact .reset rfl rfl rfl rfl
  · exact .refl _

theorem execRailBelow_timed (r : Rail) (s : State) : Timed s.clock (execRailBelow r s) := by
  unfold execRailBelow
  rw [timed_next]
  split
  · exact .reset rfl rfl rfl rfl
  · exact .refl _

theorem execResetNLow_timed (s : State) : Timed s.clock (execResetNLow s) := by
  unfold execResetNLow
  rw [timed_next]
  split
  · exact .reset rfl rfl rfl rfl
  · exact .refl _

theorem execRestartFilteredChange_timed (level : Bool) (s0 s1 s2 : BitVec 14) (s : State) :
    Timed s.clock (execRestartFilteredChange level s0 s1 s2 s) := by
  unfold execRestartFilteredChange
  rw [timed_next]
  split
  · split
    · dsimp only
      split
      · split
        · exact State.restartRun_follows ..
        · simp
      · exact .refl _
    · exact .refl _
  · exact .refl _

/-! ### Frames received -/

theorem execStatusFrame_timed (f : RxFrame) (s : State) : Timed s.clock (execStatusFrame f s) :=
  timed_next.mpr (State.receive_follows _ f fun t a k => by simpa using k)

theorem execInputFrame_timed (f : RxFrame) (s : State) : Timed s.clock (execInputFrame f s) :=
  timed_next.mpr (State.receive_follows _ f fun t a k => by simpa using k)

theorem execOutputFrame_timed (f : RxFrame) (s : State) : Timed s.clock (execOutputFrame f s) :=
  timed_next.mpr (State.receive_follows _ f fun t a k => by simpa using k)

theorem execFetchRequest_timed (f : RxFrame) (s : State) : Timed s.clock (execFetchRequest f s) :=
  timed_next.mpr (State.receive_follows _ f fun t a k => by split <;> simpa using k)

theorem execFetchReply_timed (f : RxFrame) (s : State) : Timed s.clock (execFetchReply f s) :=
  timed_next.mpr (State.receive_follows _ f fun t a k => by split <;> simpa using k)

theorem execMirrorFrame_timed (f : RxFrame) (s : State) : Timed s.clock (execMirrorFrame f s) :=
  timed_next.mpr (State.receive_follows _ f fun t a k => by dsimp only; split <;> simpa using k)

theorem execStateTransferFrame_timed (f : RxFrame) (s : State) : Timed s.clock (execStateTransferFrame f s) :=
  timed_next.mpr (State.receive_follows _ f fun t a k => by split <;> simpa using k)

/-! ### Commands at registers -/

theorem execSoftReset_timed (sid : BitVec 16) (blk : BitVec 4) (s : State) : Timed s.clock (execSoftReset sid blk s) :=
  timed_next.mpr (State.command_follows (.refl _) (fun _ k => State.srstWrite_follows k blk.toNat) ..)

theorem execGateCloseWrite_timed (sid : BitVec 16) (value : Word) (s : State) :
    Timed s.clock (execGateCloseWrite sid value s) :=
  timed_next.mpr (State.command_follows (.refl _) (fun _ k => State.clkenWrite_follows k value) ..)

theorem execGateOpenWrite_timed (sid : BitVec 16) (value : Word) (s : State) : Timed s.clock (execGateOpenWrite sid value s) :=
  timed_next.mpr (State.command_follows (.refl _) (fun _ k => State.clkenWrite_follows k value) ..)

theorem execRegisterWrite_timed (sid : BitVec 16) (addr : BitVec 24) (value : Word) (s : State) :
    Timed s.clock (execRegisterWrite sid addr value s) := by
  unfold execRegisterWrite
  rw [timed_next]
  split
  · split
    · split <;> exact .refl _
    · split
      · exact State.regWrite_follows (s := s.useToken _) (.refl _) ..
      · exact .refl _
    · exact State.plainWrite_follows (.refl _) (fun _ k => State.regWrite_follows k ..) ..
    · exact State.plainWrite_follows (.refl _) (fun _ k => State.regWrite_follows k ..) ..
    · exact State.command_follows (.refl _) (fun _ k => State.regWrite_follows k ..) ..
  · exact .refl _

theorem execFmpDatagram_timed (p : Peer) (bytes : List Byte) (s : State) : Timed s.clock (execFmpDatagram p bytes s) := by
  have served (k : Nat) : s.clock.Follows ((s.fmpTaken k).fmpServe p bytes).clock :=
    State.fmpServe_follows (s := s.fmpTaken k) (.refl _) p bytes
  unfold execFmpDatagram
  dsimp only
  (repeat' split) <;> simp [served]

/-! ### The commit of the outputs -/

theorem execOutputCommit_timed (s : State) : Timed s.clock (execOutputCommit s) := by
  by_cases due : ∃ t0, s.commitOf = some t0 ∧ (s.hasCt && s.img.isSome) = true
  · obtain ⟨t0, due, live⟩ := due
    have yields : s.clock.Follows (s.atCommit t0).clock := by simp [State.atCommit]
    have fires (t : State) : (t.commitFires t0).clock = t.clock := by simp [State.commitFires]
    have images (t : State) (ready : Bool) (n tc : Nat) : (t.commitImages ready n tc).clock = t.clock := by
      simp [State.commitImages]
    rw [execOutputCommit_eq due live, timed_next, State.commitDone_clock, images, State.guardSwap_clock, fires]
    exact yields
  · rw [execOutputCommit_idle due, timed_next]
    exact .refl _

/-! ### The clock correction -/

theorem clampInt_natAbs (n : Nat) (i : Int) : (clampInt (-n) n i).natAbs ≤ n := by
  unfold clampInt
  (repeat' split) <;> omega

/-- The clock correction takes a correction within its bounds at a later instant, or only the clock moves (R383). -/
theorem execClockCorrection_clock {s t : State} (done : execClockCorrection s = .next t) :
    s.clock.Passes t.clock ∨ ∃ (u : State) (a rho : Int), s.clock.Passes u.clock ∧ a.natAbs ≤ 32 ∧ rho.natAbs ≤ 200000 ∧
      t.clock = (u.ctCorrect a rho).clock := by
  obtain rfl := Host.Outcome.next.inj done
  split
  · extract_lets s1 own
    have passes : s.clock.Passes s1.clock := ⟨_, le_max_left _ _, rfl⟩
    clear_value s1 own
    split
    · exact .inl passes
    · rename_i c _
      refine .inr ⟨s1, clampInt (-32) 32 c, rateAfter s1.lnb.rho c s1.basicNs, passes, clampInt_natAbs 32 c,
        clampInt_natAbs 200000 _, ?_⟩
      have noted (w : State) : (w.sevtLnb 4).clock = w.clock := by simp
      dsimp only
      split
      · rfl
      · rw [noted]
        rfl
  · exact .inl (.refl _)

/-! ### The other commands that have cases -/

theorem execValidationWindow_timed (count : Nat) (s : State) :
    Timed s.clock (execValidationWindow count s) := by
  unfold execValidationWindow
  rw [timed_next]
  split
  · extract_lets g _ _ s1
    have later : s.clock.Follows s1.clock := State.advance_follows (.refl _) _
    clear_value s1
    exact State.ite_follows later later
  · exact .refl _

theorem execValidationAttemptTimeout_timed (s : State) : Timed s.clock (execValidationAttemptTimeout s) := by
  unfold execValidationAttemptTimeout
  rw [timed_next]
  split
  · extract_lets n _ _ s1
    have later : s.clock.Follows s1.clock := State.advance_follows (.refl _) _
    clear_value s1
    exact State.ite_follows (State.ite_follows (.same later (State.startFault_clock ..)) later)
      (.same later (State.record_clock ..))
  · exact .refl _

theorem execLoadEnd_timed (st : Station) (s : State) : Timed s.clock (execLoadEnd st s) := by
  unfold execLoadEnd
  dsimp only
  (repeat' split) <;> simp

theorem execRegionDrainEnd_timed (s : State) : Timed s.clock (execRegionDrainEnd s) := by
  unfold execRegionDrainEnd
  split
  · exact .same rfl
  · exact .same (State.drainBuf_clock s)
  · exact .same (State.drainBuf_clock s)

theorem execProveComplete_timed (s : State) : Timed s.clock (execProveComplete s) := by
  have later (t0 : Nat) : s.clock.Follows (if t0 = s.inp.t0 ∧ s.ct < t0 + 10 then s else s.advanceCt (t0 + s.cycC * s.basicNs)).clock :=
    State.ite_follows (.refl _) (State.advanceCt_follows (.refl _) _)
  unfold execProveComplete
  rw [timed_next]
  cases s.lane.commitDue with
  | some t0 => exact State.ite_follows (later t0) (.refl _)
  | none => exact State.ite_follows (.refl s.clock) (.refl _)

theorem execSwitchoverCommit_timed (s : State) : Timed s.clock (execSwitchoverCommit s) := by
  unfold execSwitchoverCommit
  rw [timed_next]
  split
  · split
    · split
      · exact .refl _
      · extract_lets s1
        have later : s.clock.Follows s1.clock := State.advanceCt_follows (.refl _) _
        clear_value s1
        split
        · split
          · exact State.ite_follows (.same later (State.switchIn_clock ..)) (.same later (State.switchOut_clock ..))
          · exact later
        · exact .same later (State.switchFail_clock ..)
    · exact .refl _
  · exact .refl _

theorem execSwitchoverRelease_timed (s : State) : Timed s.clock (execSwitchoverRelease s) := by
  unfold execSwitchoverRelease
  rw [timed_next]
  split
  · split
    · split
      · extract_lets s1 _
        have later : s.clock.Follows s1.clock := State.advanceCt_follows (.refl _) _
        clear_value s1
        exact .same (.same (s := { s1 with lane.switch := none }) later (State.switchDone_clock ..)) (State.switchRelease_clock ..)
      · exact .refl _
    · exact .refl _
  · exact .refl _

theorem execCrossingMissing_timed (ch : Fin 2) (s : State) : Timed s.clock (execCrossingMissing ch s) := by
  unfold execCrossingMissing
  rw [timed_next]
  split
  · exact .refl _
  · split
    · extract_lets ref s1 _ s2
      have later : s.clock.Follows s2.clock := State.advance_follows (.refl _) _
      clear_value s2
      exact State.ite_follows later (State.ite_follows (.same later (State.angleLoss_clock _)) later)
    · exact .refl _

theorem execDarkPulseEnd_timed (ch : Fin 32) (s : State) : Timed s.clock (execDarkPulseEnd ch s) := by
  unfold execDarkPulseEnd
  extract_lets n
  split
  · exact .same rfl
  · extract_lets e s1 l
    have later : s.clock.Follows s1.clock :=
      .same (State.advance_follows (.refl _) _) (State.clock_of_outside (State.updLamp_outside rfl ..))
    clear_value s1
    have updated (f : LampState → LampState) := later.same (State.clock_of_outside (State.updLamp_outside rfl s1 n f))
    rw [timed_next]
    exact State.ite_follows later (State.ite_follows (.same (updated _) (State.clock_of_outside (State.proveDark_outside rfl ..)))
      (State.ite_follows (.same (.same (.same (updated _) (State.clock_of_outside (State.pevtLmp_outside rfl rfl ..)))
        (State.clock_of_outside (State.pevtLmp_outside rfl rfl ..))) (State.record_clock ..))
        (.same (updated _) (State.clock_of_outside (State.pevtLmp_outside rfl rfl ..)))))

theorem execBlankingEnd_timed (ch : Fin 32) (s : State) : Timed s.clock (execBlankingEnd ch s) := by
  unfold execBlankingEnd
  (repeat' split) <;> simp

theorem execInrushEnd_timed (ch : Fin 32) (s : State) : Timed s.clock (execInrushEnd ch s) := by
  unfold execInrushEnd
  (repeat' split) <;> simp

theorem execRotationStart_timed (si : Fin 2) (s : State) : Timed s.clock (execRotationStart si s) := by
  unfold execRotationStart
  rw [timed_next]
  extract_lets
  split
  · split
    · exact .refl _
    · exact .same (State.advance_follows (.refl s.clock) _) (State.clock_of_outside (State.setSi_outside rfl ..))
  · exact .refl _

theorem execRotationPhaseEnd_timed (si : Fin 2) (off : Int) (gain : Nat) (diff : Int) (s : State) :
    Timed s.clock (execRotationPhaseEnd si off gain diff s) := by
  unfold execRotationPhaseEnd
  dsimp only
  (repeat' split) <;> simp

theorem execVoutLiveExpire_timed (n : Fin 32) (s : State) : Timed s.clock (execVoutLiveExpire n s) := by
  unfold execVoutLiveExpire
  dsimp only
  (repeat' split) <;> simp

theorem execMonitorBoundElapsed_timed (n : Fin 32) (s : State) :
    Timed s.clock (execMonitorBoundElapsed n s) := by
  unfold execMonitorBoundElapsed
  (repeat' split) <;> simp

theorem execLampLiveExpire_timed (ch : Fin 32) (s : State) : Timed s.clock (execLampLiveExpire ch s) := by
  unfold execLampLiveExpire
  dsimp only
  (repeat' split) <;> simp

theorem execLearnEnd_timed (s : State) : Timed s.clock (execLearnEnd s) := by
  unfold execLearnEnd
  (repeat' split) <;> simp

theorem execTransmitFrame_timed (w : Fin 512) (s : State) : Timed s.clock (execTransmitFrame w s) := by
  unfold execTransmitFrame
  extract_lets st k fid use may t _ _ s1 s2
  have sent (u : State) (n b c d : Bool) (l : List Word) : (u.txFrame fid n b c d l).clock = u.clock :=
    State.clock_of_outside (State.txFrame_outside rfl ..)
  have started : s.clock.Follows s1.clock := State.advanceCt_follows (.refl _) t
  have begun : s.clock.Follows s2.clock := State.ite_follows (.same started (State.overrun_clock s1)) started
  clear_value s1 s2
  rw [timed_next]
  split
  · split
    · exact .same started (State.statusSend_clock ..)
    · split
      · exact State.ite_follows (.same (.same begun (sent ..)) (State.frameGone_clock ..))
          (.same (.same begun (State.evtLnb_clock ..)) (sent ..))
      · exact .same (State.ite_follows (.same begun (State.evtLnb_clock ..)) begun) (sent ..)
  · exact .refl _

theorem execArbRoundStart_timed (w : Fin 512) (r : Nat) (carrier : Bool) (s : State) :
    Timed s.clock (execArbRoundStart w r carrier s) := by
  unfold execArbRoundStart
  extract_lets st k s1 at_ s2
  have later : s.clock.Follows s1.clock := State.advanceCt_follows (.refl _) _
  have begun : s.clock.Follows s2.clock := State.ite_follows (.same later (State.overrun_clock s1)) later
  clear_value s2
  rw [timed_next]
  split
  · split
    · exact State.ite_follows (.same (.same (State.advanceCt_follows begun _)
        (State.clock_of_outside (State.txFrame_outside rfl ..))) (State.frameGone_clock ..)) begun
    · exact begun
  · exact .refl _

theorem execRecoveredClockAdmitted_timed (s : State) : Timed s.clock (execRecoveredClockAdmitted s) := by
  unfold execRecoveredClockAdmitted
  refine Timed.same ?_
  split
  · exact State.ite_clock ((State.record_clock ..).trans (State.sevtLnb_clock ..)) rfl
  · rfl

theorem execPhyPoll_timed (port : Fin 2) (link : LinkState) (s : State) :
    Timed s.clock (execPhyPoll port link s) := by
  unfold execPhyPoll
  extract_lets p old s0 s1 s2
  have later : s.clock.Follows s0.clock := by
    simp only [s0]
    split
    · exact State.advance_follows (.refl _) _
    · exact .refl _
  have polled : s2.clock = s0.clock :=
    State.ite_clock ((State.record_clock ..).trans
      (State.clock_of_outside (State.evtFld_outside rfl rfl s1 1))) rfl
  have follows := later.same polled
  clear_value s2
  rw [timed_next]
  exact State.ite_follows (State.ite_follows follows ((follows.same (State.clock_of_outside (State.evtFld_outside rfl rfl ..))).same
    (State.record_clock ..))) (.refl _)

theorem execCanFrameReceived_timed (c : Fin 2) (f : CanFrame) (sof : Nat) (s : State) :
    Timed s.clock (execCanFrameReceived c f sof s) := by
  unfold execCanFrameReceived
  dsimp only
  (repeat' split) <;> simp

theorem execCanFrameStart_timed (c : Fin 2) (sof : Nat) (s : State) :
    Timed s.clock (execCanFrameStart c sof s) := by
  unfold execCanFrameStart
  extract_lets s0 c
  have later : s.clock.Follows s0.clock := State.advance_follows (.refl _) _
  clear_value s0
  rw [timed_next]
  split
  · exact .refl _
  · extract_lets f s1 s2
    have sent : s1.clock = s0.clock :=
      (State.clock_of_outside (State.send_outside rfl ..)).trans (State.clock_of_outside (State.updCan_outside rfl ..))
    have offered : s2.clock = s1.clock := by
      simp only [s2]
      split
      · exact State.clock_of_outside (State.updCan_outside rfl ..)
      · exact State.clock_of_outside (State.updMap_outside rfl ..)
      · exact State.clock_of_outside (State.updTx_outside rfl ..)
    have started := Clock.Follows.same later (offered.trans sent)
    clear_value s2
    exact State.ite_follows (.same (.same started (State.clock_of_outside (State.updCan_outside rfl ..)))
      (State.clock_of_outside (State.freeUsed_outside rfl _))) started

theorem execFlushPeriod_timed (s : State) : Timed s.clock (execFlushPeriod s) := by
  unfold execFlushPeriod
  dsimp only
  (repeat' split) <;> simp

theorem execPlannedBistStart_timed (s : State) : Timed s.clock (execPlannedBistStart s) := by
  unfold execPlannedBistStart
  (repeat' split) <;> simp

theorem execSelftestEnd_timed (pass : Bool) (duration : Nat) (s : State) :
    Timed s.clock (execSelftestEnd pass duration s) := by
  unfold execSelftestEnd
  (repeat' split) <;> simp

theorem execTransientAgeOut_timed (unit : Fin 5) (s : State) :
    Timed s.clock (execTransientAgeOut unit s) := by
  unfold execTransientAgeOut
  dsimp only
  (repeat' split) <;> simp

theorem execSoftResetDone_timed (crcEqual : Bool) (s : State) :
    Timed s.clock (execSoftResetDone crcEqual s) := by
  unfold execSoftResetDone
  (repeat' split) <;> simp

theorem execSvBurnStep_timed (readBack : Bool) (s : State) : Timed s.clock (execSvBurnStep readBack s) := by
  have noted (t : State) (k : Nat) : (t.evtCrt k).clock = t.clock := State.evtCrt_clock ..
  have told (t : State) (l : List Nat) : (t.record 2 0x0100 0x0107 l).clock = t.clock :=
    State.record_clock ..
  unfold execSvBurnStep
  refine Timed.same ?_
  split
  · exact State.ite_clock rfl (State.ite_clock (State.ite_clock
      (State.ite_clock (noted ..) ((told ..).trans (noted _ 6))) ((told ..).trans (noted ..))) rfl)
  · rfl

theorem execConfirmationEnd_timed (s : State) : Timed s.clock (execConfirmationEnd s) := by
  unfold execConfirmationEnd
  (repeat' split) <;> simp

theorem execWriteOperationDone_timed (ok : Bool) (s : State) :
    Timed s.clock (execWriteOperationDone ok s) := by
  unfold execWriteOperationDone
  refine Timed.same ?_
  split
  · exact State.ite_clock (State.programSlot_clock ..) (State.writeEnd_clock ..)
  · exact State.blockDone_clock ..
  · exact State.finishDone_clock ..
  · rfl

theorem execSessionOpen_timed (p : Option Peer) (level : BitVec 4) (s : State) :
    Timed s.clock (execSessionOpen p level s) := by
  unfold execSessionOpen
  (repeat' split) <;> simp

theorem execTokenExpire_timed (sid : BitVec 16) (s : State) : Timed s.clock (execTokenExpire sid s) := by
  unfold execTokenExpire
  (repeat' split) <;> simp

theorem execChallengeExpire_timed (sid : BitVec 16) (s : State) :
    Timed s.clock (execChallengeExpire sid s) := by
  unfold execChallengeExpire
  (repeat' split) <;> simp

theorem execSessionTimeout_timed (sid : BitVec 16) (s : State) :
    Timed s.clock (execSessionTimeout sid s) := by
  unfold execSessionTimeout
  (repeat' split) <;> simp

theorem execOutputAgreement_timed (s : State) : Timed s.clock (execOutputAgreement s) := by
  have left : s.fallbackLeave.reportsClose.overrun.clock = s.clock :=
    (State.overrun_clock _).trans ((State.reportsClose_clock _).trans s.fallbackLeave_clock)
  unfold execOutputAgreement
  generalize s.fallbackLeave.reportsClose.overrun = w at left
  exact .same (State.ite_clock s.proveClassify_clock (State.ite_clock (State.ite_clock (State.ite_clock
    ((State.compareHolding_clock _).trans ((State.voteOutputs_clock _).trans left)) ((State.voteOutputs_clock _).trans left))
    (State.ite_clock ((State.confirmStep_clock _).trans left) left)) rfl))

/-! ### The commands that come down to their operations -/

/-! #### Power, reset, clocks and start -/

theorem execResetNRise_timed (s0 s1 s2 : BitVec 14) (s : State) : Timed s.clock (execResetNRise s0 s1 s2 s) :=
  .next (State.ite_follows (State.ite_follows (.refl _) (State.strapSample_follows (s := { s with pins.resetN := true }) (.refl _) ..)) (.refl _))

theorem execStrapResample_timed (s0 s1 s2 : BitVec 14) (s : State) : Timed s.clock (execStrapResample s0 s1 s2 s) :=
  .next (State.ite_follows (State.strapSample_follows (State.ite_follows (.refl _) (s.later_follows _)) ..) (.refl _))

theorem execPllLock_timed (density : Option Nat) (s : State) : Timed s.clock (execPllLock density s) :=
  .same (State.ite_clock (State.ite_clock ((State.record_clock ..).trans ((State.recStart_clock ..).trans
    (State.setSt_clock ..))) (State.ite_clock (State.ite_clock ((State.freezeEnd_clock ..).trans (State.recordLate_clock _))
    (State.recordLate_clock _)) rfl)) rfl)

theorem execMonitorTrip_timed (m : Monitor) (s : State) : Timed s.clock (execMonitorTrip m s) := by
  have tripped {w : BitVec 19} : s.clock.Follows (({ s with crt.monst := w } : State).evtCrt 1).clock :=
    Clock.Follows.same (s := s) (.refl _) (State.evtCrt_clock ..)
  exact .next (State.ite_follows (.same (State.monReact_follows tripped m) (State.record_clock ..)) (.refl _))

theorem execReferenceSwitch_timed (toRecovered : Bool) (s : State) : Timed s.clock (execReferenceSwitch toRecovered s) :=
  .same (State.ite_clock (State.ite_clock (State.refSwitch_clock ..) (State.ite_clock (State.refSwitch_clock ..) rfl)) rfl)

theorem execWatchOscMeasure_timed (khz : Nat) (s : State) : Timed s.clock (execWatchOscMeasure khz s) :=
  .next (State.ite_follows (State.ite_follows (s.later_follows _) (.same (s.later_follows _) ((State.crtFault_clock _).trans
    ((State.record_clock ..).trans (State.evtCrt_clock ..))))) (.refl _))

theorem execTestEnd_timed (fusesOk mbistOk lbistOk norAOk norBOk : Bool) (s : State) :
    Timed s.clock (execTestEnd fusesOk mbistOk lbistOk norAOk norBOk s) := by
  have loads := s.enterLoad_clock
  exact .same (State.ite_clock (State.ite_clock (State.startFault_clock ..) (State.ite_clock (State.startFault_clock ..)
    (State.ite_clock ((State.startFault_clock ..).trans loads) (State.ite_clock ((State.startFault_clock ..).trans loads)
    ((State.slotSelect_clock _).trans ((State.slotMatch_clock ..).trans ((State.slotMatch_clock ..).trans loads))))))) rfl)

theorem execNorBlockRead_timed (chip : Chip) (k : Fin 255) (data : List Byte) (s : State) :
    Timed s.clock (execNorBlockRead chip k data s) :=
  .ite (.same (State.ite_clock (State.ite_clock (State.blockGood_clock ..) (State.blockBad_clock ..)) rfl)) (timed_fault _ _)

/-! #### The logic cycle -/

theorem execLogicCycleBoundary_timed (n : Nat) (s : State) : Timed s.clock (execLogicCycleBoundary n s) :=
  .next (State.ite_follows (.same (s.laterCt_follows _) ((State.commitSet_clock ..).trans ((State.cycleAct_clock ..).trans
    (State.cycleTime_clock ..)))) (.refl _))

theorem execAgreedImageApply_timed (s : State) : Timed s.clock (execAgreedImageApply s) :=
  .same (State.ite_clock ((State.scanStart_clock _).trans ((State.splitApply_clock _).trans
    ((State.agreedFollow_clock _).trans ((State.forcesApply_clock _).trans ((State.onlinesApply_clock _).trans
    ((State.mirrorApply_clock _).trans ((State.agreedApply_clock _).trans (State.transferApply_clock s)))))))) rfl)

theorem execStepComplete_timed (s : State) : Timed s.clock (execStepComplete s) :=
  .same (State.ite_clock ((State.cmdEnd_clock _).trans (State.ite_clock (State.evtLge_clock ..) rfl)) rfl)

/-! #### The guardian -/

theorem execGuardianPass_timed (k : Nat) (e : GrdEcc) (s : State) : Timed s.clock (execGuardianPass k e s) := by
  have checked {n : Nat} {e : GrdEcc} := (s.laterCt_follows n).same (State.grdEcc_clock _ e)
  exact .next (State.ite_follows (State.ite_follows (State.pass_follows checked) checked) (s.laterCt_follows _))

theorem execTableCrcCheck_timed (bad : List (Nat × Word)) (s : State) : Timed s.clock (execTableCrcCheck bad s) :=
  .next (State.ite_follows (State.ite_follows (s.later_follows _) (.same (s.later_follows _) ((State.guardianFault_clock ..).trans
    (State.guardianEvent_clock ..)))) (.refl _))

theorem execRegatherCheck_timed (s : State) : Timed s.clock (execRegatherCheck s) :=
  .same (State.ite_clock (State.ite_clock rfl ((State.guardianFault_clock ..).trans (State.guardianEvent_clock ..))) rfl)

/-! #### The vote -/

theorem execAdmission_timed (s : State) : Timed s.clock (execAdmission s) :=
  .same (State.ite_clock ((State.clock_of_outside (State.drivesOn_outside rfl rfl rfl rfl _)).trans
    ((State.clock_of_outside (State.paramsLog_outside rfl ..)).trans
    ((State.clock_of_outside (State.lockoutsTake_outside rfl ..)).trans (State.setRole_clock s _)))) rfl)

theorem execPeerSilent_timed (k : Fin 2) (s : State) : Timed s.clock (execPeerSilent k s) :=
  .same (State.ite_clock ((State.consentWithdraw_clock ..).trans (State.updNode_clock ..)) rfl)

theorem execAutomaticSwitchover_timed (s : State) : Timed s.clock (execAutomaticSwitchover s) := by
  have held := s.setRole_clock .holding
  exact .same (State.ite_clock (State.ite_clock ((State.confEnds_clock _).trans held) held) rfl)

theorem execReplicaCompare_timed (attributable : Bool) (s : State) : Timed s.clock (execReplicaCompare attributable s) :=
  .same (State.ite_clock (State.ite_clock rfl ((State.withdraw_clock ..).trans (State.evtLge_clock ..))) rfl)

theorem execConsentLost_timed (k : Fin 2) (s : State) : Timed s.clock (execConsentLost k s) :=
  .same (State.ite_clock (State.ite_clock ((State.enterSafe_clock ..).trans (State.setCons_clock ..))
    (State.setCons_clock ..)) rfl)

theorem execPfailFall_timed (s : State) : Timed s.clock (execPfailFall s) := by
  have recorded (t : State) : ((t.pfailRecord.enterSafe 4).flushNow true).clock = t.clock :=
    (State.clock_of_outside (State.flushNow_outside rfl rfl ..)).trans ((State.enterSafe_clock ..).trans (State.pfailRecord_clock t))
  have closed (t : State) : ({ t.evtRec 5 with rcd.closed := true } : State).clock = t.clock :=
    State.clock_of_outside (State.evtRec_outside rfl rfl t 5)
  exact .same (State.ite_clock (State.ite_clock (State.enterSafe_clock ..) (State.ite_clock ((closed _).trans (recorded _)) rfl)) rfl)

/-! #### The angle and the slots -/

theorem execSlewEnd_timed (s : State) : Timed s.clock (execSlewEnd s) := by
  have suspended (t : State) : t.angleSusp.clock = t.clock := State.clock_of_outside (State.angleSusp_outside rfl rfl rfl t)
  exact .next (State.ite_follows (.same (s.later_follows _) (suspended _)) (.refl _))

/-! #### Measurement -/

theorem execRefReady_timed (s : State) : Timed s.clock (execRefReady s) :=
  .next (State.ite_follows (.same (s.later_follows _) (State.clock_of_outside (State.spanResets_outside rfl ..))) (.refl _))

theorem execFastSample_timed (ch : Fin 50) (raw : BitVec 17) (t : Nat) (s : State) :
    Timed s.clock (execFastSample ch raw t s) := by
  have taken {t n : Nat} {f : MeaState → MeaState} {v : Int} {q : Bool} :
      s.clock.Follows ((((s.advance t).gridNote n 25000 t).updMea n f).winSamples n false v q).clock :=
    .same (s.later_follows t) ((State.clock_of_outside (State.winSamples_outside rfl rfl rfl ..)).trans
      ((State.clock_of_outside (State.updMea_outside rfl ..)).trans (State.clock_of_outside (State.gridNote_outside rfl ..))))
  exact .next (State.ite_follows (State.ite_follows (.same taken (State.clock_of_outside (State.lampSample_outside rfl rfl rfl ..)))
    taken) (s.later_follows _))

theorem execFineSample_timed (ch : Fin 50) (raw : BitVec 25) (t : Nat) (s : State) :
    Timed s.clock (execFineSample ch raw t s) :=
  .next (State.ite_follows (.same (s.later_follows _) ((State.clock_of_outside (State.winSamples_outside rfl rfl rfl ..)).trans
    ((State.clock_of_outside (State.updMea_outside rfl ..)).trans (State.clock_of_outside (State.gridNote_outside rfl ..)))))
    (s.later_follows _))

theorem execRotationPathSwitch_timed (si : Fin 2) (s : State) : Timed s.clock (execRotationPathSwitch si s) := by
  have switched : s.clock.Follows s.switchNow.clock := State.switchNow_follows (.refl _)
  exact .next (State.ite_follows (State.ite_follows (.same switched
    (State.clock_of_outside (State.rotationBack_outside rfl rfl rfl rfl rfl rfl rfl rfl rfl ..)))
    (State.ite_follows (.same switched ((State.clock_of_outside (State.setSi_outside rfl ..)).trans
    (State.clock_of_outside (State.updMea_outside rfl ..)))) (.refl _))) (.refl _))

theorem execRotationCommit_timed (si : Fin 2) (s : State) : Timed s.clock (execRotationCommit si s) :=
  .next (State.ite_follows (.same (State.switchNow_follows (.refl _))
    ((State.clock_of_outside (State.calReport_outside rfl rfl ..)).trans ((State.record_clock ..).trans
    ((State.clock_of_outside (State.siRelease_outside rfl ..)).trans (State.clock_of_outside (State.updMea_outside rfl ..)))))) (.refl _))

theorem execCalstale_timed (ch : Fin 48) (s : State) : Timed s.clock (execCalstale ch s) := by
  have updated {k n : Nat} {f : MeaState → MeaState} : s.clock.Follows ((s.advance k).updMea n f).clock :=
    .same (s.later_follows k) (State.clock_of_outside (State.updMea_outside rfl ..))
  have told (t : State) (l : List Nat) :
      ((({ t with mea.calstale := true } : State).evtMea 7).record 3 0x0800 0x0809 l).clock = t.clock :=
    (State.record_clock ..).trans (State.clock_of_outside (State.evtMea_outside rfl rfl { t with mea.calstale := true } 7))
  exact .next (State.ite_follows (State.ite_follows updated (updated.same (told ..))) (.refl _))

/-! #### Inputs, outputs and lamps -/

theorem execVinFilterChange_timed (n : Fin 64) (c : LevelChange) (s : State) : Timed s.clock (execVinFilterChange n c s) :=
  .next (State.ite_follows (.same (s.laterCt_follows _) (State.clock_of_outside (State.updVin_outside rfl ..))) (.refl _))

theorem execTpoFrameStart_timed (f : Nat) (obs : List FrameObs) (s : State) : Timed s.clock (execTpoFrameStart f obs s) :=
  .next (State.ite_follows (State.ite_follows (.same (s.laterCt_follows _) ((State.clock_of_outside (State.frameOpen_outside rfl _)).trans
    (State.clock_of_outside (State.frameJudgeAll_outside rfl rfl rfl ..))))
    (.same (s.laterCt_follows _) (State.clock_of_outside (State.frameStartAll_outside rfl ..)))) (.refl _))

theorem execFallbackOutvoted_timed (g : Fin 16) (s : State) : Timed s.clock (execFallbackOutvoted g s) :=
  .same (State.ite_clock ((State.withdraw_clock ..).trans ((State.record_clock ..).trans
    ((State.clock_of_outside (State.evtLmp_outside rfl rfl ..)).trans (State.clock_of_outside (State.updGroup_outside rfl ..))))) rfl)

theorem execVoutDriveFault_timed (n : Fin 32) (s : State) : Timed s.clock (execVoutDriveFault n s) :=
  .next (State.ite_follows (.same (s.later_follows _) ((State.withdraw_clock ..).trans ((State.record_clock ..).trans
    ((State.clock_of_outside (State.evtVio_outside rfl rfl ..)).trans (State.clock_of_outside (State.updVout_outside rfl ..)))))) (.refl _))

theorem execLampDriveFault_timed (ch : Fin 32) (s : State) : Timed s.clock (execLampDriveFault ch s) :=
  .next (State.ite_follows (.same (s.later_follows _) ((State.withdraw_clock ..).trans ((State.record_clock ..).trans
    ((State.clock_of_outside (State.evtLmp_outside rfl rfl ..)).trans (State.clock_of_outside (State.updLamp_outside rfl ..)))))) (.refl _))

theorem execVfbFilterChange_timed (m : Fin 32) (c : LevelChange) (s : State) : Timed s.clock (execVfbFilterChange m c s) :=
  .next (State.ite_follows (.same (State.advance_follows (s.later_follows _) _)
    (State.clock_of_outside (State.monFeedbacks_outside rfl rfl rfl ..))) (.refl _))

/-! #### The lane bus -/

theorem execAttemptFailed_timed (s : State) : Timed s.clock (execAttemptFailed s) :=
  .next (State.ite_follows (.refl _) (State.ite_follows (State.enterListen_follows (s.laterCt_follows _) ..)
    (State.ite_follows (State.enterListen_follows (s.laterCt_follows _) ..) (.refl _))))

theorem execSyncLost_timed (s : State) : Timed s.clock (execSyncLost s) :=
  .next (State.ite_follows (State.enterListen_follows (.same (.refl _) ((State.record_clock ..).trans (State.sevtLnb_clock ..))) ..)
    (.refl _))

theorem execSingleChannelLimit_timed (node : Fin 8) (s : State) : Timed s.clock (execSingleChannelLimit node s) :=
  .same (State.ite_clock ((State.record_clock ..).trans ((State.evtLnb_clock ..).trans (State.updNode_clock ..))) rfl)

theorem execRecoveredClockRevoked_timed (cause : Fin 4) (s : State) : Timed s.clock (execRecoveredClockRevoked cause s) := by
  have revoked {k : Nat} : s.clock.Follows (s.recRevoke k).clock := .same (.refl _) (State.recRevoke_clock ..)
  exact .next (State.ite_follows (State.ite_follows (State.clockLoss_follows revoked) revoked) (.refl _))

theorem execDigestVote_timed (s : State) : Timed s.clock (execDigestVote s) :=
  .next (State.ite_follows (.same (State.ite_follows (.refl _) (s.later_follows _)) (State.digestDecide_clock _)) (.refl _))

/-! #### The field network and CAN -/

theorem execBusoffRecovered_timed (c : Fin 2) (s : State) : Timed s.clock (execBusoffRecovered c s) :=
  .next (State.ite_follows (.same (s.later_follows _) (State.clock_of_outside (State.updCan_outside rfl ..))) (.refl _))

theorem execReferenceMessageDue_timed (c : Fin 2) (s : State) : Timed s.clock (execReferenceMessageDue c s) :=
  .next (State.ite_follows (.same (s.laterCt_follows _) (State.clock_of_outside (State.updCan_outside rfl ..))) (.refl _))

/-! #### The recorder -/

theorem execFreezeCommit_timed (s : State) : Timed s.clock (execFreezeCommit s) :=
  .next (State.ite_follows (.same (s.later_follows _) (State.freezeEnd_clock ..)) (.refl _))

theorem execLegkeyTimeout_timed (s : State) : Timed s.clock (execLegkeyTimeout s) :=
  .next (State.ite_follows (.same (s.later_follows _) (State.clock_of_outside (State.legVoid_outside rfl _))) (.refl _))

/-! #### Self-tests -/

theorem execMbistChunk_timed (mem : BistMemory) (ok : Bool) (s : State) : Timed s.clock (execMbistChunk mem ok s) :=
  .same (State.ite_clock (State.ite_clock (State.ite_clock ((State.testReport_clock ..).trans (State.ite_clock rfl rfl))
    (State.ite_clock rfl rfl)) ((State.memFault_clock ..).trans (State.ite_clock ((State.testReport_clock ..).trans
    (State.ite_clock rfl rfl)) (State.ite_clock rfl rfl)))) rfl)

theorem execBistperExpire_timed (s : State) : Timed s.clock (execBistperExpire s) :=
  .next (State.ite_follows (State.ite_follows (.same (s.later_follows _) (State.bistWrite_clock ..)) (s.later_follows _)) (.refl _))

/-! #### Commands of the host -/

theorem execMapRequest_timed (bytes : List Byte) (s : State) : Timed s.clock (execMapRequest bytes s) :=
  .next (State.ite_follows (State.ite_follows (State.mapServe_follows (.refl _) ..) (.refl _)) (.refl _))

theorem execBdataWrite_timed (sid : BitVec 16) (value : Word) (s : State) : Timed s.clock (execBdataWrite sid value s) :=
  .next (State.plainWrite_follows (.refl _) (fun _ k => k.same (State.bdataSet_clock ..)) ..)

theorem execFallbackExitCommand_timed (sid : BitVec 16) (s : State) : Timed s.clock (execFallbackExitCommand sid s) :=
  .next (State.command_follows (.refl _) (fun _ k => k.same (State.fallbackExit_clock ..)) ..)

theorem execLearn_timed (sid : BitVec 16) (ch : Fin 32) (cyc : BitVec 8) (s : State) : Timed s.clock (execLearn sid ch cyc s) :=
  .next (State.command_follows (.refl _) (fun _ k => k.same (State.learnWrite_clock ..)) ..)

theorem execBistAbort_timed (sid : BitVec 16) (s : State) : Timed s.clock (execBistAbort sid s) :=
  .next (State.command_follows (.refl _) (fun _ k => k.same (State.bistAbortWrite_clock _)) ..)

theorem execKeyburn_timed (sid : BitVec 16) (s : State) : Timed s.clock (execKeyburn sid s) :=
  .next (State.command_follows (.refl _) (fun _ k => k.same (State.keyburnWrite_clock _)) ..)

theorem execFreeze_timed (sid : BitVec 16) (s : State) : Timed s.clock (execFreeze sid s) :=
  .next (State.command_follows (.refl _) (fun _ k => k.same (State.freezeWrite_clock ..)) ..)

end Sys2Proof.Machine
end

section
/-! PROOF. Cluster time never decreases (R51, R383). -/

namespace Sys2Proof.Machine

open Sys2Proof.Safety

/-- Every command but the clock correction lets cluster time run on, or leaves it invalid or in another bus state (R51). -/
theorem exec_timed {i : Instr} (other : i ≠ .clockCorrection) (s : State) : Timed s.clock (exec i s) := by
  cases i with
  | clockCorrection => exact absurd rfl other
  | resetNRise => exact execResetNRise_timed _ _ _ s
  | strapResample => exact execStrapResample_timed _ _ _ s
  | validationRetry => exact .next (State.ite_follows (s.later_follows _) (.refl _))
  | pllLock => exact execPllLock_timed _ s
  | monitorTrip => exact execMonitorTrip_timed _ s
  | referenceSwitch => exact execReferenceSwitch_timed _ s
  | watchOscMeasure => exact execWatchOscMeasure_timed _ s
  | lockstepMismatch => exact .same (State.ite_clock (State.lockstep_clock ..) rfl)
  | supWatchdogTimeout => exact .same (State.ite_clock (State.lockstep_clock ..) rfl)
  | testEnd => exact execTestEnd_timed _ _ _ _ _ s
  | norBlockRead => exact execNorBlockRead_timed _ _ _ s
  | amplitudeDetected => exact .same (State.ite_clock rfl rfl)
  | gatherEnd => exact .same (State.ite_clock rfl rfl)
  | gateClosed => exact .same (State.ite_clock rfl rfl)
  | ctloRead => exact .same (State.ite_clock rfl rfl)
  | pfailRise => exact .same (State.ite_clock rfl rfl)
  | railAbove => exact .same (State.ite_clock rfl rfl)
  | vfuseChange => exact .same rfl
  | logicCycleBoundary => exact execLogicCycleBoundary_timed _ s
  | agreedImageApply => exact execAgreedImageApply_timed s
  | ld | ldc | andOpen | andOpenNoOperand | blockClose | st | set | rst | ton | tof | ldte | ldtr | edgr |
  edgf | ldeq | ldne | ldlt | ldle | ldgt | ldge | wstk | khi | fence | endScan | reservedOpcode =>
    exact .of_logic rfl s
  | scanEnd => exact .same (State.ite_clock (State.scanFinish_clock s) rfl)
  | stepComplete => exact execStepComplete_timed s
  | guardianPass => exact execGuardianPass_timed _ _ s
  | guardianStall => exact .next (State.ite_follows (.same (s.later_follows _) (State.vetoNow_clock ..)) (.refl _))
  | tableCrcCheck => exact execTableCrcCheck_timed _ s
  | regatherCheck => exact execRegatherCheck_timed s
  | reportLimit => exact .same (State.ite_clock (State.withdraw_clock ..) rfl)
  | admission => exact execAdmission_timed s
  | basicCycleBoundary => exact .next (State.ite_follows (State.boundary_follows (.refl _) ..) (.refl _))
  | peerSilent => exact execPeerSilent_timed _ s
  | automaticSwitchover => exact execAutomaticSwitchover_timed s
  | replicaCompare => exact execReplicaCompare_timed _ s
  | consentLost => exact execConsentLost_timed _ s
  | consentPresent => exact .next (State.ite_follows (.same (s.later_follows _) (State.setCons_clock ..)) (.refl _))
  | pfailFall => exact execPfailFall_timed s
  | zeroCrossing => exact .same (State.ite_clock (State.crossingTake_clock ..) rfl)
  | slewEnd => exact execSlewEnd_timed s
  | angleSlotFire => exact .next (State.ite_follows (State.slotsAt_follows (.refl _) ..) (.refl _))
  | timeSlotFire => exact .next (State.ite_follows (State.slotsAt_follows (.refl _) ..) (.refl _))
  | refReady => exact execRefReady_timed s
  | refLost => exact .of_framed (execRefLost_framed rfl rfl rfl rfl rfl rfl rfl rfl rfl s)
  | startCalibrationEnd => exact .of_framed (execStartCalibrationEnd_framed rfl rfl rfl rfl rfl rfl rfl rfl rfl _ s)
  | stabilityReset => exact .of_framed (execStabilityReset_framed rfl rfl rfl _ s)
  | fastSample => exact execFastSample_timed _ _ _ s
  | fineSample => exact execFineSample_timed _ _ _ s
  | rotationPathSwitch => exact execRotationPathSwitch_timed _ s
  | rotationCommit => exact execRotationCommit_timed _ s
  | calstale => exact execCalstale_timed _ s
  | vinFilterChange => exact execVinFilterChange_timed _ _ s
  | tpoFrameStart => exact execTpoFrameStart_timed _ _ s
  | tpoReadbackFault => exact .of_framed (execTpoReadbackFault_framed rfl rfl rfl _ s)
  | lockoutOutvoted => exact .of_framed (execLockoutOutvoted_framed rfl rfl rfl rfl rfl rfl rfl rfl _ s)
  | provingOutvoted => exact .of_framed (execProvingOutvoted_framed rfl rfl rfl rfl rfl rfl rfl rfl _ _ s)
  | fallbackOutvoted => exact execFallbackOutvoted_timed _ s
  | voutDriveFault => exact execVoutDriveFault_timed _ s
  | lampDriveFault => exact execLampDriveFault_timed _ s
  | vfbFilterChange => exact execVfbFilterChange_timed _ _ s
  | restartQualified => exact .next (State.ite_follows (s.later_follows _) (.refl _))
  | restartWindowExpire => exact .next (State.ite_follows (.same (s.later_follows _) (State.cmdEnd_clock _)) (.refl _))
  | guardianCutoff => exact .same (State.ite_clock ((State.record_clock ..).trans (State.evtLnb_clock ..)) rfl)
  | carrierInvalid => exact .same (State.ite_clock (State.carrierLost_clock ..) rfl)
  | attemptFailed => exact execAttemptFailed_timed s
  | syncLost => exact execSyncLost_timed s
  | singleChannelLimit => exact execSingleChannelLimit_timed _ s
  | recoveredClockRevoked => exact execRecoveredClockRevoked_timed _ s
  | digestVote => exact execDigestVote_timed s
  | ethernetFrame => exact .of_framed (execEthernetFrame_framed rfl _ _ _ s)
  | arpRequest => exact .of_framed (execArpRequest_framed rfl _ _ s)
  | icmpEchoRequest => exact .of_framed (execIcmpEchoRequest_framed rfl rfl _ _ s)
  | portSingle => exact .of_framed (execPortSingle_framed rfl rfl rfl _ s)
  | mimanTelegram => exact .of_framed (execMimanTelegram_framed rfl rfl rfl _ _ _ s)
  | canAckError => exact .of_framed (execCanAckError_framed rfl rfl rfl _ s)
  | canError => exact .of_framed (execCanError_framed rfl rfl rfl _ _ _ s)
  | canTxComplete => exact .of_framed (execCanTxComplete_framed rfl rfl rfl _ s)
  | post => exact .of_framed (execPost_framed rfl rfl rfl rfl _ s)
  | cancel => exact .of_framed (execCancel_framed rfl rfl rfl rfl _ _ s)
  | entryRelease => exact .of_framed (execEntryRelease_framed rfl rfl rfl rfl _ _ s)
  | receiveAcknowledgement => exact .of_framed (execReceiveAcknowledgement_framed rfl rfl rfl rfl _ s)
  | busoffRecoveryRequest => exact .of_framed (execBusoffRecoveryRequest_framed rfl rfl rfl rfl _ _ s)
  | busoffRecovered => exact execBusoffRecovered_timed _ s
  | referenceMessageDue => exact execReferenceMessageDue_timed _ s
  | recordCreate => exact .of_framed (execRecordCreate_framed rfl rfl _ _ _ _ s)
  | recFlush => exact .of_framed (execRecFlush_framed rfl rfl _ s)
  | freezeStart => exact .of_framed (execFreezeStart_framed rfl rfl s)
  | legHiRead => exact .of_framed (execLegHiRead_framed rfl s)
  | freezeCommit => exact execFreezeCommit_timed s
  | legkeyTimeout => exact execLegkeyTimeout_timed s
  | mbistChunk => exact execMbistChunk_timed _ _ s
  | bistperExpire => exact execBistperExpire_timed s
  | mapRequest => exact execMapRequest_timed _ s
  | close => exact .same (State.ite_clock (State.sessCmd_clock ..) rfl)
  | responseSubmit => exact .same (State.ite_clock ((State.respHi_clock ..).trans (State.useToken_clock ..)) rfl)
  | tokenPresent => exact .same (State.ite_clock ((State.tokHi_clock ..).trans (State.useToken_clock ..)) rfl)
  | lockoutExpire => exact .next (State.ite_follows (s.later_follows _) (.refl _))
  | abort | activate | block | finish | force | handover | online | release | reload | unforce | updOpen =>
    exact .next (State.updWrite_follows (.refl _) ..)
  | abortsw | hold | leavehold | makesafe | restart | resume | stop | switchover =>
    exact .next (State.ctlWrite_follows (.refl _) ..)
  | newest | nextRec | oldest | prevRec | seek => exact .next (State.cursorWrite_follows (.refl _) ..)
  | capture | stepRung | stepRegion | stepScan => exact .next (State.stepWrite_follows (.refl _) ..)
  | legkeyWrite => exact .next (State.legkeyWrite_follows (.refl _) ..)
  | blkWrite => exact .next (State.plainWrite_follows (.refl _) (fun _ k => k.same (State.blkSet_clock ..)) ..)
  | bdataWrite => exact execBdataWrite_timed _ _ s
  | fallbackExitCommand => exact execFallbackExitCommand_timed _ s
  | wallTimeSet => exact .next (State.command_follows (.refl _) (fun _ k => k.same (State.wallSet_clock ..)) ..)
  | lockoutAcknowledgement => exact .next (State.command_follows (.refl _) (fun _ k => k.same (State.lockAck_clock ..)) ..)
  | isolationAcknowledgement => exact .next (State.command_follows (.refl _) (fun _ k => k.same (State.isoAck_clock ..)) ..)
  | learn => exact execLearn_timed _ _ _ s
  | calibrate => exact .next (State.command_follows (.refl _) (fun _ k => k.same (State.calStart_clock ..)) ..)
  | calibrateAbort => exact .next (State.command_follows (.refl _) (fun _ k => k.same (State.calAbort_clock ..)) ..)
  | bistRequest => exact .next (State.command_follows (.refl _) (fun _ k => k.same (State.bistWrite_clock ..)) ..)
  | bistAbort => exact execBistAbort_timed _ s
  | keyburn => exact execKeyburn_timed _ s
  | freeze => exact execFreeze_timed _ s
  | unfreeze => exact .next (State.command_follows (.refl _) (fun _ k => k.same (State.freezeEnd_clock ..)) ..)
  | powerOn => exact execPowerOn_timed _ _ s
  | lossOfPower => exact execLossOfPower_timed s
  | railBelow => exact execRailBelow_timed _ s
  | resetNLow => exact execResetNLow_timed s
  | validationWindow => exact execValidationWindow_timed _ s
  | validationAttemptTimeout => exact execValidationAttemptTimeout_timed s
  | alignReached => exact execAlignReached_timed s
  | loadEnd => exact execLoadEnd_timed _ s
  | regionDrainEnd => exact execRegionDrainEnd_timed s
  | outputAgreement => exact execOutputAgreement_timed s
  | outputCommit => exact execOutputCommit_timed s
  | proveComplete => exact execProveComplete_timed s
  | switchoverCommit => exact execSwitchoverCommit_timed s
  | switchoverRelease => exact execSwitchoverRelease_timed s
  | crossingMissing => exact execCrossingMissing_timed _ s
  | darkPulseEnd => exact execDarkPulseEnd_timed _ s
  | blankingEnd => exact execBlankingEnd_timed _ s
  | inrushEnd => exact execInrushEnd_timed _ s
  | rotationStart => exact execRotationStart_timed _ s
  | rotationPhaseEnd => exact execRotationPhaseEnd_timed _ _ _ _ s
  | voutLiveExpire => exact execVoutLiveExpire_timed _ s
  | monitorBoundElapsed => exact execMonitorBoundElapsed_timed _ s
  | restartFilteredChange => exact execRestartFilteredChange_timed _ _ _ _ s
  | lampLiveExpire => exact execLampLiveExpire_timed _ s
  | learnEnd => exact execLearnEnd_timed s
  | transmitFrame => exact execTransmitFrame_timed _ s
  | arbRoundStart => exact execArbRoundStart_timed _ _ _ s
  | statusFrame => exact execStatusFrame_timed _ s
  | inputFrame => exact execInputFrame_timed _ s
  | outputFrame => exact execOutputFrame_timed _ s
  | fetchRequest => exact execFetchRequest_timed _ s
  | fetchReply => exact execFetchReply_timed _ s
  | mirrorFrame => exact execMirrorFrame_timed _ s
  | stateTransferFrame => exact execStateTransferFrame_timed _ s
  | coldStartFrame => exact execColdStartFrame_timed _ s
  | listenTimeout => exact execListenTimeout_timed _ s
  | swarmReadback => exact execSwarmReadback_timed _ s
  | waitExpire => exact execWaitExpire_timed _ s
  | timevRestored => exact execTimevRestored_timed s
  | clusterFormed => exact execClusterFormed_timed s
  | loneNode => exact execLoneNode_timed s
  | integrationCheckPassed => exact execIntegrationCheckPassed_timed s
  | demotion => exact execDemotion_timed s
  | passiveReturn => exact execPassiveReturn_timed s
  | recoveredClockAdmitted => exact execRecoveredClockAdmitted_timed s
  | phyPoll => exact execPhyPoll_timed _ _ s
  | canFrameReceived => exact execCanFrameReceived_timed _ _ _ s
  | canFrameStart => exact execCanFrameStart_timed _ _ s
  | flushPeriod => exact execFlushPeriod_timed s
  | plannedBistStart => exact execPlannedBistStart_timed s
  | selftestEnd => exact execSelftestEnd_timed _ _ s
  | transientAgeOut => exact execTransientAgeOut_timed _ s
  | softResetDone => exact execSoftResetDone_timed _ s
  | svBurnStep => exact execSvBurnStep_timed _ s
  | confirmationEnd => exact execConfirmationEnd_timed s
  | writeOperationDone => exact execWriteOperationDone_timed _ s
  | fmpDatagram => exact execFmpDatagram_timed _ _ s
  | registerWrite => exact execRegisterWrite_timed _ _ _ s
  | sessionOpen => exact execSessionOpen_timed _ _ s
  | tokenExpire => exact execTokenExpire_timed _ s
  | challengeExpire => exact execChallengeExpire_timed _ s
  | sessionTimeout => exact execSessionTimeout_timed _ s
  | softReset => exact execSoftReset_timed _ _ s
  | gateCloseWrite => exact execGateCloseWrite_timed _ _ s
  | gateOpenWrite => exact execGateOpenWrite_timed _ _ s

/-! ### Every step -/

theorem State.ctAt_of_passed {s t : State} {n : Nat} (passed : t.clock = { s.clock with now := n }) (x : Int) :
    t.ctAt x = s.ctAt x := by
  have off : t.tae.ctOff = s.tae.ctOff := congrArg Clock.off passed
  have rate : t.tae.ctRate = s.tae.ctRate := congrArg Clock.rate passed
  have base : t.tae.ctFrom = s.tae.ctFrom := congrArg Clock.base passed
  have frac : t.tae.ctFrac = s.tae.ctFrac := congrArg Clock.frac passed
  have slew : t.tae.ctSlew = s.tae.ctSlew := congrArg Clock.slew passed
  have held : t.tae.ctHeld = s.tae.ctHeld := congrArg Clock.held passed
  simp only [State.ctAt, Tae.drift, off, rate, base, frac, slew, held]

theorem State.ct_of_passed {s t : State} {n : Nat} (passed : t.clock = { s.clock with now := n }) : t.ct = s.ctAt n := by
  have now : t.pins.now = n := congrArg Clock.now passed
  rw [State.ct, now, State.ctAt_of_passed passed]

theorem Clock.Follows.ct_le {s t : State} (h : s.clock.Follows t.clock) (rules : RateRules s)
    (few : s.tae.ctSlew.length ≤ 1000) (before : s.tae.timev = true) (after : t.tae.timev = true)
    (same : t.lnb.bstate = s.lnb.bstate) : s.ct ≤ t.ct := by
  rcases h with ⟨n, later, passed⟩ | ⟨invalid | invalid | other, -⟩
  · exact State.ct_of_passed passed ▸ State.ctAt_forwards rules few (Int.ofNat_le.mpr later)
  · exact absurd (before.symm.trans invalid) (by decide)
  · exact absurd (after.symm.trans invalid) (by decide)
  · exact absurd same other

theorem State.ctCorrect_rates (s : State) {a rho : Int} (small : a.natAbs ≤ 32) (rate : rho.natAbs ≤ 200000)
    (rules : s.clock.Rates) : (s.ctCorrect a rho).clock.Rates := by
  obtain ⟨-, -, -, -, n, -, slew⟩ := s.ctCorrect_time a rho
  obtain ⟨-, -, spread⟩ := rules
  refine ⟨rate, rate, fun e member => ?_⟩
  have member : e ∈ (s.ctCorrect a rho).tae.ctSlew := member
  rw [slew, List.mem_append, List.mem_singleton] at member
  rcases member with kept | rfl
  · exact spread e (List.mem_of_mem_filter kept)
  · exact small

theorem execClockCorrection_rates {s t : State} (done : execClockCorrection s = .next t) (rules : s.clock.Rates) :
    t.clock.Rates := by
  obtain passes | ⟨u, a, rho, passes, small, rate, corrected⟩ := execClockCorrection_clock done
  · exact passes.rates rules
  · exact corrected ▸ u.ctCorrect_rates small rate (passes.rates rules)

theorem exec_rates {i : Instr} {s t : State} (done : exec i s = .next t) (rules : s.clock.Rates) : t.clock.Rates := by
  by_cases corr : i = .clockCorrection
  · subst corr
    exact execClockCorrection_rates done rules
  · exact (exec_timed corr s t done).rates rules

theorem execClockCorrection_ct {s t : State} (done : execClockCorrection s = .next t) (rules : RateRules s)
    (few : s.tae.ctSlew.length ≤ 1000) (before : s.tae.timev = true) (after : t.tae.timev = true)
    (same : t.lnb.bstate = s.lnb.bstate) : s.ct ≤ t.ct := by
  obtain passes | ⟨u, a, rho, passes, -, -, corrected⟩ := execClockCorrection_clock done
  · exact Clock.Follows.ct_le (.inl passes) rules few before after same
  · obtain ⟨n, later, passed⟩ := passes
    calc s.ct
        ≤ s.ctAt n := State.ctAt_forwards rules few (Int.ofNat_le.mpr later)
      _ = u.ct := (State.ct_of_passed passed).symm
      _ = (u.ctCorrect a rho).ct := (u.ctCorrect_ct a rho).symm
      _ = t.ct := (State.ct_of_passed (n := (u.ctCorrect a rho).pins.now) corrected).symm

theorem step_rates {s t : State} (done : step s = .next t) (rules : s.clock.Rates) : t.clock.Rates := by
  unfold step at done
  split at done
  · obtain rfl := Host.Outcome.next.inj done
    exact s.tick_follows.rates rules
  · exact exec_rates done rules

/-- Settles O37: a correction is small against the time that passes, and no command but it moves a valid time in its bus state. -/
theorem clusterTimeNeverDecreases : Obligations.ClusterTimeNeverDecreases := by
  refine ⟨fun s t rules done => step_rates done rules, fun x y s rules _ few le => ?_, fun a rho s _ => ?_,
    fun i s t rules few done before after same => ?_⟩
  · exact State.ctAt_forwards rules few (Int.ofNat_le.mpr le)
  · exact s.ctCorrect_ct a rho
  · by_cases corr : i = .clockCorrection
    · subst corr
      exact execClockCorrection_ct done rules few before after same
    · exact (exec_timed corr s t done).ct_le rules few before after same

end Sys2Proof.Machine
end

section
/-! PROOF. The own angle as crossings, their loss and the end of a slew leave it, and the commands at TAE's registers. -/

namespace Sys2Proof.Machine

open Sys2Proof.Safety

/-! ### The own angle on an AC supply -/

theorem Tae.angleGain_zero (x : Tae) : x.angleGain 0 = 0 := by
  simp [Tae.angleGain]

/-- An angle is wrapped once (R64). -/
theorem wrapAngle_wrapped (i : Int) : wrapAngle (wrapAngle i : Int) = wrapAngle i := by
  have positive : (0 : Int) ≤ i % (turn : Int) := Int.emod_nonneg _ (by decide)
  rw [wrapAngle, wrapAngle, Int.toNat_of_nonneg positive, Int.emod_emod_of_dvd _ dvd_rfl]

/-- The loop's supply: it runs, and not on DC. -/
theorem State.angleLoops_iff {s : State} :
    s.angleLoops = true ↔ s.tae.loopOn = true ∧ s.dcAngle = false ∧ s.blockLive 3 = true := by
  simp [State.angleLoops, and_assoc]

theorem State.ownAngleAt_ac {s : State} (loop : s.tae.loopOn = true) (ac : s.dcAngle = false) (x : Int) :
    s.ownAngleAt x = wrapAngle ((s.tae.angle : Int) + s.tae.angleGain (x - s.tae.angAt) / 100000000000000) := by
  simp [State.ownAngleAt, loop, ac]

/-- An angle that was based anew at its own value has made no step (R61). -/
theorem State.ownAngle_of_based {s t : State} (loop : s.tae.loopOn = true) (ac : s.dcAngle = false)
    (loop' : t.tae.loopOn = true) (ac' : t.dcAngle = false) (angle : t.tae.angle = s.ownAngle)
    (from_ : t.tae.angAt = t.pins.now) : t.ownAngle = s.ownAngle := by
  rw [State.ownAngle, State.ownAngleAt_ac loop' ac', from_, sub_self, Tae.angleGain_zero, Int.zero_ediv, add_zero, angle,
    State.ownAngle, State.ownAngleAt_ac loop ac, wrapAngle_wrapped]

theorem State.dcAngle_of_kept {s t : State} (img : t.img = s.img) (eff : t.lane.eff = s.lane.eff) : t.dcAngle = s.dcAngle := by
  rw [State.dcAngle, State.dcAngle, State.supNom, State.supNom, State.taeCfg, State.taeCfg, State.supf, State.supf,
    State.cfg_of_img img, eff]

/-- The check of the proving of lamps against the angle leaves what the angle is read from. -/
theorem State.angleSusp_reads (s : State) : s.angleSusp.tae = s.tae ∧ s.angleSusp.pins = s.pins ∧ s.angleSusp.img = s.img ∧
    s.angleSusp.lane.quiet = s.lane.quiet := by
  have out := State.angleSusp_outside (u := { attn := true, lmp := true, rcd := true }) rfl rfl rfl s
  exact ⟨State.tae_of_outside out rfl, State.pins_of_outside out rfl rfl rfl rfl, State.img_of_outside out rfl,
    State.quiet_of_outside out rfl⟩

/-! ### A crossing (R58 to R61) -/

/-- The crossing is noted, with the count `n` of the good ones in a row. -/
def State.crossingNoted (s : State) (ch x n : Nat) (up : Bool) : State :=
  { s with
    tae.lastX := tabSet { ts := [], pos := false } ch
      ((tabGet { ts := [], pos := false } ch s.tae.lastX).add x up) s.tae.lastX,
    tae.goodX := tabSet 0 ch n s.tae.goodX }

theorem State.crossingNoted_dcAngle (s : State) (ch x n : Nat) (up : Bool) :
    (s.crossingNoted ch x n up).dcAngle = s.dcAngle := State.dcAngle_of_kept rfl rfl

theorem State.crossingNoted_ownAngle {s : State} (loop : s.tae.loopOn = true) (ac : s.dcAngle = false) (ch x n : Nat)
    (up : Bool) : (s.crossingNoted ch x n up).ownAngle = s.ownAngle := by
  rw [State.ownAngle, State.ownAngle, State.ownAngleAt_ac loop ac,
    State.ownAngleAt_ac (s := s.crossingNoted ch x n up) loop ((s.crossingNoted_dcAngle ch x n up).trans ac)]
  rfl

/-- A crossing that is noted pulls the angle from where it stands: it makes no step (R61). -/
theorem State.pulled_ownAngle {s t : State} (loop : s.tae.loopOn = true) (ac : s.dcAngle = false) {ch x n : Nat} {up : Bool}
    (angle : t.tae.angle = (s.crossingNoted ch x n up).ownAngle) (from_ : t.tae.angAt = t.pins.now) (on : t.tae.loopOn = true) (img : t.img = s.img) (eff : t.lane.eff = s.lane.eff) :
    t.ownAngle = s.ownAngle :=
  State.ownAngle_of_based loop ac on (State.dcAngle_of_kept img eff ▸ ac)
    (angle.trans (State.crossingNoted_ownAngle loop ac ch x n up)) from_

/-- The lock: the angle is pulled towards the crossing, is valid, and lacks the phase difference (R60, R61). -/
theorem State.angleLock_reads (s : State) (x f : Nat) (up : Bool) :
    (s.angleLock x f up).tae = { (s.anglePull x f up).tae with
      slew := decide ((s.anglePull x f up).tae.slewLeft ≠ 0), angv := true, outWin := 0, evt := putBit s.tae.evt 1 true } ∧
    (s.angleLock x f up).pins = s.pins ∧ (s.angleLock x f up).img = s.img ∧
    (s.angleLock x f up).lane.eff = s.lane.eff := by
  obtain ⟨tae, pins, img, lane⟩ := State.angleSusp_reads (State.evtTae { s.anglePull x f up with
    tae.slew := decide ((s.anglePull x f up).tae.slewLeft ≠ 0), tae.angv := true, tae.outWin := 0 } 1)
  have quiet := lane.trans (State.quiet_of_outside (u := { attn := true, tae := true }) (State.evtTae_outside rfl rfl _ 1) rfl)
  exact ⟨(tae.trans (State.evtTae_tae _ 1)).trans rfl, (pins.trans (State.evtTae_pins _ 1)).trans rfl,
    (img.trans (State.evtTae_img _ 1)).trans rfl, (congrArg Lane.eff quiet :)⟩

/-- A bit that is set reads 1. -/
theorem getLsbD_putBit_true {w : Nat} (v : BitVec w) {k : Nat} (h : k < w) : (putBit v k true).getLsbD k = true := by
  simp [putBit, h]

/-- The frequency that a crossing measures: over the last whole period, or over half of one where a crossing is missing (R59). -/
def State.crossingFreq (s : State) (ch x : Nat) : Nat :=
  match (tabGet { ts := [], pos := false } ch s.tae.lastX).ts with
  | t1 :: t2 :: _ => if t2 + 3 * s.halfNs < x then halvesFreq 1 (x - t1) else halvesFreq 2 (x - t2)
  | _ => s.tae.freq

/-- The good crossings of a channel in a row, with this one (R60). -/
def State.crossingRun (s : State) (ch x : Nat) (up : Bool) : Nat :=
  if s.goodCrossing x up (tabGet { ts := [], pos := false } ch s.tae.lastX) then tabGet 0 ch s.tae.goodX + 1 else 0

/-- A crossing is noted; in the reference channel it is tracked where one is expected, or locks a lost angle (R60, R61). -/
theorem State.crossingTake_eq (s : State) (ch x : Nat) (up : Bool) : s.crossingTake ch x up =
    if ch ≠ s.refChan then s.crossingNoted ch x (s.crossingRun ch x up) up
    else if s.tae.angv then
      if s.crossingExpected x ((tabGet { ts := [], pos := false } ch s.tae.lastX).ts.headD 0) then
        (s.crossingNoted ch x (s.crossingRun ch x up) up).angleTrack x (s.crossingFreq ch x) up
      else s
    else if 8 ≤ s.crossingRun ch x up then
      (s.crossingNoted ch x (s.crossingRun ch x up) up).angleLock x (s.crossingFreq ch x) up
    else s.crossingNoted ch x (s.crossingRun ch x up) up := rfl

theorem State.crossingFreq_whole {s : State} {ch x x1 x2 : Nat} {l : List Nat}
    (two : (tabGet { ts := [], pos := false } ch s.tae.lastX).ts = x1 :: x2 :: l) (near : x ≤ x2 + 3 * s.halfNs) :
    s.crossingFreq ch x = halvesFreq 2 (x - x2) := by
  rw [State.crossingFreq, two]
  exact if_neg (Nat.not_lt.mpr near)

section
variable {ch : Fin 2} {x : Nat} {up : Bool} {c : Crossings} {s : State} (loops : s.angleLoops = true)
  (stands : s.crossingOf ch.val = some (x, up)) (last : tabGet { ts := [], pos := false } ch.val s.tae.lastX = c)
  (later : c.ts.headD 0 < x)
include loops stands last later

theorem exec_zeroCrossing : exec (.zeroCrossing ch x up) s = .next (s.crossingTake ch.val x up) :=
  next_of_pos (by rw [loops, stands, last]; simpa using later)

theorem crossing_other (other : ch.val ≠ s.refChan) : Answers (.zeroCrossing ch x up) s fun t =>
    tabGet { ts := [], pos := false } ch.val t.tae.lastX = c.add x up ∧ t.tae.angv = s.tae.angv ∧ t.tae.freq = s.tae.freq ∧
    t.tae.angle = s.tae.angle ∧ t.lmp = s.lmp := by
  have listed : c.add x up ≠ { ts := [], pos := false } := by simp [Crossings.add]
  refine ⟨_, exec_zeroCrossing loops stands last later, ?_⟩
  rw [State.crossingTake_eq, if_pos other]
  refine ⟨?_, rfl, rfl, rfl, rfl⟩
  simp only [State.crossingNoted, last]
  exact tabGet_tabSet_listed _ listed _

/-- While the angle is valid it follows a crossing where one is expected, without a step (R61). -/
theorem crossing_follows {x1 x2 : Nat} {l : List Nat} (ref : ch.val = s.refChan) (valid : s.tae.angv = true)
    (two : c.ts = x1 :: x2 :: l) (near : x ≤ x2 + 3 * s.halfNs) (expected : s.crossingExpected x x1 = true)
    (window : s.inFreqWindow (halvesFreq 2 (x - x2)) = true) :
    Answers (.zeroCrossing ch x up) s fun t => t.tae.freq = halvesFreq 2 (x - x2) ∧ t.tae.runFreq = halvesFreq 2 (x - x2) ∧
      t.ownAngle = s.ownAngle ∧ t.tae.angv = true ∧ t.tae.missX = 0 ∧ t.tae.outWin = 0 ∧ t.pins.now = s.pins.now := by
  obtain ⟨loop, ac, -⟩ := State.angleLoops_iff.mp loops
  have whole := State.crossingFreq_whole (s := s) (ch := ch.val) (last ▸ two) near
  have here : s.crossingExpected x (c.ts.headD 0) = true := by rw [two]; exact expected
  refine ⟨_, exec_zeroCrossing loops stands last later, ?_⟩
  rw [State.crossingTake_eq, if_neg (not_not.mpr ref), if_pos valid, last, if_pos here, whole, State.angleTrack]
  rw [if_pos (show State.inFreqWindow (s.crossingNoted ch.val x (s.crossingRun ch.val x up) up) _ = true from window)]
  exact ⟨rfl, rfl, State.pulled_ownAngle loop ac rfl rfl loop rfl rfl, valid, rfl, rfl, rfl⟩

/-- The eighth good crossing in a row locks a lost angle, which then gains the phase difference (R60, R61). -/
theorem crossing_locks {x1 x2 : Nat} {l : List Nat} (ref : ch.val = s.refChan) (lost : s.tae.angv = false)
    (two : c.ts = x1 :: x2 :: l) (near : x ≤ x2 + 3 * s.halfNs) (good : s.goodCrossing x up c = true)
    (seven : 7 ≤ tabGet 0 ch.val s.tae.goodX) :
    Answers (.zeroCrossing ch x up) s fun t => t.tae.angv = true ∧ t.tae.freq = halvesFreq 2 (x - x2) ∧
      t.ownAngle = s.ownAngle ∧ t.tae.evt.getLsbD 1 = true ∧ t.tae.slew = decide (t.tae.slewLeft ≠ 0) := by
  obtain ⟨loop, ac, -⟩ := State.angleLoops_iff.mp loops
  have whole := State.crossingFreq_whole (s := s) (ch := ch.val) (last ▸ two) near
  have eight : 8 ≤ s.crossingRun ch.val x up := by
    rw [State.crossingRun, last, if_pos good]
    omega
  refine ⟨_, exec_zeroCrossing loops stands last later, ?_⟩
  rw [State.crossingTake_eq, if_neg (not_not.mpr ref), if_neg (by simp [lost]), if_pos eight, whole]
  obtain ⟨tae, pins, img, eff⟩ :=
    (s.crossingNoted ch.val x (s.crossingRun ch.val x up) up).angleLock_reads x (halvesFreq 2 (x - x2)) up
  refine ⟨?_, ?_, State.pulled_ownAngle loop ac (congrArg Tae.angle tae) ?_ ?_ img eff, ?_, ?_⟩
  · rw [tae]
  · rw [tae]
    rfl
  · rw [tae, pins]
    rfl
  · rw [tae]
    exact loop
  · rw [tae]
    exact getLsbD_putBit_true _ (by decide)
  · rw [tae]

/-- A crossing that is not good leaves a lost angle lost (R60). -/
theorem crossing_poor (ref : ch.val = s.refChan) (lost : s.tae.angv = false) (poor : s.goodCrossing x up c = false) :
    Answers (.zeroCrossing ch x up) s fun t => t.tae.angv = false ∧ t.tae.freq = s.tae.freq ∧
      t.tae.runFreq = s.tae.runFreq := by
  have none_yet : s.crossingRun ch.val x up = 0 := by simp [State.crossingRun, last, poor]
  refine ⟨_, exec_zeroCrossing loops stands last later, ?_⟩
  rw [State.crossingTake_eq, if_neg (not_not.mpr ref), if_neg (by simp [lost]), none_yet, if_neg (by decide)]
  exact ⟨lost, rfl, rfl⟩

end

/-! ### A crossing that is missing, and the end of a slew (R61) -/

/-- A crossing that fails to come on the reference channel while the angle is valid: it counts, and the fourth in a row loses the
angle (R61). -/
theorem execCrossingMissing_ref {ch : Fin 2} {x : Nat} {l : List Nat} {s : State} (loops : s.angleLoops = true)
    (ref : ch.val = s.refChan) (valid : s.tae.angv = true)
    (last : (tabGet { ts := [], pos := false } ch.val s.tae.lastX).ts = x :: l) :
    exec (.crossingMissing ch) s = .next (if 3 < s.tae.missX + 1 then
      State.angleLoss { s.advance (s.missingAt x s.tae.missX) with tae.goodX := tabSet 0 ch.val 0 s.tae.goodX }
      else { s.advance (s.missingAt x s.tae.missX) with
        tae.goodX := tabSet 0 ch.val 0 s.tae.goodX, tae.missX := s.tae.missX + 1 }) := by
  show execCrossingMissing ch s = _
  rw [execCrossingMissing, last]
  dsimp only
  rw [if_pos loops, decide_eq_true ref, valid]
  rfl

theorem crossingMissing_counts {ch : Fin 2} {x : Nat} {l : List Nat} {s : State} (loops : s.angleLoops = true)
    (ref : ch.val = s.refChan) (valid : s.tae.angv = true)
    (last : (tabGet { ts := [], pos := false } ch.val s.tae.lastX).ts = x :: l) (few : s.tae.missX < 3) :
    Answers (.crossingMissing ch) s fun t => t = { s.advance (s.missingAt x s.tae.missX) with
      tae.goodX := tabSet 0 ch.val 0 s.tae.goodX, tae.missX := s.tae.missX + 1 } :=
  ⟨_, (execCrossingMissing_ref loops ref valid last).trans (next_of_neg (by omega)), rfl⟩

theorem slewEnd_ends {s : State} (loops : s.angleLoops = true) (slews : s.tae.slew = true) (runs : 0 < s.tae.runFreq) :
    Answers .slewEnd s fun t => t.tae.slew = false ∧ t.tae.slewLeft = 0 ∧ t.tae.runFreq = s.tae.runFreq ∧
      t.pins.now = max s.pins.now s.slewDone ∧ t.tae.angle = s.ownAngleAt t.pins.now := by
  obtain ⟨loop, ac, -⟩ := State.angleLoops_iff.mp loops
  refine ⟨_, next_of_pos (by simp [loops, slews, runs]), ?_⟩
  obtain ⟨tae, pins, -, -⟩ := State.angleSusp_reads
    { (s.advance s.slewDone).angleRebase with tae.slew := false, tae.slewLeft := 0 }
  rw [tae, pins]
  exact ⟨rfl, rfl, rfl, rfl, rfl⟩

/-- The loss of the angle, before the loop may fall back to the other channel: the angle runs on as it ran (R61). -/
theorem State.angleLost_reads (s : State) : ∃ u : State,
    (s.angleLoss = u ∨ ∃ sev code, s.angleLoss = (State.evtTae { u.freeUsed with tae.srcact := true } 5).record sev 0x0300 code [1]) ∧
    u.tae.angv = false ∧ u.tae.runFreq = s.tae.runFreq ∧ u.tae.loss = satInc 255 s.tae.loss ∧
    u.tae.evt = putBit s.tae.evt 0 true ∧ u.lane.role = s.lane.role ∧ u.lane.st = s.lane.st := by
  unfold State.angleLoss
  extract_lets s1 tae s2 s3
  obtain ⟨tae, -, -, lane⟩ := (s2.evtTae 0).angleSusp_reads
  have kept := tae.trans (State.evtTae_tae s2 0)
  have quiet := lane.trans (State.quiet_of_outside (u := { attn := true, tae := true }) (State.evtTae_outside rfl rfl s2 0) rfl)
  refine ⟨s3, ?_, ?_, ?_, ?_, ?_, ?_, ?_⟩
  · split
    · exact .inr ⟨_, _, rfl⟩
    · exact .inl rfl
  · exact (congrArg Tae.angv kept).trans rfl
  · exact (congrArg Tae.runFreq kept).trans rfl
  · exact (congrArg Tae.loss kept).trans rfl
  · exact (congrArg Tae.evt kept).trans rfl
  · exact (congrArg Lane.role quiet :).trans rfl
  · exact (congrArg Lane.st quiet :).trans rfl

theorem State.angleLoss_reads (s : State) : s.angleLoss.tae.angv = false ∧ s.angleLoss.tae.runFreq = s.tae.runFreq ∧
    s.angleLoss.tae.loss = satInc 255 s.tae.loss ∧ s.angleLoss.tae.evt.getLsbD 0 = true ∧
    s.angleLoss.lane.role = s.lane.role ∧ s.angleLoss.lane.st = s.lane.st := by
  obtain ⟨u, stays | ⟨sev, code, falls⟩, angv, run, loss, evt, role, st⟩ := s.angleLost_reads
  · rw [stays, evt]
    exact ⟨angv, run, loss, getLsbD_putBit_true _ (by decide), role, st⟩
  · have noted : (putBit (putBit s.tae.evt 0 true) 5 true).getLsbD 0 = true := by simp [putBit]
    have tae : s.angleLoss.tae = { u.tae with srcact := true, evt := putBit u.tae.evt 5 true } := by
      rw [falls, State.record_tae, State.evtTae_tae]
      rfl
    have core : s.angleLoss.lane.core = u.lane.core := by
      rw [falls]
      exact State.core_of_outside (u := { free := true, attn := true, tae := true, rcd := true })
        ((State.record_outside rfl rfl ..).trans ((State.evtTae_outside rfl rfl ..).trans rfl)) rfl
    rw [tae, evt]
    exact ⟨angv, run, loss, noted, (congrArg LaneCore.role core).trans role, (congrArg LaneCore.st core).trans st⟩

theorem crossingMissing_loses {ch : Fin 2} {x : Nat} {l : List Nat} {s : State} (loops : s.angleLoops = true)
    (ref : ch.val = s.refChan) (valid : s.tae.angv = true)
    (last : (tabGet { ts := [], pos := false } ch.val s.tae.lastX).ts = x :: l) (fourth : 3 ≤ s.tae.missX) :
    Answers (.crossingMissing ch) s fun t => t.tae.angv = false ∧ t.tae.runFreq = s.tae.runFreq ∧
      t.tae.loss = satInc 255 s.tae.loss ∧ t.tae.evt.getLsbD 0 = true ∧ t.lane.role = s.lane.role ∧ t.lane.st = s.lane.st :=
  ⟨_, (execCrossingMissing_ref loops ref valid last).trans (next_of_pos (by omega)), State.angleLoss_reads _⟩

/-! ### The wall time (R56, R87) -/

theorem wallTimeSet_taken {sid hi : BitVec 16} {s : State} (auth : Authorised s sid 0x03002C hi.toNat 2)
    (valid : s.tae.timev = true) (free : s.wallOwn = false) :
    Answers (.wallTimeSet sid hi) s fun t => t = { s.useToken sid.toNat with
      tae.wset := .waiting,
      tae.wpend := s.tae.wpend ++ [{ value := hi.toNat * 4294967296 + s.tae.wsetlo.toNat, cycle := none, node := s.node }],
      lnb.entries := s.lnb.entries ++ [[0x02000000, s.tae.wsetlo, BitVec.ofNat 32 hi.toNat]] } := by
  refine ⟨_, congrArg Host.Outcome.next (State.command_authorised _ auth), ?_⟩
  have open_ : ¬ (!(s.useToken sid.toNat).tae.timev || (s.useToken sid.toNat).wallOwn) = true := by
    rw [show (s.useToken sid.toNat).tae.timev = true from valid, show (s.useToken sid.toNat).wallOwn = false from free]
    decide
  rw [State.wallSet, if_neg open_]
  rfl

theorem wallTimeSet_refused {sid hi : BitVec 16} {s : State} (auth : Authorised s sid 0x03002C hi.toNat 2)
    (closed : s.tae.timev = false ∨ s.wallOwn = true) :
    Answers (.wallTimeSet sid hi) s fun t => t = { s.useToken sid.toNat with tae.wset := .refused } := by
  refine ⟨_, congrArg Host.Outcome.next (State.command_authorised _ auth), ?_⟩
  have closed : (!(s.useToken sid.toNat).tae.timev || (s.useToken sid.toNat).wallOwn) = true := by
    show (!s.tae.timev || s.wallOwn) = true
    rcases closed with h | h <;> simp [h]
  rw [State.wallSet, if_pos closed]

/-- Settles O27: each command of the angle, of cluster time's reading and of the wall time by its own effect. -/
theorem angleAndTime : Obligations.AngleAndTime := by
  refine ⟨fun ch x up c s loops stands last later => ⟨?_, fun x1 x2 l => ?_, fun x1 x2 l => ?_, ?_⟩,
    fun ch x l s loops ref valid last => ⟨?_, ?_⟩, fun s => slewEnd_ends, fun s live => ?_, fun sid hi s auth => ⟨?_, ?_⟩⟩
  · exact crossing_other loops stands last later
  · exact crossing_follows loops stands last later
  · exact crossing_locks loops stands last later
  · exact crossing_poor loops stands last later
  · exact crossingMissing_counts loops ref valid last
  · exact crossingMissing_loses loops ref valid last
  · exact ⟨_, ctloRead_latches s live, rfl⟩
  · exact wallTimeSet_taken auth
  · exact wallTimeSet_refused auth

end Sys2Proof.Machine
end

section
/-! PROOF. The power, reset, clock, monitor, load and cycle commands complete (R53, R111, R224, R257, R291, R302 to R318, R454 to
R474, R546 to R566, R622 to R627). -/

namespace Sys2Proof.Machine

open Sys2Proof.Safety

theorem Answers.mono {i : Instr} {s : State} {P Q : State → Prop} (h : Answers i s P) (k : ∀ t, P t → Q t) : Answers i s Q :=
  let ⟨t, run, p⟩ := h
  ⟨t, run, k t p⟩

theorem State.ite_crt {c : Prop} [Decidable c] {s t u : State} (h : t.crt = s.crt) (k : u.crt = s.crt) :
    (if c then t else u).crt = s.crt := by
  split
  · exact h
  · exact k

/-! ### Power, reset and the straps -/

theorem powerOn_completes (p r : Bool) (s : State) (off : s.pins.powered = false) :
    Answers (.powerOn p r) s fun t => t.lane.st = .reset ∧ t.pins.powered = true ∧ t.pins.now = 0 :=
  Answers.mono (powerOn_resets p r s off) fun _ ⟨st, powered, _, now, _⟩ => ⟨st, powered, now⟩

theorem lossOfPower_completes (s : State) (on : s.pins.powered = true) :
    Answers .lossOfPower s fun t => t.lane.st = .off ∧ t.pins.powered = false :=
  Answers.mono (lossOfPower_resets s on) fun _ ⟨st, powered, _⟩ => ⟨st, powered⟩

theorem railBelow_completes (r : Rail) (s : State) (on : s.pins.powered = true) :
    Answers (.railBelow r) s fun t => t.lane.st = .reset ∧ r ∈ t.pins.lowRails :=
  Answers.mono (railBelow_resets r s on) fun _ ⟨st, low, _⟩ => ⟨st, low⟩

theorem railAbove_completes (r : Rail) (s : State) (on : s.pins.powered = true) : Answers (.railAbove r) s fun t =>
    r ∉ t.pins.lowRails ∧ (∀ x, x ≠ r → (x ∈ t.pins.lowRails ↔ x ∈ s.pins.lowRails)) :=
  Answers.mono (railAbove_only r s on) fun _ ⟨out, others, _⟩ => ⟨out, others⟩

theorem resetNLow_completes (s : State) (on : s.pins.powered = true) :
    Answers .resetNLow s fun t => t.lane.st = .reset ∧ t.pins.resetN = false :=
  Answers.mono (resetNLow_resets s on) fun _ ⟨st, low, _⟩ => ⟨st, low⟩

theorem resetNRise_completes (s0 s1 s2 : BitVec 14) (s : State) (on : s.pins.powered = true) (low : s.pins.resetN = false)
    (reset : s.lane.st = .reset) (rails : s.pins.lowRails = []) (pfail : s0.getLsbD 11 = true → s.pins.pfailHigh = true)
    (first : s0 = s1) (second : s1 = s2) : Answers (.resetNRise s0 s1 s2) s fun t =>
      t.lane.st = .clock ∧ t.lane.strapAcc = true ∧ t.lane.eff = s0 :=
  Answers.mono ((resetNRise_samples s0 s1 s2 s on low reset).1 rails pfail) fun _ sampled => by
    rw [if_pos ⟨first, second⟩] at sampled
    obtain ⟨st, taken, _, eff, _⟩ := sampled
    exact ⟨st, taken, eff⟩

theorem strapResample_completes (s0 s1 s2 : BitVec 14) (s : State) (on : s.pins.powered = true) (high : s.pins.resetN = true)
    (reset : s.lane.st = .reset) (open_ : s.lane.strapAcc = false) (again : 1 ≤ s.lane.strapTry) (more : s.lane.strapTry < 16)
    (rails : s.pins.lowRails = []) (pfail : s0.getLsbD 11 = true → s.pins.pfailHigh = true) (first : s0 = s1)
    (second : s1 = s2) : Answers (.strapResample s0 s1 s2) s fun t =>
      t.lane.st = .clock ∧ t.lane.strapAcc = true ∧ t.lane.eff = s0 :=
  Answers.mono (strapResample_samples s0 s1 s2 s on high reset open_ again more rails pfail) fun _ ⟨_, sampled⟩ => by
    rw [if_pos ⟨first, second⟩] at sampled
    obtain ⟨st, taken, _, eff⟩ := sampled
    exact ⟨st, taken, eff⟩

/-! ### The validation of the crystal, and the PLL -/

theorem amplitudeDetected_completes (s : State) (under : s.crt.attempt = true) (fresh : s.crt.amp = false)
    (runs : s.crtRuns = true) (inTime : s.pins.now ≤ s.crt.attemptAt + 20000000) : exec .amplitudeDetected s = .next
      { s with crt.amp := true, crt.ampAt := s.pins.now, crt.winGood := 0, crt.winLast := none } :=
  next_of_pos (by simp [under, fresh, runs, inTime])

theorem validationWindow_completes (n : Nat) (s : State) (under : s.crt.attempt = true) (amp : s.crt.amp = true)
    (runs : s.crtRuns = true) (inTime : s.pins.now + 32000 ≤ s.crt.ampAt + 200000000) :
    Answers (.validationWindow n) s fun t =>
      t.crt.winLast = some n ∧ t.lane = s.lane ∧ t.pins.now = s.pins.now + 32000 := by
  refine ⟨_, next_of_pos (by simp [under, amp, runs, inTime]), ?_⟩
  have passed : (s.advance (s.pins.now + 32000)).pins.now = s.pins.now + 32000 := Nat.max_eq_right (Nat.le_add_right _ _)
  extract_lets g s1
  split
  · exact ⟨rfl, rfl, passed⟩
  · exact ⟨rfl, rfl, passed⟩

theorem State.attemptMissed_crt (u : State) : u.attemptMissed.crt = u.crt := by
  rw [State.attemptMissed]
  exact State.ite_crt (State.ite_crt (u.startFault_only 2 []).crt_eq rfl) (State.record_crt ..)

theorem validationAttemptTimeout_completes (s : State) (under : s.crt.attempt = true) (runs : s.crtRuns = true) :
    Answers .validationAttemptTimeout s fun t =>
      t.crt.attempt = false ∧ t.crt.xval = s.crt.xval ∧ t.lane.st = s.lane.st := by
  have missed : exec .validationAttemptTimeout s = .next (State.attemptMissed
      { s.advance (if s.crt.amp then s.crt.ampAt + 200000000 else s.crt.attemptAt + 20000000) with
        crt.attempt := false, crt.amp := false, crt.fails := satInc 255 s.crt.fails }) := next_of_pos (by simp [under, runs])
  exact ⟨_, missed, congrArg Crt.attempt (State.attemptMissed_crt _), (congrArg Crt.xval (State.attemptMissed_crt _)).trans rfl,
    congrArg LaneCore.st (State.attemptMissed_core _)⟩

theorem validationRetry_completes (s : State) (idle : s.crt.attempt = false) (invalid : s.crt.xval = false)
    (runs : s.crtRuns = true) : Answers .validationRetry s fun t =>
      t.crt.attempt = true ∧ t.crt.winGood = 0 ∧ t.crt.attemptAt = t.pins.now :=
  ⟨_, next_of_pos (by simp [idle, invalid, runs]), rfl, rfl, rfl⟩

theorem pllLock_starts (d : Option Nat) (s : State) (valid : s.crt.xval = true) (runs : s.crtRuns = true)
    (clock : s.lane.st = .clock) (free : s.crt.lock = false) :
    Answers (.pllLock d) s fun t => t.lane.st = .test ∧ t.crt.lock = true := by
  refine ⟨_, (next_of_pos (by simp [valid, runs])).trans (congrArg _ (if_pos (by simp [clock, free]))), ?_⟩
  have only := (RecorderOnly.recStart (State.setSt { s with crt.lock := true, lane.sfault := 0 } .test) d).trans
    (RecorderOnly.record _ 2 0x0200 0x0202 [startCode s.lane.startCause])
  exact ⟨only.st_eq.trans (State.setSt_st ..), (congrArg Crt.lock (only.crt_eq.trans (State.setSt_crt ..)) :)⟩

/-- With the root clock back, the records that waited are made, and in SAFE the freeze ends (R521, R34). -/
theorem State.lateEnd_only (s : State) :
    RecorderOnly s (if s.recordLate.lane.safeLatch then s.recordLate.freezeEnd true else s.recordLate) :=
  (RecorderOnly.recordLate s).trans (.ite (RecorderOnly.freezeEnd ..) (.refl _))

theorem pllLock_returns (d : Option Nat) (s : State) (valid : s.crt.xval = true) (runs : s.crtRuns = true)
    (later : s.lane.st ≠ .clock ∨ s.crt.lock = true) (lost : s.crt.rootLost = true) :
    Answers (.pllLock d) s fun t => t.lane.st = s.lane.st ∧ t.crt.lock = true := by
  refine ⟨_, (next_of_pos (by simp [valid, runs])).trans (congrArg _ ((if_neg (by simpa [imp_iff_not_or] using later)).trans
    (if_pos lost))), ?_⟩
  have only := State.lateEnd_only
    { s with crt.lock := true, crt.rootLost := false, crt.rootsel := false, lane.supHalted := s.crt.monst.getLsbD 18 }
  exact ⟨only.st_eq, (congrArg Crt.lock only.crt_eq :)⟩

theorem State.timevFollow_crt (s : State) : s.timevFollow.crt = s.crt := by
  rw [State.timevFollow]
  have aligned : (if s.blockLive 8 && s.img.isSome then s.meaAlign else s).crt = s.crt :=
    State.ite_crt (State.crt_of_outside (u := { mea := true }) (State.meaAlign_outside rfl s) rfl) rfl
  exact (State.ite_crt (State.angleSusp_crt _) rfl).trans aligned

theorem State.timevRise_crt_align (s : State) : s.timevRise.crt.align = s.crt.align := by
  rw [State.timevRise_eq]
  split
  · rfl
  · split
    · rfl
    · exact (congrArg Crt.align s.timevSet.timevFollow_crt).trans rfl

theorem alignReached_completes (s : State) (timed : s.tae.ctOff.isSome = true) (open_ : s.crt.align = false)
    (locked : s.crt.lock = true) :
    Answers .alignReached s fun t => t.crt.align = true ∧ t.lane.st = s.lane.st := by
  refine ⟨_, next_of_pos (by simp [timed, open_, locked]), ?_⟩
  dsimp only
  split
  · exact ⟨State.timevRise_crt_align _, congrArg LaneCore.st (State.timevRise_core _)⟩
  · exact ⟨rfl, rfl⟩

/-! ### The monitors and the references -/

/-- A monitor's trip, shown in MONST (R554). -/
def State.tripped (s : State) (m : Monitor) : State :=
  ({ s with crt.monst := putBit s.crt.monst (monBit m) true } : State).evtCrt 1

theorem execMonitorTrip_reacts (m : Monitor) {s : State} (locked : s.crt.lock = true) (runs : s.crtRuns = true)
    (watched : s.monWatches m = true) :
    exec (.monitorTrip m) s = .next (((s.tripped m).monReact m).record 4 0x0100 0x0102 (monData m)) :=
  next_of_pos (by rw [locked, runs, watched]; rfl)

theorem State.tripped_crt (s : State) (m : Monitor) : (s.tripped m).crt =
    { s.crt with monst := putBit s.crt.monst (monBit m) true, evt := putBit s.crt.evt 1 true } :=
  State.evtCrt_crt ..

theorem State.refSwitch_crt (s : State) (b : Bool) (why : Nat) :
    (s.refSwitch b why).crt = { s.crt with rootsel := b, evt := putBit s.crt.evt 0 true } :=
  (State.record_crt ..).trans (State.evtCrt_crt ..)

theorem State.refSwitch_lnb (s : State) (b : Bool) (why : Nat) : (s.refSwitch b why).lnb = s.lnb :=
  (State.record_lnb ..).trans (State.evtCrt_lnb ..)

theorem State.recRevoke_crt {s : State} (admitted : s.lnb.recadm = true) (cause : Nat) :
    (s.recRevoke cause).crt = { s.crt with rval := false } := by
  rw [State.recRevoke, if_pos admitted]
  exact (State.record_crt ..).trans (State.sevtLnb_crt ..)

theorem monitorTrip_xmon (s : State) (locked : s.crt.lock = true) (runs : s.crtRuns = true) (valid : s.crt.xval = true)
    (own : s.crt.rootsel = false) (other : s.crt.rval = true) :
    Answers (.monitorTrip .xmon) s fun t => t.crt.rootsel = true ∧ t.crt.xval = false := by
  have crt := s.tripped_crt .xmon
  have reacts : (s.tripped .xmon).monReact .xmon = ((s.tripped .xmon).refSwitch true 2).attemptStart :=
    (if_neg (by rw [crt, own]; decide)).trans (if_pos (by rw [crt, other]))
  refine ⟨_, execMonitorTrip_reacts .xmon locked runs valid, ?_⟩
  beta_reduce
  rw [reacts, State.record_crt]
  exact ⟨(congrArg Crt.rootsel (State.refSwitch_crt (s.tripped .xmon) true 2) :), rfl⟩

theorem monitorTrip_rmon (s : State) (locked : s.crt.lock = true) (runs : s.crtRuns = true) (valid : s.crt.rval = true)
    (recovered : s.crt.rootsel = true) (other : s.crt.xval = true) (admitted : s.lnb.recadm = true) :
    Answers (.monitorTrip .rmon) s fun t => t.crt.rootsel = false ∧ t.crt.rval = false := by
  have crt := s.tripped_crt .rmon
  have reacts : (s.tripped .rmon).monReact .rmon = ((s.tripped .rmon).refSwitch false 2).recRevoke 0 :=
    (if_neg (by rw [crt, recovered]; decide)).trans (if_pos (by rw [crt, other]))
  have member : ((s.tripped .rmon).refSwitch false 2).lnb.recadm = true :=
    (congrArg Lnb.recadm ((State.refSwitch_lnb ..).trans (State.evtCrt_lnb ..))).trans admitted
  refine ⟨_, execMonitorTrip_reacts .rmon locked runs valid, ?_⟩
  beta_reduce
  rw [reacts, State.record_crt, State.recRevoke_crt member, State.refSwitch_crt]
  exact ⟨rfl, rfl⟩

/-- What the fall of TIMEV may touch outside RUN. -/
def Touch.idle : Touch :=
  { free := true, attn := true, crt := true, tae := true, vio := true, lmp := true, lnb := true, rcd := true }

theorem State.timevFall_idle {s : State} (idle : s.lane.st ≠ .run) (x : FaultUnit) :
    (s.timevFall x).outside .idle = s.outside .idle := by
  unfold State.timevFall
  extract_lets _ s0 _ s1 s2 s3
  have fell : s2.outside .idle = s.outside .idle :=
    (State.frameStop_outside rfl _).trans ((State.evtTae_outside rfl rfl s1 2).trans rfl)
  have checked : s3.outside .idle = s.outside .idle := by
    simp only [s3]
    split
    · exact (State.angleSusp_outside rfl rfl rfl s2).trans fell
    · exact fell
  have out : s3.voting = false := by
    rw [State.voting, show s3.lane.st = s.lane.st from congrArg LaneCore.st (State.core_of_outside checked rfl),
      decide_eq_false idle, Bool.false_and]
  rw [out]
  split
  · exact checked
  · rfl

/-- A node that enters LISTEN outside RUN keeps the lane state and the latch of SAFE. -/
theorem State.enterListen_idle {s : State} (idle : s.lane.st ≠ .run) (len at_ : Nat) :
    (s.enterListen len at_).outside .idle = s.outside .idle := by
  refine Eq.trans ?_ (State.timevFall_idle idle .lnbRx)
  obtain ⟨v, h⟩ := (s.timevFall .lnbRx).syncClear_only
  rw [State.enterListen, h]
  rfl

/-- The loss of the last root clock sets SAFE with cause 0x05 (R554). -/
theorem State.clockLoss_safe (s : State) (latch : s.lane.safeLatch = false) :
    HeldSafe s.clockLoss ∧ s.clockLoss.lane.scause = 5 := by
  unfold State.clockLoss
  extract_lets _ _ s1 s2 s3
  obtain ⟨⟨safe, st⟩, why, -⟩ := State.enterSafe_held s1 5 latch
  have kept : s3.outside .idle = s2.outside .idle := by
    simp only [s3]
    split
    · rfl
    · exact State.enterListen_idle (fun run => LaneState.noConfusion (st.symm.trans run)) ..
  have core : s3.lane.core = s2.lane.core := State.core_of_outside kept rfl
  exact ⟨⟨(congrArg LaneCore.safeLatch core).trans safe, (congrArg LaneCore.st core).trans st⟩,
    (congrArg Lane.scause (State.quiet_of_outside kept rfl)).trans why⟩

theorem monitorTrip_other (m : Monitor) (s : State) (notX : m ≠ .xmon) (notR : m ≠ .rmon) (locked : s.crt.lock = true)
    (runs : s.crtRuns = true) (latch : s.lane.safeLatch = false) :
    Answers (.monitorTrip m) s fun t => HeldSafe t ∧ t.lane.scause = 5 := by
  obtain ⟨watched, reacts⟩ : s.monWatches m = true ∧ (s.tripped m).monReact m = (s.tripped m).clockLoss := by
    cases m
    case xmon => exact absurd rfl notX
    case rmon => exact absurd rfl notR
    all_goals exact ⟨rfl, rfl⟩
  have unset : (s.tripped m).lane.safeLatch = false := (congrArg Lane.safeLatch (State.evtCrt_lane ..)).trans latch
  obtain ⟨⟨safe, st⟩, why⟩ := State.clockLoss_safe _ unset
  refine ⟨_, execMonitorTrip_reacts m locked runs watched, ?_⟩
  have only := RecorderOnly.record ((s.tripped m).monReact m) 4 0x0100 0x0102 (monData m)
  rw [reacts] at only ⊢
  exact ⟨⟨only.safeLatch_eq.trans safe, only.st_eq.trans st⟩, only.scause_eq.trans why⟩

theorem referenceSwitch_completes (b : Bool) (s : State) (locked : s.crt.lock = true) (runs : s.crtRuns = true)
    (away : s.crt.rootsel = !b) (may : (if b then s.crt.rval else s.crt.xval && !s.crt.rval) = true) :
    Answers (.referenceSwitch b) s fun t => t.crt.rootsel = b ∧ t.lane.st = s.lane.st := by
  have switched (why : Nat) : (s.refSwitch b why).crt.rootsel = b ∧ (s.refSwitch b why).lane.st = s.lane.st :=
    ⟨congrArg Crt.rootsel (State.refSwitch_crt ..), congrArg LaneCore.st (State.refSwitch_core ..)⟩
  cases b with
  | true =>
    have valid : s.crt.rval = true := may
    exact ⟨_, (next_of_pos (by rw [locked, runs]; rfl)).trans (congrArg _ (if_pos (by rw [valid, away]; rfl))), switched 0⟩
  | false =>
    have valid : (s.crt.xval && !s.crt.rval) = true := may
    exact ⟨_, (next_of_pos (by rw [locked, runs]; rfl)).trans (congrArg _ ((if_neg Bool.false_ne_true).trans
      (if_pos (by rw [Bool.not_false, Bool.true_and, valid, away]; rfl)))), switched 1⟩

theorem satTo_eq_min (top n : Nat) : satTo top n = min top n := by
  unfold satTo
  split
  · exact (Nat.min_eq_right (Nat.le_of_lt ‹n < top›)).symm
  · exact (Nat.min_eq_left (Nat.le_of_not_lt ‹¬ n < top›)).symm

theorem State.crtFault_crt (s : State) : s.crtFault.crt = s.crt := by
  unfold State.crtFault State.classLasting
  exact State.ite_crt (State.crt_of_outside (u := .withdrawal) (State.withdraw_touches rfl rfl rfl rfl rfl rfl rfl rfl s .crt) rfl)
    (State.ite_crt rfl rfl)

theorem watchOscMeasure_completes (khz : Nat) (s : State) (locked : s.crt.lock = true) (runs : s.crtRuns = true) :
    Answers (.watchOscMeasure khz) s fun t => t.crt.wosc = min 65535 khz := by
  refine ⟨_, next_of_pos (by rw [locked, runs]; rfl), ?_⟩
  extract_lets _ _ s1 _ s2
  have read : s1.crt.wosc = min 65535 khz := satTo_eq_min ..
  clear_value s1
  split
  · exact read
  · exact (congrArg Crt.wosc ((State.crtFault_crt s2).trans ((State.record_crt ..).trans (State.evtCrt_crt ..)))).trans read

theorem lockstepMismatch_completes (k : LockstepKind) (d : Word) (s : State) (locked : s.crt.lock = true)
    (sup : s.lane.supHalted = false) (latch : s.lane.safeLatch = false) :
    Answers (.lockstepMismatch k d) s fun t => HeldSafe t ∧ t.lane.scause = 6 :=
  ⟨_, next_of_pos (by rw [locked, sup]; rfl), State.lockstep_safe s _ _ latch⟩

theorem supWatchdogTimeout_completes (d : Word) (s : State) (locked : s.crt.lock = true) (sup : s.lane.supHalted = false)
    (latch : s.lane.safeLatch = false) : Answers (.supWatchdogTimeout d) s fun t => HeldSafe t ∧ t.lane.scause = 6 :=
  ⟨_, next_of_pos (by rw [locked, sup]; rfl), State.lockstep_safe s _ _ latch⟩

/-! ### The start test and LOAD -/

theorem testEnd_completes (f m l a b : Bool) (s : State) (test : s.lane.st = .test) (noFault : s.lane.sfault = 0)
    (fuses : f = true) (mbist : m = true) (lbist : l = true) :
    Answers (.testEnd f m l a b) s fun t => t.lane.st = .load ∧ t.mea.bufon = true := by
  subst fuses mbist lbist
  refine ⟨_, next_of_pos ⟨test, noFault⟩, ?_⟩
  have st : s.enterLoad.lane.st = .load := State.setSt_st ..
  have buf : s.enterLoad.mea.bufon = true := (congrArg Mea.bufon (State.setSt_mea ..) :)
  have fault (c : Nat) : (s.enterLoad.startFault c []).lane.st = .load ∧ (s.enterLoad.startFault c []).mea.bufon = true :=
    ⟨(congrArg LaneCore.st (State.startFault_core ..)).trans st,
      (congrArg Mea.bufon (State.mea_of_outside (State.startFault_slots ..) rfl)).trans buf⟩
  beta_reduce
  rw [if_neg (by decide), if_neg (by decide)]
  dsimp only
  split
  · exact fault 0x10
  · split
    · exact fault 0x11
    · exact ⟨(congrArg LaneCore.st ((State.slotSelect_core _).trans ((State.slotMatch_core ..).trans
        (State.slotMatch_core ..)))).trans st, (congrArg Mea.bufon (State.mea_of_outside ((State.slotSelect_slots _).trans
        ((State.slotMatch_slots ..).trans (State.slotMatch_slots ..))) rfl)).trans buf⟩

/-- A member stays where it was, or is put at the end. -/
theorem mem_noted (k : Nat) (l : List Nat) : k ∈ if l.contains k then l else l ++ [k] := by
  split
  · simpa using ‹l.contains k = true›
  · simp

theorem State.blockGood_adds (s : State) (k : Nat) (b : List Byte) : k ∈ (s.blockGood k b).upd.blocksOk := by
  unfold State.blockGood
  dsimp only
  split
  · exact mem_noted ..
  · exact mem_noted ..

theorem State.blockBad_adds (s : State) (c : Chip) (k : Nat) :
    if c = .norA then k ∈ (s.blockBad c k).upd.badA else k ∈ (s.blockBad c k).upd.badB := by
  cases c with
  | norA =>
    rw [if_pos rfl, State.blockBad, State.recordOpen, State.record_upd]
    exact mem_noted ..
  | norB =>
    rw [if_neg (by decide), State.blockBad, State.recordOpen, State.record_upd]
    exact mem_noted ..

theorem norBlockRead_completes (chip : Chip) (k : Fin 255) (data : List Byte) (h : Header) (s : State)
    (size : data.length = 65536) (load : s.lane.st = .load) (noFault : s.lane.sfault = 0)
    (slot : s.upd.runSlot.isSome = true) (_ : s.nvw = true → chip = .norA) (header : s.upd.hdr = some h)
    (more : k.val < h.nblk) (body : 1 ≤ k.val) (queued : s.blockQueued chip k.val = true) :
    Answers (.norBlockRead chip k data) s fun t =>
      if (crc32c (data.take 65532)).toNat = leNat (data.drop 65532) ∧ h.digt[k.val - 1]? = some (Config.sha256 data) then
        k.val ∈ t.upd.blocksOk
      else (if chip = .norA then k.val ∈ t.upd.badA else k.val ∈ t.upd.badB) := by
  have reads : s.readsBlock chip k.val = true := by
    rw [State.readsBlock, load, noFault, slot, queued, header]
    simp [more]
  refine ⟨_, (if_pos size).trans (next_of_pos reads), ?_⟩
  extract_lets ok
  have judged : ok = decide ((crc32c (data.take 65532)).toNat = leNat (data.drop 65532) ∧
      h.digt[k.val - 1]? = some (Config.sha256 data)) := by
    simp only [ok]
    rw [header, decide_eq_false (by omega : ¬ k.val = 0), Bool.false_or, Bool.decide_and]
    rfl
  rw [judged]
  beta_reduce
  by_cases good : (crc32c (data.take 65532)).toNat = leNat (data.drop 65532) ∧
      h.digt[k.val - 1]? = some (Config.sha256 data)
  · rw [if_pos good, if_pos (decide_eq_true good)]
    exact s.blockGood_adds ..
  · rw [if_neg good, decide_eq_false good, if_neg Bool.false_ne_true]
    exact s.blockBad_adds ..

theorem State.install_img (s : State) (st : Station) : (s.install st).img.isSome = true := by
  unfold State.install
  extract_lets t t1
  have image : t1.img = some st ∨ t1.img = some (splitClear st) := by
    simp only [t1]
    split
    · exact .inr (State.record_img ..)
    · exact .inl rfl
  obtain image | image := image
  · exact congrArg Option.isSome image
  · exact congrArg Option.isSome image

theorem State.unusedGate_img (s : State) (u : BitVec 13) (l : List Nat) : (s.unusedGate u l).img = s.img := by
  have off (t : State) (k : Nat) : (t.clkenBit k false).img = t.img := by
    rw [State.clkenBit, if_neg Bool.false_ne_true, apply_ite State.img, ite_self]
  induction l generalizing s with
  | nil => rfl
  | cons k l ih =>
    rw [State.unusedGate, ih]
    split
    · exact off s k
    · rfl

/-- The end of LOAD: the image stands, and the lane is in INTEGRATE (R469, R471). -/
theorem State.loadDone_integrates (s : State) (st : Station) :
    (s.loadDone st).lane.st = .integrate ∧ (s.loadDone st).img.isSome = true := by
  unfold State.loadDone
  extract_lets s1 s2
  have checked : s2.outside { attn := true, lmp := true, rcd := true } =
      (s1.setSt .integrate).outside { attn := true, lmp := true, rcd := true } :=
    (State.suspChecks_outside rfl rfl rfl _ _).trans (State.angleSusp_outside rfl rfl rfl _)
  have stands : s2.lane.st = .integrate :=
    (congrArg LaneCore.st (State.core_of_outside checked rfl)).trans (State.setSt_st ..)
  have image : s2.img = (s.install st).img :=
    (State.img_of_outside checked rfl).trans ((State.setSt_img ..).trans (State.unusedGate_img ..))
  have listens := State.enterListen_idle (fun run => LaneState.noConfusion (stands.symm.trans run)) s2.listenR370 s2.pins.now
  refine ⟨(congrArg LaneCore.st (State.core_of_outside listens rfl)).trans stands, ?_⟩
  rw [State.img_of_outside listens rfl, image]
  exact s.install_img st

theorem State.schemaNote_fromShadow (s : State) : s.schemaNote.upd.fromShadow = s.upd.fromShadow := by
  unfold State.schemaNote State.setSlot
  split
  · split
    · rfl
    · rfl
  · rfl

/-- A load that passes, of a slot other than a shadow, goes on to its end. -/
theorem State.loadPass_done {s : State} (plain : s.upd.fromShadow = false) (st : Station) :
    ∃ u x, s.loadPass st = State.loadDone u x := by
  have note := s.schemaNote_fromShadow.trans plain
  unfold State.loadPass
  dsimp only
  rw [note, if_neg Bool.false_ne_true]
  exact ⟨_, _, rfl⟩

theorem loadEnd_completes (st : Station) (s : State) (load : s.lane.st = .load) (noFault : s.lane.sfault = 0)
    (slot : s.upd.runSlot.isSome = true) (pass : s.loadChecks st = .pass) (plain : s.upd.fromShadow = false) :
    Answers (.loadEnd st) s fun t => t.lane.st = .integrate ∧ t.img.isSome = true := by
  obtain ⟨u, x, done⟩ := State.loadPass_done plain st
  refine ⟨_, next_of_pos ⟨load, noFault, slot⟩, ?_⟩
  rw [pass]
  beta_reduce
  rw [done]
  exact u.loadDone_integrates x

/-! ### The measurement's reference and its calibration -/

theorem State.spanResets_only : ∀ (l : List Nat) (s : State), ∃ c, s.spanResets l = { s with mea.chan := c }
  | [], s => ⟨s.mea.chan, rfl⟩
  | n :: l, s => by
    obtain ⟨c, h⟩ := State.spanResets_only l (s.spanReset n)
    exact ⟨c, h⟩

theorem refReady_completes (s : State) (on : s.mea.bufon = true) (away : s.mea.rdy = false) (live : s.blockLive 8 = true) :
    Answers .refReady s fun t => t.mea.rdy = true ∧ t.mea.monok = true := by
  refine ⟨_, next_of_pos (by rw [on, away, live]; rfl), ?_⟩
  obtain ⟨c, h⟩ := State.spanResets_only (List.range 50)
    { s.advance (s.mea.refFrom + 22000000) with mea.rdy := true, mea.monok := true }
  rw [h]
  exact ⟨rfl, rfl⟩

/-- What the measurement shows of its reference. -/
def Mea.reference (m : Mea) : Bool × Nat := (m.rdy, m.refloss)

theorem State.setSi_reference (s : State) (k : Nat) (x : StandIn) : (s.setSi k x).mea.reference = s.mea.reference := by
  unfold State.setSi
  split
  · rfl
  · rfl

theorem State.chanInvalid_reference (s : State) (n : Nat) : (s.chanInvalid n).mea.reference = s.mea.reference := by
  unfold State.chanInvalid
  extract_lets s1
  rw [State.mea_of_outside (u := .withdrawal) (State.withdraw_touches rfl rfl rfl rfl rfl rfl rfl rfl _ _) rfl]
  have shown : s1.mea.reference = s.mea.reference :=
    (congrArg Mea.reference ((State.record_mea ..).trans (State.evtMea_mea ..)) :)
  clear_value s1
  split
  · rw [State.mea_of_outside (u := .withdrawal) (State.suspCheck_outside rfl rfl rfl _ _) rfl, shown]
  · exact shown

theorem State.rotationFail_reference (s : State) (k cause : Nat) :
    (s.rotationFail k cause).mea.reference = s.mea.reference := by
  unfold State.rotationFail
  extract_lets x s1 s2
  have freed : s1.mea.reference = s.mea.reference := State.setSi_reference ..
  have shown : s2.mea.reference = s.mea.reference := by
    clear_value s1
    simp only [s2]
    split
    · exact freed
    · exact (congrArg Mea.reference (State.evtMea_mea ..)).trans freed
  clear_value s2
  have made := (congrArg Mea.reference (State.record_mea s2 3 0x0800 0x0806 [x.chan, cause])).trans shown
  unfold State.calReport
  split
  · exact made
  · exact made

theorem State.siGone_reference (s : State) (k : Nat) : (s.siGone k).mea.reference = s.mea.reference :=
  (congrArg Mea.reference ((State.record_mea ..).trans (State.evtMea_mea ..))).trans (State.setSi_reference ..)

theorem State.rotationBack_reference (s : State) (k cause : Nat) :
    (s.rotationBack k cause).mea.reference = s.mea.reference := by
  unfold State.rotationBack
  extract_lets x s1 s2
  have failed : s1.mea.reference = s.mea.reference := State.rotationFail_reference ..
  have gone : s2.mea.reference = s.mea.reference := by
    simp only [s2]
    split
    · exact (State.siGone_reference ..).trans failed
    · exact failed
  clear_value s2
  split
  · exact (State.chanInvalid_reference ..).trans gone
  · exact gone

theorem State.rotationsLost_reference : ∀ (l : List Nat) (s : State), (s.rotationsLost l).mea.reference = s.mea.reference
  | [], _ => rfl
  | k :: l, s => by
    rw [State.rotationsLost, State.rotationsLost_reference l]
    split
    · exact State.rotationBack_reference ..
    · rfl

theorem refLost_completes (s : State) (on : s.mea.bufon = true) (there : s.mea.rdy = true) (live : s.blockLive 8 = true) :
    Answers .refLost s fun t => t.mea.rdy = false ∧ t.mea.refloss = satInc 255 s.mea.refloss := by
  refine ⟨_, (next_of_pos (by rw [on, live]; rfl)).trans (congrArg _ (if_pos there)), ?_⟩
  have lost := (State.rotationsLost_reference [0, 1] _).trans
    (congrArg Mea.reference ((State.record_mea (State.evtMea { s with
      mea.monok := false, mea.refFrom := s.pins.now, mea.rdy := false, mea.refloss := satInc 255 s.mea.refloss,
      mea.retry := [] } 0) 4 0x0800 0x0801 [255]).trans (State.evtMea_mea ..)))
  exact ⟨(congrArg Prod.fst lost :), (congrArg Prod.snd lost :)⟩

/-- The stamps that the end of the calibration sets leave the offsets of the channels as they are. -/
theorem calStamped_off (now k : Nat) : ∀ (l : List Nat) (t : Tab MeaState), tabWf (fun _ => mea0) t = true →
    (tabGet mea0 k (l.foldl (fun t n => tabUpd mea0 n (fun m => { m with calAt := now, stale := false }) t) t)).off =
      (tabGet mea0 k t).off
  | [], _, _ => rfl
  | n :: l, t, wf => by
    rw [List.foldl_cons, calStamped_off now k l _ (tabWf_tabUpd (fun _ => mea0) n _ wf)]
    by_cases same : k = n
    · subst same
      rw [tabGet_tabUpd_self (fun _ => mea0) k _ wf]
    · rw [tabGet_tabUpd_ne mea0 mea0 _ same]

theorem State.updMea_wf (s : State) (wf : tabWf (fun _ => mea0) s.mea.chan = true) (n : Nat) (f : MeaState → MeaState) :
    tabWf (fun _ => mea0) (s.updMea n f).mea.chan = true := tabWf_tabUpd (fun _ => mea0) n f wf

theorem State.updMea_meaOf (s : State) (wf : tabWf (fun _ => mea0) s.mea.chan = true) (n : Nat) (f : MeaState → MeaState) :
    (s.updMea n f).meaOf n = f (s.meaOf n) := tabGet_tabUpd_self (fun _ => mea0) n f wf

theorem startCalibrationEnd_completes (r : CalResult) (s : State) (wf : TablesWf s) (ready : s.mea.rdy = true)
    (first : s.mea.calDone = false) (live : s.blockLive 8 = true) (pass : calPass r.off r.gain = true) :
    Answers (.startCalibrationEnd [r]) s fun t => t.mea.calDone = true ∧ (t.meaOf r.chan.val).off = r.off := by
  refine ⟨_, next_of_pos (by rw [ready, first, live]; rfl), rfl, ?_⟩
  obtain ⟨_, _, _, _, wf, _⟩ := wf
  have taken : s.calTake [r] = s.updMea r.chan.val fun m => { m with off := r.off, gain := r.gain } := by
    rw [State.calTake, State.calTake, if_pos pass]
  have off : (tabGet mea0 r.chan.val (s.calTake [r]).mea.chan).off = r.off := by
    rw [taken]
    exact congrArg MeaState.off (s.updMea_meaOf wf ..)
  have wf' : tabWf (fun _ => mea0) (s.calTake [r]).mea.chan = true := by
    rw [taken]
    exact s.updMea_wf wf ..
  generalize s.calTake [r] = u at off wf'
  generalize List.range 50 = l
  exact (calStamped_off s.pins.now r.chan.val l _ wf').trans off

/-! ### The boundary of a logic cycle -/

/-- The number of the cycle, and the lane without ATTN. -/
def State.numbered (s : State) : Nat × Lane := (s.tae.cycnum, s.lane.quiet)

theorem State.ite_numbered {c : Prop} [Decidable c] {s t u : State} (h : t.numbered = s.numbered)
    (k : u.numbered = s.numbered) : (if c then t else u).numbered = s.numbered := by
  split
  · exact h
  · exact k

theorem State.wallStep_numbered (s : State) (woff : Int) (wallv : Bool) (cause : Nat) :
    (s.wallStep woff wallv cause).numbered = s.numbered :=
  Prod.ext (congrArg Tae.cycnum ((State.record_tae ..).trans ((State.evtRec_tae ..).trans (State.evtTae_tae ..))) :)
    (State.quiet_of_outside (u := { attn := true, tae := true, rcd := true }) (State.wallStep_outside rfl rfl rfl s ..) rfl)

theorem State.wallApply_numbered (s : State) (n t0 : Nat) : (s.wallApply n t0).numbered = s.numbered := by
  unfold State.wallApply
  extract_lets due
  split
  · rfl
  · extract_lets w s2
    have stepped : s2.numbered = s.numbered := State.ite_numbered rfl (State.wallStep_numbered ..)
    clear_value s2
    exact State.ite_numbered (Eq.trans rfl stepped) stepped

/-- What the look at the received telegrams and at the maps touches. -/
def Touch.captures : Touch := { attn := true, cab := true, rcd := true, fld := true, lnb := true }

theorem State.mapTimeout_captures (t0 : Nat) (s : State) (m : Nat) : (s.mapTimeout t0 m).outside .captures = s.outside .captures := by
  unfold State.mapTimeout
  extract_lets q x
  split
  · exact (State.record_outside rfl rfl ..).trans ((State.evtCab_outside rfl rfl ..).trans (State.updMap_outside rfl s ..))
  · split
    · exact State.updMap_outside rfl s ..
    · rfl

theorem State.captureTelegrams_captures (s : State) : s.captureTelegrams.outside .captures = s.outside .captures := by
  unfold State.captureTelegrams
  extract_lets st old new l n _ s1
  split
  · rfl
  · exact (State.evtLnb_outside rfl rfl s1 11).trans rfl

theorem State.capture_reads (s : State) (t0 n : Nat) :
    (s.capture t0 n).inp.t0 = t0 ∧ (s.capture t0 n).tae = s.tae := by
  unfold State.capture
  extract_lets _ _ s1 s3
  have maps : s3.outside .captures = s1.outside .captures := by
    simp only [s3]
    split
    · exact State.foldl_outside (State.mapTimeout_captures _) ..
    · rfl
  clear_value s3
  have taken : (if s3.blockLive 10 then s3.captureTelegrams else s3).outside .captures = s1.outside .captures := by
    split
    · exact s3.captureTelegrams_captures.trans maps
    · exact maps
  rw [State.inp_of_outside taken rfl, State.tae_of_outside taken rfl]
  exact ⟨rfl, rfl⟩

/-- The capture of a voting lane (R53): the phase of the image opens, at the T0 given. -/
theorem State.cycleCapture_reads {s : State} (run : s.lane.st = .run) (t0 n : Nat) :
    (s.cycleCapture t0 n).tae.phase = 1 ∧ (s.cycleCapture t0 n).inp.t0 = t0 ∧
    (s.cycleCapture t0 n).tae.cycnum = s.tae.cycnum := by
  have runs : ((s.cycleClear t0).capture t0 n).lane.st = .run :=
    (congrArg LaneCore.st ((State.capture_core ..).trans (State.cycleClear_core ..))).trans run
  obtain ⟨start, tae⟩ := (s.cycleClear t0).capture_reads t0 n
  have cleared : (s.cycleClear t0).tae = s.tae := by
    unfold State.cycleClear
    extract_lets u w
    have nodes : w.tae = u.tae := State.tae_of_outside (u := { lnb := true }) (State.mapNodes_outside rfl ..) rfl
    refine nodes.trans ?_
    simp only [u]
    split
    · rfl
    · rfl
  rw [State.cycleCapture, if_pos runs]
  exact ⟨rfl, start, (congrArg Tae.cycnum (tae.trans cleared) :)⟩

/-- In RUN, where no hold waits, the T0 of a cycle only captures. -/
theorem State.cycleAct_captures {u : State} (run : u.lane.st = .run) (stays : u.lane.holdPend = false) (t0 n : Nat) :
    ∃ w : State, u.cycleAct t0 n = w.cycleCapture t0 n ∧ w.lane.st = .run ∧ w.tae = u.tae := by
  unfold State.cycleAct
  rw [run]
  dsimp only
  rw [stays]
  exact ⟨_, rfl, run, rfl⟩

theorem logicCycleBoundary_completes (n : Nat) (s : State) (timed : s.hasCt = true) (due : s.ct ≤ n * s.logicNs)
    (run : s.lane.st = .run) (stays : s.lane.holdPend = false) :
    Answers (.logicCycleBoundary n) s fun t =>
      t.tae.phase = 1 ∧ t.inp.t0 = n * s.logicNs ∧ t.tae.cycnum = n % 4294967296 := by
  refine ⟨_, next_of_pos (by rw [timed, decide_eq_true due]; rfl), ?_⟩
  generalize n * s.logicNs = t0
  have words := (s.advanceCt t0).cycleTime_words t0 n
  have wall := State.wallApply_numbered { s.advanceCt t0 with tae.cycnum := n % 4294967296 } n t0
  have lane := (State.quiet_of_outside words rfl).trans (congrArg Prod.snd wall)
  have cycle := (congrArg Tae.cycnum (State.tae_of_outside words rfl)).trans (congrArg Prod.fst wall)
  generalize (s.advanceCt t0).cycleTime t0 n = u at lane cycle
  have runs : u.lane.st = .run := (congrArg Lane.st lane).trans run
  have holds : u.lane.holdPend = false := (congrArg Lane.holdPend lane).trans stays
  obtain ⟨w, acts, same, tae⟩ := State.cycleAct_captures runs holds t0 n
  rw [acts, State.commitSet]
  obtain ⟨phase, start, number⟩ := State.cycleCapture_reads same t0 n
  rw [tae] at number
  split
  · exact ⟨phase, start, number.trans cycle⟩
  · exact ⟨phase, start, number.trans cycle⟩

/-! ### The agreed image (R111) -/

theorem State.transferApply_crt (s : State) : s.transferApply.crt = s.crt := by
  have written : s.transferWrite.crt = s.crt := by simp [State.transferWrite]
  exact State.ite_crt (State.ite_crt written (State.ite_crt rfl rfl)) rfl

theorem State.mirrorApply_crt (s : State) : s.mirrorApply.crt = s.crt := by
  have cleared (t : State) : ({ t with upd.lastRewrite := false } : State).crt = t.crt := rfl
  have mirrored (t : State) (ok : Bool) (r : W64) :
      ({ t with lane.mirr := ok, lane.refr := r, lnb.mirRx := [], lnb.mirDig := [] } : State).crt = t.crt := rfl
  unfold State.mirrorApply
  refine (cleared _).trans (State.ite_crt ((State.putCells_crt ..).trans ?_) ?_)
  all_goals exact State.ite_crt (State.ite_crt ((mirrored ..).trans (State.putCells_crt s _)) rfl) rfl

/-- The agreed image as it stands when the scan starts (R111). -/
def State.imageApplied (s : State) : State :=
  ((s.transferApply.agreedApply).mirrorApply.onlinesApply.forcesApply).agreedFollow.splitApply

/-- Nothing of the application of the agreed image touches the clock and reset unit. -/
theorem State.imageApplied_crt (s : State) : s.imageApplied.crt = s.crt := by
  have followed (t : State) : t.onlinesApply.forcesApply.agreedFollow.splitApply.outside .image = t.outside .image :=
    (State.splitApply_image _).trans ((State.agreedFollow_image _).trans ((State.putCells_image ..).trans t.onlinesApply_image))
  exact (State.crt_of_outside (followed _) rfl).trans ((State.mirrorApply_crt _).trans
    ((State.crt_of_outside s.transferApply.agreedApply_image rfl).trans s.transferApply_crt))

theorem agreedImageApply_completes (s : State) (timed : s.hasCt = true) (before : s.beforeScan = true)
    (rest : s.lge.scan = false) (live : s.blockLive 4 = true) (free : s.crt.test = none) :
    Answers .agreedImageApply s fun t => t.lge.scan = true ∧ t.lge.pc = 0 := by
  have run : exec .agreedImageApply s = .next s.imageApplied.scanStart := next_of_pos (by rw [timed, before, rest]; rfl)
  have crt := s.imageApplied_crt
  refine ⟨_, run, ?_⟩
  generalize s.imageApplied = u at crt
  have may : u.blockLive 4 = true := by
    rw [State.blockLive, crt]
    exact live
  rw [State.scanStart, if_pos (by rw [may, crt, free]; rfl)]
  exact ⟨rfl, rfl⟩

/-- Settles O55: each command under its conditions, clause by clause. -/
theorem powerClockAndLoadComplete : Obligations.PowerClockAndLoadComplete :=
  ⟨powerOn_completes, lossOfPower_completes, railBelow_completes, resetNLow_completes, resetNRise_completes,
    strapResample_completes, amplitudeDetected_completes, validationWindow_completes, validationAttemptTimeout_completes,
    validationRetry_completes, pllLock_starts, pllLock_returns, alignReached_completes, monitorTrip_xmon, monitorTrip_rmon,
    monitorTrip_other, referenceSwitch_completes, watchOscMeasure_completes, lockstepMismatch_completes,
    supWatchdogTimeout_completes, fun _ _ => rfl, testEnd_completes, norBlockRead_completes, loadEnd_completes,
    refReady_completes, refLost_completes, startCalibrationEnd_completes, logicCycleBoundary_completes,
    agreedImageApply_completes,
    fun n _ voting third => Answers.mono (execLockoutOutvoted_excludes n voting third) fun _ ⟨role, unit, _⟩ => ⟨role, unit⟩,
    fun g _ voting third => Answers.mono (execFallbackOutvoted_excludes g voting third) fun _ ⟨role, unit, _⟩ => ⟨role, unit⟩,
    fun ch k _ voting eighth =>
      Answers.mono (execProvingOutvoted_excludes ch k voting eighth) fun _ ⟨role, unit, _⟩ => ⟨role, unit⟩,
    fun _ on => next_of_pos on, railAbove_completes⟩

end Sys2Proof.Machine
end
